-- ==== Sys2Proof/Word.lean ====
section
/-!
DEFINITION. The machine's words and the sparse tables its arrays are kept in.
A `Tbl` lists index and value pairs with strictly rising indices and leaves out every entry equal to its default, so equal
contents are equal data.
-/

namespace Sys2Proof

/-- A 32-bit register or core word (R2). -/
abbrev Word := BitVec 32

/-- A 64-bit position, counter or doubleword. -/
abbrev DWord := BitVec 64

/-- A byte. -/
abbrev Byte := BitVec 8

/-- An array of `α` held sparsely; what an unlisted index holds is the reader's default. -/
abbrev Tbl (α : Type) := List (Nat × α)

end Sys2Proof
end

