-- ==== Sys2Proof/Machine/Tbl.lean ====
section
/-!
DEFINITION. Reading and writing the sparse tables of `Word.lean`, and the bit-field helpers every register uses.
`Tbl.put` keeps a table in its one canonical form: indices strictly rise and no entry equals its default.
-/

namespace Sys2Proof

/-- What a table holds at index `k`; `d` says what an unlisted index holds. -/
def Tbl.get {α : Type} (d : Nat → α) : Tbl α → Nat → α
  | [], k => d k
  | (a, v) :: t, k => if a = k then v else Tbl.get d t k

/-- Lists `v` at index `k`, before the first larger index. -/
def Tbl.insert {α : Type} (k : Nat) (v : α) : Tbl α → Tbl α
  | [] => [(k, v)]
  | (a, u) :: t =>
    if k < a then (k, v) :: (a, u) :: t
    else if k = a then (k, v) :: t
    else (a, u) :: Tbl.insert k v t

/-- Takes index `k` off the list. -/
def Tbl.remove {α : Type} (k : Nat) : Tbl α → Tbl α
  | [] => []
  | (a, u) :: t => if a = k then Tbl.remove k t else (a, u) :: Tbl.remove k t

/-- Writes `v` at index `k`: an entry equal to the default is not listed. -/
def Tbl.put {α : Type} [DecidableEq α] (d : Nat → α) (t : Tbl α) (k : Nat) (v : α) : Tbl α :=
  if v = d k then Tbl.remove k t else Tbl.insert k v t

/-- Every listed index is above `k`. -/
def Tbl.above {α : Type} (k : Nat) : Tbl α → Bool
  | [] => true
  | (a, _) :: t => decide (k < a) && Tbl.above k t

/-- The canonical form: strictly rising indices, no entry equal to its default. -/
def Tbl.wf {α : Type} [DecidableEq α] (d : Nat → α) : Tbl α → Bool
  | [] => true
  | (a, v) :: t => Tbl.above a t && decide (v ≠ d a) && Tbl.wf d t

/-! ## Bit fields -/

/-- Bits `lo + w − 1` to `lo` of `x`. -/
def bits (x lo w : Nat) : Nat := (x >>> lo) % 2 ^ w

/-- `x` with bits `lo + w − 1` to `lo` replaced by the low `w` bits of `v`. -/
def setBits (x lo w v : Nat) : Nat :=
  x % 2 ^ lo + (v % 2 ^ w) * 2 ^ lo + (x >>> (lo + w)) * 2 ^ (lo + w)

/-- The low `w` bits of `x` read as a two's-complement number. -/
def sext (w x : Nat) : Int :=
  let y := x % 2 ^ w
  if 2 * y < 2 ^ w then (y : Int) else (y : Int) - (2 : Int) ^ w

/-- An integer as `w` two's-complement bits. -/
def wrap (w : Nat) (i : Int) : Nat := (i % ((2 : Int) ^ w)).toNat

/-- The value of a Boolean as a bit. -/
def bit (b : Bool) : Nat := if b then 1 else 0

/-- `n` as a counter that stops at its largest `w`-bit value. -/
def satAdd (w n k : Nat) : Nat := min (n + k) (2 ^ w - 1)

/-- Sets, in a bit set of numbers, the bit of index `i`. -/
def withBit (x i : Nat) (b : Bool) : Nat := setBits x i 1 (bit b)

/-- The quotient rounded to the nearest integer, a half upward. -/
def roundDiv (a : Int) (b : Nat) : Int := (2 * a + (b : Int)) / (2 * (b : Int))

/-- The first `n` numbers from 0 that satisfy `p`. -/
def pick (n : Nat) (p : Nat → Bool) : List Nat := (List.range n).filter p

/-- A little-endian number from bytes. -/
def leNat : List Nat → Nat
  | [] => 0
  | b :: t => b % 256 + 256 * leNat t

/-- The `n` low bytes of a number, lowest first. -/
def leBytes : Nat → Nat → List Nat
  | 0, _ => []
  | n + 1, x => x % 256 :: leBytes n (x / 256)

end Sys2Proof
end

