-- ==== Sys2Proof/Syntax.lean ====
section
/-!
DEFINITION. The commands of the block: one constructor per row of the table of operations and events, with what identifies its
subject (a core, a gauge, an axis) and what reaches the device from outside with it (a written value, a sampled level, a
measured time).
A constructor named after a Scriber instruction is the execution of that instruction by core `core` at its pc.
-/

namespace Sys2Proof

/-- By which way an access reaches the device's registers: the host over PCI Express, or the test port, which reaches BAR0's
offsets too (R38, R114); the test port's own IDCODE (R2); the endpoint's configuration space (R280). -/
inductive Via where
  | host
  | jtag
  | idcode
  | config
deriving DecidableEq, Repr

/-- A flash part as its SFDP table describes it (R116): the fast reads it offers beside 1-1-1, and its size in bytes. -/
structure FlashPart where
  fast114 : Bool
  fast144 : Bool
  size : Nat
deriving DecidableEq, Repr

/-- The standby supplies as VSTBY rises: `full`: it has come above 2.90 V, else only above 2.70 V, where Ember counts it present
(R90, R92); `vbat`: VBAT is at or above 2.0 V. -/
structure StandbyLevels where
  full : Bool
  vbat : Bool
deriving DecidableEq, Repr

/-- A domain that is not released in time (R114): 0 fabric, 1 DDR, 2 SerDes, 3 PCIe, 4 output PLL; and the flash the boot ROM has found by
SFDP, if any (R125). -/
structure HeldDomain where
  domain : Nat
  part : Option FlashPart
deriving DecidableEq, Repr

/-- How a write comes: its byte enables, lowest byte in bit 0, bits 4 to 7 for the second word of a 64-bit access (R34), and the way. -/
structure WriteAccess where
  be : Nat
  via : Via
deriving DecidableEq, Repr

/-- A read: its offset, its length of 1, 2, 4 or 8 bytes (R34, R39), and the way it comes. -/
structure ReadAccess where
  addr : Nat
  len : Nat
  via : Via
deriving DecidableEq, Repr

/-- A failed read (R301): its address, and, where the last write of a channel's descriptor is issued in the same cycle (R558), the channel
and the bytes. -/
structure FailedRead where
  addr : Nat
  last : Option (Nat × List Nat)
deriving DecidableEq, Repr

/-- A ratio as it comes to a converter. -/
structure Ratio where
  num : Nat
  den : Nat
deriving DecidableEq, Repr

/-- The commands. Numbers that name registers, cores, gauges and units are checked by `WellFormed`. -/
inductive Instr where
  /-- VSTBY_RISE (R90): VSTBY rises above 2.90 V; the power-on reset continues and the engine leaves OFF for TINDER. -/
  | vstbyRise (levels : StandbyLevels)
  /-- POWER_ON_RESET (R90): VSTBY falls below 2.70 V: Tinder drops every EN output at once and a new, counted power-on reset begins. -/
  | powerOnReset
  /-- VSTBY_LOST (R92): VSTBY is lost altogether; the engine state becomes OFF and Ember runs from VBAT. -/
  | vstbyLost
  /-- POR_END (R90): 10 ms after VSTBY has risen above 2.90 V the power-on reset ends. -/
  | porEnd
  /-- XTAL_MISSING (R91): No crystal edge within 2 ms of the end of power-on reset; the sequencer runs from the internal oscillator and the crystal PLL domains stay held. -/
  | xtalMissing
  /-- SEQUENCE_START (R98): PSEQ_IN has been high for 1 ms after power-on reset, so the rail sequence starts and root entries are raised. -/
  | sequenceStart
  /-- RAIL_ON_DELAY_EXPIRY (R93): ON_DELAY has passed since a rail's parent became good, so ENn is raised. -/
  | railOnDelayExpiry (n : Nat)
  /-- RAIL_GOOD (R94): A raised rail has held its level and PG conditions without a break for FILTER, so it becomes GOOD and may release dependants and PSEQ_OUT. -/
  | railGood (n : Nat)
  /-- RAIL_TIMEOUT (R94): A rail is not good TIMEOUT ms after ENn rose, so it fails as in R101. -/
  | railTimeout (n : Nat)
  /-- RAIL_MONITOR_SAMPLE (R99): A VMn sample is taken; it updates VM_NOW, WARN and STBY_ALERT_N and restarts or advances the filter and drop counts. `vm`, `pg`: the sample of VMn and PGn, `us` microseconds after the previous one. -/
  | railMonitorSample (n vm : Nat) (pg : Bool) (us : Nat)
  /-- RAIL_FAIL (R101): A good rail has been out of range or lost PG for DROP µs; its dependants go down leaves first, ENn goes low and the rail becomes FAILED. -/
  | railFail (n : Nat)
  /-- INPUT_RETURN_RESTART (R105): After the hold-off, the input entry has been good for FILTER, so the device restarts as a power-on reset with WAKE 0b11. -/
  | inputReturnRestart
  /-- RAIL_DISCHARGE_TIMEOUT (R103): 100 ms after ENn fell, the rail counts as off and DISCHARGE_SLOW is set. -/
  | railDischargeTimeout (n : Nat)
  /-- HOLD_OFF_END (R104): The 500 ms hold-off after all-off ends, leading to rest, to a restart, or to the register reset of R109. -/
  | holdOffEnd
  /-- RAIL_RETRY (R101): A SEQ_CTRL.RETRY bit restarts a FAILED rail as if its parent had just become good. -/
  | railRetry (n : Nat)
  /-- PB_SHORT_PRESS (R106): PB_N is released after being debounced low for less than LONG_PRESS, and acts as set for the current phase: shutdown request, wake or ignored. -/
  | pbShortPress
  /-- PB_LONG_PRESS (R106): PB_N has been held low for LONG_PRESS, so the device is forced off: outputs to reset levels and rails down, then rest. -/
  | pbLongPress
  /-- PB_WAKE (R106): A debounced PB_N press in rest wakes the device as a power-on reset with WAKE 0b10. -/
  | pbWake
  /-- SHUTDOWN_REQ (R107): SEQ_CTRL.SHUTDOWN_REQ requests an orderly shutdown and sets SHUTDOWN_EV. -/
  | shutdownReq
  /-- POWER_DOWN (R107): SEQ_CTRL.POWER_DOWN while PHASE is 0x5 drives engine outputs to reset levels, takes the rails down and rests. -/
  | powerDown
  /-- SHUTDOWN_TIMEOUT (R107): POWER_DOWN has not been written within SHUTDOWN_TIMEOUT of the request; Tinder forces off and sets SHUTDOWN_FORCED. -/
  | shutdownTimeout
  /-- RESET_N_ASSERT (R108): RESET_N has been low for 1 ms; a reset runs to completion through assertion, power-down, hold-off, register reset and release. -/
  | resetNAssert
  /-- DOMAIN_RELEASE (R113): A clock domain's PLL has held lock for 64 µs and 16 clean edges have followed, so the domain leaves reset; at fabric release BOOT pins and Ember mirrors are latched. `d`: 0 fabric, 1 DDR, 2 SerDes, 3 PCIe, 4 output PLL. -/
  | domainRelease (d : Nat)
  /-- CLOCK_HOLD (R114): A domain has not been released 10 ms after the own rails were good; HOLD_x is set and, for a needed domain, BOOT_ERROR CLOCK_HOLD and BOOT_STAGE 0xF. -/
  | clockHold (d : HeldDomain)
  /-- IMAGE_LOADED (R116): The FLASH boot image has been loaded into the Steward memories, or has failed its check with IMAGE_BAD. `part`: the flash that answered SFDP with a valid table, if any. -/
  | imageLoaded (part : Option FlashPart)
  /-- BOOT_READY (R117): BOOT_STAGE reaches 0x3: the endpoint accepts configuration requests and the engine goes to BANKED, or to SAFE if a fault is outstanding. `part`: the flash the boot ROM has found by SFDP, if any (R116, R125). -/
  | bootReady (part : Option FlashPart)
  /-- UART_IDENT (R122): The UART recovery IDENT command returns SYS ID and BOOT_STATUS. -/
  | uartIdent
  /-- UART_MRAM_READ (R122): The UART recovery command reads bytes of any MRAM partition. `part`: partition 0 journal, 1 calibration, 2 boot configuration, 3 customer. -/
  | uartMramRead (part offset len : Nat)
  /-- UART_MRAM_WRITE (R122): The UART recovery command writes the boot configuration or the customer partition. `part` as for UART_MRAM_READ; `ok`: the write verified. -/
  | uartMramWrite (part offset : Nat) (data : List Nat) (ok : Bool)
  /-- UART_FLASH_READ (R122): The UART recovery command reads flash bytes. `ok`: the flash answered. -/
  | uartFlashRead (offset len : Nat) (ok : Bool)
  /-- UART_FLASH_ERASE (R122): The UART recovery command erases one 4 KiB flash sector. `ok`: the flash answered. -/
  | uartFlashErase (offset : Nat) (ok : Bool)
  /-- UART_FLASH_WRITE (R122): The UART recovery command programs up to one 256 B flash page. `ok`: the flash answered. -/
  | uartFlashWrite (offset : Nat) (data : List Nat) (ok : Bool)
  /-- UART_FRAME_REFUSED (R123): A frame's length exceeds 1,024, or its CRC is wrong, or its command or payload is invalid; the boot ROM replies with status 1 or 2. `frame`: the bytes received, from 0x5A on. -/
  | uartFrameRefused (frame : List Nat)
  /-- UART_FRAME_GAP (R123): More than 10 ms passes between two bytes of a frame; the partial frame is discarded without reply. -/
  | uartFrameGap
  /-- MRAM_WORD_WRITE (R124): MRAM_WCMD with KEY and GO starts a word write to the boot configuration or customer partition, or sets ERROR. `value`: what is written to MRAM_WCMD. -/
  | mramWordWrite (value : Nat)
  /-- MRAM_WRITE_DONE (R124): An MRAM word write and its verify complete, setting DONE or ERROR and MRAM_WDONE. `ok`: the read-back verified. -/
  | mramWriteDone (ok : Bool)
  /-- FLASH_READ (R125): The host flash port copies LENGTH bytes from flash into FLASH_BUF. -/
  | flashRead (len : Nat)
  /-- FLASH_ERASE (R125): The host flash port erases the aligned 4 KiB sector at ADDR, with KEY. `key`: KEY of the same write. -/
  | flashErase (key : Nat)
  /-- FLASH_PROGRAM (R125): The host flash port programs LENGTH bytes of FLASH_BUF within one page, with KEY. `key`, `len`: KEY and LENGTH of the same write. -/
  | flashProgram (key len : Nat)
  /-- FLASH_OP_DONE (R125): The flash reports the operation complete and DONE is set. -/
  | flashOpDone
  /-- FLASH_OP_TIMEOUT (R125): A flash operation is not complete within 500 ms and ERROR is set. -/
  | flashOpTimeout
  /-- RUN (R19): Engine REQUEST RUN moves BANKED to KINDLING and starts the run group, or is refused with RUN_REFUSED, or is ignored. -/
  | run
  /-- BANK (R19): Engine REQUEST BANK moves KINDLING or READY to BANKED, or stops admission in RUNNING and banks once all pages have ended. -/
  | bank
  /-- STOP (R251): Engine REQUEST STOP stops admission and ends RUNNING once no page is left short of an end state. -/
  | stop
  /-- CLEAR (R19): Engine REQUEST CLEAR in SAFE moves the engine to BANKED when every fault is cleared and any trip is acknowledged. -/
  | clear
  /-- ENGINE_READY (R20): Every readiness condition holds in KINDLING, so the engine enters READY. -/
  | engineReady
  /-- ORDERLY_SHUTDOWN_FINISH (R107): The Steward service finishes committed pages, reports the rest ABANDONED and writes POWER_DOWN. -/
  | orderlyShutdownFinish
  /-- FAULT_CLEAR (R31): A W1C write to FAULT clears bits; a bit whose source condition still holds sets again without a new raise. `code`: the block code of R26; `mask`: the word written. -/
  | faultClear (code mask : Nat)
  /-- FAULT_FORCE (R32): A FAULT_FORCE write with FORCE_ARM set raises the fault with every hardware reaction and a forced journal entry. `code`: the block code of R26; `mask`: the word written. -/
  | faultForce (code mask : Nat)
  /-- INT_STAT_CLEAR (R33): A W1C write to INT_STAT clears event bits and, if the condition still holds, brings a fresh MSI-X message. `code`: the block code of R26; `mask`: the word written. -/
  | intStatClear (code mask : Nat)
  /-- W1C_CLEAR (R6): A W1C write to another status or log register clears the bits written as 1. -/
  | w1cClear (addr value : Nat)
  /-- REGISTER_WRITE (R36): A write to a register with no row of its own updates its writable fields in arrival order, or is discarded under R34 and R37. `addr`: the offset. -/
  | registerWrite (addr value : Nat) (how : WriteAccess)
  /-- LO_READ_LATCH (R35): A read of the low half of an RL register pair latches its high half. -/
  | loReadLatch (access : ReadAccess)
  /-- CAP_POS_HI_READ (R170): A read of CAPk_POS_HI marks the capture as read for OVERRUN. -/
  | capPosHiRead (k : Nat)
  /-- EVICT_LOG_READ (R279): A read of EVICT_LOG returns and removes the oldest eviction entry. -/
  | evictLogRead
  /-- POISON_OFFSET_READ (R279): A read of POISON_OFFSET removes the poison entry whose handle POISON_LOG last returned. -/
  | poisonOffsetRead
  /-- PLL_REACQUIRE (R128): A write of PLLp_CFG or PLLp_DITHER stops the domain clock and restarts acquisition. `dither`: PLLp_DITHER was written, else PLLp_CFG. -/
  | pllReacquire (p : Nat) (dither : Bool) (value : Nat)
  /-- PLL_LOCK (R130): A PLL reports lock, or relocks from holdover after a clean 1 ms reference, and LOCKED returns after 64 µs. -/
  | pllLock (p : Nat)
  /-- PLL_UNLOCK (R131): A PLL leaves lock and enters holdover; the reaction of its class follows. `refOk`: the reference is present. -/
  | pllUnlock (p : Nat) (refOk : Bool)
  /-- XTAL_LOST (R130): No crystal edge for 200 ns; every crystal PLL holds over and a safety fault takes the engine to SAFE. -/
  | xtalLost
  /-- BD_EDGE (R133): A beam-detect edge reaches the station synthesizer: phase error, loop and lock count update, sync event and window decision. `t`: time of the edge, 1/16 ns; `x`: the drum gauge at the edge. -/
  | bdEdge (k t x : Nat)
  /-- BD_WINDOW_MISSED (R135): No beam-detect edge arrives within WINDOW of the prediction; a privileged synthesizer coasts, otherwise it reacquires. -/
  | bdWindowMissed (k : Nat)
  /-- PREDICTED_SYNC_EVENT (R144): A coasting synthesizer takes a predicted sync event and COAST_COUNT increments. `x`: the drum gauge at the event. -/
  | predictedSyncEvent (k x : Nat)
  /-- GCLK_DIV_WRITE (R139): A GCLKk_DIV write takes effect from the next rising edge without reacquisition. `withReset`: a phase reset of output `k` falls in the same fabric cycle (R555). -/
  | gclkDivWrite (k div : Nat) (withReset : Bool)
  /-- SYNC_IN_EDGE (R140): A rising edge on SYNC_IN phase-resets every output with SYNC_EN set. -/
  | syncInEdge
  /-- PHASE_RESET (R140): A software PHASE_RESET drives the output low, clears its accumulator and restarts it after DELAY. -/
  | phaseReset (k : Nat)
  /-- GCLK_ENABLE (R140): Setting a general output's ENABLE from 0 to 1 performs a phase reset; 0 drives the ball low. -/
  | gclkEnable (k : Nat) (on : Bool)
  /-- GCLK_GATED_CLEAR (R142): Writing 1 to a general output's GATED ungates it with a phase reset. -/
  | gclkGatedClear (k : Nat)
  /-- ENCODER_EDGE (R155): A quadrature edge updates RAWn, the gauge value and its tracking loop and lock count. `a`, `b`: the levels after the edge; `err`, `rate`: what the tracking loop makes of the edge. -/
  | encoderEdge (n : Nat) (a b : Bool) (err rate : Nat)
  /-- INDEX_EDGE (R158): A rising ENCn_Z edge latches RAWn, checks the index period and may home the gauge. -/
  | indexEdge (n : Nat)
  /-- AUX_EDGE (R148): A rising edge on an auxiliary gauge input adds SCALE. `err`, `rate`: what the tracking loop makes of the edge. -/
  | auxEdge (n err rate : Nat)
  /-- ZC_EDGE (R164): A zero-crossing edge adds 1 or 2 to a mains gauge and steps its tracking loop. `err`, `rate`: what the tracking loop makes of the edge. -/
  | zcEdge (n : Nat) (rising : Bool) (err rate : Nat)
  /-- GAUGE_COAST_START (R154): The next edge is later than GAP_TOL of the predicted interval, so the loop starts coasting. -/
  | gaugeCoastStart (n : Nat)
  /-- SIGNAL_LOST (R154): No edge arrives within 2 ms of coasting; the gauge faults, its value returns to the last edge and it reacquires. -/
  | signalLost (n : Nat)
  /-- REMOTE_STAMP (R167): A remote gauge stamp arrives over Thaiq and the copy is corrected to it. `pos`, `rate`, `locked`: the stamp. -/
  | remoteStamp (k pos rate : Nat) (locked : Bool)
  /-- REMOTE_LOST (R167): No stamp arrives for 2 ms and the remote gauge faults. -/
  | remoteLost (k : Nat)
  /-- RESUME (R161): GAUGE CMD RESUME makes held queues live and fires crossed entries marked RESUMED, or is refused. -/
  | resume (gauge : Nat)
  /-- FLUSH (R161): GAUGE CMD FLUSH removes every entry on the gauge without firing, or is refused. -/
  | flush (gauge : Nat)
  /-- PRESET (R166): GAUGE CMD PRESET sets the gauge value from PRESET_HI:LO, refused while entries are armed. -/
  | preset (n : Nat)
  /-- VG_COMMIT (R166): COMMIT applies a virtual gauge's staged fields together, refused while it has armed entries. -/
  | vgCommit (k : Nat)
  /-- RG_SRC_WRITE (R168): A remote gauge source write requests a stamp stream, refused if a hop would carry more than 32. `crossing`: streams the busiest hop of the path would carry; `lat`: path latency, ns. -/
  | rgSrcWrite (k value crossing lat : Nat)
  /-- CAPTURE_EDGE (R170): A capture unit's source edge latches a gauge value, sets CAPTURE_EV and may post a message. -/
  | captureEdge (k : Nat) (rising : Bool)
  /-- FACET_ID_RUN_END (R163): After 64 revolutions the signature sums are compared; FACET_VALID is set or another run starts. -/
  | facetIdRunEnd (k : Nat)
  /-- ASSUME (R163): FID ASSUME sets FACET_OFFSET 0 and FACET_VALID without matching. -/
  | assume (k : Nat)
  /-- RESTART (R163): FID RESTART starts facet identification again. -/
  | restart (k : Nat)
  /-- ARM_GO_ARM (R175): The host's ARM_GO ARM queues an arm request from ARM_POS, ARM_CTL and ARM_ARG. -/
  | armGoArm
  /-- ARM_GO_DISARM (R177): The host's ARM_GO DISARM queues a disarm of DISARM_TICKET. -/
  | armGoDisarm
  /-- CALENDAR_ACCEPT (R175): The calendar accepts the next queued arm or disarm request in arrival order, or refuses it. -/
  | calendarAccept
  /-- CALENDAR_INSERT_DONE (R174): An insertion completes; a late entry fires or is discarded, and a held-queue entry joins as crossed. -/
  | calendarInsertDone (entry : Nat)
  /-- ENTRY_CROSSING (R174): A gauge value crosses an armed entry's position in its direction and the entry fires its action. `value`: the gauge value reached. -/
  | entryCrossing (gauge value : Nat)
  /-- CALENDAR_FIRE_DEFERRED (R176): Crossed entries beyond four per direction fire in a following fabric cycle. -/
  | calendarFireDeferred (gauge : Nat)
  /-- HALT_ENTRY_REMOVAL (R178): The calendar finishes removing a halted core's entries under DISARM_ON_HALT. -/
  | haltEntryRemoval (core : Nat)
  /-- ENTRY_SEL (R181): A write of ENTRY_SEL copies a calendar entry into ENTRY_DATA. -/
  | entrySel (entry : Nat)
  /-- ADD (R196): rd := rs1 + rs2. -/
  | add (core rd rs1 rs2 : Nat)
  /-- SUB (R196): rd := rs1 − rs2. -/
  | sub (core rd rs1 rs2 : Nat)
  /-- AND (R196): rd := rs1 and rs2. -/
  | and (core rd rs1 rs2 : Nat)
  /-- OR (R196): rd := rs1 or rs2. -/
  | or (core rd rs1 rs2 : Nat)
  /-- XOR (R196): rd := rs1 xor rs2. -/
  | xor (core rd rs1 rs2 : Nat)
  /-- ANDN (R196): rd := rs1 and not rs2. -/
  | andn (core rd rs1 rs2 : Nat)
  /-- SLL (R196): Shift left by rs2[4:0]. -/
  | sll (core rd rs1 rs2 : Nat)
  /-- SRL (R196): Logical shift right by rs2[4:0]. -/
  | srl (core rd rs1 rs2 : Nat)
  /-- SRA (R196): Arithmetic shift right by rs2[4:0]. -/
  | sra (core rd rs1 rs2 : Nat)
  /-- LTS (R196): Signed less-than mask. -/
  | lts (core rd rs1 rs2 : Nat)
  /-- LTU (R196): Unsigned less-than mask. -/
  | ltu (core rd rs1 rs2 : Nat)
  /-- MIN (R196): Signed minimum. -/
  | min (core rd rs1 rs2 : Nat)
  /-- MAX (R196): Signed maximum. -/
  | max (core rd rs1 rs2 : Nat)
  /-- MINU (R196): Unsigned minimum. -/
  | minu (core rd rs1 rs2 : Nat)
  /-- MAXU (R196): Unsigned maximum. -/
  | maxu (core rd rs1 rs2 : Nat)
  /-- CLZ (R196): Count leading zeros. -/
  | clz (core rd rs1 : Nat)
  /-- POPC (R196): Count one bits. -/
  | popc (core rd rs1 : Nat)
  /-- SLLI (R196): Shift left by immediate. -/
  | slli (core rd rs1 sh : Nat)
  /-- SRLI (R196): Logical shift right by immediate. -/
  | srli (core rd rs1 sh : Nat)
  /-- SRAI (R196): Arithmetic shift right by immediate. -/
  | srai (core rd rs1 sh : Nat)
  /-- MULLO (R197): Low 32 bits of the product. -/
  | mullo (core rd rs1 rs2 : Nat)
  /-- MULHS (R197): High 32 bits of the signed product. -/
  | mulhs (core rd rs1 rs2 : Nat)
  /-- MULHU (R197): High 32 bits of the unsigned product. -/
  | mulhu (core rd rs1 rs2 : Nat)
  /-- MULHM (R197): High 32 bits of signed by unsigned product. -/
  | mulhm (core rd rs1 rs2 : Nat)
  /-- DIVS (R197): Signed quotient, 0 for a zero divisor, saturated on overflow. -/
  | divs (core rd rs1 rs2 : Nat)
  /-- DIVU (R197): Unsigned quotient, 0 for a zero divisor. -/
  | divu (core rd rs1 rs2 : Nat)
  /-- MODS (R197): Signed remainder with the sign of rs1. -/
  | mods (core rd rs1 rs2 : Nat)
  /-- MODU (R197): Unsigned remainder. -/
  | modu (core rd rs1 rs2 : Nat)
  /-- ADDI (R198): rd := rs1 + sext(imm16). -/
  | addi (core rd rs1 imm : Nat)
  /-- ANDI (R198): rd := rs1 and zext(imm16). -/
  | andi (core rd rs1 imm : Nat)
  /-- ORI (R198): rd := rs1 or zext(imm16). -/
  | ori (core rd rs1 imm : Nat)
  /-- XORI (R198): rd := rs1 xor zext(imm16). -/
  | xori (core rd rs1 imm : Nat)
  /-- LTSI (R198): Signed less-than immediate mask. -/
  | ltsi (core rd rs1 imm : Nat)
  /-- LTUI (R198): Unsigned less-than immediate mask. -/
  | ltui (core rd rs1 imm : Nat)
  /-- LUI (R198): rd := imm16 << 16. -/
  | lui (core rd imm : Nat)
  /-- LB (R199): Load sign-extended byte. -/
  | lb (core rd rs1 imm : Nat)
  /-- LBU (R199): Load zero-extended byte. -/
  | lbu (core rd rs1 imm : Nat)
  /-- LH (R199): Load sign-extended halfword. -/
  | lh (core rd rs1 imm : Nat)
  /-- LHU (R199): Load zero-extended halfword. -/
  | lhu (core rd rs1 imm : Nat)
  /-- LW (R199): Load word. -/
  | lw (core rd rs1 imm : Nat)
  /-- PLD (R199): Load doubleword into a p register. -/
  | pld (core pd rs1 imm : Nat)
  /-- SB (R199): Store byte. -/
  | sb (core rt rs1 imm : Nat)
  /-- SH (R199): Store halfword. -/
  | sh (core rt rs1 imm : Nat)
  /-- SW (R199): Store word. -/
  | sw (core rt rs1 imm : Nat)
  /-- PST (R199): Store a p register as a doubleword. -/
  | pst (core ps rs1 imm : Nat)
  /-- BEQ (R200): Branch if equal. -/
  | beq (core rt rs1 imm : Nat)
  /-- BNE (R200): Branch if not equal. -/
  | bne (core rt rs1 imm : Nat)
  /-- BLT (R200): Branch if signed less. -/
  | blt (core rt rs1 imm : Nat)
  /-- BGE (R200): Branch if signed greater or equal. -/
  | bge (core rt rs1 imm : Nat)
  /-- BLTU (R200): Branch if unsigned less. -/
  | bltu (core rt rs1 imm : Nat)
  /-- BGEU (R200): Branch if unsigned greater or equal. -/
  | bgeu (core rt rs1 imm : Nat)
  /-- JAL (R200): Jump and link, PC-relative. -/
  | jal (core rd imm : Nat)
  /-- JALR (R200): Jump and link to register plus offset. -/
  | jalr (core rd rs1 imm : Nat)
  /-- PADD (R202): pd := pa + pb. -/
  | padd (core pd pa pb : Nat)
  /-- PSUB (R202): pd := pa − pb. -/
  | psub (core pd pa pb : Nat)
  /-- PADDC (R202): Add whole counts from a g register. -/
  | paddc (core pd pa gb : Nat)
  /-- PADDF (R202): Add fraction units from a g register. -/
  | paddf (core pd pa gb : Nat)
  /-- PMOV (R202): pd := pa. -/
  | pmov (core pd pa : Nat)
  /-- PSETC (R202): pd := sext(ga) << 16. -/
  | psetc (core pd ga : Nat)
  /-- PLO (R202): gd := pa[31:0]. -/
  | plo (core gd pa : Nat)
  /-- PHI (R202): gd := pa[63:32]. -/
  | phi (core gd pa : Nat)
  /-- PSETLO (R202): Set low half of pd. -/
  | psetlo (core pd ga : Nat)
  /-- PSETHI (R202): Set high half of pd. -/
  | psethi (core pd ga : Nat)
  /-- PCMP (R202): Serial comparison of two positions to −1, 0 or +1. -/
  | pcmp (core gd pa pb : Nat)
  /-- PMULC (R202): Scale a position by a signed 16.16 coefficient with rounding. -/
  | pmulc (core pd pa gb : Nat)
  /-- CRR (R203): Read a control register. -/
  | crr (core rd cr : Nat)
  /-- CRW (R203): Read and write a control register. -/
  | crw (core rd cr rs1 : Nat)
  /-- CRS (R203): Read and set bits of a control register. -/
  | crs (core rd cr rs1 : Nat)
  /-- CRC (R203): Read and clear bits of a control register. -/
  | crc (core rd cr rs1 : Nat)
  /-- NOP (R204): No operation. -/
  | nop (core : Nat)
  /-- ERET (R204): Return from exception: pc := EPC, IE := PIE, EXC := 0. -/
  | eret (core : Nat)
  /-- BREAK (R204): Halts the core if BREAK_HALT is 1, otherwise raises BREAK. -/
  | brk (core code : Nat)
  /-- HALT (R204): The core halts itself with pc at the next instruction. -/
  | halt (core : Nat)
  /-- ISYNC (R204): Later fetches see every earlier store of this core. -/
  | isync (core : Nat)
  /-- GAUGE_FAULT_EXCEPTION (R208): A pending GAUGE_FAULT is taken at an instruction boundary, leaving any wait. -/
  | gaugeFaultException (core : Nat)
  /-- BREAKPOINT_HIT (R213): The core reaches the breakpoint address and halts before executing it. -/
  | breakpointHit (core : Nat)
  /-- CORE_RUN (R211): A RUN request starts a halted core at COREn_PC. -/
  | coreRun (core : Nat)
  /-- CORE_HALT_REQ (R212): A halt request lets the current instruction complete or abandons a wait. -/
  | coreHaltReq (core : Nat)
  /-- HALT_COMPLETE (R212): The core stops at an instruction boundary; HALTED is set and HALT_EV raised. -/
  | haltComplete (core : Nat)
  /-- CORE_STEP (R213): STEP executes one instruction or exception entry on a halted core and halts again. -/
  | coreStep (core : Nat)
  /-- CORE_REINIT (R214): REINIT returns a halted core's registers to reset values, removes its entries and empties its mailbox. -/
  | coreReinit (core : Nat)
  /-- DEBUG_REGISTER_WRITE (R216): A write of COREn_DBG_LO commits DBG_HI:DBG_LO to the selected register of a halted core. -/
  | debugRegisterWrite (core value : Nat)
  /-- DEBUG_REGISTER_READ (R216): A read of COREn_DBG_LO returns the selected register and latches its high half. -/
  | debugRegisterRead (core : Nat)
  /-- ARM (R222): The core arms one calendar entry from its range and gets its ticket. -/
  | arm (core rd pa gb gauge dir : Nat) (ld : Bool)
  /-- DISARM (R223): The core posts a disarm of one of its tickets. -/
  | disarm (core rd ga : Nat)
  /-- WAITP (R226): The core posts a WAKE entry to itself and waits for the position. -/
  | waitp (core rd pa gauge dir : Nat) (we : Bool)
  /-- WAITEV (R229): The core waits until a selected wake, mail, calendar or object condition holds. -/
  | waitev (core rd mask : Nat)
  /-- GRD (R230): Read a gauge value into a p register. -/
  | grd (core pd gauge : Nat)
  /-- GST (R230): Read gauge status into a g register. -/
  | gst (core gd gauge : Nat)
  /-- GSRC (R230): Stage a virtual gauge's sources. -/
  | gsrc (core gauge ga : Nat)
  /-- GC1 (R230): Stage a virtual gauge's C1. -/
  | gc1 (core gauge ga : Nat)
  /-- GC2 (R230): Stage a virtual gauge's C2. -/
  | gc2 (core gauge ga : Nat)
  /-- GOFF (R230): Stage a virtual gauge's OFFSET. -/
  | goff (core gauge pa : Nat)
  /-- GCOMMIT (R230): Commit a virtual gauge's staged fields or report refusal. -/
  | gcommit (core gd gauge : Nat)
  /-- OBJRD (R233): Read an object field of up to 32 bits. -/
  | objrd (core rd rs1 field : Nat)
  /-- OBJRDP (R233): Read an object field into a p register. -/
  | objrdp (core pd rs1 field : Nat)
  /-- OBJWR (R232): Post a write of an object field of up to 32 bits. -/
  | objwr (core rt rs1 field : Nat)
  /-- OBJWRP (R232): Post a write of an object field from a p register. -/
  | objwrp (core pt rs1 field : Nat)
  /-- OBJECT_WRITE_DELIVERY (R234): A posted object write leaves the queue and takes effect on each member, staged simultaneous fields together. -/
  | objectWriteDelivery (core : Nat)
  /-- SEND (R237): Send a message to a core's mailbox, locally or over Thaiq. -/
  | send (core rd ga pb : Nat)
  /-- REMOTE_MESSAGE_ARRIVAL (R237): A message from another device arrives and enters the mailbox or is lost. The 64-bit payload and the source word of R236. -/
  | remoteMessageArrival (core payload source : Nat)
  /-- RECV (R238): Take the oldest mailbox message, waiting unless NW is set. -/
  | recv (core rd pa : Nat) (nw : Bool)
  /-- SLOTW (R224): Write a preload slot. -/
  | slotw (core gt ga pb : Nat)
  /-- OBJLD (R239): Steward load from a data object. -/
  | objld (core rd ga gb size : Nat)
  /-- OBJST (R239): Steward store to a data object. -/
  | objst (core rt ga gb size : Nat)
  /-- QPOP (R240): Pop a 64-byte record from a device queue. -/
  | qpop (core rd ga q : Nat)
  /-- QPUSH (R240): Push a 64-byte record to a device queue. -/
  | qpush (core rd ga q : Nat)
  /-- CREATE (R273): The Placer creates a data object and returns its handle. `port`: 0 the host port, 1 and 2 the ports of ST0 and ST1. -/
  | create (port : Nat)
  /-- FREE (R275): The Placer frees a data object or group, or defers the free while it is in use. `port` as for CREATE. -/
  | free (port : Nat)
  /-- GROUP (R273): The Placer creates a group from member words. `port` as for CREATE. -/
  | group (port : Nat)
  /-- PLACE_PROGRAM (R276): The Placer loads an ICX image onto cores and reports the placement. `port` as for CREATE. -/
  | placeProgram (port : Nat)
  /-- REMOVE_PROGRAM (R273): The Placer halts and reinitialises a program's core and releases its range. `port` as for CREATE. -/
  | removeProgram (port : Nat)
  /-- BIND_AFFINITY (R273): The Placer ties an affinity group to a station's device. `port` as for CREATE. -/
  | bindAffinity (port : Nat)
  /-- PLACER_MOVE_DONE (R268): An object move ends and any command waiting for it completes. -/
  | placerMoveDone
  /-- DEFERRED_FREE_DONE (R275): USE reaches 0 on a FREE_PENDING object, which is released and FREE_DONE raised. `index`: object table index. -/
  | deferredFreeDone (index : Nat)
  /-- STATION_ENABLE (R267): A write of a station's ENABLE starts it, waits for its Plate to empty, or defers disable behind a committed page. -/
  | stationEnable (k : Nat) (on : Bool)
  /-- GPIO_SET (R251): Engine GPIO_SET sets the named GPIO_OUT bits. -/
  | gpioSet (value : Nat)
  /-- GPIO_CLR (R251): Engine GPIO_CLR clears the named GPIO_OUT bits. -/
  | gpioClr (value : Nat)
  /-- ENDPOINT_RESET (R283): PERST_N, hot reset, FLR or link loss resets the endpoint, disables rings and apertures and may stop the Mover. `cause`: 0 PERST_N, 1 hot reset, 2 function-level reset, 3 loss of the data link. -/
  | endpointReset (cause : Nat)
  /-- BUS_MASTER_ENABLE (R282): The function returns to D0 with Bus Master Enable, releasing held requests and MSI-X messages. The configuration-space bits: power state D0, bus master enable, MSI-X function mask. -/
  | busMasterEnable (d0 bme mask : Bool)
  /-- WINDOW_READ (R284): A BAR2 read reaches an object through an aperture, or is aborted or poisoned. `x`: BAR2 offset; `len`: bytes. -/
  | windowRead (x len : Nat)
  /-- WINDOW_WRITE (R284): A BAR2 write reaches an object through an aperture, or is discarded. `x`: BAR2 offset; `data`: bytes. -/
  | windowWrite (x : Nat) (data : List Nat)
  /-- RING_ENABLE (R286): Setting a ring's EN from 0 to 1 resets its head and tail, and the phase of a completion ring. `cq`: completion ring, else submission ring; `value`: what is written to CFG. -/
  | ringEnable (cq : Bool) (n value : Nat)
  /-- SQ_DOORBELL (R287): A write of SQn_TAIL posts new records, or sets DOORBELL_ERR for a bad tail. -/
  | sqDoorbell (n value : Nat)
  /-- INTAKE_FETCH (R287): The intake fetches the head record of a ring, stamps SQ_INDEX and starts its chain or queues it. `data`: the 64 bytes read; `ok`: the read succeeded. -/
  | intakeFetch (n : Nat) (data : List Nat) (ok : Bool)
  /-- CQ_HEAD_DOORBELL (R295): A write of CQn_HEAD frees completion slots and may resend the vector message. -/
  | cqHeadDoorbell (n value : Nat)
  /-- INTAKE_COMPLETION_WRITE (R292): The intake writes the next in-order completion record to its ring, or discards an out-of-order one with CQ_ORDER. -/
  | intakeCompletionWrite (n : Nat)
  /-- MSIX_UNMASK (R295): Unmasking a vector sends a held message if its condition still holds. `v`: the vector; 32 for the function mask. -/
  | msixUnmask (v : Nat)
  /-- SQ_NOP (R290): A NOP record completes DONE once every earlier record of its queue has completed. -/
  | sqNop (q : Nat)
  /-- PAGE (R447): A PAGE record is checked and the page becomes QUEUED or is refused. -/
  | page (q : Nat)
  /-- CONFIGURE (R466): The page engine accepts or refuses a configuration table. -/
  | configure (q : Nat)
  /-- WITHDRAW (R456): The page engine withdraws an ADMITTED page, or refuses if it commits first. -/
  | withdraw (q : Nat)
  /-- REQUEST (R464): The page engine writes the given request bits to the engine REQUEST field. -/
  | request (q : Nat)
  /-- PURGE (R460): After a jam, in BANKED, the path is purged for PURGE_LINES after checking every sensor is uncovered. -/
  | purge (q : Nat)
  /-- MOVER_START (R296): START begins a host channel at its first descriptor, or is refused. `value`: the rest of the CHc_CTRL write. -/
  | moverStart (c value : Nat)
  /-- CHANNEL_RESUME (R301): RESUME continues a stopped channel at its current descriptor, or is refused. `value`: the rest of the CHc_CTRL write. -/
  | channelResume (c value : Nat)
  /-- CHANNEL_DISABLE (R303): Writing EN 0 on a running channel begins draining. `value`: the rest of the CHc_CTRL write. -/
  | channelDisable (c value : Nat)
  /-- DRAIN_COMPLETE (R303): A draining channel has written all it read and enters STOPPED. -/
  | drainComplete (c : Nat)
  /-- DESCRIPTOR_READ (R298): A channel reads and checks its next descriptor, or faults it. `bytes`: the 32 bytes of the descriptor. -/
  | descriptorRead (c : Nat) (bytes : List Nat)
  /-- READ_COMPLETION (R296): A host read completion returns data to a channel's buffer for writing to the object. `data`: the bytes that arrived. -/
  | readCompletion (c : Nat) (data : List Nat)
  /-- BUS_ERROR (R301): A failed or timed-out read stops every running channel with STOPPED_BUS and sets MOVER_STOPPED. `kind`: as in ERR_INFO. -/
  | busError (c kind : Nat) (read : FailedRead)
  /-- RUN_PUSH (R321): DECs_RUN_PUSH queues a decoder run, or sets RUN_REFUSED. -/
  | runPush (k : Nat)
  /-- DECODE_BLOCK_START (R323): A decoder starts its next block once staging has room for all its lines. -/
  | decodeBlockStart (k : Nat)
  /-- DECODE_BLOCK_END (R323): A block's decode ends; its lines are released after every check, or blanked on a fault. -/
  | decodeBlockEnd (k : Nat)
  /-- DECODER_DISABLE (R330): DECs_CTRL.ENABLE 0 lets the block in progress finish and stops the decoder. -/
  | decoderDisable (k : Nat)
  /-- DECODER_FLUSH (R330): FLUSH discards queued runs on an idle, disabled decoder, or sets RUN_REFUSED. -/
  | decoderFlush (k : Nat)
  /-- ENCODER_GO (R331): GO starts an encoder job, or is refused while one runs. -/
  | encoderGo (k : Nat)
  /-- ENCODER_JOB_END (R335): An encoder job ends DONE or FAULTED and ENC_DONE is set. `streams`: the token stream that the encoder has found for each block it does not store at once. -/
  | encoderJobEnd (k : Nat) (streams : List (List Nat))
  /-- TRAIN_GO (R339): TRAIN.GO starts DDR5 training and sets PLL 1 for the data rate. -/
  | trainGo
  /-- TRAIN_COMPLETE (R341): Training ends DONE or FAILED with each rank trained or TRAIN_FAILED. `failed`: the set of ranks, 4 × channel + rank, that failed a step. -/
  | trainComplete (failed : Nat)
  /-- FULL_RETRAIN (R355): TRAIN.FULL_RETRAIN repeats training steps 3 to 9 on every trained rank. -/
  | fullRetrain
  /-- REFRESH_INTERVAL (R349): A refresh interval boundary increments each bank set's debt; a debt of 3 forces a refresh. `busy`: the bank sets of channel `c` that requests keep busy, as a bit set. -/
  | refreshInterval (c busy : Nat)
  /-- MR4_POLL (R351): Every 16 ms MR4 is polled and the channel temperature and band are updated. -/
  | mr4Poll (hotA hotB : Bool)
  /-- RETRAIN_SLICE (R354): A live retrain slice recentres one rank-subchannel; the last clears DRIFT. -/
  | retrainSlice (c : Nat)
  /-- RETRAIN_SLICE_FORCED (R354): A slice that has waited 10 ms becomes a forced retrain slice. -/
  | retrainSliceForced (c : Nat)
  /-- DRAM_READ (R357): A DRAM read burst completes; ECC corrects, or an uncorrectable word is poisoned and the rank taken out of service. The port and its access, the ports whose requests are `ready`, the nibbles of the burst that hold errors, and the time in seconds. -/
  | dramRead (port ready level handle offset q sub bank row nibbles time : Nat)
  /-- PATROL_SCRUB_READ (R359): A patrol scrub read checks and writes back a granule, and may detect a CE storm. Rank and granule it reads, the access, the nibbles of the burst that hold errors, and the time in seconds. -/
  | patrolScrubRead (handle offset q granule sub bank row nibbles time : Nat)
  /-- DDR_ALERT (R360): ALERT_N reports a write CRC error; the write is replayed, and a second error is a command/address error. `q`: rank 4 × channel + rank; `again`: the replay met a second one. -/
  | ddrAlert (q sub : Nat) (again : Bool)
  /-- MIGRATION_COPY (R361): The Placer copies a live granule of the failing rank to the spare; the last ends the migration. -/
  | migrationCopy (c : Nat)
  /-- SCAN_START (R375): At slot 0 SOS_s rises and the driver fires; a page whose first frame this is commits. -/
  | scanStart (k : Nat)
  /-- BD_GATE_OPEN (R376): BD_LEAD dots before the predicted sync event, the beam-detect gate opens. -/
  | bdGateOpen (k : Nat)
  /-- FRAME_SEND_START (R399): A frame begins on the lanes once any CTRL block ends; commit conditions, underruns and blanking are judged. `ce`: words of Plate corrected while the frame reads; `bad`: lines in which one was uncorrectable (R371). -/
  | frameSendStart (k ce : Nat) (bad : List Int)
  /-- FRAME_COMPLETE (R420): A frame's data is complete; duty and energy guards are evaluated and clamps applied. -/
  | frameComplete (k : Nat)
  /-- ALIGN_BLOCKS (R396): Every 16,384 block times all four lanes send ALIGN. -/
  | alignBlocks (k : Nat)
  /-- DRV_STATUS_WORD (R378): The driver's 40-bit status word is taken whole and checked; its temperature and trip bits are applied. `word`: the 64-bit status word. -/
  | drvStatusWord (k word : Nat)
  /-- CTRL_PUSH (R400): CTRL_PUSH queues a driver write, or sets FULL. -/
  | ctrlPush (k : Nat)
  /-- CTRL_DMA_GO (R400): GO starts a CTRL_DMA stream from a TABLE object. -/
  | ctrlDmaGo (k : Nat)
  /-- CTRL_DMA_DONE (R400): The CTRL_DMA stream finishes and CTRL_DONE is set, or DMA_ERR stops it. -/
  | ctrlDmaDone (k : Nat)
  /-- BANK_NEXT (R381): A BANK.NEXT write sets a table bank switch pending for the next decision. -/
  | bankNext (k value : Nat)
  /-- PAGEQ_PUSH (R369): PUSH queues a page entry on a Graver, or is refused. -/
  | pageqPush (k : Nat)
  /-- PAGEQ_WITHDRAW (R390): WITHDRAW removes an uncommitted page entry, or is refused. -/
  | pageqWithdraw (k : Nat)
  /-- LUT_BUILD_GO (R417): LUT_CMD.GO starts a look-up-table build, or is refused with LUT_ERR. -/
  | lutBuildGo (k : Nat)
  /-- LUT_BUILD_DONE (R417): A build ends; LUT_VALID is set, or cleared with LUT_ERR after a CTRL_ERR. -/
  | lutBuildDone (k : Nat)
  /-- INTERLOCK_ASSERT (R429): INTERLOCK_N goes low; all laser enables drop and a safety fault is raised. -/
  | interlockAssert
  /-- INTERLOCK_QUALIFIED (R428): INTERLOCK_N has been high for 10 ms and the interlock term of LASER_EN_s holds. -/
  | interlockQualified
  /-- MARK_SAMPLE (R433): A mark sensor sample is paired with a gauge value and may record an edge. `v`: the sample; `p`: the gauge value paired with it. -/
  | markSample (m v p : Nat)
  /-- MARK_DEST_ENABLE (R434): Writing MKm_DEST.EN from 0 to 1 holds the capture object and resets COUNT and LOST. -/
  | markDestEnable (m value : Nat)
  /-- CAL_WORD_WRITE (R438): A Steward calibration write command writes one word of the calibration partition. -/
  | calWordWrite (k value : Nat)
  /-- CAL_WRITE_DONE (R438): A calibration word write and verify complete. -/
  | calWriteDone (k : Nat) (ok : Bool)
  /-- PAGE_PLAN (R455): A page becomes the next to plan; the decode check runs and any expansions start. `now`: the fabric cycle. -/
  | pagePlan (now : Nat)
  /-- ADMISSION_DEADLINE (R450): PITCH_GAUGE crosses a pitch's deadline; the page is admitted and pushed, or the pitch is skipped. `now`: as for PAGE_PLAN. -/
  | admissionDeadline (now : Nat)
  /-- SHEET_START (R458): At P_k − SHEET_LEAD a sheet gauge is committed, windows and posts are armed and SHEET goes to PATH_CORE. `x`: the pitch whose sheet start is due. -/
  | sheetStart (x : Nat)
  /-- TRANSFER_POST (R458): The transfer POST fires and the page becomes TRANSFERRED. `g`: the sheet gauge. -/
  | transferPost (g : Nat)
  /-- FUSER_POST (R458): The fuser POST fires and the page becomes FUSED. `g`: the sheet gauge. -/
  | fuserPost (g : Nat)
  /-- SENSOR_EDGE_CAPTURE (R459): A path sensor edge is captured against its jam windows; an exit trailing edge delivers the sheet. `j`: the path sensor. -/
  | sensorEdgeCapture (j : Nat) (rising : Bool)
  /-- JAM_WINDOW_CLOSE (R459): A leading or trailing edge window closes and LATE or STUCK is judged. `g`: the sheet gauge; `j`: the path sensor; `leading`: the window of its leading edge. -/
  | jamWindowClose (g j : Nat) (leading : Bool)
  /-- FEED_FAIL (R460): The path program reports FEED_FAIL; the page is abandoned or spoiled with FEED. -/
  | feedFail
  /-- PATH_FAULT (R459): The path program reports PATH_FAULT and a PATH jam is declared. -/
  | pathFault
  /-- PURGE_DONE (R460): The path program reports purge done; a still-covered sensor raises PURGE_FAIL. -/
  | purgeDone
  /-- PAGE_REPORT (R463): The next page in sheet order, its predecessors reported and its sheet gone, is reported once. -/
  | pageReport
  /-- AXIS_START (R480): A start applies staged targets and re-plans, or runs the start sequence, or is refused. -/
  | axisStart (axis : Nat)
  /-- START_N_EDGE (R480): A falling edge of START_N starts every axis with START_N_EN set. -/
  | startNEdge
  /-- AXIS_STOP (R486): STOP ramps the axis to zero at DECEL and then holds or turns its bridges off. -/
  | axisStop (axis : Nat)
  /-- AXIS_DISABLE (R487): ENABLE 0 ramps the axis down, or turns its bridges off at once. -/
  | axisDisable (axis : Nat)
  /-- AXIS_ENABLE (R475): ENABLE 1 turns an axis on, refused with CFG_ERR if PWM settings are out of range. -/
  | axisEnable (axis : Nat)
  /-- FOC_CURRENT_UPDATE (R476): At the carrier peak (and valley) the current loop updates; every fourth update runs the speed loop and limit check. What the current loop measured. -/
  | focCurrentUpdate (axis speed pos id iq : Nat)
  /-- OVERCURRENT (R474): A phase or coil current exceeds OC_TRIP and the axis turns its bridges off. -/
  | overcurrent (axis : Nat)
  /-- ALIGN_PULSE_END (R482): An alignment or polarity pulse ends; the next pulse or open-loop start follows. The pulse's current peak and length. -/
  | alignPulseEnd (axis peak len : Nat)
  /-- PROBE_PULSE_END (R483): A probe pulse ends; after the second, speed and direction choose the action. The speed (16.16 rev/s) and angle (1/256 rev) that the second probe gives. -/
  | probePulseEnd (axis speed angle : Nat)
  /-- PROBE_REPEAT (R483): 20 ms later a slow-turning axis probes again. -/
  | probeRepeat (axis : Nat)
  /-- START_TIMEOUT (R483): Speed has not fallen below 1 % within 2 s; the axis turns its bridges off. -/
  | startTimeout (axis : Nat)
  /-- AT_SPEED (R479): Speed has stayed within SPEED_TOL for 10 ms and AT_SPEED becomes 1. -/
  | atSpeed (axis : Nat)
  /-- BUS_VOLTAGE_SAMPLE (R488): A bus voltage result drives the brake chopper, regen limit, CHOP_FAIL and BUS_TRIP. `code`: the decimated result. -/
  | busVoltageSample (b code : Nat)
  /-- STEPPER_FULL_STEP (R493): At a full step the stepper checks deviation or load angle and sets its current. `theta`: the load angle, electrical degrees. -/
  | stepperFullStep (k : Nat) (theta : Int)
  /-- ACCELERATION_END (R528): An acceleration ends and Cord compares measured with declared peak power. `measured`: the peak power measured. -/
  | accelerationEnd (axis measured : Nat)
  /-- HEARTH_GATE_ON (R503): At c + GATE_DELAY, or the soft-start point, HTR rises for each granted lamp. `i`: 0 for the point c + GATE_DELAY, else the soft-start half-cycle. -/
  | hearthGateOn (p i : Nat)
  /-- ZONE_PID_UPDATE (R512): At c + 0.25 each zone on the phase updates its PID output. -/
  | zonePidUpdate (p : Nat)
  /-- CORD_DECISION (R530): At c + 0.5 Cord grants or denies lamp requests for the next half-cycle and checks overdraw. -/
  | cordDecision (p : Nat)
  /-- HEARTH_GATE_OFF (R503): At c + GATE_END every HTR of the phase goes low. -/
  | hearthGateOff (p : Nat)
  /-- TH_SAMPLE (R507): A TH input is converted, the reading updated and trip and laser comparisons made. `x`: the ratio, or temperature in °C above −40; `rs`: series resistance of a remote diode in Ω (R556). -/
  | thSample (n : Nat) (x : Ratio) (rs : Nat)
  /-- RATE_WINDOW (R509): A 100 ms window ends and RISE_FAST and NO_RISE are evaluated. -/
  | rateWindow
  /-- ZONE_ENABLE (R510): A zone ENABLE write starts its lamp accumulators, or is refused while latched or for a shared lamp. -/
  | zoneEnable (z : Nat) (on : Bool)
  /-- JOURNAL_ENTRY_WRITTEN (R517): The journal writer finishes an entry and its header copy and starts the next. -/
  | journalEntryWritten
  /-- TRIP_ACK (R519): ACK_CMD with KEY and GO acknowledges a trip, or is refused. -/
  | tripAck (value : Nat)
  /-- DIE_SAMPLE (R521): An on-die sensor is read and DIE_WARN or DIE_HOT evaluated. `code`: the reading. -/
  | dieSample (k code : Nat)
  /-- HV_WINDOW (R524): A 100 µs HV window ends; the PI runs and ARC, OVERVOLT and AT_SP are evaluated. `sum`: of the 20 monitor samples; `spikes`: pulses at the monitor input in the window, each by its peak in the 256 steps of the spike comparator's range and its length in ns (R83). -/
  | hvWindow (n sum : Nat) (spikes : List (Nat × Nat))
  /-- HV_ENABLE (R523): An HV channel's ENABLE is written, refused with CFG_ERR for bad AC settings. -/
  | hvEnable (n : Nat) (on : Bool)
  /-- THAIQ_ENABLE (R545): THAIQ ENABLE 0 to 1 starts training the upstream hop. -/
  | thaiqEnable
  /-- LINK_TRAINED (R545): The neighbour is accepted, hop latency measured and LINK_UP set, or MISMATCH set. `pos`, `devices`: the neighbour's; `lat`: hop latency, ns. -/
  | linkTrained (pos devices lat : Nat)
  /-- HOP_DOWN (R544): A receive lane has no valid code group for 1 µs; the hop stops carrying stamps, writes and broadcasts. -/
  | hopDown (lane : Nat)
  /-- BROADCAST_ARRIVAL (R544): A fault broadcast arrives, sets REMOTE_FAULT and the lead applies its class. `pos`: the source's cascade position; `cls`: 2 engine, 3 safety; `bitNo`, `block`: the fault at the source. -/
  | broadcastArrival (pos cls bitNo block : Nat)
  /-- MRAM_REWRITE (R88): Once in each 365 days of powered time the device rewrites every MRAM partition in place, unless the boot configuration disables it. -/
  | mramRewrite
  /-- VBAT_LOSS (R92): VBAT falls below 2.0 V while VSTBY is below 2.70 V, so both Ember supplies are absent and its values are lost. -/
  | vbatLoss
  /-- RESET_N_RELEASE (R109): RESET_N goes high after a reset's register reset, and the rail sequence may then start under R98. -/
  | resetNRelease
  /-- PCIE_LINK_UP (R283): After PERST_N is released, or after a link loss, PCIe link training completes, the data link comes up and EP_STATUS.LINK_UP is set. -/
  | pcieLinkUp (speed width : Nat)
  /-- RECEIVE_LANE_LOCK (R544): A Thaiq receive lane regains block lock after HOP_DOWN, which sets LINK_EV and ends HOP_DOWN's source condition. -/
  | receiveLaneLock (lane : Nat)
deriving DecidableEq, Repr

end Sys2Proof
end

