-- ==== Sys2Proof/Decode.lean ====
section
/-!
DEFINITION. The words of the Scriber instruction set (R194–R204, R217, R230, R239, R240): a total decoder, an encoder, and the
answer to the table's own words.
A word with a reserved opcode, function or field decodes to nothing; the core that fetches it raises ILLEGAL (R205).
-/

namespace Sys2Proof

/-! ## Fields (R194) -/

/-- The fields of a word: opcode, [25:21], [20:16], [15:11], [10:0], [15:0]. -/
structure Fields where
  op : Nat
  a : Nat
  b : Nat
  c : Nat
  fn : Nat
  imm : Nat
deriving DecidableEq, Repr

/-- Splits a word. -/
def fieldsOf (w : Nat) : Fields := {
  op := w / 2 ^ 26 % 64, a := w / 2 ^ 21 % 32, b := w / 2 ^ 16 % 32, c := w / 2 ^ 11 % 32, fn := w % 2 ^ 11,
  imm := w % 2 ^ 16 }

/-- Accepts only where a condition on the fields holds. -/
def need (p : Bool) (i : Instr) : Option Instr := if p then some i else none

/-- Is a field that names a p register well formed (R191)? -/
def isP (x : Nat) : Bool := decide (x < 8)

/-! ## Decoding -/

/-- Opcode 0x01 (R196). -/
def decodeAlu (n : Nat) (f : Fields) : Option Instr :=
  let d := f.a; let x := f.b; let y := f.c
  match f.fn with
  | 0x000 => some (.add n d x y)
  | 0x001 => some (.sub n d x y)
  | 0x002 => some (.and n d x y)
  | 0x003 => some (.or n d x y)
  | 0x004 => some (.xor n d x y)
  | 0x005 => some (.andn n d x y)
  | 0x006 => some (.sll n d x y)
  | 0x007 => some (.srl n d x y)
  | 0x008 => some (.sra n d x y)
  | 0x009 => some (.lts n d x y)
  | 0x00A => some (.ltu n d x y)
  | 0x00B => some (.min n d x y)
  | 0x00C => some (.max n d x y)
  | 0x00D => some (.minu n d x y)
  | 0x00E => some (.maxu n d x y)
  | 0x00F => need (y == 0) (.clz n d x)
  | 0x010 => need (y == 0) (.popc n d x)
  | 0x011 => some (.slli n d x y)
  | 0x012 => some (.srli n d x y)
  | 0x013 => some (.srai n d x y)
  | _ => none

/-- Opcode 0x02 (R197). -/
def decodeMulDiv (n : Nat) (f : Fields) : Option Instr :=
  let d := f.a; let x := f.b; let y := f.c
  match f.fn with
  | 0 => some (.mullo n d x y)
  | 1 => some (.mulhs n d x y)
  | 2 => some (.mulhu n d x y)
  | 3 => some (.mulhm n d x y)
  | 4 => some (.divs n d x y)
  | 5 => some (.divu n d x y)
  | 6 => some (.mods n d x y)
  | 7 => some (.modu n d x y)
  | _ => none

/-- Opcode 0x28 (R202). -/
def decodePos (n : Nat) (f : Fields) : Option Instr :=
  let d := f.a; let x := f.b; let y := f.c
  match f.fn with
  | 0x0 => need (isP d && isP x && isP y) (.padd n d x y)
  | 0x1 => need (isP d && isP x && isP y) (.psub n d x y)
  | 0x2 => need (isP d && isP x) (.paddc n d x y)
  | 0x3 => need (isP d && isP x) (.paddf n d x y)
  | 0x4 => need (isP d && isP x && y == 0) (.pmov n d x)
  | 0x5 => need (isP d && y == 0) (.psetc n d x)
  | 0x6 => need (isP x && y == 0) (.plo n d x)
  | 0x7 => need (isP x && y == 0) (.phi n d x)
  | 0x8 => need (isP d && y == 0) (.psetlo n d x)
  | 0x9 => need (isP d && y == 0) (.psethi n d x)
  | 0xA => need (isP x && isP y) (.pcmp n d x y)
  | 0xB => need (isP d && isP x) (.pmulc n d x y)
  | _ => none

/-- Opcode 0x29 (R204): unused fields are zero. -/
def decodeSys (n : Nat) (f : Fields) : Option Instr :=
  match f.fn with
  | 0 => need (f.a == 0 && f.b == 0 && f.c == 0) (.nop n)
  | 1 => need (f.a == 0 && f.b == 0 && f.c == 0) (.eret n)
  | 2 => need (f.c == 0) (.brk n (f.a * 32 + f.b))
  | 3 => need (f.a == 0 && f.b == 0 && f.c == 0) (.halt n)
  | 4 => need (f.a == 0 && f.b == 0 && f.c == 0) (.isync n)
  | _ => none

/-- Opcode 0x34 (R230): sub-operation in fn[10:8], fn[7:6] zero, gauge in fn[5:0]. -/
def decodeGauge (n : Nat) (f : Fields) : Option Instr :=
  let g := f.fn % 64
  if f.fn / 64 % 4 ≠ 0 ∨ f.c ≠ 0 then none
  else match f.fn / 256 with
    | 0 => need (f.b == 0 && isP f.a) (.grd n f.a g)
    | 1 => need (f.b == 0) (.gst n f.a g)
    | 2 => need (f.a == 0) (.gsrc n g f.b)
    | 3 => need (f.a == 0) (.gc1 n g f.b)
    | 4 => need (f.a == 0) (.gc2 n g f.b)
    | 5 => need (f.a == 0 && isP f.b) (.goff n g f.b)
    | 6 => need (f.b == 0) (.gcommit n f.a g)
    | _ => none

/-- The instruction a word spells for core `n`, none where the word is reserved (R194, R195, R217). -/
def decodeScriber (n w : Nat) : Option Instr :=
  let f := fieldsOf w
  match f.op with
  | 0x01 => decodeAlu n f
  | 0x02 => decodeMulDiv n f
  | 0x03 => some (.addi n f.a f.b f.imm)
  | 0x04 => some (.andi n f.a f.b f.imm)
  | 0x05 => some (.ori n f.a f.b f.imm)
  | 0x06 => some (.xori n f.a f.b f.imm)
  | 0x07 => some (.ltsi n f.a f.b f.imm)
  | 0x08 => some (.ltui n f.a f.b f.imm)
  | 0x09 => need (f.b == 0) (.lui n f.a f.imm)
  | 0x10 => some (.lb n f.a f.b f.imm)
  | 0x11 => some (.lbu n f.a f.b f.imm)
  | 0x12 => some (.lh n f.a f.b f.imm)
  | 0x13 => some (.lhu n f.a f.b f.imm)
  | 0x14 => some (.lw n f.a f.b f.imm)
  | 0x15 => need (isP f.a) (.pld n f.a f.b f.imm)
  | 0x18 => some (.sb n f.a f.b f.imm)
  | 0x19 => some (.sh n f.a f.b f.imm)
  | 0x1A => some (.sw n f.a f.b f.imm)
  | 0x1B => need (isP f.a) (.pst n f.a f.b f.imm)
  | 0x20 => some (.beq n f.a f.b f.imm)
  | 0x21 => some (.bne n f.a f.b f.imm)
  | 0x22 => some (.blt n f.a f.b f.imm)
  | 0x23 => some (.bge n f.a f.b f.imm)
  | 0x24 => some (.bltu n f.a f.b f.imm)
  | 0x25 => some (.bgeu n f.a f.b f.imm)
  | 0x26 => need (f.b == 0) (.jal n f.a f.imm)
  | 0x27 => some (.jalr n f.a f.b f.imm)
  | 0x28 => decodePos n f
  | 0x29 => decodeSys n f
  | 0x2A => need (f.imm / 256 == 0 && f.b == 0) (.crr n f.a f.imm)
  | 0x2B => need (f.imm / 256 == 0) (.crw n f.a f.imm f.b)
  | 0x2C => need (f.imm / 256 == 0) (.crs n f.a f.imm f.b)
  | 0x2D => need (f.imm / 256 == 0) (.crc n f.a f.imm f.b)
  | 0x30 => need (f.fn / 512 == 0 && isP f.b)
      (.arm n f.a f.b f.c (f.fn % 64) (f.fn / 64 % 4) (f.fn / 256 % 2 == 1))
  | 0x31 => need (f.c == 0 && f.fn == 0) (.disarm n f.a f.b)
  | 0x32 => need (f.fn / 512 == 0 && isP f.b && f.c == 0)
      (.waitp n f.a f.b (f.fn % 64) (f.fn / 64 % 4) (f.fn / 256 % 2 == 1))
  | 0x33 => need (f.b == 0 && f.imm / 16 == 0) (.waitev n f.a f.imm)
  | 0x34 => decodeGauge n f
  | 0x35 => some (.objrd n f.a f.b f.imm)
  | 0x36 => need (isP f.a) (.objrdp n f.a f.b f.imm)
  | 0x37 => some (.objwr n f.a f.b f.imm)
  | 0x38 => need (isP f.a) (.objwrp n f.a f.b f.imm)
  | 0x39 => need (isP f.c && f.fn == 0) (.send n f.a f.b f.c)
  | 0x3A => need (isP f.b && f.c == 0 && f.fn / 2 == 0) (.recv n f.a f.b (f.fn % 2 == 1))
  | 0x3B => need (isP f.c && f.fn == 0) (.slotw n f.a f.b f.c)
  | 0x3C => need (decide (f.fn ≤ 5) && (f.fn != 5 || isP f.a)) (.objld n f.a f.b f.c f.fn)
  | 0x3D => need (decide (f.fn ≤ 3) && (f.fn != 3 || isP f.a)) (.objst n f.a f.b f.c f.fn)
  | 0x3E => if f.fn / 128 ≠ 0 ∨ f.c ≠ 0 then none
      else if f.fn / 64 % 2 = 0 then some (.qpop n f.a f.b (f.fn % 64)) else some (.qpush n f.a f.b (f.fn % 64))
  | _ => none

/-! ## Encoding -/

/-- A word of format R. -/
def encR (op a b c fn : Nat) : Nat := op * 2 ^ 26 + a * 2 ^ 21 + b * 2 ^ 16 + c * 2 ^ 11 + fn

/-- A word of format I, S or B. -/
def encI (op a b imm : Nat) : Nat := op * 2 ^ 26 + a * 2 ^ 21 + b * 2 ^ 16 + imm

/-- The word of a Scriber instruction; 0, a reserved word, for every other command. -/
def encodeScriber (i : Instr) : Nat :=
  match i with
  | .add _ d x y => encR 0x01 d x y 0x000
  | .sub _ d x y => encR 0x01 d x y 0x001
  | .and _ d x y => encR 0x01 d x y 0x002
  | .or _ d x y => encR 0x01 d x y 0x003
  | .xor _ d x y => encR 0x01 d x y 0x004
  | .andn _ d x y => encR 0x01 d x y 0x005
  | .sll _ d x y => encR 0x01 d x y 0x006
  | .srl _ d x y => encR 0x01 d x y 0x007
  | .sra _ d x y => encR 0x01 d x y 0x008
  | .lts _ d x y => encR 0x01 d x y 0x009
  | .ltu _ d x y => encR 0x01 d x y 0x00A
  | .min _ d x y => encR 0x01 d x y 0x00B
  | .max _ d x y => encR 0x01 d x y 0x00C
  | .minu _ d x y => encR 0x01 d x y 0x00D
  | .maxu _ d x y => encR 0x01 d x y 0x00E
  | .clz _ d x => encR 0x01 d x 0 0x00F
  | .popc _ d x => encR 0x01 d x 0 0x010
  | .slli _ d x y => encR 0x01 d x y 0x011
  | .srli _ d x y => encR 0x01 d x y 0x012
  | .srai _ d x y => encR 0x01 d x y 0x013
  | .mullo _ d x y => encR 0x02 d x y 0
  | .mulhs _ d x y => encR 0x02 d x y 1
  | .mulhu _ d x y => encR 0x02 d x y 2
  | .mulhm _ d x y => encR 0x02 d x y 3
  | .divs _ d x y => encR 0x02 d x y 4
  | .divu _ d x y => encR 0x02 d x y 5
  | .mods _ d x y => encR 0x02 d x y 6
  | .modu _ d x y => encR 0x02 d x y 7
  | .addi _ d x m => encI 0x03 d x m
  | .andi _ d x m => encI 0x04 d x m
  | .ori _ d x m => encI 0x05 d x m
  | .xori _ d x m => encI 0x06 d x m
  | .ltsi _ d x m => encI 0x07 d x m
  | .ltui _ d x m => encI 0x08 d x m
  | .lui _ d m => encI 0x09 d 0 m
  | .lb _ d x m => encI 0x10 d x m
  | .lbu _ d x m => encI 0x11 d x m
  | .lh _ d x m => encI 0x12 d x m
  | .lhu _ d x m => encI 0x13 d x m
  | .lw _ d x m => encI 0x14 d x m
  | .pld _ d x m => encI 0x15 d x m
  | .sb _ d x m => encI 0x18 d x m
  | .sh _ d x m => encI 0x19 d x m
  | .sw _ d x m => encI 0x1A d x m
  | .pst _ d x m => encI 0x1B d x m
  | .beq _ d x m => encI 0x20 d x m
  | .bne _ d x m => encI 0x21 d x m
  | .blt _ d x m => encI 0x22 d x m
  | .bge _ d x m => encI 0x23 d x m
  | .bltu _ d x m => encI 0x24 d x m
  | .bgeu _ d x m => encI 0x25 d x m
  | .jal _ d m => encI 0x26 d 0 m
  | .jalr _ d x m => encI 0x27 d x m
  | .padd _ d x y => encR 0x28 d x y 0x0
  | .psub _ d x y => encR 0x28 d x y 0x1
  | .paddc _ d x y => encR 0x28 d x y 0x2
  | .paddf _ d x y => encR 0x28 d x y 0x3
  | .pmov _ d x => encR 0x28 d x 0 0x4
  | .psetc _ d x => encR 0x28 d x 0 0x5
  | .plo _ d x => encR 0x28 d x 0 0x6
  | .phi _ d x => encR 0x28 d x 0 0x7
  | .psetlo _ d x => encR 0x28 d x 0 0x8
  | .psethi _ d x => encR 0x28 d x 0 0x9
  | .pcmp _ d x y => encR 0x28 d x y 0xA
  | .pmulc _ d x y => encR 0x28 d x y 0xB
  | .nop _ => encR 0x29 0 0 0 0
  | .eret _ => encR 0x29 0 0 0 1
  | .brk _ k => encR 0x29 (k / 32) (k % 32) 0 2
  | .halt _ => encR 0x29 0 0 0 3
  | .isync _ => encR 0x29 0 0 0 4
  | .crr _ d cr => encI 0x2A d 0 cr
  | .crw _ d cr x => encI 0x2B d x cr
  | .crs _ d cr x => encI 0x2C d x cr
  | .crc _ d cr x => encI 0x2D d x cr
  | .arm _ d x y g dir ld => encR 0x30 d x y (g + dir * 64 + bit ld * 256)
  | .disarm _ d x => encR 0x31 d x 0 0
  | .waitp _ d x g dir we => encR 0x32 d x 0 (g + dir * 64 + bit we * 256)
  | .waitev _ d m => encI 0x33 d 0 m
  | .grd _ d g => encR 0x34 d 0 0 g
  | .gst _ d g => encR 0x34 d 0 0 (0x100 + g)
  | .gsrc _ g x => encR 0x34 0 x 0 (0x200 + g)
  | .gc1 _ g x => encR 0x34 0 x 0 (0x300 + g)
  | .gc2 _ g x => encR 0x34 0 x 0 (0x400 + g)
  | .goff _ g x => encR 0x34 0 x 0 (0x500 + g)
  | .gcommit _ d g => encR 0x34 d 0 0 (0x600 + g)
  | .objrd _ d x m => encI 0x35 d x m
  | .objrdp _ d x m => encI 0x36 d x m
  | .objwr _ d x m => encI 0x37 d x m
  | .objwrp _ d x m => encI 0x38 d x m
  | .send _ d x y => encR 0x39 d x y 0
  | .recv _ d x nw => encR 0x3A d x 0 (bit nw)
  | .slotw _ d x y => encR 0x3B d x y 0
  | .objld _ d x y k => encR 0x3C d x y k
  | .objst _ d x y k => encR 0x3D d x y k
  | .qpop _ d x q => encR 0x3E d x 0 q
  | .qpush _ d x q => encR 0x3E d x 0 (0x40 + q)
  | _ => 0

/-! ## The table's own words -/

/-- The table gives no row any bits, so no word spells a command. -/
def decodeTableWord (_nbits _w : Nat) : Option Instr := none

end Sys2Proof
end

