-- ==== Sys2Proof/Config.lean ====
section
/-!
DEFINITION. The values the spec leaves open, as constants with no body: nothing can be proved of them but what holds of every value.
Each is applied to the model's counter `State.freeCtr`, so that every use is a fresh value.
-/

namespace Sys2Proof

/-- A free number: a loop's new control value, a measured time, the cycles of an instruction whose time is not promised.
Assumption 5. -/
opaque Config.freeNat : Nat → Nat

/-- A free byte. Assumption 5. -/
opaque Config.freeByte : Nat → Nat

/-- The rate a gauge's tracking loop holds after an edge, from its bandwidth shift, its rate before, the rate the edge's arrival gives
and the arrival's error: R150 gives the loop by its bandwidth and damping alone. Assumption 12. -/
opaque Config.loopRate : Nat → Nat → Nat → Nat → Nat

/-- The RAAIMT of the devices of a rank: how many activations of a bank call for a refresh management command (R337). The device gives
it. Assumption 100. -/
opaque Config.raaimt : Nat → Nat

/-- The RAAMMT of the devices of a rank: the count a bank may not pass (R350). Assumption 100. -/
opaque Config.raammt : Nat → Nat

/-- The token stream an encoder finds for the original bytes of a block of a geometry (dots, bits per dot) at a level: R334 fixes that it
is the same every time, not which it is. Assumption 67. -/
opaque Config.encTokens : Nat → Nat → Nat → List Nat → List Nat

/-- A free choice between two outcomes the spec both allows. Assumption 5. -/
opaque Config.freeBool : Nat → Bool

end Sys2Proof
end

