-- ==== Sys2Proof/Machine/RegMap.lean ====
section
/-!
DEFINITION. The register map of BAR0: where every register of the spec's field tables sits (R26, R28, R30 and the register
rules of each block's chapter), what its bits accept, and what it resets to.
One `RegRow` per register or array of like registers; one `Fld` per named field.
Offsets are BAR0 byte offsets.
-/

namespace Sys2Proof.Machine

/-- A named field of a 32-bit register: the register's BAR0 offset, the field's lowest bit, its width. -/
structure Fld where
  off : Nat
  lo : Nat
  width : Nat
deriving DecidableEq, Repr

/-- One register, or a two-dimensional array of like registers, of a block: offset within the block, counts and strides,
masks of the bits that take a written value (`rw`), clear on a written 1 (`w1c`) and only act when written (`w1p`: W1P and WO),
and the reset value (R6, R7). A bit in none of the three masks is read-only or reserved. -/
structure RegRow where
  off : Nat
  n1 : Nat
  s1 : Nat
  n2 : Nat
  s2 : Nat
  rw : Nat
  w1c : Nat
  w1p : Nat
  reset : Nat
deriving DecidableEq, Repr


/-! ## SYS -/

/-- SYS ID (+0x000), R28. -/
def SYS.ID : Nat := 0x0
def SYS.ID_CODE : Fld := ⟨SYS.ID, 16, 16⟩
def SYS.ID_VERSION : Fld := ⟨SYS.ID, 0, 16⟩
/-- SYS CTRL (+0x004), R30. -/
def SYS.CTRL : Nat := 0x4
def SYS.CTRL_ENABLE : Fld := ⟨SYS.CTRL, 0, 1⟩
def SYS.CTRL_FORCE_ARM : Fld := ⟨SYS.CTRL, 1, 1⟩
/-- SYS STATUS (+0x008), R30. -/
def SYS.STATUS : Nat := 0x8
def SYS.STATUS_ENABLED : Fld := ⟨SYS.STATUS, 0, 1⟩
def SYS.STATUS_DISABLE_PENDING : Fld := ⟨SYS.STATUS, 1, 1⟩
def SYS.STATUS_FAULT_ANY : Fld := ⟨SYS.STATUS, 2, 1⟩
/-- SYS FAULT (+0x00C), R31. -/
def SYS.FAULT : Nat := 0xC
/-- SYS FAULT_FORCE (+0x010), R32. -/
def SYS.FAULT_FORCE : Nat := 0x10
def SYS.FAULT_FORCE_BITS : Fld := ⟨SYS.FAULT_FORCE, 0, 32⟩
/-- SYS INT_EN (+0x018), R33. -/
def SYS.INT_EN : Nat := 0x18
def SYS.INT_EN_BITS : Fld := ⟨SYS.INT_EN, 0, 32⟩
/-- SYS INT_STAT (+0x01C), R33. -/
def SYS.INT_STAT : Nat := 0x1C
def SYS.INT_STAT_FAULT_EV : Fld := ⟨SYS.INT_STAT, 0, 1⟩
/-- SYS BOOT_STATUS (+0x020), R41. -/
def SYS.BOOT_STATUS : Nat := 0x20
def SYS.BOOT_STATUS_BOOT_ERROR : Fld := ⟨SYS.BOOT_STATUS, 16, 8⟩
def SYS.BOOT_STATUS_HOLD_OUTPLL : Fld := ⟨SYS.BOOT_STATUS, 12, 1⟩
def SYS.BOOT_STATUS_HOLD_PCIE : Fld := ⟨SYS.BOOT_STATUS, 11, 1⟩
def SYS.BOOT_STATUS_HOLD_SERDES : Fld := ⟨SYS.BOOT_STATUS, 10, 1⟩
def SYS.BOOT_STATUS_HOLD_DDR : Fld := ⟨SYS.BOOT_STATUS, 9, 1⟩
def SYS.BOOT_STATUS_HOLD_FABRIC : Fld := ⟨SYS.BOOT_STATUS, 8, 1⟩
def SYS.BOOT_STATUS_BOOT_STAGE : Fld := ⟨SYS.BOOT_STATUS, 4, 4⟩
def SYS.BOOT_STATUS_BOOT_PINS : Fld := ⟨SYS.BOOT_STATUS, 0, 2⟩
/-- SYS RESET_COUNT (+0x024), R41. -/
def SYS.RESET_COUNT : Nat := 0x24
def SYS.RESET_COUNT_COUNT : Fld := ⟨SYS.RESET_COUNT, 0, 32⟩
/-- SYS RESET_CAUSE (+0x028), R41. -/
def SYS.RESET_CAUSE : Nat := 0x28
def SYS.RESET_CAUSE_TRIP_MIRROR : Fld := ⟨SYS.RESET_CAUSE, 16, 1⟩
def SYS.RESET_CAUSE_VBAT_LOST : Fld := ⟨SYS.RESET_CAUSE, 8, 1⟩
def SYS.RESET_CAUSE_CAUSE : Fld := ⟨SYS.RESET_CAUSE, 0, 2⟩
/-- SYS ENGINE_STATE (+0x02C), R41. -/
def SYS.ENGINE_STATE : Nat := 0x2C
def SYS.ENGINE_STATE_STATE : Fld := ⟨SYS.ENGINE_STATE, 0, 4⟩
/-- SYS ACCESS_LOG (+0x030), R41. -/
def SYS.ACCESS_LOG : Nat := 0x30
def SYS.ACCESS_LOG_RO_WRITE : Fld := ⟨SYS.ACCESS_LOG, 3, 1⟩
def SYS.ACCESS_LOG_HELD_BLOCK : Fld := ⟨SYS.ACCESS_LOG, 2, 1⟩
def SYS.ACCESS_LOG_RESERVED_ADDR : Fld := ⟨SYS.ACCESS_LOG, 1, 1⟩
def SYS.ACCESS_LOG_BAD_WIDTH : Fld := ⟨SYS.ACCESS_LOG, 0, 1⟩
/-- SYS ACCESS_ADDR (+0x034), R41. -/
def SYS.ACCESS_ADDR : Nat := 0x34
def SYS.ACCESS_ADDR_ADDR : Fld := ⟨SYS.ACCESS_ADDR, 0, 32⟩
/-- SYS FLASH_ADDR (+0x040), R125. -/
def SYS.FLASH_ADDR : Nat := 0x40
def SYS.FLASH_ADDR_ADDR : Fld := ⟨SYS.FLASH_ADDR, 0, 32⟩
/-- SYS FLASH_CMD (+0x044), R125. -/
def SYS.FLASH_CMD : Nat := 0x44
def SYS.FLASH_CMD_KEY : Fld := ⟨SYS.FLASH_CMD, 20, 12⟩
def SYS.FLASH_CMD_LENGTH : Fld := ⟨SYS.FLASH_CMD, 8, 9⟩
def SYS.FLASH_CMD_OP : Fld := ⟨SYS.FLASH_CMD, 1, 2⟩
def SYS.FLASH_CMD_GO : Fld := ⟨SYS.FLASH_CMD, 0, 1⟩
/-- SYS FLASH_STAT (+0x048), R125. -/
def SYS.FLASH_STAT : Nat := 0x48
def SYS.FLASH_STAT_ERROR : Fld := ⟨SYS.FLASH_STAT, 2, 1⟩
def SYS.FLASH_STAT_DONE : Fld := ⟨SYS.FLASH_STAT, 1, 1⟩
def SYS.FLASH_STAT_BUSY : Fld := ⟨SYS.FLASH_STAT, 0, 1⟩
/-- SYS FLASH_BUF (+0x100), chapter 02. -/
def SYS.FLASH_BUF (n : Nat) : Nat := 0x100 + n * 0x4
def SYS.FLASH_BUF_DATA (n : Nat) : Fld := ⟨SYS.FLASH_BUF n, 0, 32⟩

/-- The registers of the SYS block, in the order of the spec's tables (chapter 02). -/
def SYS.rows0 : List RegRow := [
  ⟨0x0, 1, 0x0, 1, 0x0, 0x0, 0x0, 0x0, 0x0⟩,
  ⟨0x4, 1, 0x0, 1, 0x0, 0x2, 0x0, 0x0, 0x1⟩,
  ⟨0x8, 1, 0x0, 1, 0x0, 0x0, 0x0, 0x0, 0x1⟩,
  ⟨0xC, 1, 0x0, 1, 0x0, 0x0, 0x0, 0x0, 0x0⟩,
  ⟨0x10, 1, 0x0, 1, 0x0, 0x0, 0x0, 0xFFFFFFFF, 0x0⟩,
  ⟨0x14, 1, 0x0, 1, 0x0, 0x0, 0x0, 0x0, 0x0⟩,
  ⟨0x18, 1, 0x0, 1, 0x0, 0xFFFFFFFF, 0x0, 0x0, 0x0⟩,
  ⟨0x1C, 1, 0x0, 1, 0x0, 0x0, 0x1, 0x0, 0x0⟩,
  ⟨0x20, 1, 0x0, 1, 0x0, 0x0, 0x0, 0x0, 0x0⟩,
  ⟨0x24, 1, 0x0, 1, 0x0, 0x0, 0x0, 0x0, 0x0⟩,
  ⟨0x28, 1, 0x0, 1, 0x0, 0x0, 0x0, 0x0, 0x0⟩,
  ⟨0x2C, 1, 0x0, 1, 0x0, 0x0, 0x0, 0x0, 0x1⟩,
  ⟨0x30, 1, 0x0, 1, 0x0, 0x0, 0xF, 0x0, 0x0⟩,
  ⟨0x34, 1, 0x0, 1, 0x0, 0x0, 0x0, 0x0, 0x0⟩,
  ⟨0x40, 1, 0x0, 1, 0x0, 0xFFFFFFFF, 0x0, 0x0, 0x0⟩,
  ⟨0x44, 1, 0x0, 1, 0x0, 0x1FF06, 0x0, 0xFFF00001, 0x0⟩,
  ⟨0x48, 1, 0x0, 1, 0x0, 0x0, 0x6, 0x0, 0x0⟩,
  ⟨0x100, 64, 0x4, 1, 0x0, 0xFFFFFFFF, 0x0, 0x0, 0x0⟩]
def SYS.rows : List RegRow := SYS.rows0

/-! ## TINDER -/

/-- TINDER ID (+0x000), R28. -/
def TINDER.ID : Nat := 0x10000
def TINDER.ID_CODE : Fld := ⟨TINDER.ID, 16, 16⟩
def TINDER.ID_VERSION : Fld := ⟨TINDER.ID, 0, 16⟩
/-- TINDER CTRL (+0x004), R30. -/
def TINDER.CTRL : Nat := 0x10004
def TINDER.CTRL_ENABLE : Fld := ⟨TINDER.CTRL, 0, 1⟩
def TINDER.CTRL_FORCE_ARM : Fld := ⟨TINDER.CTRL, 1, 1⟩
/-- TINDER STATUS (+0x008), R30. -/
def TINDER.STATUS : Nat := 0x10008
def TINDER.STATUS_ENABLED : Fld := ⟨TINDER.STATUS, 0, 1⟩
def TINDER.STATUS_DISABLE_PENDING : Fld := ⟨TINDER.STATUS, 1, 1⟩
def TINDER.STATUS_FAULT_ANY : Fld := ⟨TINDER.STATUS, 2, 1⟩
/-- TINDER FAULT (+0x00C), R31. -/
def TINDER.FAULT : Nat := 0x1000C
def TINDER.FAULT_SHUTDOWN_FORCED : Fld := ⟨TINDER.FAULT, 18, 1⟩
def TINDER.FAULT_INPUT_LOST : Fld := ⟨TINDER.FAULT, 17, 1⟩
def TINDER.FAULT_XTAL_MISSING : Fld := ⟨TINDER.FAULT, 16, 1⟩
def TINDER.FAULT_RAIL_FAIL : Fld := ⟨TINDER.FAULT, 0, 16⟩
/-- TINDER FAULT_FORCE (+0x010), R32. -/
def TINDER.FAULT_FORCE : Nat := 0x10010
def TINDER.FAULT_FORCE_BITS : Fld := ⟨TINDER.FAULT_FORCE, 0, 32⟩
/-- TINDER INT_EN (+0x018), R33. -/
def TINDER.INT_EN : Nat := 0x10018
def TINDER.INT_EN_BITS : Fld := ⟨TINDER.INT_EN, 0, 32⟩
/-- TINDER INT_STAT (+0x01C), R33. -/
def TINDER.INT_STAT : Nat := 0x1001C
def TINDER.INT_STAT_FAULT_EV : Fld := ⟨TINDER.INT_STAT, 0, 1⟩
def TINDER.INT_STAT_MRAM_WDONE : Fld := ⟨TINDER.INT_STAT, 5, 1⟩
def TINDER.INT_STAT_DISCHARGE_SLOW : Fld := ⟨TINDER.INT_STAT, 4, 1⟩
def TINDER.INT_STAT_SEQ_DONE : Fld := ⟨TINDER.INT_STAT, 3, 1⟩
def TINDER.INT_STAT_SHUTDOWN_EV : Fld := ⟨TINDER.INT_STAT, 2, 1⟩
def TINDER.INT_STAT_WARN_EV : Fld := ⟨TINDER.INT_STAT, 1, 1⟩
/-- TINDER SEQ_CTRL (+0x020), R126. -/
def TINDER.SEQ_CTRL : Nat := 0x10020
def TINDER.SEQ_CTRL_RETRY : Fld := ⟨TINDER.SEQ_CTRL, 16, 16⟩
def TINDER.SEQ_CTRL_POWER_DOWN : Fld := ⟨TINDER.SEQ_CTRL, 2, 1⟩
def TINDER.SEQ_CTRL_SHUTDOWN_REQ : Fld := ⟨TINDER.SEQ_CTRL, 1, 1⟩
/-- TINDER SEQ_STATUS (+0x024), R126. -/
def TINDER.SEQ_STATUS : Nat := 0x10024
def TINDER.SEQ_STATUS_WAKE : Fld := ⟨TINDER.SEQ_STATUS, 30, 2⟩
def TINDER.SEQ_STATUS_INPUT_OK : Fld := ⟨TINDER.SEQ_STATUS, 23, 1⟩
def TINDER.SEQ_STATUS_PB_LEVEL : Fld := ⟨TINDER.SEQ_STATUS, 22, 1⟩
def TINDER.SEQ_STATUS_PSEQ_OUT : Fld := ⟨TINDER.SEQ_STATUS, 21, 1⟩
def TINDER.SEQ_STATUS_PSEQ_IN : Fld := ⟨TINDER.SEQ_STATUS, 20, 1⟩
def TINDER.SEQ_STATUS_PHASE : Fld := ⟨TINDER.SEQ_STATUS, 16, 4⟩
def TINDER.SEQ_STATUS_WARN : Fld := ⟨TINDER.SEQ_STATUS, 0, 16⟩
/-- TINDER RAIL_SUMMARY (+0x028), R126. -/
def TINDER.RAIL_SUMMARY : Nat := 0x10028
def TINDER.RAIL_SUMMARY_FAILED : Fld := ⟨TINDER.RAIL_SUMMARY, 16, 16⟩
def TINDER.RAIL_SUMMARY_GOOD : Fld := ⟨TINDER.RAIL_SUMMARY, 0, 16⟩
/-- TINDER PB_CFG (+0x02C), R126. -/
def TINDER.PB_CFG : Nat := 0x1002C
def TINDER.PB_CFG_SHUTDOWN_TIMEOUT : Fld := ⟨TINDER.PB_CFG, 4, 8⟩
def TINDER.PB_CFG_LONG_PRESS : Fld := ⟨TINDER.PB_CFG, 0, 4⟩
/-- TINDER EMBER_COUNT (+0x030), R126. -/
def TINDER.EMBER_COUNT : Nat := 0x10030
def TINDER.EMBER_COUNT_COUNT : Fld := ⟨TINDER.EMBER_COUNT, 0, 32⟩
/-- TINDER EMBER_CAUSE (+0x034), R126. -/
def TINDER.EMBER_CAUSE : Nat := 0x10034
def TINDER.EMBER_CAUSE_TRIP_LATCH : Fld := ⟨TINDER.EMBER_CAUSE, 16, 1⟩
def TINDER.EMBER_CAUSE_VBAT_LOST : Fld := ⟨TINDER.EMBER_CAUSE, 8, 1⟩
def TINDER.EMBER_CAUSE_CAUSE : Fld := ⟨TINDER.EMBER_CAUSE, 0, 2⟩
/-- TINDER RAIL_CFG (+0x040), R126. -/
def TINDER.RAIL_CFG (n : Nat) : Nat := 0x10040 + n * 0x10
def TINDER.RAIL_CFG_RAIL_EN (n : Nat) : Fld := ⟨TINDER.RAIL_CFG n, 31, 1⟩
def TINDER.RAIL_CFG_PG_USE (n : Nat) : Fld := ⟨TINDER.RAIL_CFG n, 30, 1⟩
def TINDER.RAIL_CFG_INPUT (n : Nat) : Fld := ⟨TINDER.RAIL_CFG n, 29, 1⟩
def TINDER.RAIL_CFG_PARENT (n : Nat) : Fld := ⟨TINDER.RAIL_CFG n, 24, 5⟩
def TINDER.RAIL_CFG_ON_DELAY (n : Nat) : Fld := ⟨TINDER.RAIL_CFG n, 16, 8⟩
def TINDER.RAIL_CFG_FILTER (n : Nat) : Fld := ⟨TINDER.RAIL_CFG n, 0, 16⟩
/-- TINDER RAIL_LEVELS (+0x044), R126. -/
def TINDER.RAIL_LEVELS (n : Nat) : Nat := 0x10044 + n * 0x10
def TINDER.RAIL_LEVELS_FAULT_HI (n : Nat) : Fld := ⟨TINDER.RAIL_LEVELS n, 20, 10⟩
def TINDER.RAIL_LEVELS_WARN_LO (n : Nat) : Fld := ⟨TINDER.RAIL_LEVELS n, 10, 10⟩
def TINDER.RAIL_LEVELS_FAULT_LO (n : Nat) : Fld := ⟨TINDER.RAIL_LEVELS n, 0, 10⟩
/-- TINDER RAIL_TIME (+0x048), R126. -/
def TINDER.RAIL_TIME (n : Nat) : Nat := 0x10048 + n * 0x10
def TINDER.RAIL_TIME_OFF_LEVEL (n : Nat) : Fld := ⟨TINDER.RAIL_TIME n, 22, 10⟩
def TINDER.RAIL_TIME_TIMEOUT (n : Nat) : Fld := ⟨TINDER.RAIL_TIME n, 12, 10⟩
def TINDER.RAIL_TIME_DROP (n : Nat) : Fld := ⟨TINDER.RAIL_TIME n, 0, 10⟩
/-- TINDER RAIL_STATUS (+0x04C), R126. -/
def TINDER.RAIL_STATUS (n : Nat) : Nat := 0x1004C + n * 0x10
def TINDER.RAIL_STATUS_STATE (n : Nat) : Fld := ⟨TINDER.RAIL_STATUS n, 16, 3⟩
def TINDER.RAIL_STATUS_WARN (n : Nat) : Fld := ⟨TINDER.RAIL_STATUS n, 10, 1⟩
def TINDER.RAIL_STATUS_VM_NOW (n : Nat) : Fld := ⟨TINDER.RAIL_STATUS n, 0, 10⟩
/-- TINDER MRAM_WADDR (+0x140), R126. -/
def TINDER.MRAM_WADDR : Nat := 0x10140
def TINDER.MRAM_WADDR_PART : Fld := ⟨TINDER.MRAM_WADDR, 30, 2⟩
def TINDER.MRAM_WADDR_WORD : Fld := ⟨TINDER.MRAM_WADDR, 2, 13⟩
/-- TINDER MRAM_WDATA (+0x144), R126. -/
def TINDER.MRAM_WDATA : Nat := 0x10144
def TINDER.MRAM_WDATA_DATA : Fld := ⟨TINDER.MRAM_WDATA, 0, 32⟩
/-- TINDER MRAM_WCMD (+0x148), R126. -/
def TINDER.MRAM_WCMD : Nat := 0x10148
def TINDER.MRAM_WCMD_KEY : Fld := ⟨TINDER.MRAM_WCMD, 20, 12⟩
def TINDER.MRAM_WCMD_GO : Fld := ⟨TINDER.MRAM_WCMD, 0, 1⟩
/-- TINDER MRAM_WSTAT (+0x14C), R126. -/
def TINDER.MRAM_WSTAT : Nat := 0x1014C
def TINDER.MRAM_WSTAT_ERROR : Fld := ⟨TINDER.MRAM_WSTAT, 2, 1⟩
def TINDER.MRAM_WSTAT_DONE : Fld := ⟨TINDER.MRAM_WSTAT, 1, 1⟩
def TINDER.MRAM_WSTAT_BUSY : Fld := ⟨TINDER.MRAM_WSTAT, 0, 1⟩

/-- The registers of the TINDER block, in the order of the spec's tables (chapter 05). -/
def TINDER.rows0 : List RegRow := [
  ⟨0x0, 1, 0x0, 1, 0x0, 0x0, 0x0, 0x0, 0x0⟩,
  ⟨0x4, 1, 0x0, 1, 0x0, 0x2, 0x0, 0x0, 0x1⟩,
  ⟨0x8, 1, 0x0, 1, 0x0, 0x0, 0x0, 0x0, 0x1⟩,
  ⟨0xC, 1, 0x0, 1, 0x0, 0x0, 0x7FFFF, 0x0, 0x0⟩,
  ⟨0x10, 1, 0x0, 1, 0x0, 0x0, 0x0, 0xFFFFFFFF, 0x0⟩,
  ⟨0x14, 1, 0x0, 1, 0x0, 0x0, 0x0, 0x0, 0x0⟩,
  ⟨0x18, 1, 0x0, 1, 0x0, 0xFFFFFFFF, 0x0, 0x0, 0x0⟩,
  ⟨0x1C, 1, 0x0, 1, 0x0, 0x0, 0x3F, 0x0, 0x0⟩,
  ⟨0x20, 1, 0x0, 1, 0x0, 0x0, 0x0, 0xFFFF0006, 0x0⟩,
  ⟨0x24, 1, 0x0, 1, 0x0, 0x0, 0x0, 0x0, 0x0⟩,
  ⟨0x28, 1, 0x0, 1, 0x0, 0x0, 0x0, 0x0, 0x0⟩,
  ⟨0x2C, 1, 0x0, 1, 0x0, 0xFFF, 0x0, 0x0, 0x1E4⟩,
  ⟨0x30, 1, 0x0, 1, 0x0, 0x0, 0x0, 0x0, 0x0⟩,
  ⟨0x34, 1, 0x0, 1, 0x0, 0x0, 0x0, 0x0, 0x0⟩,
  ⟨0x40, 16, 0x10, 1, 0x0, 0xFFFFFFFF, 0x0, 0x0, 0x3E8⟩,
  ⟨0x44, 16, 0x10, 1, 0x0, 0x3FFFFFFF, 0x0, 0x0, 0x0⟩,
  ⟨0x48, 16, 0x10, 1, 0x0, 0xFFFFF3FF, 0x0, 0x0, 0x1401400A⟩,
  ⟨0x4C, 16, 0x10, 1, 0x0, 0x0, 0x0, 0x0, 0x0⟩,
  ⟨0x140, 1, 0x0, 1, 0x0, 0xC0007FFC, 0x0, 0x0, 0x0⟩,
  ⟨0x144, 1, 0x0, 1, 0x0, 0xFFFFFFFF, 0x0, 0x0, 0x0⟩]
def TINDER.rows1 : List RegRow := [
  ⟨0x148, 1, 0x0, 1, 0x0, 0x0, 0x0, 0xFFF00001, 0x0⟩,
  ⟨0x14C, 1, 0x0, 1, 0x0, 0x0, 0x6, 0x0, 0x0⟩]
def TINDER.rows : List RegRow := TINDER.rows0 ++ TINDER.rows1

/-! ## CLOCK -/

/-- CLOCK ID (+0x000), R28. -/
def CLOCK.ID : Nat := 0x20000
def CLOCK.ID_CODE : Fld := ⟨CLOCK.ID, 16, 16⟩
def CLOCK.ID_VERSION : Fld := ⟨CLOCK.ID, 0, 16⟩
/-- CLOCK CTRL (+0x004), R30. -/
def CLOCK.CTRL : Nat := 0x20004
def CLOCK.CTRL_ENABLE : Fld := ⟨CLOCK.CTRL, 0, 1⟩
def CLOCK.CTRL_FORCE_ARM : Fld := ⟨CLOCK.CTRL, 1, 1⟩
/-- CLOCK STATUS (+0x008), R30. -/
def CLOCK.STATUS : Nat := 0x20008
def CLOCK.STATUS_ENABLED : Fld := ⟨CLOCK.STATUS, 0, 1⟩
def CLOCK.STATUS_DISABLE_PENDING : Fld := ⟨CLOCK.STATUS, 1, 1⟩
def CLOCK.STATUS_FAULT_ANY : Fld := ⟨CLOCK.STATUS, 2, 1⟩
/-- CLOCK FAULT (+0x00C), R31. -/
def CLOCK.FAULT : Nat := 0x2000C
def CLOCK.FAULT_COAST_EXPIRED : Fld := ⟨CLOCK.FAULT, 16, 6⟩
def CLOCK.FAULT_XTAL_LOST : Fld := ⟨CLOCK.FAULT, 8, 1⟩
def CLOCK.FAULT_PLL_UNLOCK : Fld := ⟨CLOCK.FAULT, 0, 5⟩
/-- CLOCK FAULT_FORCE (+0x010), R32. -/
def CLOCK.FAULT_FORCE : Nat := 0x20010
def CLOCK.FAULT_FORCE_BITS : Fld := ⟨CLOCK.FAULT_FORCE, 0, 32⟩
/-- CLOCK INT_EN (+0x018), R33. -/
def CLOCK.INT_EN : Nat := 0x20018
def CLOCK.INT_EN_BITS : Fld := ⟨CLOCK.INT_EN, 0, 32⟩
/-- CLOCK INT_STAT (+0x01C), R33. -/
def CLOCK.INT_STAT : Nat := 0x2001C
def CLOCK.INT_STAT_FAULT_EV : Fld := ⟨CLOCK.INT_STAT, 0, 1⟩
def CLOCK.INT_STAT_GATED_EV : Fld := ⟨CLOCK.INT_STAT, 6, 1⟩
def CLOCK.INT_STAT_STEP_CLAMP_EV : Fld := ⟨CLOCK.INT_STAT, 5, 1⟩
def CLOCK.INT_STAT_COAST_END_EV : Fld := ⟨CLOCK.INT_STAT, 4, 1⟩
def CLOCK.INT_STAT_COAST_START_EV : Fld := ⟨CLOCK.INT_STAT, 3, 1⟩
def CLOCK.INT_STAT_SYN_UNLOCK_EV : Fld := ⟨CLOCK.INT_STAT, 2, 1⟩
def CLOCK.INT_STAT_SYN_LOCK_EV : Fld := ⟨CLOCK.INT_STAT, 1, 1⟩
/-- CLOCK PLL_CFG (+0x020), R147. -/
def CLOCK.PLL_CFG (n : Nat) : Nat := 0x20020 + n * 0x10
def CLOCK.PLL_CFG_FRAC (n : Nat) : Fld := ⟨CLOCK.PLL_CFG n, 8, 24⟩
def CLOCK.PLL_CFG_NINT (n : Nat) : Fld := ⟨CLOCK.PLL_CFG n, 0, 8⟩
/-- CLOCK PLL_DITHER (+0x024), R147. -/
def CLOCK.PLL_DITHER (n : Nat) : Nat := 0x20024 + n * 0x10
def CLOCK.PLL_DITHER_DITHER_EN (n : Nat) : Fld := ⟨CLOCK.PLL_DITHER n, 31, 1⟩
def CLOCK.PLL_DITHER_SEED (n : Nat) : Fld := ⟨CLOCK.PLL_DITHER n, 0, 16⟩
/-- CLOCK PLL_STATUS (+0x028), R147. -/
def CLOCK.PLL_STATUS (n : Nat) : Nat := 0x20028 + n * 0x10
def CLOCK.PLL_STATUS_REF_OK (n : Nat) : Fld := ⟨CLOCK.PLL_STATUS n, 3, 1⟩
def CLOCK.PLL_STATUS_HOLDOVER (n : Nat) : Fld := ⟨CLOCK.PLL_STATUS n, 2, 1⟩
def CLOCK.PLL_STATUS_ACQUIRING (n : Nat) : Fld := ⟨CLOCK.PLL_STATUS n, 1, 1⟩
def CLOCK.PLL_STATUS_LOCKED (n : Nat) : Fld := ⟨CLOCK.PLL_STATUS n, 0, 1⟩
/-- CLOCK MON_CTRL (+0x070), R147. -/
def CLOCK.MON_CTRL : Nat := 0x20070
def CLOCK.MON_CTRL_MON_DIV : Fld := ⟨CLOCK.MON_CTRL, 16, 16⟩
def CLOCK.MON_CTRL_MON_SEL : Fld := ⟨CLOCK.MON_CTRL, 0, 5⟩
/-- CLOCK SYN_CTRL (+0x100), R147. -/
def CLOCK.SYN_CTRL (n : Nat) : Nat := 0x20100 + n * 0x20
def CLOCK.SYN_CTRL_FACETS (n : Nat) : Fld := ⟨CLOCK.SYN_CTRL n, 24, 4⟩
def CLOCK.SYN_CTRL_COAST_EDGES (n : Nat) : Fld := ⟨CLOCK.SYN_CTRL n, 16, 6⟩
def CLOCK.SYN_CTRL_BW_SHIFT (n : Nat) : Fld := ⟨CLOCK.SYN_CTRL n, 12, 4⟩
def CLOCK.SYN_CTRL_ENABLE (n : Nat) : Fld := ⟨CLOCK.SYN_CTRL n, 0, 1⟩
/-- CLOCK SYN_PERIOD (+0x104), R147. -/
def CLOCK.SYN_PERIOD (n : Nat) : Nat := 0x20104 + n * 0x20
def CLOCK.SYN_PERIOD_DOTS (n : Nat) : Fld := ⟨CLOCK.SYN_PERIOD n, 8, 24⟩
def CLOCK.SYN_PERIOD_DOTS_FRAC (n : Nat) : Fld := ⟨CLOCK.SYN_PERIOD n, 0, 8⟩
/-- CLOCK SYN_TOL (+0x108), R147. -/
def CLOCK.SYN_TOL (n : Nat) : Nat := 0x20108 + n * 0x20
def CLOCK.SYN_TOL_WINDOW (n : Nat) : Fld := ⟨CLOCK.SYN_TOL n, 20, 12⟩
def CLOCK.SYN_TOL_UNLOCK_TOL (n : Nat) : Fld := ⟨CLOCK.SYN_TOL n, 10, 10⟩
def CLOCK.SYN_TOL_LOCK_TOL (n : Nat) : Fld := ⟨CLOCK.SYN_TOL n, 0, 10⟩
/-- CLOCK SYN_STATUS (+0x10C), R147. -/
def CLOCK.SYN_STATUS (n : Nat) : Nat := 0x2010C + n * 0x20
def CLOCK.SYN_STATUS_COAST_COUNT (n : Nat) : Fld := ⟨CLOCK.SYN_STATUS n, 24, 8⟩
def CLOCK.SYN_STATUS_STEP_CLAMP (n : Nat) : Fld := ⟨CLOCK.SYN_STATUS n, 19, 1⟩
def CLOCK.SYN_STATUS_GATED (n : Nat) : Fld := ⟨CLOCK.SYN_STATUS n, 18, 1⟩
def CLOCK.SYN_STATUS_COASTING (n : Nat) : Fld := ⟨CLOCK.SYN_STATUS n, 17, 1⟩
def CLOCK.SYN_STATUS_LOCKED (n : Nat) : Fld := ⟨CLOCK.SYN_STATUS n, 16, 1⟩
def CLOCK.SYN_STATUS_LOCK_COUNT (n : Nat) : Fld := ⟨CLOCK.SYN_STATUS n, 0, 9⟩
/-- CLOCK SYN_FCW_LO (+0x110), R147. -/
def CLOCK.SYN_FCW_LO (n : Nat) : Nat := 0x20110 + n * 0x20
def CLOCK.SYN_FCW_LO_FCW_LO (n : Nat) : Fld := ⟨CLOCK.SYN_FCW_LO n, 0, 32⟩
/-- CLOCK SYN_FCW_HI (+0x114), R147. -/
def CLOCK.SYN_FCW_HI (n : Nat) : Nat := 0x20114 + n * 0x20
def CLOCK.SYN_FCW_HI_FCW_HI (n : Nat) : Fld := ⟨CLOCK.SYN_FCW_HI n, 0, 16⟩
/-- CLOCK SYN_PHASE_ERR (+0x118), R147. -/
def CLOCK.SYN_PHASE_ERR (n : Nat) : Nat := 0x20118 + n * 0x20
def CLOCK.SYN_PHASE_ERR_ERR (n : Nat) : Fld := ⟨CLOCK.SYN_PHASE_ERR n, 0, 32⟩
/-- CLOCK GCLK_DIV (+0x200), R147. -/
def CLOCK.GCLK_DIV (n : Nat) : Nat := 0x20200 + n * 0x10
def CLOCK.GCLK_DIV_DIV_INT (n : Nat) : Fld := ⟨CLOCK.GCLK_DIV n, 8, 24⟩
def CLOCK.GCLK_DIV_DIV_FRAC (n : Nat) : Fld := ⟨CLOCK.GCLK_DIV n, 0, 8⟩
/-- CLOCK GCLK_CTRL (+0x204), R147. -/
def CLOCK.GCLK_CTRL (n : Nat) : Nat := 0x20204 + n * 0x10
def CLOCK.GCLK_CTRL_DELAY (n : Nat) : Fld := ⟨CLOCK.GCLK_CTRL n, 16, 16⟩
def CLOCK.GCLK_CTRL_CAL_RESET_EN (n : Nat) : Fld := ⟨CLOCK.GCLK_CTRL n, 3, 1⟩
def CLOCK.GCLK_CTRL_SYNC_EN (n : Nat) : Fld := ⟨CLOCK.GCLK_CTRL n, 2, 1⟩
def CLOCK.GCLK_CTRL_PHASE_RESET (n : Nat) : Fld := ⟨CLOCK.GCLK_CTRL n, 1, 1⟩
def CLOCK.GCLK_CTRL_ENABLE (n : Nat) : Fld := ⟨CLOCK.GCLK_CTRL n, 0, 1⟩
/-- CLOCK GCLK_STATUS (+0x208), R147. -/
def CLOCK.GCLK_STATUS (n : Nat) : Nat := 0x20208 + n * 0x10
def CLOCK.GCLK_STATUS_GATED (n : Nat) : Fld := ⟨CLOCK.GCLK_STATUS n, 1, 1⟩
def CLOCK.GCLK_STATUS_RUNNING (n : Nat) : Fld := ⟨CLOCK.GCLK_STATUS n, 0, 1⟩

/-- The registers of the CLOCK block, in the order of the spec's tables (chapter 06). -/
def CLOCK.rows0 : List RegRow := [
  ⟨0x0, 1, 0x0, 1, 0x0, 0x0, 0x0, 0x0, 0x0⟩,
  ⟨0x4, 1, 0x0, 1, 0x0, 0x2, 0x0, 0x0, 0x1⟩,
  ⟨0x8, 1, 0x0, 1, 0x0, 0x0, 0x0, 0x0, 0x1⟩,
  ⟨0xC, 1, 0x0, 1, 0x0, 0x0, 0x3F011F, 0x0, 0x0⟩,
  ⟨0x10, 1, 0x0, 1, 0x0, 0x0, 0x0, 0xFFFFFFFF, 0x0⟩,
  ⟨0x14, 1, 0x0, 1, 0x0, 0x0, 0x0, 0x0, 0x0⟩,
  ⟨0x18, 1, 0x0, 1, 0x0, 0xFFFFFFFF, 0x0, 0x0, 0x0⟩,
  ⟨0x1C, 1, 0x0, 1, 0x0, 0x0, 0x7F, 0x0, 0x0⟩,
  ⟨0x20, 5, 0x10, 1, 0x0, 0xFFFFFFFF, 0x0, 0x0, 0x0⟩,
  ⟨0x24, 5, 0x10, 1, 0x0, 0x8000FFFF, 0x0, 0x0, 0x0⟩,
  ⟨0x28, 5, 0x10, 1, 0x0, 0x0, 0x0, 0x0, 0x0⟩,
  ⟨0x70, 1, 0x0, 1, 0x0, 0xFFFF001F, 0x0, 0x0, 0x0⟩,
  ⟨0x100, 6, 0x20, 1, 0x0, 0xF3FF001, 0x0, 0x0, 0x80F7000⟩,
  ⟨0x104, 6, 0x20, 1, 0x0, 0xFFFFFFFF, 0x0, 0x0, 0x0⟩,
  ⟨0x108, 6, 0x20, 1, 0x0, 0xFFFFFFFF, 0x0, 0x0, 0x10040040⟩,
  ⟨0x10C, 6, 0x20, 1, 0x0, 0x0, 0x80000, 0x0, 0x0⟩,
  ⟨0x110, 6, 0x20, 1, 0x0, 0x0, 0x0, 0x0, 0x0⟩,
  ⟨0x114, 6, 0x20, 1, 0x0, 0x0, 0x0, 0x0, 0x0⟩,
  ⟨0x118, 6, 0x20, 1, 0x0, 0x0, 0x0, 0x0, 0x0⟩,
  ⟨0x200, 24, 0x10, 1, 0x0, 0xFFFFFFFF, 0x0, 0x0, 0x7D00⟩]
def CLOCK.rows1 : List RegRow := [
  ⟨0x204, 24, 0x10, 1, 0x0, 0xFFFF000D, 0x0, 0x2, 0x0⟩,
  ⟨0x208, 24, 0x10, 1, 0x0, 0x0, 0x2, 0x0, 0x0⟩]
def CLOCK.rows : List RegRow := CLOCK.rows0 ++ CLOCK.rows1

/-! ## GAUGE -/

/-- GAUGE ID (+0x000), R28. -/
def GAUGE.ID : Nat := 0x30000
def GAUGE.ID_CODE : Fld := ⟨GAUGE.ID, 16, 16⟩
def GAUGE.ID_VERSION : Fld := ⟨GAUGE.ID, 0, 16⟩
/-- GAUGE CTRL (+0x004), R30. -/
def GAUGE.CTRL : Nat := 0x30004
def GAUGE.CTRL_ENABLE : Fld := ⟨GAUGE.CTRL, 0, 1⟩
def GAUGE.CTRL_FORCE_ARM : Fld := ⟨GAUGE.CTRL, 1, 1⟩
/-- GAUGE STATUS (+0x008), R30. -/
def GAUGE.STATUS : Nat := 0x30008
def GAUGE.STATUS_ENABLED : Fld := ⟨GAUGE.STATUS, 0, 1⟩
def GAUGE.STATUS_DISABLE_PENDING : Fld := ⟨GAUGE.STATUS, 1, 1⟩
def GAUGE.STATUS_FAULT_ANY : Fld := ⟨GAUGE.STATUS, 2, 1⟩
/-- GAUGE FAULT (+0x00C), R31. -/
def GAUGE.FAULT : Nat := 0x3000C
def GAUGE.FAULT_FACET_ID_FAIL : Fld := ⟨GAUGE.FAULT, 5, 1⟩
def GAUGE.FAULT_REMOTE_FAULT : Fld := ⟨GAUGE.FAULT, 4, 1⟩
def GAUGE.FAULT_VIRTUAL_FAULT : Fld := ⟨GAUGE.FAULT, 3, 1⟩
def GAUGE.FAULT_MAINS_FAULT : Fld := ⟨GAUGE.FAULT, 2, 1⟩
def GAUGE.FAULT_AUX_FAULT : Fld := ⟨GAUGE.FAULT, 1, 1⟩
def GAUGE.FAULT_ENC_FAULT : Fld := ⟨GAUGE.FAULT, 0, 1⟩
/-- GAUGE FAULT_FORCE (+0x010), R32. -/
def GAUGE.FAULT_FORCE : Nat := 0x30010
def GAUGE.FAULT_FORCE_BITS : Fld := ⟨GAUGE.FAULT_FORCE, 0, 32⟩
/-- GAUGE INT_EN (+0x018), R33. -/
def GAUGE.INT_EN : Nat := 0x30018
def GAUGE.INT_EN_BITS : Fld := ⟨GAUGE.INT_EN, 0, 32⟩
/-- GAUGE INT_STAT (+0x01C), R33. -/
def GAUGE.INT_STAT : Nat := 0x3001C
def GAUGE.INT_STAT_FAULT_EV : Fld := ⟨GAUGE.INT_STAT, 0, 1⟩
def GAUGE.INT_STAT_FACET_EV : Fld := ⟨GAUGE.INT_STAT, 5, 1⟩
def GAUGE.INT_STAT_CAPTURE_EV : Fld := ⟨GAUGE.INT_STAT, 4, 1⟩
def GAUGE.INT_STAT_COAST_EV : Fld := ⟨GAUGE.INT_STAT, 3, 1⟩
def GAUGE.INT_STAT_UNLOCK_EV : Fld := ⟨GAUGE.INT_STAT, 2, 1⟩
def GAUGE.INT_STAT_LOCK_EV : Fld := ⟨GAUGE.INT_STAT, 1, 1⟩
/-- GAUGE HOLD_LO (+0x020), R180. -/
def GAUGE.HOLD_LO : Nat := 0x30020
def GAUGE.HOLD_LO_HELD : Fld := ⟨GAUGE.HOLD_LO, 0, 32⟩
/-- GAUGE HOLD_HI (+0x024), R180. -/
def GAUGE.HOLD_HI : Nat := 0x30024
def GAUGE.HOLD_HI_HELD : Fld := ⟨GAUGE.HOLD_HI, 0, 32⟩
/-- GAUGE CMD (+0x028), R180. -/
def GAUGE.CMD : Nat := 0x30028
def GAUGE.CMD_PRESET : Fld := ⟨GAUGE.CMD, 10, 1⟩
def GAUGE.CMD_FLUSH : Fld := ⟨GAUGE.CMD, 9, 1⟩
def GAUGE.CMD_RESUME : Fld := ⟨GAUGE.CMD, 8, 1⟩
def GAUGE.CMD_GAUGE : Fld := ⟨GAUGE.CMD, 0, 6⟩
/-- GAUGE PRESET_LO (+0x02C), R180. -/
def GAUGE.PRESET_LO : Nat := 0x3002C
def GAUGE.PRESET_LO_VALUE : Fld := ⟨GAUGE.PRESET_LO, 0, 32⟩
/-- GAUGE PRESET_HI (+0x030), R180. -/
def GAUGE.PRESET_HI : Nat := 0x30030
def GAUGE.PRESET_HI_VALUE : Fld := ⟨GAUGE.PRESET_HI, 0, 32⟩
/-- GAUGE CMD_STATUS (+0x034), R180. -/
def GAUGE.CMD_STATUS : Nat := 0x30034
def GAUGE.CMD_STATUS_REFUSED : Fld := ⟨GAUGE.CMD_STATUS, 0, 1⟩
/-- GAUGE FORCE_SEL (+0x038), R180. -/
def GAUGE.FORCE_SEL : Nat := 0x30038
def GAUGE.FORCE_SEL_STATION : Fld := ⟨GAUGE.FORCE_SEL, 16, 3⟩
def GAUGE.FORCE_SEL_KIND : Fld := ⟨GAUGE.FORCE_SEL, 8, 3⟩
def GAUGE.FORCE_SEL_GAUGE : Fld := ⟨GAUGE.FORCE_SEL, 0, 6⟩
/-- GAUGE RAW (+0x040), R180. -/
def GAUGE.RAW (n : Nat) : Nat := 0x30040 + n * 0x4
def GAUGE.RAW_RAW (n : Nat) : Fld := ⟨GAUGE.RAW n, 0, 32⟩
/-- GAUGE INDEX_LATCH (+0x080), R180. -/
def GAUGE.INDEX_LATCH (n : Nat) : Nat := 0x30080 + n * 0x4
def GAUGE.INDEX_LATCH_LATCH (n : Nat) : Fld := ⟨GAUGE.INDEX_LATCH n, 0, 32⟩
/-- GAUGE G_CFG (+0x100), R180. -/
def GAUGE.G_CFG (n : Nat) : Nat := 0x30100 + n * 0x20
def GAUGE.G_CFG_INDEX_PERIOD (n : Nat) : Fld := ⟨GAUGE.G_CFG n, 16, 16⟩
def GAUGE.G_CFG_Z_HOME (n : Nat) : Fld := ⟨GAUGE.G_CFG n, 6, 1⟩
def GAUGE.G_CFG_SWAP_AB (n : Nat) : Fld := ⟨GAUGE.G_CFG n, 5, 1⟩
def GAUGE.G_CFG_CRITICAL (n : Nat) : Fld := ⟨GAUGE.G_CFG n, 4, 1⟩
def GAUGE.G_CFG_DIR_EXPECT (n : Nat) : Fld := ⟨GAUGE.G_CFG n, 2, 2⟩
def GAUGE.G_CFG_ENABLE (n : Nat) : Fld := ⟨GAUGE.G_CFG n, 0, 1⟩
/-- GAUGE G_SCALE (+0x104), R180. -/
def GAUGE.G_SCALE (n : Nat) : Nat := 0x30104 + n * 0x20
def GAUGE.G_SCALE_SCALE (n : Nat) : Fld := ⟨GAUGE.G_SCALE n, 0, 32⟩
/-- GAUGE G_TRACK (+0x108), R180. -/
def GAUGE.G_TRACK (n : Nat) : Nat := 0x30108 + n * 0x20
def GAUGE.G_TRACK_GAP_TOL (n : Nat) : Fld := ⟨GAUGE.G_TRACK n, 16, 16⟩
def GAUGE.G_TRACK_LOCK_TOL (n : Nat) : Fld := ⟨GAUGE.G_TRACK n, 8, 8⟩
def GAUGE.G_TRACK_BW_SHIFT (n : Nat) : Fld := ⟨GAUGE.G_TRACK n, 0, 4⟩
/-- GAUGE G_LIMITS (+0x10C), R180. -/
def GAUGE.G_LIMITS (n : Nat) : Nat := 0x3010C + n * 0x20
def GAUGE.G_LIMITS_REV_LIMIT (n : Nat) : Fld := ⟨GAUGE.G_LIMITS n, 16, 8⟩
def GAUGE.G_LIMITS_MIN_RATE (n : Nat) : Fld := ⟨GAUGE.G_LIMITS n, 0, 16⟩
/-- GAUGE G_STATUS (+0x110), R180. -/
def GAUGE.G_STATUS (n : Nat) : Nat := 0x30110 + n * 0x20
def GAUGE.G_STATUS_FAULT_KIND (n : Nat) : Fld := ⟨GAUGE.G_STATUS n, 20, 3⟩
def GAUGE.G_STATUS_HELD (n : Nat) : Fld := ⟨GAUGE.G_STATUS n, 15, 1⟩
def GAUGE.G_STATUS_STILL (n : Nat) : Fld := ⟨GAUGE.G_STATUS n, 14, 1⟩
def GAUGE.G_STATUS_COASTING (n : Nat) : Fld := ⟨GAUGE.G_STATUS n, 13, 1⟩
def GAUGE.G_STATUS_LOCKED (n : Nat) : Fld := ⟨GAUGE.G_STATUS n, 12, 1⟩
def GAUGE.G_STATUS_LOCK_COUNT (n : Nat) : Fld := ⟨GAUGE.G_STATUS n, 0, 9⟩
/-- GAUGE G_POS_LO (+0x114), R180. -/
def GAUGE.G_POS_LO (n : Nat) : Nat := 0x30114 + n * 0x20
def GAUGE.G_POS_LO_POS_LO (n : Nat) : Fld := ⟨GAUGE.G_POS_LO n, 0, 32⟩
/-- GAUGE G_POS_HI (+0x118), R180. -/
def GAUGE.G_POS_HI (n : Nat) : Nat := 0x30118 + n * 0x20
def GAUGE.G_POS_HI_POS_HI (n : Nat) : Fld := ⟨GAUGE.G_POS_HI n, 0, 32⟩
/-- GAUGE G_RATE (+0x11C), R180. -/
def GAUGE.G_RATE (n : Nat) : Nat := 0x3011C + n * 0x20
def GAUGE.G_RATE_RATE (n : Nat) : Fld := ⟨GAUGE.G_RATE n, 0, 32⟩
/-- GAUGE VG_SRC (+0x900), R180. -/
def GAUGE.VG_SRC (n : Nat) : Nat := 0x30900 + n * 0x20
def GAUGE.VG_SRC_B_EN (n : Nat) : Fld := ⟨GAUGE.VG_SRC n, 15, 1⟩
def GAUGE.VG_SRC_B (n : Nat) : Fld := ⟨GAUGE.VG_SRC n, 8, 7⟩
def GAUGE.VG_SRC_A (n : Nat) : Fld := ⟨GAUGE.VG_SRC n, 0, 6⟩
/-- GAUGE VG_C1 (+0x904), R180. -/
def GAUGE.VG_C1 (n : Nat) : Nat := 0x30904 + n * 0x20
def GAUGE.VG_C1_COEF (n : Nat) : Fld := ⟨GAUGE.VG_C1 n, 0, 32⟩
/-- GAUGE VG_C2 (+0x908), R180. -/
def GAUGE.VG_C2 (n : Nat) : Nat := 0x30908 + n * 0x20
def GAUGE.VG_C2_COEF (n : Nat) : Fld := ⟨GAUGE.VG_C2 n, 0, 32⟩
/-- GAUGE VG_OFF_LO (+0x90C), R180. -/
def GAUGE.VG_OFF_LO (n : Nat) : Nat := 0x3090C + n * 0x20
def GAUGE.VG_OFF_LO_OFFSET (n : Nat) : Fld := ⟨GAUGE.VG_OFF_LO n, 0, 32⟩
/-- GAUGE VG_OFF_HI (+0x910), R180. -/
def GAUGE.VG_OFF_HI (n : Nat) : Nat := 0x30910 + n * 0x20
def GAUGE.VG_OFF_HI_OFFSET (n : Nat) : Fld := ⟨GAUGE.VG_OFF_HI n, 0, 32⟩
/-- GAUGE VG_COMMIT (+0x914), R180. -/
def GAUGE.VG_COMMIT (n : Nat) : Nat := 0x30914 + n * 0x20
def GAUGE.VG_COMMIT_COMMIT (n : Nat) : Fld := ⟨GAUGE.VG_COMMIT n, 0, 1⟩
/-- GAUGE RG_SRC (+0xB00), R180. -/
def GAUGE.RG_SRC (n : Nat) : Nat := 0x30B00 + n * 0x10
def GAUGE.RG_SRC_EN (n : Nat) : Fld := ⟨GAUGE.RG_SRC n, 8, 1⟩
def GAUGE.RG_SRC_SRC_DEV (n : Nat) : Fld := ⟨GAUGE.RG_SRC n, 6, 2⟩
def GAUGE.RG_SRC_SRC_GAUGE (n : Nat) : Fld := ⟨GAUGE.RG_SRC n, 0, 6⟩
/-- GAUGE RG_LAT (+0xB04), R180. -/
def GAUGE.RG_LAT (n : Nat) : Nat := 0x30B04 + n * 0x10
def GAUGE.RG_LAT_LAT (n : Nat) : Fld := ⟨GAUGE.RG_LAT n, 0, 10⟩
/-- GAUGE CAP_CFG (+0xC00), R180. -/
def GAUGE.CAP_CFG (n : Nat) : Nat := 0x30C00 + n * 0x10
def GAUGE.CAP_CFG_PIN (n : Nat) : Fld := ⟨GAUGE.CAP_CFG n, 27, 5⟩
def GAUGE.CAP_CFG_OVERRUN (n : Nat) : Fld := ⟨GAUGE.CAP_CFG n, 17, 1⟩
def GAUGE.CAP_CFG_MSG_EN (n : Nat) : Fld := ⟨GAUGE.CAP_CFG n, 16, 1⟩
def GAUGE.CAP_CFG_MSG_CORE (n : Nat) : Fld := ⟨GAUGE.CAP_CFG n, 10, 6⟩
def GAUGE.CAP_CFG_EDGE (n : Nat) : Fld := ⟨GAUGE.CAP_CFG n, 8, 2⟩
def GAUGE.CAP_CFG_INPUT (n : Nat) : Fld := ⟨GAUGE.CAP_CFG n, 6, 2⟩
def GAUGE.CAP_CFG_GAUGE (n : Nat) : Fld := ⟨GAUGE.CAP_CFG n, 0, 6⟩
/-- GAUGE CAP_POS_LO (+0xC04), R180. -/
def GAUGE.CAP_POS_LO (n : Nat) : Nat := 0x30C04 + n * 0x10
def GAUGE.CAP_POS_LO_POS (n : Nat) : Fld := ⟨GAUGE.CAP_POS_LO n, 0, 32⟩
/-- GAUGE CAP_POS_HI (+0xC08), R180. -/
def GAUGE.CAP_POS_HI (n : Nat) : Nat := 0x30C08 + n * 0x10
def GAUGE.CAP_POS_HI_POS (n : Nat) : Fld := ⟨GAUGE.CAP_POS_HI n, 0, 32⟩
/-- GAUGE FID_CTRL (+0xD00), R180. -/
def GAUGE.FID_CTRL (n : Nat) : Nat := 0x30D00 + n * 0x20
def GAUGE.FID_CTRL_MARGIN (n : Nat) : Fld := ⟨GAUGE.FID_CTRL n, 8, 4⟩
def GAUGE.FID_CTRL_ASSUME (n : Nat) : Fld := ⟨GAUGE.FID_CTRL n, 1, 1⟩
def GAUGE.FID_CTRL_RESTART (n : Nat) : Fld := ⟨GAUGE.FID_CTRL n, 0, 1⟩
/-- GAUGE FID_STATUS (+0xD04), R180. -/
def GAUGE.FID_STATUS (n : Nat) : Nat := 0x30D04 + n * 0x20
def GAUGE.FID_STATUS_RUNS (n : Nat) : Fld := ⟨GAUGE.FID_STATUS n, 8, 2⟩
def GAUGE.FID_STATUS_FACET_OFFSET (n : Nat) : Fld := ⟨GAUGE.FID_STATUS n, 4, 4⟩
def GAUGE.FID_STATUS_FACET_VALID (n : Nat) : Fld := ⟨GAUGE.FID_STATUS n, 0, 1⟩
/-- GAUGE FID_SIG (+0xD08), chapter 07. -/
def GAUGE.FID_SIG (n k : Nat) : Nat := 0x30D08 + n * 0x20 + k * 0x4
def GAUGE.FID_SIG_SIG1 (n k : Nat) : Fld := ⟨GAUGE.FID_SIG n k, 16, 16⟩
def GAUGE.FID_SIG_SIG0 (n k : Nat) : Fld := ⟨GAUGE.FID_SIG n k, 0, 16⟩
/-- GAUGE MK_CFG (+0xE00), R442. -/
def GAUGE.MK_CFG (n : Nat) : Nat := 0x30E00 + n * 0x10
def GAUGE.MK_CFG_HYST (n : Nat) : Fld := ⟨GAUGE.MK_CFG n, 16, 12⟩
def GAUGE.MK_CFG_THRESH (n : Nat) : Fld := ⟨GAUGE.MK_CFG n, 0, 12⟩
/-- GAUGE MK_DEST (+0xE04), R442. -/
def GAUGE.MK_DEST (n : Nat) : Nat := 0x30E04 + n * 0x10
def GAUGE.MK_DEST_FALL_EN (n : Nat) : Fld := ⟨GAUGE.MK_DEST n, 26, 1⟩
def GAUGE.MK_DEST_RISE_EN (n : Nat) : Fld := ⟨GAUGE.MK_DEST n, 25, 1⟩
def GAUGE.MK_DEST_EN (n : Nat) : Fld := ⟨GAUGE.MK_DEST n, 24, 1⟩
def GAUGE.MK_DEST_GAUGE (n : Nat) : Fld := ⟨GAUGE.MK_DEST n, 16, 6⟩
def GAUGE.MK_DEST_HANDLE (n : Nat) : Fld := ⟨GAUGE.MK_DEST n, 0, 16⟩
/-- GAUGE MK_CTRL (+0xE08), R442. -/
def GAUGE.MK_CTRL (n : Nat) : Nat := 0x30E08 + n * 0x10
def GAUGE.MK_CTRL_GATE (n : Nat) : Fld := ⟨GAUGE.MK_CTRL n, 0, 1⟩
/-- GAUGE MK_STATUS (+0xE0C), R442. -/
def GAUGE.MK_STATUS (n : Nat) : Nat := 0x30E0C + n * 0x10
def GAUGE.MK_STATUS_LOST (n : Nat) : Fld := ⟨GAUGE.MK_STATUS n, 0, 32⟩

/-- The registers of the GAUGE block, in the order of the spec's tables (chapter 07). -/
def GAUGE.rows0 : List RegRow := [
  ⟨0x0, 1, 0x0, 1, 0x0, 0x0, 0x0, 0x0, 0x0⟩,
  ⟨0x4, 1, 0x0, 1, 0x0, 0x2, 0x0, 0x0, 0x1⟩,
  ⟨0x8, 1, 0x0, 1, 0x0, 0x0, 0x0, 0x0, 0x1⟩,
  ⟨0xC, 1, 0x0, 1, 0x0, 0x0, 0x3F, 0x0, 0x0⟩,
  ⟨0x10, 1, 0x0, 1, 0x0, 0x0, 0x0, 0xFFFFFFFF, 0x0⟩,
  ⟨0x14, 1, 0x0, 1, 0x0, 0x0, 0x0, 0x0, 0x0⟩,
  ⟨0x18, 1, 0x0, 1, 0x0, 0xFFFFFFFF, 0x0, 0x0, 0x0⟩,
  ⟨0x1C, 1, 0x0, 1, 0x0, 0x0, 0x3F, 0x0, 0x0⟩,
  ⟨0x20, 1, 0x0, 1, 0x0, 0x0, 0x0, 0x0, 0x0⟩,
  ⟨0x24, 1, 0x0, 1, 0x0, 0x0, 0x0, 0x0, 0x0⟩,
  ⟨0x28, 1, 0x0, 1, 0x0, 0x3F, 0x0, 0x700, 0x0⟩,
  ⟨0x2C, 1, 0x0, 1, 0x0, 0xFFFFFFFF, 0x0, 0x0, 0x0⟩,
  ⟨0x30, 1, 0x0, 1, 0x0, 0xFFFFFFFF, 0x0, 0x0, 0x0⟩,
  ⟨0x34, 1, 0x0, 1, 0x0, 0x0, 0x1, 0x0, 0x0⟩,
  ⟨0x38, 1, 0x0, 1, 0x0, 0x7073F, 0x0, 0x0, 0x0⟩,
  ⟨0x40, 16, 0x4, 1, 0x0, 0x0, 0x0, 0x0, 0x0⟩,
  ⟨0x80, 16, 0x4, 1, 0x0, 0x0, 0x0, 0x0, 0x0⟩,
  ⟨0x100, 64, 0x20, 1, 0x0, 0xFFFF007D, 0x0, 0x0, 0x0⟩,
  ⟨0x104, 64, 0x20, 1, 0x0, 0xFFFFFFFF, 0x0, 0x0, 0x0⟩,
  ⟨0x108, 64, 0x20, 1, 0x0, 0xFFFFFF0F, 0x0, 0x0, 0x2000⟩]
def GAUGE.rows1 : List RegRow := [
  ⟨0x10C, 64, 0x20, 1, 0x0, 0xFFFFFF, 0x0, 0x0, 0x30000⟩,
  ⟨0x110, 64, 0x20, 1, 0x0, 0x0, 0x0, 0x0, 0x0⟩,
  ⟨0x114, 64, 0x20, 1, 0x0, 0x0, 0x0, 0x0, 0x0⟩,
  ⟨0x118, 64, 0x20, 1, 0x0, 0x0, 0x0, 0x0, 0x0⟩,
  ⟨0x11C, 64, 0x20, 1, 0x0, 0x0, 0x0, 0x0, 0x0⟩,
  ⟨0x900, 16, 0x20, 1, 0x0, 0xBF3F, 0x0, 0x0, 0x0⟩,
  ⟨0x904, 16, 0x20, 1, 0x0, 0xFFFFFFFF, 0x0, 0x0, 0x0⟩,
  ⟨0x908, 16, 0x20, 1, 0x0, 0xFFFFFFFF, 0x0, 0x0, 0x0⟩,
  ⟨0x90C, 16, 0x20, 1, 0x0, 0xFFFFFFFF, 0x0, 0x0, 0x0⟩,
  ⟨0x910, 16, 0x20, 1, 0x0, 0xFFFFFFFF, 0x0, 0x0, 0x0⟩,
  ⟨0x914, 16, 0x20, 1, 0x0, 0x0, 0x0, 0x1, 0x0⟩,
  ⟨0xB00, 16, 0x10, 1, 0x0, 0x1FF, 0x0, 0x0, 0x0⟩,
  ⟨0xB04, 16, 0x10, 1, 0x0, 0x0, 0x0, 0x0, 0x0⟩,
  ⟨0xC00, 16, 0x10, 1, 0x0, 0xF801FFFF, 0x20000, 0x0, 0x0⟩,
  ⟨0xC04, 16, 0x10, 1, 0x0, 0x0, 0x0, 0x0, 0x0⟩,
  ⟨0xC08, 16, 0x10, 1, 0x0, 0x0, 0x0, 0x0, 0x0⟩,
  ⟨0xD00, 6, 0x20, 1, 0x0, 0xF00, 0x0, 0x3, 0x200⟩,
  ⟨0xD04, 6, 0x20, 1, 0x0, 0x0, 0x0, 0x0, 0x0⟩,
  ⟨0xD08, 6, 0x20, 6, 0x4, 0xFFFFFFFF, 0x0, 0x0, 0x0⟩,
  ⟨0xE00, 8, 0x10, 1, 0x0, 0xFFF0FFF, 0x0, 0x0, 0x400800⟩]
def GAUGE.rows2 : List RegRow := [
  ⟨0xE04, 8, 0x10, 1, 0x0, 0x73FFFFF, 0x0, 0x0, 0x0⟩,
  ⟨0xE08, 8, 0x10, 1, 0x0, 0x1, 0x0, 0x0, 0x0⟩,
  ⟨0xE0C, 8, 0x10, 1, 0x0, 0x0, 0x0, 0x0, 0x0⟩]
def GAUGE.rows : List RegRow := GAUGE.rows0 ++ GAUGE.rows1 ++ GAUGE.rows2

/-! ## CALENDAR -/

/-- CALENDAR ID (+0x000), R28. -/
def CALENDAR.ID : Nat := 0x40000
def CALENDAR.ID_CODE : Fld := ⟨CALENDAR.ID, 16, 16⟩
def CALENDAR.ID_VERSION : Fld := ⟨CALENDAR.ID, 0, 16⟩
/-- CALENDAR CTRL (+0x004), R30. -/
def CALENDAR.CTRL : Nat := 0x40004
def CALENDAR.CTRL_ENABLE : Fld := ⟨CALENDAR.CTRL, 0, 1⟩
def CALENDAR.CTRL_FORCE_ARM : Fld := ⟨CALENDAR.CTRL, 1, 1⟩
/-- CALENDAR STATUS (+0x008), R30. -/
def CALENDAR.STATUS : Nat := 0x40008
def CALENDAR.STATUS_ENABLED : Fld := ⟨CALENDAR.STATUS, 0, 1⟩
def CALENDAR.STATUS_DISABLE_PENDING : Fld := ⟨CALENDAR.STATUS, 1, 1⟩
def CALENDAR.STATUS_FAULT_ANY : Fld := ⟨CALENDAR.STATUS, 2, 1⟩
/-- CALENDAR FAULT (+0x00C), R31. -/
def CALENDAR.FAULT : Nat := 0x4000C
def CALENDAR.FAULT_ACTION_DROP : Fld := ⟨CALENDAR.FAULT, 0, 1⟩
/-- CALENDAR FAULT_FORCE (+0x010), R32. -/
def CALENDAR.FAULT_FORCE : Nat := 0x40010
def CALENDAR.FAULT_FORCE_BITS : Fld := ⟨CALENDAR.FAULT_FORCE, 0, 32⟩
/-- CALENDAR INT_EN (+0x018), R33. -/
def CALENDAR.INT_EN : Nat := 0x40018
def CALENDAR.INT_EN_BITS : Fld := ⟨CALENDAR.INT_EN, 0, 32⟩
/-- CALENDAR INT_STAT (+0x01C), R33. -/
def CALENDAR.INT_STAT : Nat := 0x4001C
def CALENDAR.INT_STAT_FAULT_EV : Fld := ⟨CALENDAR.INT_STAT, 0, 1⟩
def CALENDAR.INT_STAT_FULL_EV : Fld := ⟨CALENDAR.INT_STAT, 3, 1⟩
def CALENDAR.INT_STAT_LATE_EV : Fld := ⟨CALENDAR.INT_STAT, 2, 1⟩
def CALENDAR.INT_STAT_ARM_DONE : Fld := ⟨CALENDAR.INT_STAT, 1, 1⟩
/-- CALENDAR OCCUPANCY (+0x020), R181. -/
def CALENDAR.OCCUPANCY : Nat := 0x40020
def CALENDAR.OCCUPANCY_ARMED : Fld := ⟨CALENDAR.OCCUPANCY, 0, 14⟩
/-- CALENDAR ARM_POS_LO (+0x024), R181. -/
def CALENDAR.ARM_POS_LO : Nat := 0x40024
def CALENDAR.ARM_POS_LO_POS : Fld := ⟨CALENDAR.ARM_POS_LO, 0, 32⟩
/-- CALENDAR ARM_POS_HI (+0x028), R181. -/
def CALENDAR.ARM_POS_HI : Nat := 0x40028
def CALENDAR.ARM_POS_HI_POS : Fld := ⟨CALENDAR.ARM_POS_HI, 0, 32⟩
/-- CALENDAR ARM_CTL (+0x02C), R181. -/
def CALENDAR.ARM_CTL : Nat := 0x4002C
def CALENDAR.ARM_CTL_ACTION : Fld := ⟨CALENDAR.ARM_CTL, 12, 4⟩
def CALENDAR.ARM_CTL_LATE_DISCARD : Fld := ⟨CALENDAR.ARM_CTL, 8, 1⟩
def CALENDAR.ARM_CTL_DIR : Fld := ⟨CALENDAR.ARM_CTL, 6, 2⟩
def CALENDAR.ARM_CTL_GAUGE : Fld := ⟨CALENDAR.ARM_CTL, 0, 6⟩
/-- CALENDAR ARM_ARG (+0x030), R181. -/
def CALENDAR.ARM_ARG : Nat := 0x40030
def CALENDAR.ARM_ARG_ARG : Fld := ⟨CALENDAR.ARM_ARG, 0, 32⟩
/-- CALENDAR ARM_GO (+0x034), R181. -/
def CALENDAR.ARM_GO : Nat := 0x40034
def CALENDAR.ARM_GO_DISARM : Fld := ⟨CALENDAR.ARM_GO, 1, 1⟩
def CALENDAR.ARM_GO_ARM : Fld := ⟨CALENDAR.ARM_GO, 0, 1⟩
/-- CALENDAR ARM_RESULT (+0x038), R181. -/
def CALENDAR.ARM_RESULT : Nat := 0x40038
def CALENDAR.ARM_RESULT_RESULT : Fld := ⟨CALENDAR.ARM_RESULT, 16, 3⟩
def CALENDAR.ARM_RESULT_TICKET : Fld := ⟨CALENDAR.ARM_RESULT, 0, 16⟩
/-- CALENDAR DISARM_TICKET (+0x03C), R181. -/
def CALENDAR.DISARM_TICKET : Nat := 0x4003C
def CALENDAR.DISARM_TICKET_TICKET : Fld := ⟨CALENDAR.DISARM_TICKET, 0, 16⟩
/-- CALENDAR LATE_COUNT (+0x040), R181. -/
def CALENDAR.LATE_COUNT : Nat := 0x40040
def CALENDAR.LATE_COUNT_COUNT : Fld := ⟨CALENDAR.LATE_COUNT, 0, 32⟩
/-- CALENDAR DROP_COUNT (+0x044), R181. -/
def CALENDAR.DROP_COUNT : Nat := 0x40044
def CALENDAR.DROP_COUNT_COUNT : Fld := ⟨CALENDAR.DROP_COUNT, 0, 32⟩
/-- CALENDAR ENTRY_SEL (+0x048), R181. -/
def CALENDAR.ENTRY_SEL : Nat := 0x40048
def CALENDAR.ENTRY_SEL_ENTRY : Fld := ⟨CALENDAR.ENTRY_SEL, 0, 13⟩
/-- CALENDAR ENTRY_DATA (+0x050), chapter 07. -/
def CALENDAR.ENTRY_DATA (n : Nat) : Nat := 0x40050 + n * 0x4
def CALENDAR.ENTRY_DATA_DATA (n : Nat) : Fld := ⟨CALENDAR.ENTRY_DATA n, 0, 32⟩
/-- CALENDAR QDEPTH (+0x100), R181. -/
def CALENDAR.QDEPTH (n : Nat) : Nat := 0x40100 + n * 0x4
def CALENDAR.QDEPTH_REVERSE (n : Nat) : Fld := ⟨CALENDAR.QDEPTH n, 16, 13⟩
def CALENDAR.QDEPTH_FORWARD (n : Nat) : Fld := ⟨CALENDAR.QDEPTH n, 0, 13⟩
/-- CALENDAR SLOT (+0x1000), chapter 07. -/
def CALENDAR.SLOT (n : Nat) : Nat := 0x41000 + n * 0x4
def CALENDAR.SLOT_WORD (n : Nat) : Fld := ⟨CALENDAR.SLOT n, 0, 32⟩

/-- The registers of the CALENDAR block, in the order of the spec's tables (chapter 07). -/
def CALENDAR.rows0 : List RegRow := [
  ⟨0x0, 1, 0x0, 1, 0x0, 0x0, 0x0, 0x0, 0x0⟩,
  ⟨0x4, 1, 0x0, 1, 0x0, 0x2, 0x0, 0x0, 0x1⟩,
  ⟨0x8, 1, 0x0, 1, 0x0, 0x0, 0x0, 0x0, 0x1⟩,
  ⟨0xC, 1, 0x0, 1, 0x0, 0x0, 0x1, 0x0, 0x0⟩,
  ⟨0x10, 1, 0x0, 1, 0x0, 0x0, 0x0, 0xFFFFFFFF, 0x0⟩,
  ⟨0x14, 1, 0x0, 1, 0x0, 0x0, 0x0, 0x0, 0x0⟩,
  ⟨0x18, 1, 0x0, 1, 0x0, 0xFFFFFFFF, 0x0, 0x0, 0x0⟩,
  ⟨0x1C, 1, 0x0, 1, 0x0, 0x0, 0xF, 0x0, 0x0⟩,
  ⟨0x20, 1, 0x0, 1, 0x0, 0x0, 0x0, 0x0, 0x0⟩,
  ⟨0x24, 1, 0x0, 1, 0x0, 0xFFFFFFFF, 0x0, 0x0, 0x0⟩,
  ⟨0x28, 1, 0x0, 1, 0x0, 0xFFFFFFFF, 0x0, 0x0, 0x0⟩,
  ⟨0x2C, 1, 0x0, 1, 0x0, 0xF1FF, 0x0, 0x0, 0x40⟩,
  ⟨0x30, 1, 0x0, 1, 0x0, 0xFFFFFFFF, 0x0, 0x0, 0x0⟩,
  ⟨0x34, 1, 0x0, 1, 0x0, 0x0, 0x0, 0x3, 0x0⟩,
  ⟨0x38, 1, 0x0, 1, 0x0, 0x0, 0x0, 0x0, 0x0⟩,
  ⟨0x3C, 1, 0x0, 1, 0x0, 0xFFFF, 0x0, 0x0, 0x0⟩,
  ⟨0x40, 1, 0x0, 1, 0x0, 0x0, 0x0, 0x0, 0x0⟩,
  ⟨0x44, 1, 0x0, 1, 0x0, 0x0, 0x0, 0x0, 0x0⟩,
  ⟨0x48, 1, 0x0, 1, 0x0, 0x1FFF, 0x0, 0x0, 0x0⟩,
  ⟨0x50, 4, 0x4, 1, 0x0, 0x0, 0x0, 0x0, 0x0⟩]
def CALENDAR.rows1 : List RegRow := [
  ⟨0x100, 64, 0x4, 1, 0x0, 0x0, 0x0, 0x0, 0x0⟩,
  ⟨0x1000, 4096, 0x4, 1, 0x0, 0xFFFFFFFF, 0x0, 0x0, 0x0⟩]
def CALENDAR.rows : List RegRow := CALENDAR.rows0 ++ CALENDAR.rows1

/-! ## SCRIBER -/

/-- SCRIBER ID (+0x000), R28. -/
def SCRIBER.ID : Nat := 0x50000
def SCRIBER.ID_CODE : Fld := ⟨SCRIBER.ID, 16, 16⟩
def SCRIBER.ID_VERSION : Fld := ⟨SCRIBER.ID, 0, 16⟩
/-- SCRIBER CTRL (+0x004), R30. -/
def SCRIBER.CTRL : Nat := 0x50004
def SCRIBER.CTRL_ENABLE : Fld := ⟨SCRIBER.CTRL, 0, 1⟩
def SCRIBER.CTRL_FORCE_ARM : Fld := ⟨SCRIBER.CTRL, 1, 1⟩
/-- SCRIBER STATUS (+0x008), R30. -/
def SCRIBER.STATUS : Nat := 0x50008
def SCRIBER.STATUS_ENABLED : Fld := ⟨SCRIBER.STATUS, 0, 1⟩
def SCRIBER.STATUS_DISABLE_PENDING : Fld := ⟨SCRIBER.STATUS, 1, 1⟩
def SCRIBER.STATUS_FAULT_ANY : Fld := ⟨SCRIBER.STATUS, 2, 1⟩
/-- SCRIBER FAULT (+0x00C), R31. -/
def SCRIBER.FAULT : Nat := 0x5000C
def SCRIBER.FAULT_DOUBLE_FAULT : Fld := ⟨SCRIBER.FAULT, 0, 1⟩
/-- SCRIBER FAULT_FORCE (+0x010), R32. -/
def SCRIBER.FAULT_FORCE : Nat := 0x50010
def SCRIBER.FAULT_FORCE_BITS : Fld := ⟨SCRIBER.FAULT_FORCE, 0, 32⟩
/-- SCRIBER INT_EN (+0x018), R33. -/
def SCRIBER.INT_EN : Nat := 0x50018
def SCRIBER.INT_EN_BITS : Fld := ⟨SCRIBER.INT_EN, 0, 32⟩
/-- SCRIBER INT_STAT (+0x01C), R33. -/
def SCRIBER.INT_STAT : Nat := 0x5001C
def SCRIBER.INT_STAT_FAULT_EV : Fld := ⟨SCRIBER.INT_STAT, 0, 1⟩
def SCRIBER.INT_STAT_BP_EV : Fld := ⟨SCRIBER.INT_STAT, 2, 1⟩
def SCRIBER.INT_STAT_HALT_EV : Fld := ⟨SCRIBER.INT_STAT, 1, 1⟩
/-- SCRIBER SC_RUN (+0x020), R216. -/
def SCRIBER.SC_RUN : Nat := 0x50020
def SCRIBER.SC_RUN_RUN : Fld := ⟨SCRIBER.SC_RUN, 0, 32⟩
/-- SCRIBER SC_HALT (+0x024), R216. -/
def SCRIBER.SC_HALT : Nat := 0x50024
def SCRIBER.SC_HALT_HALT : Fld := ⟨SCRIBER.SC_HALT, 0, 32⟩
/-- SCRIBER ST_CTL (+0x028), R216. -/
def SCRIBER.ST_CTL : Nat := 0x50028
def SCRIBER.ST_CTL_HALT : Fld := ⟨SCRIBER.ST_CTL, 8, 2⟩
def SCRIBER.ST_CTL_RUN : Fld := ⟨SCRIBER.ST_CTL, 0, 2⟩
/-- SCRIBER SC_HALTED (+0x02C), R216. -/
def SCRIBER.SC_HALTED : Nat := 0x5002C
def SCRIBER.SC_HALTED_HALTED : Fld := ⟨SCRIBER.SC_HALTED, 0, 32⟩
/-- SCRIBER ST_HALTED (+0x030), R216. -/
def SCRIBER.ST_HALTED : Nat := 0x50030
def SCRIBER.ST_HALTED_HALTED : Fld := ⟨SCRIBER.ST_HALTED, 0, 2⟩
/-- SCRIBER FORCE_SEL (+0x034), R216. -/
def SCRIBER.FORCE_SEL : Nat := 0x50034
def SCRIBER.FORCE_SEL_CORE : Fld := ⟨SCRIBER.FORCE_SEL, 0, 6⟩
/-- SCRIBER CORE_CTRL (+0x100), R216. -/
def SCRIBER.CORE_CTRL (n : Nat) : Nat := 0x50100 + n * 0x20
def SCRIBER.CORE_CTRL_CRITICAL (n : Nat) : Fld := ⟨SCRIBER.CORE_CTRL n, 7, 1⟩
def SCRIBER.CORE_CTRL_BREAK_HALT (n : Nat) : Fld := ⟨SCRIBER.CORE_CTRL n, 6, 1⟩
def SCRIBER.CORE_CTRL_DISARM_ON_HALT (n : Nat) : Fld := ⟨SCRIBER.CORE_CTRL n, 5, 1⟩
def SCRIBER.CORE_CTRL_REINIT (n : Nat) : Fld := ⟨SCRIBER.CORE_CTRL n, 4, 1⟩
def SCRIBER.CORE_CTRL_STEP (n : Nat) : Fld := ⟨SCRIBER.CORE_CTRL n, 3, 1⟩
def SCRIBER.CORE_CTRL_HALT_REQ (n : Nat) : Fld := ⟨SCRIBER.CORE_CTRL n, 2, 1⟩
def SCRIBER.CORE_CTRL_RUN (n : Nat) : Fld := ⟨SCRIBER.CORE_CTRL n, 1, 1⟩
/-- SCRIBER CORE_STATUS (+0x104), R216. -/
def SCRIBER.CORE_STATUS (n : Nat) : Nat := 0x50104 + n * 0x20
def SCRIBER.CORE_STATUS_HALT_REASON (n : Nat) : Fld := ⟨SCRIBER.CORE_STATUS n, 8, 3⟩
def SCRIBER.CORE_STATUS_IN_EXC (n : Nat) : Fld := ⟨SCRIBER.CORE_STATUS n, 3, 1⟩
def SCRIBER.CORE_STATUS_WAITING (n : Nat) : Fld := ⟨SCRIBER.CORE_STATUS n, 2, 1⟩
def SCRIBER.CORE_STATUS_HALTING (n : Nat) : Fld := ⟨SCRIBER.CORE_STATUS n, 1, 1⟩
def SCRIBER.CORE_STATUS_HALTED (n : Nat) : Fld := ⟨SCRIBER.CORE_STATUS n, 0, 1⟩
/-- SCRIBER CORE_PC (+0x108), R216. -/
def SCRIBER.CORE_PC (n : Nat) : Nat := 0x50108 + n * 0x20
def SCRIBER.CORE_PC_PC (n : Nat) : Fld := ⟨SCRIBER.CORE_PC n, 2, 30⟩
/-- SCRIBER CORE_BP (+0x10C), R216. -/
def SCRIBER.CORE_BP (n : Nat) : Nat := 0x5010C + n * 0x20
def SCRIBER.CORE_BP_ADDR (n : Nat) : Fld := ⟨SCRIBER.CORE_BP n, 2, 30⟩
def SCRIBER.CORE_BP_EN (n : Nat) : Fld := ⟨SCRIBER.CORE_BP n, 0, 1⟩
/-- SCRIBER CORE_DBG_SEL (+0x110), R216. -/
def SCRIBER.CORE_DBG_SEL (n : Nat) : Nat := 0x50110 + n * 0x20
def SCRIBER.CORE_DBG_SEL_REG (n : Nat) : Fld := ⟨SCRIBER.CORE_DBG_SEL n, 0, 9⟩
/-- SCRIBER CORE_DBG_LO (+0x114), R216. -/
def SCRIBER.CORE_DBG_LO (n : Nat) : Nat := 0x50114 + n * 0x20
def SCRIBER.CORE_DBG_LO_DATA (n : Nat) : Fld := ⟨SCRIBER.CORE_DBG_LO n, 0, 32⟩
/-- SCRIBER CORE_DBG_HI (+0x118), R216. -/
def SCRIBER.CORE_DBG_HI (n : Nat) : Nat := 0x50118 + n * 0x20
def SCRIBER.CORE_DBG_HI_DATA (n : Nat) : Fld := ⟨SCRIBER.CORE_DBG_HI n, 0, 32⟩

/-- The registers of the SCRIBER block, in the order of the spec's tables (chapter 08). -/
def SCRIBER.rows0 : List RegRow := [
  ⟨0x0, 1, 0x0, 1, 0x0, 0x0, 0x0, 0x0, 0x0⟩,
  ⟨0x4, 1, 0x0, 1, 0x0, 0x2, 0x0, 0x0, 0x1⟩,
  ⟨0x8, 1, 0x0, 1, 0x0, 0x0, 0x0, 0x0, 0x1⟩,
  ⟨0xC, 1, 0x0, 1, 0x0, 0x0, 0x1, 0x0, 0x0⟩,
  ⟨0x10, 1, 0x0, 1, 0x0, 0x0, 0x0, 0xFFFFFFFF, 0x0⟩,
  ⟨0x14, 1, 0x0, 1, 0x0, 0x0, 0x0, 0x0, 0x0⟩,
  ⟨0x18, 1, 0x0, 1, 0x0, 0xFFFFFFFF, 0x0, 0x0, 0x0⟩,
  ⟨0x1C, 1, 0x0, 1, 0x0, 0x0, 0x7, 0x0, 0x0⟩,
  ⟨0x20, 1, 0x0, 1, 0x0, 0x0, 0x0, 0xFFFFFFFF, 0x0⟩,
  ⟨0x24, 1, 0x0, 1, 0x0, 0x0, 0x0, 0xFFFFFFFF, 0x0⟩,
  ⟨0x28, 1, 0x0, 1, 0x0, 0x0, 0x0, 0x303, 0x0⟩,
  ⟨0x2C, 1, 0x0, 1, 0x0, 0x0, 0x0, 0x0, 0xFFFFFFFF⟩,
  ⟨0x30, 1, 0x0, 1, 0x0, 0x0, 0x0, 0x0, 0x3⟩,
  ⟨0x34, 1, 0x0, 1, 0x0, 0x3F, 0x0, 0x0, 0x0⟩,
  ⟨0x100, 34, 0x20, 1, 0x0, 0xE0, 0x0, 0x1E, 0x0⟩,
  ⟨0x104, 34, 0x20, 1, 0x0, 0x0, 0x0, 0x0, 0x1⟩,
  ⟨0x108, 34, 0x20, 1, 0x0, 0xFFFFFFFC, 0x0, 0x0, 0x0⟩,
  ⟨0x10C, 34, 0x20, 1, 0x0, 0xFFFFFFFD, 0x0, 0x0, 0x0⟩,
  ⟨0x110, 34, 0x20, 1, 0x0, 0x1FF, 0x0, 0x0, 0x0⟩,
  ⟨0x114, 34, 0x20, 1, 0x0, 0xFFFFFFFF, 0x0, 0x0, 0x0⟩]
def SCRIBER.rows1 : List RegRow := [
  ⟨0x118, 34, 0x20, 1, 0x0, 0xFFFFFFFF, 0x0, 0x0, 0x0⟩]
def SCRIBER.rows : List RegRow := SCRIBER.rows0 ++ SCRIBER.rows1

/-! ## PLACER -/

/-- PLACER ID (+0x000), R28. -/
def PLACER.ID : Nat := 0x60000
def PLACER.ID_CODE : Fld := ⟨PLACER.ID, 16, 16⟩
def PLACER.ID_VERSION : Fld := ⟨PLACER.ID, 0, 16⟩
/-- PLACER CTRL (+0x004), R30. -/
def PLACER.CTRL : Nat := 0x60004
def PLACER.CTRL_ENABLE : Fld := ⟨PLACER.CTRL, 0, 1⟩
def PLACER.CTRL_FORCE_ARM : Fld := ⟨PLACER.CTRL, 1, 1⟩
/-- PLACER STATUS (+0x008), R30. -/
def PLACER.STATUS : Nat := 0x60008
def PLACER.STATUS_ENABLED : Fld := ⟨PLACER.STATUS, 0, 1⟩
def PLACER.STATUS_DISABLE_PENDING : Fld := ⟨PLACER.STATUS, 1, 1⟩
def PLACER.STATUS_FAULT_ANY : Fld := ⟨PLACER.STATUS, 2, 1⟩
/-- PLACER FAULT (+0x00C), R31. -/
def PLACER.FAULT : Nat := 0x6000C
def PLACER.FAULT_EVICT : Fld := ⟨PLACER.FAULT, 1, 1⟩
def PLACER.FAULT_POISON : Fld := ⟨PLACER.FAULT, 0, 1⟩
/-- PLACER FAULT_FORCE (+0x010), R32. -/
def PLACER.FAULT_FORCE : Nat := 0x60010
def PLACER.FAULT_FORCE_BITS : Fld := ⟨PLACER.FAULT_FORCE, 0, 32⟩
/-- PLACER INT_EN (+0x018), R33. -/
def PLACER.INT_EN : Nat := 0x60018
def PLACER.INT_EN_BITS : Fld := ⟨PLACER.INT_EN, 0, 32⟩
/-- PLACER INT_STAT (+0x01C), R33. -/
def PLACER.INT_STAT : Nat := 0x6001C
def PLACER.INT_STAT_FAULT_EV : Fld := ⟨PLACER.INT_STAT, 0, 1⟩
def PLACER.INT_STAT_MOVE_DONE : Fld := ⟨PLACER.INT_STAT, 3, 1⟩
def PLACER.INT_STAT_FREE_DONE : Fld := ⟨PLACER.INT_STAT, 2, 1⟩
def PLACER.INT_STAT_CMD_DONE : Fld := ⟨PLACER.INT_STAT, 1, 1⟩
/-- PLACER CMD (+0x020), R278. -/
def PLACER.CMD : Nat := 0x60020
def PLACER.CMD_CMD : Fld := ⟨PLACER.CMD, 0, 8⟩
/-- PLACER RESULT (+0x030), R278. -/
def PLACER.RESULT : Nat := 0x60030
def PLACER.RESULT_CODE : Fld := ⟨PLACER.RESULT, 16, 4⟩
def PLACER.RESULT_VALUE : Fld := ⟨PLACER.RESULT, 0, 16⟩
/-- PLACER TABLE_FREE (+0x034), R278. -/
def PLACER.TABLE_FREE : Nat := 0x60034
def PLACER.TABLE_FREE_FREE : Fld := ⟨PLACER.TABLE_FREE, 0, 12⟩
/-- PLACER DRAM_FREE_LO (+0x038), R278. -/
def PLACER.DRAM_FREE_LO : Nat := 0x60038
def PLACER.DRAM_FREE_LO_GRANULES : Fld := ⟨PLACER.DRAM_FREE_LO, 0, 32⟩
/-- PLACER CAL_FREE (+0x040), R278. -/
def PLACER.CAL_FREE : Nat := 0x60040
def PLACER.CAL_FREE_LENGTH : Fld := ⟨PLACER.CAL_FREE, 0, 14⟩
/-- PLACER MOVE_STATUS (+0x044), R278. -/
def PLACER.MOVE_STATUS : Nat := 0x60044
def PLACER.MOVE_STATUS_HANDLE : Fld := ⟨PLACER.MOVE_STATUS, 16, 16⟩
def PLACER.MOVE_STATUS_REASON : Fld := ⟨PLACER.MOVE_STATUS, 12, 4⟩
def PLACER.MOVE_STATUS_PENDING : Fld := ⟨PLACER.MOVE_STATUS, 0, 12⟩
/-- PLACER POISON_LOG (+0x048), R278. -/
def PLACER.POISON_LOG : Nat := 0x60048
def PLACER.POISON_LOG_COUNT : Fld := ⟨PLACER.POISON_LOG, 16, 16⟩
def PLACER.POISON_LOG_HANDLE : Fld := ⟨PLACER.POISON_LOG, 0, 16⟩
/-- PLACER POISON_OFFSET (+0x04C), R278. -/
def PLACER.POISON_OFFSET : Nat := 0x6004C
def PLACER.POISON_OFFSET_OFFSET : Fld := ⟨PLACER.POISON_OFFSET, 0, 32⟩
/-- PLACER EVICT_LOG (+0x050), R278. -/
def PLACER.EVICT_LOG : Nat := 0x60050
def PLACER.EVICT_LOG_COUNT : Fld := ⟨PLACER.EVICT_LOG, 16, 16⟩
def PLACER.EVICT_LOG_HANDLE : Fld := ⟨PLACER.EVICT_LOG, 0, 16⟩
/-- PLACER ARG (+0x024), R278. -/
def PLACER.ARG (n : Nat) : Nat := 0x60024 + n * 0x4
def PLACER.ARG_ARG (n : Nat) : Fld := ⟨PLACER.ARG n, 0, 32⟩
/-- PLACER DRAM_FREE_HI (+0x03C), chapter 10. -/
def PLACER.DRAM_FREE_HI : Nat := 0x6003C
def PLACER.DRAM_FREE_HI_GRANULES : Fld := ⟨PLACER.DRAM_FREE_HI, 0, 32⟩
/-- PLACER STAGE (+0x400), R278. -/
def PLACER.STAGE (n : Nat) : Nat := 0x60400 + n * 0x4
def PLACER.STAGE_MEMBER (n : Nat) : Fld := ⟨PLACER.STAGE n, 0, 32⟩
/-- PLACER PLACE_REPORT (+0x800), R278. -/
def PLACER.PLACE_REPORT (n : Nat) : Nat := 0x60800 + n * 0x4
def PLACER.PLACE_REPORT_VALID (n : Nat) : Fld := ⟨PLACER.PLACE_REPORT n, 31, 1⟩
def PLACER.PLACE_REPORT_DEVICE (n : Nat) : Fld := ⟨PLACER.PLACE_REPORT n, 22, 2⟩
def PLACER.PLACE_REPORT_CORE (n : Nat) : Fld := ⟨PLACER.PLACE_REPORT n, 16, 6⟩
def PLACER.PLACE_REPORT_PROGRAM_ID (n : Nat) : Fld := ⟨PLACER.PLACE_REPORT n, 0, 16⟩

/-- The registers of the PLACER block, in the order of the spec's tables (chapter 10). -/
def PLACER.rows0 : List RegRow := [
  ⟨0x0, 1, 0x0, 1, 0x0, 0x0, 0x0, 0x0, 0x0⟩,
  ⟨0x4, 1, 0x0, 1, 0x0, 0x2, 0x0, 0x0, 0x1⟩,
  ⟨0x8, 1, 0x0, 1, 0x0, 0x0, 0x0, 0x0, 0x1⟩,
  ⟨0xC, 1, 0x0, 1, 0x0, 0x0, 0x3, 0x0, 0x0⟩,
  ⟨0x10, 1, 0x0, 1, 0x0, 0x0, 0x0, 0xFFFFFFFF, 0x0⟩,
  ⟨0x14, 1, 0x0, 1, 0x0, 0x0, 0x0, 0x0, 0x0⟩,
  ⟨0x18, 1, 0x0, 1, 0x0, 0xFFFFFFFF, 0x0, 0x0, 0x0⟩,
  ⟨0x1C, 1, 0x0, 1, 0x0, 0x0, 0xF, 0x0, 0x0⟩,
  ⟨0x20, 1, 0x0, 1, 0x0, 0x0, 0x0, 0xFF, 0x0⟩,
  ⟨0x30, 1, 0x0, 1, 0x0, 0x0, 0x0, 0x0, 0x0⟩,
  ⟨0x34, 1, 0x0, 1, 0x0, 0x0, 0x0, 0x0, 0xE00⟩,
  ⟨0x38, 1, 0x0, 1, 0x0, 0x0, 0x0, 0x0, 0x0⟩,
  ⟨0x40, 1, 0x0, 1, 0x0, 0x0, 0x0, 0x0, 0x2000⟩,
  ⟨0x44, 1, 0x0, 1, 0x0, 0x0, 0x0, 0x0, 0x0⟩,
  ⟨0x48, 1, 0x0, 1, 0x0, 0x0, 0x0, 0x0, 0x0⟩,
  ⟨0x4C, 1, 0x0, 1, 0x0, 0x0, 0x0, 0x0, 0x0⟩,
  ⟨0x50, 1, 0x0, 1, 0x0, 0x0, 0x0, 0x0, 0x0⟩,
  ⟨0x24, 3, 0x4, 1, 0x0, 0xFFFFFFFF, 0x0, 0x0, 0x0⟩,
  ⟨0x3C, 1, 0x0, 1, 0x0, 0x0, 0x0, 0x0, 0x0⟩,
  ⟨0x400, 255, 0x4, 1, 0x0, 0xFFFFFFFF, 0x0, 0x0, 0x0⟩]
def PLACER.rows1 : List RegRow := [
  ⟨0x800, 34, 0x4, 1, 0x0, 0x0, 0x0, 0x0, 0x0⟩]
def PLACER.rows : List RegRow := PLACER.rows0 ++ PLACER.rows1

/-! ## INTAKE -/

/-- INTAKE ID (+0x000), R28. -/
def INTAKE.ID : Nat := 0x70000
def INTAKE.ID_CODE : Fld := ⟨INTAKE.ID, 16, 16⟩
def INTAKE.ID_VERSION : Fld := ⟨INTAKE.ID, 0, 16⟩
/-- INTAKE CTRL (+0x004), R30. -/
def INTAKE.CTRL : Nat := 0x70004
def INTAKE.CTRL_ENABLE : Fld := ⟨INTAKE.CTRL, 0, 1⟩
def INTAKE.CTRL_FORCE_ARM : Fld := ⟨INTAKE.CTRL, 1, 1⟩
/-- INTAKE STATUS (+0x008), R30. -/
def INTAKE.STATUS : Nat := 0x70008
def INTAKE.STATUS_ENABLED : Fld := ⟨INTAKE.STATUS, 0, 1⟩
def INTAKE.STATUS_DISABLE_PENDING : Fld := ⟨INTAKE.STATUS, 1, 1⟩
def INTAKE.STATUS_FAULT_ANY : Fld := ⟨INTAKE.STATUS, 2, 1⟩
/-- INTAKE FAULT (+0x00C), R31. -/
def INTAKE.FAULT : Nat := 0x7000C
def INTAKE.FAULT_CQ_ORDER : Fld := ⟨INTAKE.FAULT, 1, 1⟩
def INTAKE.FAULT_SQ_READ : Fld := ⟨INTAKE.FAULT, 0, 1⟩
/-- INTAKE FAULT_FORCE (+0x010), R32. -/
def INTAKE.FAULT_FORCE : Nat := 0x70010
def INTAKE.FAULT_FORCE_BITS : Fld := ⟨INTAKE.FAULT_FORCE, 0, 32⟩
/-- INTAKE INT_EN (+0x018), R33. -/
def INTAKE.INT_EN : Nat := 0x70018
def INTAKE.INT_EN_BITS : Fld := ⟨INTAKE.INT_EN, 0, 32⟩
/-- INTAKE INT_STAT (+0x01C), R33. -/
def INTAKE.INT_STAT : Nat := 0x7001C
def INTAKE.INT_STAT_FAULT_EV : Fld := ⟨INTAKE.INT_STAT, 0, 1⟩
def INTAKE.INT_STAT_LINK_EV : Fld := ⟨INTAKE.INT_STAT, 3, 1⟩
def INTAKE.INT_STAT_APERTURE_EV : Fld := ⟨INTAKE.INT_STAT, 2, 1⟩
def INTAKE.INT_STAT_DOORBELL_ERR : Fld := ⟨INTAKE.INT_STAT, 1, 1⟩
/-- INTAKE EP_STATUS (+0x020), R306. -/
def INTAKE.EP_STATUS : Nat := 0x70020
def INTAKE.EP_STATUS_RESETS : Fld := ⟨INTAKE.EP_STATUS, 16, 8⟩
def INTAKE.EP_STATUS_BME : Fld := ⟨INTAKE.EP_STATUS, 15, 1⟩
def INTAKE.EP_STATUS_LINK_UP : Fld := ⟨INTAKE.EP_STATUS, 14, 1⟩
def INTAKE.EP_STATUS_SPEED : Fld := ⟨INTAKE.EP_STATUS, 8, 4⟩
def INTAKE.EP_STATUS_WIDTH : Fld := ⟨INTAKE.EP_STATUS, 4, 4⟩
def INTAKE.EP_STATUS_PERST_N : Fld := ⟨INTAKE.EP_STATUS, 3, 1⟩
/-- INTAKE SUBSYS (+0x024), R306. -/
def INTAKE.SUBSYS : Nat := 0x70024
def INTAKE.SUBSYS_SUBSYS_ID : Fld := ⟨INTAKE.SUBSYS, 16, 16⟩
def INTAKE.SUBSYS_SUBSYS_VID : Fld := ⟨INTAKE.SUBSYS, 0, 16⟩
/-- INTAKE IRQ_PEND_LO (+0x028), chapter 11. -/
def INTAKE.IRQ_PEND_LO : Nat := 0x70028
def INTAKE.IRQ_PEND_LO_PEND : Fld := ⟨INTAKE.IRQ_PEND_LO, 0, 32⟩
/-- INTAKE IRQ_PEND_HI (+0x02C), chapter 11. -/
def INTAKE.IRQ_PEND_HI : Nat := 0x7002C
def INTAKE.IRQ_PEND_HI_PEND : Fld := ⟨INTAKE.IRQ_PEND_HI, 0, 32⟩
/-- INTAKE IRQ_MAP (+0x040), R306. -/
def INTAKE.IRQ_MAP (n : Nat) : Nat := 0x70040 + n * 0x4
def INTAKE.IRQ_MAP_EN (n : Nat) : Fld := ⟨INTAKE.IRQ_MAP n, 5, 1⟩
def INTAKE.IRQ_MAP_VECTOR (n : Nat) : Fld := ⟨INTAKE.IRQ_MAP n, 0, 5⟩
/-- INTAKE AP_HANDLE (+0x200), R306. -/
def INTAKE.AP_HANDLE (n : Nat) : Nat := 0x70200 + n * 0x10
def INTAKE.AP_HANDLE_EN (n : Nat) : Fld := ⟨INTAKE.AP_HANDLE n, 31, 1⟩
def INTAKE.AP_HANDLE_HANDLE (n : Nat) : Fld := ⟨INTAKE.AP_HANDLE n, 0, 16⟩
/-- INTAKE AP_OFFSET (+0x204), R306. -/
def INTAKE.AP_OFFSET (n : Nat) : Nat := 0x70204 + n * 0x10
def INTAKE.AP_OFFSET_OFFSET (n : Nat) : Fld := ⟨INTAKE.AP_OFFSET n, 12, 20⟩
/-- INTAKE AP_STATUS (+0x208), R306. -/
def INTAKE.AP_STATUS (n : Nat) : Nat := 0x70208 + n * 0x10
def INTAKE.AP_STATUS_POISON_SEEN (n : Nat) : Fld := ⟨INTAKE.AP_STATUS n, 2, 1⟩
def INTAKE.AP_STATUS_WR_ERR (n : Nat) : Fld := ⟨INTAKE.AP_STATUS n, 1, 1⟩
def INTAKE.AP_STATUS_RD_ERR (n : Nat) : Fld := ⟨INTAKE.AP_STATUS n, 0, 1⟩
/-- INTAKE SQ_BASE_LO (+0x300), R306. -/
def INTAKE.SQ_BASE_LO (n : Nat) : Nat := 0x70300 + n * 0x20
def INTAKE.SQ_BASE_LO_BASE (n : Nat) : Fld := ⟨INTAKE.SQ_BASE_LO n, 12, 20⟩
/-- INTAKE SQ_BASE_HI (+0x304), R306. -/
def INTAKE.SQ_BASE_HI (n : Nat) : Nat := 0x70304 + n * 0x20
def INTAKE.SQ_BASE_HI_BASE (n : Nat) : Fld := ⟨INTAKE.SQ_BASE_HI n, 0, 32⟩
/-- INTAKE SQ_CFG (+0x308), R306. -/
def INTAKE.SQ_CFG (n : Nat) : Nat := 0x70308 + n * 0x20
def INTAKE.SQ_CFG_ERR (n : Nat) : Fld := ⟨INTAKE.SQ_CFG n, 19, 1⟩
def INTAKE.SQ_CFG_PRIO (n : Nat) : Fld := ⟨INTAKE.SQ_CFG n, 16, 3⟩
def INTAKE.SQ_CFG_SIZE_LOG2 (n : Nat) : Fld := ⟨INTAKE.SQ_CFG n, 4, 5⟩
def INTAKE.SQ_CFG_EN (n : Nat) : Fld := ⟨INTAKE.SQ_CFG n, 0, 1⟩
/-- INTAKE SQ_TAIL (+0x30C), R306. -/
def INTAKE.SQ_TAIL (n : Nat) : Nat := 0x7030C + n * 0x20
def INTAKE.SQ_TAIL_TAIL (n : Nat) : Fld := ⟨INTAKE.SQ_TAIL n, 0, 16⟩
/-- INTAKE SQ_HEAD (+0x310), R306. -/
def INTAKE.SQ_HEAD (n : Nat) : Nat := 0x70310 + n * 0x20
def INTAKE.SQ_HEAD_HEAD (n : Nat) : Fld := ⟨INTAKE.SQ_HEAD n, 0, 16⟩
/-- INTAKE SQ_NEXT_INDEX (+0x314), R306. -/
def INTAKE.SQ_NEXT_INDEX (n : Nat) : Nat := 0x70314 + n * 0x20
def INTAKE.SQ_NEXT_INDEX_INDEX (n : Nat) : Fld := ⟨INTAKE.SQ_NEXT_INDEX n, 0, 16⟩
/-- INTAKE CQ_BASE_LO (+0x500), R306. -/
def INTAKE.CQ_BASE_LO (n : Nat) : Nat := 0x70500 + n * 0x20
def INTAKE.CQ_BASE_LO_BASE (n : Nat) : Fld := ⟨INTAKE.CQ_BASE_LO n, 12, 20⟩
/-- INTAKE CQ_BASE_HI (+0x504), R306. -/
def INTAKE.CQ_BASE_HI (n : Nat) : Nat := 0x70504 + n * 0x20
def INTAKE.CQ_BASE_HI_BASE (n : Nat) : Fld := ⟨INTAKE.CQ_BASE_HI n, 0, 32⟩
/-- INTAKE CQ_CFG (+0x508), R306. -/
def INTAKE.CQ_CFG (n : Nat) : Nat := 0x70508 + n * 0x20
def INTAKE.CQ_CFG_SIZE_LOG2 (n : Nat) : Fld := ⟨INTAKE.CQ_CFG n, 4, 5⟩
def INTAKE.CQ_CFG_IRQ_EN (n : Nat) : Fld := ⟨INTAKE.CQ_CFG n, 1, 1⟩
def INTAKE.CQ_CFG_EN (n : Nat) : Fld := ⟨INTAKE.CQ_CFG n, 0, 1⟩
/-- INTAKE CQ_HEAD (+0x50C), R306. -/
def INTAKE.CQ_HEAD (n : Nat) : Nat := 0x7050C + n * 0x20
def INTAKE.CQ_HEAD_HEAD (n : Nat) : Fld := ⟨INTAKE.CQ_HEAD n, 0, 16⟩
/-- INTAKE CQ_TAIL (+0x510), R306. -/
def INTAKE.CQ_TAIL (n : Nat) : Nat := 0x70510 + n * 0x20
def INTAKE.CQ_TAIL_PHASE (n : Nat) : Fld := ⟨INTAKE.CQ_TAIL n, 16, 1⟩
def INTAKE.CQ_TAIL_TAIL (n : Nat) : Fld := ⟨INTAKE.CQ_TAIL n, 0, 16⟩
/-- INTAKE CQ_NEXT_INDEX (+0x514), R306. -/
def INTAKE.CQ_NEXT_INDEX (n : Nat) : Nat := 0x70514 + n * 0x20
def INTAKE.CQ_NEXT_INDEX_PENDING (n : Nat) : Fld := ⟨INTAKE.CQ_NEXT_INDEX n, 16, 5⟩
def INTAKE.CQ_NEXT_INDEX_INDEX (n : Nat) : Fld := ⟨INTAKE.CQ_NEXT_INDEX n, 0, 16⟩
/-- INTAKE MSIX_ADDR_LO (+0x1000), chapter 11. -/
def INTAKE.MSIX_ADDR_LO (n : Nat) : Nat := 0x71000 + n * 0x10
def INTAKE.MSIX_ADDR_LO_ADDR (n : Nat) : Fld := ⟨INTAKE.MSIX_ADDR_LO n, 2, 30⟩
/-- INTAKE MSIX_ADDR_HI (+0x1004), chapter 11. -/
def INTAKE.MSIX_ADDR_HI (n : Nat) : Nat := 0x71004 + n * 0x10
def INTAKE.MSIX_ADDR_HI_ADDR (n : Nat) : Fld := ⟨INTAKE.MSIX_ADDR_HI n, 0, 32⟩
/-- INTAKE MSIX_DATA (+0x1008), chapter 11. -/
def INTAKE.MSIX_DATA (n : Nat) : Nat := 0x71008 + n * 0x10
def INTAKE.MSIX_DATA_DATA (n : Nat) : Fld := ⟨INTAKE.MSIX_DATA n, 0, 32⟩
/-- INTAKE MSIX_CTRL (+0x100C), chapter 11. -/
def INTAKE.MSIX_CTRL (n : Nat) : Nat := 0x7100C + n * 0x10
def INTAKE.MSIX_CTRL_MASK (n : Nat) : Fld := ⟨INTAKE.MSIX_CTRL n, 0, 1⟩
/-- INTAKE MSIX_PBA (+0x1800), chapter 11. -/
def INTAKE.MSIX_PBA (n : Nat) : Nat := 0x71800 + n * 0x4
def INTAKE.MSIX_PBA_PEND (n : Nat) : Fld := ⟨INTAKE.MSIX_PBA n, 0, 32⟩

/-- The registers of the INTAKE block, in the order of the spec's tables (chapter 11). -/
def INTAKE.rows0 : List RegRow := [
  ⟨0x0, 1, 0x0, 1, 0x0, 0x0, 0x0, 0x0, 0x0⟩,
  ⟨0x4, 1, 0x0, 1, 0x0, 0x2, 0x0, 0x0, 0x1⟩,
  ⟨0x8, 1, 0x0, 1, 0x0, 0x0, 0x0, 0x0, 0x1⟩,
  ⟨0xC, 1, 0x0, 1, 0x0, 0x0, 0x3, 0x0, 0x0⟩,
  ⟨0x10, 1, 0x0, 1, 0x0, 0x0, 0x0, 0xFFFFFFFF, 0x0⟩,
  ⟨0x14, 1, 0x0, 1, 0x0, 0x0, 0x0, 0x0, 0x0⟩,
  ⟨0x18, 1, 0x0, 1, 0x0, 0xFFFFFFFF, 0x0, 0x0, 0x0⟩,
  ⟨0x1C, 1, 0x0, 1, 0x0, 0x0, 0xF, 0x0, 0x0⟩,
  ⟨0x20, 1, 0x0, 1, 0x0, 0x0, 0x0, 0x0, 0x0⟩,
  ⟨0x24, 1, 0x0, 1, 0x0, 0xFFFFFFFF, 0x0, 0x0, 0x78401E7B⟩,
  ⟨0x28, 1, 0x0, 1, 0x0, 0x0, 0x0, 0x0, 0x0⟩,
  ⟨0x2C, 1, 0x0, 1, 0x0, 0x0, 0x0, 0x0, 0x0⟩,
  ⟨0x40, 64, 0x4, 1, 0x0, 0x3F, 0x0, 0x0, 0x0⟩,
  ⟨0x200, 8, 0x10, 1, 0x0, 0x8000FFFF, 0x0, 0x0, 0x0⟩,
  ⟨0x204, 8, 0x10, 1, 0x0, 0xFFFFF000, 0x0, 0x0, 0x0⟩,
  ⟨0x208, 8, 0x10, 1, 0x0, 0x0, 0x7, 0x0, 0x0⟩,
  ⟨0x300, 16, 0x20, 1, 0x0, 0xFFFFF000, 0x0, 0x0, 0x0⟩,
  ⟨0x304, 16, 0x20, 1, 0x0, 0xFFFFFFFF, 0x0, 0x0, 0x0⟩,
  ⟨0x308, 16, 0x20, 1, 0x0, 0x701F1, 0x0, 0x0, 0x10⟩,
  ⟨0x30C, 16, 0x20, 1, 0x0, 0xFFFF, 0x0, 0x0, 0x0⟩]
def INTAKE.rows1 : List RegRow := [
  ⟨0x310, 16, 0x20, 1, 0x0, 0x0, 0x0, 0x0, 0x0⟩,
  ⟨0x314, 16, 0x20, 1, 0x0, 0x0, 0x0, 0x0, 0x0⟩,
  ⟨0x500, 16, 0x20, 1, 0x0, 0xFFFFF000, 0x0, 0x0, 0x0⟩,
  ⟨0x504, 16, 0x20, 1, 0x0, 0xFFFFFFFF, 0x0, 0x0, 0x0⟩,
  ⟨0x508, 16, 0x20, 1, 0x0, 0x1F3, 0x0, 0x0, 0x10⟩,
  ⟨0x50C, 16, 0x20, 1, 0x0, 0xFFFF, 0x0, 0x0, 0x0⟩,
  ⟨0x510, 16, 0x20, 1, 0x0, 0x0, 0x0, 0x0, 0x10000⟩,
  ⟨0x514, 16, 0x20, 1, 0x0, 0x0, 0x0, 0x0, 0x0⟩,
  ⟨0x1000, 32, 0x10, 1, 0x0, 0xFFFFFFFC, 0x0, 0x0, 0x0⟩,
  ⟨0x1004, 32, 0x10, 1, 0x0, 0xFFFFFFFF, 0x0, 0x0, 0x0⟩,
  ⟨0x1008, 32, 0x10, 1, 0x0, 0xFFFFFFFF, 0x0, 0x0, 0x0⟩,
  ⟨0x100C, 32, 0x10, 1, 0x0, 0x1, 0x0, 0x0, 0x1⟩,
  ⟨0x1800, 2, 0x4, 1, 0x0, 0x0, 0x0, 0x0, 0x0⟩]
def INTAKE.rows : List RegRow := INTAKE.rows0 ++ INTAKE.rows1

/-! ## MOVER -/

/-- MOVER ID (+0x000), R28. -/
def MOVER.ID : Nat := 0x80000
def MOVER.ID_CODE : Fld := ⟨MOVER.ID, 16, 16⟩
def MOVER.ID_VERSION : Fld := ⟨MOVER.ID, 0, 16⟩
/-- MOVER CTRL (+0x004), R30. -/
def MOVER.CTRL : Nat := 0x80004
def MOVER.CTRL_ENABLE : Fld := ⟨MOVER.CTRL, 0, 1⟩
def MOVER.CTRL_FORCE_ARM : Fld := ⟨MOVER.CTRL, 1, 1⟩
/-- MOVER STATUS (+0x008), R30. -/
def MOVER.STATUS : Nat := 0x80008
def MOVER.STATUS_ENABLED : Fld := ⟨MOVER.STATUS, 0, 1⟩
def MOVER.STATUS_DISABLE_PENDING : Fld := ⟨MOVER.STATUS, 1, 1⟩
def MOVER.STATUS_FAULT_ANY : Fld := ⟨MOVER.STATUS, 2, 1⟩
/-- MOVER FAULT (+0x00C), R31. -/
def MOVER.FAULT : Nat := 0x8000C
def MOVER.FAULT_DESC_FAULT : Fld := ⟨MOVER.FAULT, 1, 1⟩
def MOVER.FAULT_MOVER_STOPPED : Fld := ⟨MOVER.FAULT, 0, 1⟩
/-- MOVER FAULT_FORCE (+0x010), R32. -/
def MOVER.FAULT_FORCE : Nat := 0x80010
def MOVER.FAULT_FORCE_BITS : Fld := ⟨MOVER.FAULT_FORCE, 0, 32⟩
/-- MOVER INT_EN (+0x018), R33. -/
def MOVER.INT_EN : Nat := 0x80018
def MOVER.INT_EN_BITS : Fld := ⟨MOVER.INT_EN, 0, 32⟩
/-- MOVER INT_STAT (+0x01C), R33. -/
def MOVER.INT_STAT : Nat := 0x8001C
def MOVER.INT_STAT_FAULT_EV : Fld := ⟨MOVER.INT_STAT, 0, 1⟩
def MOVER.INT_STAT_CH_EV : Fld := ⟨MOVER.INT_STAT, 1, 1⟩
/-- MOVER CHAIN_LIMIT (+0x020), R307. -/
def MOVER.CHAIN_LIMIT : Nat := 0x80020
def MOVER.CHAIN_LIMIT_LIMIT : Fld := ⟨MOVER.CHAIN_LIMIT, 0, 25⟩
/-- MOVER EV_PEND (+0x024), R307. -/
def MOVER.EV_PEND : Nat := 0x80024
def MOVER.EV_PEND_PEND : Fld := ⟨MOVER.EV_PEND, 0, 32⟩
/-- MOVER ERR_INFO (+0x028), R307. -/
def MOVER.ERR_INFO : Nat := 0x80028
def MOVER.ERR_INFO_KIND : Fld := ⟨MOVER.ERR_INFO, 8, 4⟩
def MOVER.ERR_INFO_CHANNEL : Fld := ⟨MOVER.ERR_INFO, 0, 6⟩
/-- MOVER FORCE_SEL (+0x034), R307. -/
def MOVER.FORCE_SEL : Nat := 0x80034
def MOVER.FORCE_SEL_CHANNEL : Fld := ⟨MOVER.FORCE_SEL, 0, 5⟩
/-- MOVER ERR_ADDR_LO (+0x02C), chapter 11. -/
def MOVER.ERR_ADDR_LO : Nat := 0x8002C
def MOVER.ERR_ADDR_LO_ADDR : Fld := ⟨MOVER.ERR_ADDR_LO, 0, 32⟩
/-- MOVER ERR_ADDR_HI (+0x030), chapter 11. -/
def MOVER.ERR_ADDR_HI : Nat := 0x80030
def MOVER.ERR_ADDR_HI_ADDR : Fld := ⟨MOVER.ERR_ADDR_HI, 0, 32⟩
/-- MOVER CH_CTRL (+0x100), R307. -/
def MOVER.CH_CTRL (n : Nat) : Nat := 0x80100 + n * 0x20
def MOVER.CH_CTRL_CORE (n : Nat) : Fld := ⟨MOVER.CH_CTRL n, 9, 6⟩
def MOVER.CH_CTRL_SPACE (n : Nat) : Fld := ⟨MOVER.CH_CTRL n, 8, 1⟩
def MOVER.CH_CTRL_PRIO (n : Nat) : Fld := ⟨MOVER.CH_CTRL n, 4, 3⟩
def MOVER.CH_CTRL_RESUME (n : Nat) : Fld := ⟨MOVER.CH_CTRL n, 3, 1⟩
def MOVER.CH_CTRL_START (n : Nat) : Fld := ⟨MOVER.CH_CTRL n, 2, 1⟩
def MOVER.CH_CTRL_EN (n : Nat) : Fld := ⟨MOVER.CH_CTRL n, 0, 1⟩
/-- MOVER CH_STATUS (+0x10C), R307. -/
def MOVER.CH_STATUS (n : Nat) : Nat := 0x8010C + n * 0x20
def MOVER.CH_STATUS_FAULT_KIND (n : Nat) : Fld := ⟨MOVER.CH_STATUS n, 16, 4⟩
def MOVER.CH_STATUS_REFUSED (n : Nat) : Fld := ⟨MOVER.CH_STATUS n, 10, 1⟩
def MOVER.CH_STATUS_STOP_EV (n : Nat) : Fld := ⟨MOVER.CH_STATUS n, 9, 1⟩
def MOVER.CH_STATUS_DONE_EV (n : Nat) : Fld := ⟨MOVER.CH_STATUS n, 8, 1⟩
def MOVER.CH_STATUS_FULL_EV (n : Nat) : Fld := ⟨MOVER.CH_STATUS n, 7, 1⟩
def MOVER.CH_STATUS_HALF_EV (n : Nat) : Fld := ⟨MOVER.CH_STATUS n, 6, 1⟩
def MOVER.CH_STATUS_STATE (n : Nat) : Fld := ⟨MOVER.CH_STATUS n, 0, 3⟩
/-- MOVER CH_DONE (+0x110), R307. -/
def MOVER.CH_DONE (n : Nat) : Nat := 0x80110 + n * 0x20
def MOVER.CH_DONE_BYTES (n : Nat) : Fld := ⟨MOVER.CH_DONE n, 0, 32⟩
/-- MOVER CH_COUNT (+0x114), R307. -/
def MOVER.CH_COUNT (n : Nat) : Nat := 0x80114 + n * 0x20
def MOVER.CH_COUNT_COUNT (n : Nat) : Fld := ⟨MOVER.CH_COUNT n, 0, 32⟩
/-- MOVER CH_DESC_LO (+0x104), chapter 11. -/
def MOVER.CH_DESC_LO (n : Nat) : Nat := 0x80104 + n * 0x20
def MOVER.CH_DESC_LO_DESC (n : Nat) : Fld := ⟨MOVER.CH_DESC_LO n, 5, 27⟩
/-- MOVER CH_DESC_HI (+0x108), chapter 11. -/
def MOVER.CH_DESC_HI (n : Nat) : Nat := 0x80108 + n * 0x20
def MOVER.CH_DESC_HI_DESC (n : Nat) : Fld := ⟨MOVER.CH_DESC_HI n, 0, 32⟩

/-- The registers of the MOVER block, in the order of the spec's tables (chapter 11). -/
def MOVER.rows0 : List RegRow := [
  ⟨0x0, 1, 0x0, 1, 0x0, 0x0, 0x0, 0x0, 0x0⟩,
  ⟨0x4, 1, 0x0, 1, 0x0, 0x2, 0x0, 0x0, 0x1⟩,
  ⟨0x8, 1, 0x0, 1, 0x0, 0x0, 0x0, 0x0, 0x1⟩,
  ⟨0xC, 1, 0x0, 1, 0x0, 0x0, 0x3, 0x0, 0x0⟩,
  ⟨0x10, 1, 0x0, 1, 0x0, 0x0, 0x0, 0xFFFFFFFF, 0x0⟩,
  ⟨0x14, 1, 0x0, 1, 0x0, 0x0, 0x0, 0x0, 0x0⟩,
  ⟨0x18, 1, 0x0, 1, 0x0, 0xFFFFFFFF, 0x0, 0x0, 0x0⟩,
  ⟨0x1C, 1, 0x0, 1, 0x0, 0x0, 0x3, 0x0, 0x0⟩,
  ⟨0x20, 1, 0x0, 1, 0x0, 0x1FFFFFF, 0x0, 0x0, 0x10000⟩,
  ⟨0x24, 1, 0x0, 1, 0x0, 0x0, 0x0, 0x0, 0x0⟩,
  ⟨0x28, 1, 0x0, 1, 0x0, 0x0, 0x0, 0x0, 0x0⟩,
  ⟨0x34, 1, 0x0, 1, 0x0, 0x1F, 0x0, 0x0, 0x0⟩,
  ⟨0x2C, 1, 0x0, 1, 0x0, 0x0, 0x0, 0x0, 0x0⟩,
  ⟨0x30, 1, 0x0, 1, 0x0, 0x0, 0x0, 0x0, 0x0⟩,
  ⟨0x100, 32, 0x20, 1, 0x0, 0x7F71, 0x0, 0xC, 0x1⟩,
  ⟨0x10C, 32, 0x20, 1, 0x0, 0x0, 0x7C0, 0x0, 0x0⟩,
  ⟨0x110, 32, 0x20, 1, 0x0, 0x0, 0x0, 0x0, 0x0⟩,
  ⟨0x114, 32, 0x20, 1, 0x0, 0x0, 0x0, 0x0, 0x0⟩,
  ⟨0x104, 32, 0x20, 1, 0x0, 0xFFFFFFE0, 0x0, 0x0, 0x0⟩,
  ⟨0x108, 32, 0x20, 1, 0x0, 0xFFFFFFFF, 0x0, 0x0, 0x0⟩]
def MOVER.rows : List RegRow := MOVER.rows0

/-! ## CODEC -/

/-- CODEC ID (+0x000), R28. -/
def CODEC.ID : Nat := 0x90000
def CODEC.ID_CODE : Fld := ⟨CODEC.ID, 16, 16⟩
def CODEC.ID_VERSION : Fld := ⟨CODEC.ID, 0, 16⟩
/-- CODEC CTRL (+0x004), R30. -/
def CODEC.CTRL : Nat := 0x90004
def CODEC.CTRL_ENABLE : Fld := ⟨CODEC.CTRL, 0, 1⟩
def CODEC.CTRL_FORCE_ARM : Fld := ⟨CODEC.CTRL, 1, 1⟩
/-- CODEC STATUS (+0x008), R30. -/
def CODEC.STATUS : Nat := 0x90008
def CODEC.STATUS_ENABLED : Fld := ⟨CODEC.STATUS, 0, 1⟩
def CODEC.STATUS_DISABLE_PENDING : Fld := ⟨CODEC.STATUS, 1, 1⟩
def CODEC.STATUS_FAULT_ANY : Fld := ⟨CODEC.STATUS, 2, 1⟩
/-- CODEC FAULT (+0x00C), R31. -/
def CODEC.FAULT : Nat := 0x9000C
def CODEC.FAULT_ENC_FAULT : Fld := ⟨CODEC.FAULT, 8, 2⟩
def CODEC.FAULT_DEC_FAULT : Fld := ⟨CODEC.FAULT, 0, 6⟩
/-- CODEC FAULT_FORCE (+0x010), R32. -/
def CODEC.FAULT_FORCE : Nat := 0x90010
def CODEC.FAULT_FORCE_BITS : Fld := ⟨CODEC.FAULT_FORCE, 0, 32⟩
/-- CODEC INT_EN (+0x018), R33. -/
def CODEC.INT_EN : Nat := 0x90018
def CODEC.INT_EN_BITS : Fld := ⟨CODEC.INT_EN, 0, 32⟩
/-- CODEC INT_STAT (+0x01C), R33. -/
def CODEC.INT_STAT : Nat := 0x9001C
def CODEC.INT_STAT_FAULT_EV : Fld := ⟨CODEC.INT_STAT, 0, 1⟩
def CODEC.INT_STAT_ENC_DONE : Fld := ⟨CODEC.INT_STAT, 3, 1⟩
def CODEC.INT_STAT_COST_LOW_EV : Fld := ⟨CODEC.INT_STAT, 2, 1⟩
def CODEC.INT_STAT_RUN_DONE : Fld := ⟨CODEC.INT_STAT, 1, 1⟩
/-- CODEC DEC_CTRL (+0x100), R336. -/
def CODEC.DEC_CTRL (n : Nat) : Nat := 0x90100 + n * 0x40
def CODEC.DEC_CTRL_FLUSH (n : Nat) : Fld := ⟨CODEC.DEC_CTRL n, 1, 1⟩
def CODEC.DEC_CTRL_ENABLE (n : Nat) : Fld := ⟨CODEC.DEC_CTRL n, 0, 1⟩
/-- CODEC DEC_FORMAT (+0x104), R336. -/
def CODEC.DEC_FORMAT (n : Nat) : Nat := 0x90104 + n * 0x40
def CODEC.DEC_FORMAT_BPD (n : Nat) : Fld := ⟨CODEC.DEC_FORMAT n, 16, 4⟩
def CODEC.DEC_FORMAT_DOTS (n : Nat) : Fld := ⟨CODEC.DEC_FORMAT n, 0, 16⟩
/-- CODEC DEC_RUN_HANDLE (+0x108), R336. -/
def CODEC.DEC_RUN_HANDLE (n : Nat) : Nat := 0x90108 + n * 0x40
def CODEC.DEC_RUN_HANDLE_PAGE (n : Nat) : Fld := ⟨CODEC.DEC_RUN_HANDLE n, 16, 16⟩
def CODEC.DEC_RUN_HANDLE_OBJECT (n : Nat) : Fld := ⟨CODEC.DEC_RUN_HANDLE n, 0, 16⟩
/-- CODEC DEC_RUN_FIRST (+0x10C), R336. -/
def CODEC.DEC_RUN_FIRST (n : Nat) : Nat := 0x9010C + n * 0x40
def CODEC.DEC_RUN_FIRST_ENTRY (n : Nat) : Fld := ⟨CODEC.DEC_RUN_FIRST n, 0, 32⟩
/-- CODEC DEC_RUN_COUNT (+0x110), R336. -/
def CODEC.DEC_RUN_COUNT (n : Nat) : Nat := 0x90110 + n * 0x40
def CODEC.DEC_RUN_COUNT_END_PAGE (n : Nat) : Fld := ⟨CODEC.DEC_RUN_COUNT n, 17, 1⟩
def CODEC.DEC_RUN_COUNT_NEW_PAGE (n : Nat) : Fld := ⟨CODEC.DEC_RUN_COUNT n, 16, 1⟩
def CODEC.DEC_RUN_COUNT_COUNT (n : Nat) : Fld := ⟨CODEC.DEC_RUN_COUNT n, 0, 16⟩
/-- CODEC DEC_RUN_PUSH (+0x114), R336. -/
def CODEC.DEC_RUN_PUSH (n : Nat) : Nat := 0x90114 + n * 0x40
def CODEC.DEC_RUN_PUSH_PUSH (n : Nat) : Fld := ⟨CODEC.DEC_RUN_PUSH n, 0, 1⟩
/-- CODEC DEC_STATUS (+0x118), R336. -/
def CODEC.DEC_STATUS (n : Nat) : Nat := 0x90118 + n * 0x40
def CODEC.DEC_STATUS_RUNS_DONE (n : Nat) : Fld := ⟨CODEC.DEC_STATUS n, 24, 8⟩
def CODEC.DEC_STATUS_RUN_REFUSED (n : Nat) : Fld := ⟨CODEC.DEC_STATUS n, 16, 1⟩
def CODEC.DEC_STATUS_QUEUED (n : Nat) : Fld := ⟨CODEC.DEC_STATUS n, 8, 4⟩
def CODEC.DEC_STATUS_STATE (n : Nat) : Fld := ⟨CODEC.DEC_STATUS n, 0, 3⟩
/-- CODEC DEC_NEXT_LINE (+0x11C), R336. -/
def CODEC.DEC_NEXT_LINE (n : Nat) : Nat := 0x9011C + n * 0x40
def CODEC.DEC_NEXT_LINE_LINE (n : Nat) : Fld := ⟨CODEC.DEC_NEXT_LINE n, 0, 24⟩
/-- CODEC DEC_BLOCKS (+0x120), R336. -/
def CODEC.DEC_BLOCKS (n : Nat) : Nat := 0x90120 + n * 0x40
def CODEC.DEC_BLOCKS_COUNT (n : Nat) : Fld := ⟨CODEC.DEC_BLOCKS n, 0, 32⟩
/-- CODEC DEC_FAULT_INFO (+0x124), R336. -/
def CODEC.DEC_FAULT_INFO (n : Nat) : Nat := 0x90124 + n * 0x40
def CODEC.DEC_FAULT_INFO_HANDLE (n : Nat) : Fld := ⟨CODEC.DEC_FAULT_INFO n, 16, 16⟩
def CODEC.DEC_FAULT_INFO_KIND (n : Nat) : Fld := ⟨CODEC.DEC_FAULT_INFO n, 0, 4⟩
/-- CODEC DEC_FAULT_ENTRY (+0x128), R336. -/
def CODEC.DEC_FAULT_ENTRY (n : Nat) : Nat := 0x90128 + n * 0x40
def CODEC.DEC_FAULT_ENTRY_ENTRY (n : Nat) : Fld := ⟨CODEC.DEC_FAULT_ENTRY n, 0, 32⟩
/-- CODEC DEC_COST_LOW (+0x12C), R336. -/
def CODEC.DEC_COST_LOW (n : Nat) : Nat := 0x9012C + n * 0x40
def CODEC.DEC_COST_LOW_COUNT (n : Nat) : Fld := ⟨CODEC.DEC_COST_LOW n, 0, 32⟩
/-- CODEC ENC_HANDLES (+0x400), R336. -/
def CODEC.ENC_HANDLES (n : Nat) : Nat := 0x90400 + n * 0x40
def CODEC.ENC_HANDLES_DST (n : Nat) : Fld := ⟨CODEC.ENC_HANDLES n, 16, 16⟩
def CODEC.ENC_HANDLES_SRC (n : Nat) : Fld := ⟨CODEC.ENC_HANDLES n, 0, 16⟩
/-- CODEC ENC_SRC_OFFSET (+0x404), R336. -/
def CODEC.ENC_SRC_OFFSET (n : Nat) : Nat := 0x90404 + n * 0x40
def CODEC.ENC_SRC_OFFSET_OFFSET (n : Nat) : Fld := ⟨CODEC.ENC_SRC_OFFSET n, 0, 32⟩
/-- CODEC ENC_GEOM (+0x408), R336. -/
def CODEC.ENC_GEOM (n : Nat) : Nat := 0x90408 + n * 0x40
def CODEC.ENC_GEOM_BPD (n : Nat) : Fld := ⟨CODEC.ENC_GEOM n, 16, 4⟩
def CODEC.ENC_GEOM_DOTS (n : Nat) : Fld := ⟨CODEC.ENC_GEOM n, 0, 16⟩
/-- CODEC ENC_FIRST (+0x40C), R336. -/
def CODEC.ENC_FIRST (n : Nat) : Nat := 0x9040C + n * 0x40
def CODEC.ENC_FIRST_LINE (n : Nat) : Fld := ⟨CODEC.ENC_FIRST n, 0, 24⟩
/-- CODEC ENC_COUNT (+0x410), R336. -/
def CODEC.ENC_COUNT (n : Nat) : Nat := 0x90410 + n * 0x40
def CODEC.ENC_COUNT_LINES (n : Nat) : Fld := ⟨CODEC.ENC_COUNT n, 0, 24⟩
/-- CODEC ENC_CFG (+0x414), R336. -/
def CODEC.ENC_CFG (n : Nat) : Nat := 0x90414 + n * 0x40
def CODEC.ENC_CFG_SRC_KIND (n : Nat) : Fld := ⟨CODEC.ENC_CFG n, 25, 1⟩
def CODEC.ENC_CFG_FORCE_STORED (n : Nat) : Fld := ⟨CODEC.ENC_CFG n, 24, 1⟩
def CODEC.ENC_CFG_STATION (n : Nat) : Fld := ⟨CODEC.ENC_CFG n, 16, 5⟩
def CODEC.ENC_CFG_BLOCK_LINES (n : Nat) : Fld := ⟨CODEC.ENC_CFG n, 8, 6⟩
def CODEC.ENC_CFG_LEVEL (n : Nat) : Fld := ⟨CODEC.ENC_CFG n, 0, 4⟩
/-- CODEC ENC_GO (+0x418), R336. -/
def CODEC.ENC_GO (n : Nat) : Nat := 0x90418 + n * 0x40
def CODEC.ENC_GO_GO (n : Nat) : Fld := ⟨CODEC.ENC_GO n, 0, 1⟩
/-- CODEC ENC_STATUS (+0x41C), R336. -/
def CODEC.ENC_STATUS (n : Nat) : Nat := 0x9041C + n * 0x40
def CODEC.ENC_STATUS_BLOCKS (n : Nat) : Fld := ⟨CODEC.ENC_STATUS n, 16, 16⟩
def CODEC.ENC_STATUS_FAULT_KIND (n : Nat) : Fld := ⟨CODEC.ENC_STATUS n, 8, 4⟩
def CODEC.ENC_STATUS_REFUSED (n : Nat) : Fld := ⟨CODEC.ENC_STATUS n, 4, 1⟩
def CODEC.ENC_STATUS_STATE (n : Nat) : Fld := ⟨CODEC.ENC_STATUS n, 0, 3⟩
/-- CODEC ENC_OUT_LEN (+0x420), R336. -/
def CODEC.ENC_OUT_LEN (n : Nat) : Nat := 0x90420 + n * 0x40
def CODEC.ENC_OUT_LEN_BYTES (n : Nat) : Fld := ⟨CODEC.ENC_OUT_LEN n, 0, 32⟩

/-- The registers of the CODEC block, in the order of the spec's tables (chapter 12). -/
def CODEC.rows0 : List RegRow := [
  ⟨0x0, 1, 0x0, 1, 0x0, 0x0, 0x0, 0x0, 0x0⟩,
  ⟨0x4, 1, 0x0, 1, 0x0, 0x3, 0x0, 0x0, 0x0⟩,
  ⟨0x8, 1, 0x0, 1, 0x0, 0x0, 0x0, 0x0, 0x0⟩,
  ⟨0xC, 1, 0x0, 1, 0x0, 0x0, 0x33F, 0x0, 0x0⟩,
  ⟨0x10, 1, 0x0, 1, 0x0, 0x0, 0x0, 0xFFFFFFFF, 0x0⟩,
  ⟨0x14, 1, 0x0, 1, 0x0, 0x0, 0x0, 0x0, 0x0⟩,
  ⟨0x18, 1, 0x0, 1, 0x0, 0xFFFFFFFF, 0x0, 0x0, 0x0⟩,
  ⟨0x1C, 1, 0x0, 1, 0x0, 0x0, 0xF, 0x0, 0x0⟩,
  ⟨0x100, 6, 0x40, 1, 0x0, 0x1, 0x0, 0x2, 0x0⟩,
  ⟨0x104, 6, 0x40, 1, 0x0, 0xFFFFF, 0x0, 0x0, 0x48000⟩,
  ⟨0x108, 6, 0x40, 1, 0x0, 0xFFFFFFFF, 0x0, 0x0, 0x0⟩,
  ⟨0x10C, 6, 0x40, 1, 0x0, 0xFFFFFFFF, 0x0, 0x0, 0x0⟩,
  ⟨0x110, 6, 0x40, 1, 0x0, 0x3FFFF, 0x0, 0x0, 0x0⟩,
  ⟨0x114, 6, 0x40, 1, 0x0, 0x0, 0x0, 0x1, 0x0⟩,
  ⟨0x118, 6, 0x40, 1, 0x0, 0x0, 0x10000, 0x0, 0x0⟩,
  ⟨0x11C, 6, 0x40, 1, 0x0, 0x0, 0x0, 0x0, 0x0⟩,
  ⟨0x120, 6, 0x40, 1, 0x0, 0x0, 0x0, 0x0, 0x0⟩,
  ⟨0x124, 6, 0x40, 1, 0x0, 0x0, 0x0, 0x0, 0x0⟩,
  ⟨0x128, 6, 0x40, 1, 0x0, 0x0, 0x0, 0x0, 0x0⟩,
  ⟨0x12C, 6, 0x40, 1, 0x0, 0x0, 0x0, 0x0, 0x0⟩]
def CODEC.rows1 : List RegRow := [
  ⟨0x400, 2, 0x40, 1, 0x0, 0xFFFFFFFF, 0x0, 0x0, 0x0⟩,
  ⟨0x404, 2, 0x40, 1, 0x0, 0xFFFFFFFF, 0x0, 0x0, 0x0⟩,
  ⟨0x408, 2, 0x40, 1, 0x0, 0xFFFFF, 0x0, 0x0, 0x48000⟩,
  ⟨0x40C, 2, 0x40, 1, 0x0, 0xFFFFFF, 0x0, 0x0, 0x0⟩,
  ⟨0x410, 2, 0x40, 1, 0x0, 0xFFFFFF, 0x0, 0x0, 0x0⟩,
  ⟨0x414, 2, 0x40, 1, 0x0, 0x31F3F0F, 0x0, 0x0, 0x1000⟩,
  ⟨0x418, 2, 0x40, 1, 0x0, 0x0, 0x0, 0x1, 0x0⟩,
  ⟨0x41C, 2, 0x40, 1, 0x0, 0x0, 0x10, 0x0, 0x0⟩,
  ⟨0x420, 2, 0x40, 1, 0x0, 0x0, 0x0, 0x0, 0x0⟩]
def CODEC.rows : List RegRow := CODEC.rows0 ++ CODEC.rows1

/-! ## DRAMC -/

/-- DRAMC ID (+0x000), R28. -/
def DRAMC.ID : Nat := 0xA0000
def DRAMC.ID_CODE : Fld := ⟨DRAMC.ID, 16, 16⟩
def DRAMC.ID_VERSION : Fld := ⟨DRAMC.ID, 0, 16⟩
/-- DRAMC CTRL (+0x004), R30. -/
def DRAMC.CTRL : Nat := 0xA0004
def DRAMC.CTRL_ENABLE : Fld := ⟨DRAMC.CTRL, 0, 1⟩
def DRAMC.CTRL_FORCE_ARM : Fld := ⟨DRAMC.CTRL, 1, 1⟩
/-- DRAMC STATUS (+0x008), R30. -/
def DRAMC.STATUS : Nat := 0xA0008
def DRAMC.STATUS_ENABLED : Fld := ⟨DRAMC.STATUS, 0, 1⟩
def DRAMC.STATUS_DISABLE_PENDING : Fld := ⟨DRAMC.STATUS, 1, 1⟩
def DRAMC.STATUS_FAULT_ANY : Fld := ⟨DRAMC.STATUS, 2, 1⟩
/-- DRAMC FAULT (+0x00C), R31. -/
def DRAMC.FAULT : Nat := 0xA000C
def DRAMC.FAULT_SPARE_LOST : Fld := ⟨DRAMC.FAULT, 4, 1⟩
def DRAMC.FAULT_MIG_ABORT : Fld := ⟨DRAMC.FAULT, 3, 1⟩
def DRAMC.FAULT_TRAIN_FAIL : Fld := ⟨DRAMC.FAULT, 2, 1⟩
def DRAMC.FAULT_CA_ERR : Fld := ⟨DRAMC.FAULT, 1, 1⟩
def DRAMC.FAULT_UE : Fld := ⟨DRAMC.FAULT, 0, 1⟩
/-- DRAMC FAULT_FORCE (+0x010), R32. -/
def DRAMC.FAULT_FORCE : Nat := 0xA0010
def DRAMC.FAULT_FORCE_BITS : Fld := ⟨DRAMC.FAULT_FORCE, 0, 32⟩
/-- DRAMC INT_EN (+0x018), R33. -/
def DRAMC.INT_EN : Nat := 0xA0018
def DRAMC.INT_EN_BITS : Fld := ⟨DRAMC.INT_EN, 0, 32⟩
/-- DRAMC INT_STAT (+0x01C), R33. -/
def DRAMC.INT_STAT : Nat := 0xA001C
def DRAMC.INT_STAT_FAULT_EV : Fld := ⟨DRAMC.INT_STAT, 0, 1⟩
def DRAMC.INT_STAT_PANIC_EV : Fld := ⟨DRAMC.INT_STAT, 6, 1⟩
def DRAMC.INT_STAT_BAND_EV : Fld := ⟨DRAMC.INT_STAT, 5, 1⟩
def DRAMC.INT_STAT_CE_STORM_EV : Fld := ⟨DRAMC.INT_STAT, 4, 1⟩
def DRAMC.INT_STAT_MIG_DONE : Fld := ⟨DRAMC.INT_STAT, 3, 1⟩
def DRAMC.INT_STAT_RETRAIN_DONE : Fld := ⟨DRAMC.INT_STAT, 2, 1⟩
def DRAMC.INT_STAT_TRAIN_DONE : Fld := ⟨DRAMC.INT_STAT, 1, 1⟩
/-- DRAMC CFG (+0x020), R365. -/
def DRAMC.CFG : Nat := 0xA0020
def DRAMC.CFG_RATE : Fld := ⟨DRAMC.CFG, 25, 3⟩
def DRAMC.CFG_RANKS_B : Fld := ⟨DRAMC.CFG, 21, 2⟩
def DRAMC.CFG_RANKS_A : Fld := ⟨DRAMC.CFG, 19, 2⟩
def DRAMC.CFG_SPARE_B : Fld := ⟨DRAMC.CFG, 18, 1⟩
def DRAMC.CFG_SPARE_A : Fld := ⟨DRAMC.CFG, 17, 1⟩
def DRAMC.CFG_CHB_EN : Fld := ⟨DRAMC.CFG, 16, 1⟩
def DRAMC.CFG_DIMM : Fld := ⟨DRAMC.CFG, 15, 1⟩
def DRAMC.CFG_DENSITY : Fld := ⟨DRAMC.CFG, 14, 1⟩
/-- DRAMC TRAIN (+0x024), R365. -/
def DRAMC.TRAIN : Nat := 0xA0024
def DRAMC.TRAIN_FULL_RETRAIN : Fld := ⟨DRAMC.TRAIN, 9, 1⟩
def DRAMC.TRAIN_GO : Fld := ⟨DRAMC.TRAIN, 8, 1⟩
def DRAMC.TRAIN_DRIFT_B : Fld := ⟨DRAMC.TRAIN, 5, 1⟩
def DRAMC.TRAIN_DRIFT_A : Fld := ⟨DRAMC.TRAIN, 4, 1⟩
def DRAMC.TRAIN_STATE : Fld := ⟨DRAMC.TRAIN, 0, 3⟩
/-- DRAMC TEMP_CFG (+0x028), R365. -/
def DRAMC.TEMP_CFG : Nat := 0xA0028
def DRAMC.TEMP_CFG_MR4_EN : Fld := ⟨DRAMC.TEMP_CFG, 10, 1⟩
def DRAMC.TEMP_CFG_SRC_B_EN : Fld := ⟨DRAMC.TEMP_CFG, 9, 1⟩
def DRAMC.TEMP_CFG_SRC_A_EN : Fld := ⟨DRAMC.TEMP_CFG, 8, 1⟩
def DRAMC.TEMP_CFG_SRC_B : Fld := ⟨DRAMC.TEMP_CFG, 4, 4⟩
def DRAMC.TEMP_CFG_SRC_A : Fld := ⟨DRAMC.TEMP_CFG, 0, 4⟩
/-- DRAMC TEMP_STATUS (+0x02C), R365. -/
def DRAMC.TEMP_STATUS : Nat := 0xA002C
def DRAMC.TEMP_STATUS_ADMIT_HOLD : Fld := ⟨DRAMC.TEMP_STATUS, 20, 1⟩
def DRAMC.TEMP_STATUS_BAND_B : Fld := ⟨DRAMC.TEMP_STATUS, 18, 2⟩
def DRAMC.TEMP_STATUS_BAND_A : Fld := ⟨DRAMC.TEMP_STATUS, 16, 2⟩
def DRAMC.TEMP_STATUS_TEMP_B : Fld := ⟨DRAMC.TEMP_STATUS, 8, 8⟩
def DRAMC.TEMP_STATUS_TEMP_A : Fld := ⟨DRAMC.TEMP_STATUS, 0, 8⟩
/-- DRAMC MIG_CFG (+0x030), R365. -/
def DRAMC.MIG_CFG : Nat := 0xA0030
def DRAMC.MIG_CFG_CE_RETIRE : Fld := ⟨DRAMC.MIG_CFG, 4, 1⟩
def DRAMC.MIG_CFG_MIG_SHARE : Fld := ⟨DRAMC.MIG_CFG, 0, 4⟩
/-- DRAMC SCRUB_CFG (+0x03C), R365. -/
def DRAMC.SCRUB_CFG : Nat := 0xA003C
def DRAMC.SCRUB_CFG_CE_LIMIT : Fld := ⟨DRAMC.SCRUB_CFG, 16, 16⟩
def DRAMC.SCRUB_CFG_SCRUB_HOURS : Fld := ⟨DRAMC.SCRUB_CFG, 0, 8⟩
/-- DRAMC ERR_LOG (+0x040), R365. -/
def DRAMC.ERR_LOG : Nat := 0xA0040
def DRAMC.ERR_LOG_KIND : Fld := ⟨DRAMC.ERR_LOG, 28, 2⟩
def DRAMC.ERR_LOG_CHANNEL : Fld := ⟨DRAMC.ERR_LOG, 26, 1⟩
def DRAMC.ERR_LOG_RANK : Fld := ⟨DRAMC.ERR_LOG, 24, 2⟩
def DRAMC.ERR_LOG_SUBCH : Fld := ⟨DRAMC.ERR_LOG, 23, 1⟩
def DRAMC.ERR_LOG_DEVICE : Fld := ⟨DRAMC.ERR_LOG, 16, 4⟩
/-- DRAMC FORCE_SEL (+0x044), R365. -/
def DRAMC.FORCE_SEL : Nat := 0xA0044
def DRAMC.FORCE_SEL_CHANNEL : Fld := ⟨DRAMC.FORCE_SEL, 2, 1⟩
def DRAMC.FORCE_SEL_RANK : Fld := ⟨DRAMC.FORCE_SEL, 0, 2⟩
/-- DRAMC MIG_STATUS (+0x034), R365. -/
def DRAMC.MIG_STATUS (n : Nat) : Nat := 0xA0034 + n * 0x4
def DRAMC.MIG_STATUS_ACTIVE (n : Nat) : Fld := ⟨DRAMC.MIG_STATUS n, 31, 1⟩
def DRAMC.MIG_STATUS_FROM (n : Nat) : Fld := ⟨DRAMC.MIG_STATUS n, 26, 2⟩
def DRAMC.MIG_STATUS_TO (n : Nat) : Fld := ⟨DRAMC.MIG_STATUS n, 24, 2⟩
def DRAMC.MIG_STATUS_LEFT (n : Nat) : Fld := ⟨DRAMC.MIG_STATUS n, 0, 24⟩
/-- DRAMC RT_CFG (+0x080), R365. -/
def DRAMC.RT_CFG (n : Nat) : Nat := 0xA0080 + n * 0x8
def DRAMC.RT_CFG_HYST (n : Nat) : Fld := ⟨DRAMC.RT_CFG n, 8, 8⟩
def DRAMC.RT_CFG_WATERMARK (n : Nat) : Fld := ⟨DRAMC.RT_CFG n, 0, 8⟩
/-- DRAMC RT_STATUS (+0x084), R365. -/
def DRAMC.RT_STATUS (n : Nat) : Nat := 0xA0084 + n * 0x8
def DRAMC.RT_STATUS_IN_PANIC (n : Nat) : Fld := ⟨DRAMC.RT_STATUS n, 31, 1⟩
def DRAMC.RT_STATUS_PANIC_COUNT (n : Nat) : Fld := ⟨DRAMC.RT_STATUS n, 0, 16⟩
/-- DRAMC RANK_STATUS (+0x100), R365. -/
def DRAMC.RANK_STATUS (n k : Nat) : Nat := 0xA0100 + n * 0x40 + k * 0x10
def DRAMC.RANK_STATUS_STATE (n k : Nat) : Fld := ⟨DRAMC.RANK_STATUS n k, 16, 3⟩
def DRAMC.RANK_STATUS_LEARNED (n k : Nat) : Fld := ⟨DRAMC.RANK_STATUS n k, 0, 7⟩
/-- DRAMC RANK_CE_COUNT (+0x104), R365. -/
def DRAMC.RANK_CE_COUNT (n k : Nat) : Nat := 0xA0104 + n * 0x40 + k * 0x10
def DRAMC.RANK_CE_COUNT_COUNT (n k : Nat) : Fld := ⟨DRAMC.RANK_CE_COUNT n k, 0, 32⟩
/-- DRAMC RANK_UE_COUNT (+0x108), R365. -/
def DRAMC.RANK_UE_COUNT (n k : Nat) : Nat := 0xA0108 + n * 0x40 + k * 0x10
def DRAMC.RANK_UE_COUNT_COUNT (n k : Nat) : Fld := ⟨DRAMC.RANK_UE_COUNT n k, 0, 32⟩

/-- The registers of the DRAMC block, in the order of the spec's tables (chapter 13). -/
def DRAMC.rows0 : List RegRow := [
  ⟨0x0, 1, 0x0, 1, 0x0, 0x0, 0x0, 0x0, 0x0⟩,
  ⟨0x4, 1, 0x0, 1, 0x0, 0x2, 0x0, 0x0, 0x1⟩,
  ⟨0x8, 1, 0x0, 1, 0x0, 0x0, 0x0, 0x0, 0x1⟩,
  ⟨0xC, 1, 0x0, 1, 0x0, 0x0, 0x1F, 0x0, 0x0⟩,
  ⟨0x10, 1, 0x0, 1, 0x0, 0x0, 0x0, 0xFFFFFFFF, 0x0⟩,
  ⟨0x14, 1, 0x0, 1, 0x0, 0x0, 0x0, 0x0, 0x0⟩,
  ⟨0x18, 1, 0x0, 1, 0x0, 0xFFFFFFFF, 0x0, 0x0, 0x0⟩,
  ⟨0x1C, 1, 0x0, 1, 0x0, 0x0, 0x7F, 0x0, 0x0⟩,
  ⟨0x20, 1, 0x0, 1, 0x0, 0xE7FC000, 0x0, 0x0, 0x0⟩,
  ⟨0x24, 1, 0x0, 1, 0x0, 0x0, 0x0, 0x300, 0x0⟩,
  ⟨0x28, 1, 0x0, 1, 0x0, 0x7FF, 0x0, 0x0, 0x400⟩,
  ⟨0x2C, 1, 0x0, 1, 0x0, 0x0, 0x0, 0x0, 0x0⟩,
  ⟨0x30, 1, 0x0, 1, 0x0, 0x1F, 0x0, 0x0, 0xA⟩,
  ⟨0x3C, 1, 0x0, 1, 0x0, 0xFFFF00FF, 0x0, 0x0, 0x3E80018⟩,
  ⟨0x40, 1, 0x0, 1, 0x0, 0x0, 0x0, 0x0, 0x0⟩,
  ⟨0x44, 1, 0x0, 1, 0x0, 0x7, 0x0, 0x0, 0x0⟩,
  ⟨0x34, 2, 0x4, 1, 0x0, 0x0, 0x0, 0x0, 0x0⟩,
  ⟨0x80, 7, 0x8, 1, 0x0, 0xFFFF, 0x0, 0x0, 0x808⟩,
  ⟨0x84, 7, 0x8, 1, 0x0, 0x0, 0x0, 0x0, 0x0⟩,
  ⟨0x100, 2, 0x40, 4, 0x10, 0x0, 0x0, 0x0, 0x0⟩]
def DRAMC.rows1 : List RegRow := [
  ⟨0x104, 2, 0x40, 4, 0x10, 0x0, 0x0, 0x0, 0x0⟩,
  ⟨0x108, 2, 0x40, 4, 0x10, 0x0, 0x0, 0x0, 0x0⟩]
def DRAMC.rows : List RegRow := DRAMC.rows0 ++ DRAMC.rows1

/-! ## PLATE -/

/-- PLATE ID (+0x000), R28. -/
def PLATE.ID : Nat := 0xB0000
def PLATE.ID_CODE : Fld := ⟨PLATE.ID, 16, 16⟩
def PLATE.ID_VERSION : Fld := ⟨PLATE.ID, 0, 16⟩
/-- PLATE CTRL (+0x004), R30. -/
def PLATE.CTRL : Nat := 0xB0004
def PLATE.CTRL_ENABLE : Fld := ⟨PLATE.CTRL, 0, 1⟩
def PLATE.CTRL_FORCE_ARM : Fld := ⟨PLATE.CTRL, 1, 1⟩
/-- PLATE STATUS (+0x008), R30. -/
def PLATE.STATUS : Nat := 0xB0008
def PLATE.STATUS_ENABLED : Fld := ⟨PLATE.STATUS, 0, 1⟩
def PLATE.STATUS_DISABLE_PENDING : Fld := ⟨PLATE.STATUS, 1, 1⟩
def PLATE.STATUS_FAULT_ANY : Fld := ⟨PLATE.STATUS, 2, 1⟩
/-- PLATE FAULT (+0x00C), R31. -/
def PLATE.FAULT : Nat := 0xB000C
def PLATE.FAULT_ECC_UE : Fld := ⟨PLATE.FAULT, 0, 6⟩
/-- PLATE FAULT_FORCE (+0x010), R32. -/
def PLATE.FAULT_FORCE : Nat := 0xB0010
def PLATE.FAULT_FORCE_BITS : Fld := ⟨PLATE.FAULT_FORCE, 0, 32⟩
/-- PLATE INT_EN (+0x018), R33. -/
def PLATE.INT_EN : Nat := 0xB0018
def PLATE.INT_EN_BITS : Fld := ⟨PLATE.INT_EN, 0, 32⟩
/-- PLATE INT_STAT (+0x01C), R33. -/
def PLATE.INT_STAT : Nat := 0xB001C
def PLATE.INT_STAT_FAULT_EV : Fld := ⟨PLATE.INT_STAT, 0, 1⟩
/-- PLATE WB_LO (+0x020), chapter 14. -/
def PLATE.WB_LO (n : Nat) : Nat := 0xB0020 + n * 0x10
def PLATE.WB_LO_WB (n : Nat) : Fld := ⟨PLATE.WB_LO n, 0, 32⟩
/-- PLATE WB_HI (+0x024), chapter 14. -/
def PLATE.WB_HI (n : Nat) : Nat := 0xB0024 + n * 0x10
def PLATE.WB_HI_WB (n : Nat) : Fld := ⟨PLATE.WB_HI n, 0, 16⟩
/-- PLATE RELEASED (+0x028), R407. -/
def PLATE.RELEASED (n : Nat) : Nat := 0xB0028 + n * 0x10
def PLATE.RELEASED_LINES (n : Nat) : Fld := ⟨PLATE.RELEASED n, 0, 32⟩
/-- PLATE ECC_CE (+0x02C), R407. -/
def PLATE.ECC_CE (n : Nat) : Nat := 0xB002C + n * 0x10
def PLATE.ECC_CE_COUNT (n : Nat) : Fld := ⟨PLATE.ECC_CE n, 0, 32⟩

/-- The registers of the PLATE block, in the order of the spec's tables (chapter 14). -/
def PLATE.rows0 : List RegRow := [
  ⟨0x0, 1, 0x0, 1, 0x0, 0x0, 0x0, 0x0, 0x0⟩,
  ⟨0x4, 1, 0x0, 1, 0x0, 0x3, 0x0, 0x0, 0x0⟩,
  ⟨0x8, 1, 0x0, 1, 0x0, 0x0, 0x0, 0x0, 0x0⟩,
  ⟨0xC, 1, 0x0, 1, 0x0, 0x0, 0x3F, 0x0, 0x0⟩,
  ⟨0x10, 1, 0x0, 1, 0x0, 0x0, 0x0, 0xFFFFFFFF, 0x0⟩,
  ⟨0x14, 1, 0x0, 1, 0x0, 0x0, 0x0, 0x0, 0x0⟩,
  ⟨0x18, 1, 0x0, 1, 0x0, 0xFFFFFFFF, 0x0, 0x0, 0x0⟩,
  ⟨0x1C, 1, 0x0, 1, 0x0, 0x0, 0x1, 0x0, 0x0⟩,
  ⟨0x20, 6, 0x10, 1, 0x0, 0x0, 0x0, 0x0, 0x0⟩,
  ⟨0x24, 6, 0x10, 1, 0x0, 0x0, 0x0, 0x0, 0x0⟩,
  ⟨0x28, 6, 0x10, 1, 0x0, 0x0, 0x0, 0x0, 0x0⟩,
  ⟨0x2C, 6, 0x10, 1, 0x0, 0x0, 0x0, 0x0, 0x0⟩]
def PLATE.rows : List RegRow := PLATE.rows0

/-! ## THAIQ -/

/-- THAIQ ID (+0x000), R28. -/
def THAIQ.ID : Nat := 0xC0000
def THAIQ.ID_CODE : Fld := ⟨THAIQ.ID, 16, 16⟩
def THAIQ.ID_VERSION : Fld := ⟨THAIQ.ID, 0, 16⟩
/-- THAIQ CTRL (+0x004), R30. -/
def THAIQ.CTRL : Nat := 0xC0004
def THAIQ.CTRL_ENABLE : Fld := ⟨THAIQ.CTRL, 0, 1⟩
def THAIQ.CTRL_FORCE_ARM : Fld := ⟨THAIQ.CTRL, 1, 1⟩
/-- THAIQ STATUS (+0x008), R30. -/
def THAIQ.STATUS : Nat := 0xC0008
def THAIQ.STATUS_ENABLED : Fld := ⟨THAIQ.STATUS, 0, 1⟩
def THAIQ.STATUS_DISABLE_PENDING : Fld := ⟨THAIQ.STATUS, 1, 1⟩
def THAIQ.STATUS_FAULT_ANY : Fld := ⟨THAIQ.STATUS, 2, 1⟩
/-- THAIQ FAULT (+0x00C), R31. -/
def THAIQ.FAULT : Nat := 0xC000C
def THAIQ.FAULT_REMOTE_FAULT : Fld := ⟨THAIQ.FAULT, 1, 1⟩
def THAIQ.FAULT_HOP_DOWN : Fld := ⟨THAIQ.FAULT, 0, 1⟩
/-- THAIQ FAULT_FORCE (+0x010), R32. -/
def THAIQ.FAULT_FORCE : Nat := 0xC0010
def THAIQ.FAULT_FORCE_BITS : Fld := ⟨THAIQ.FAULT_FORCE, 0, 32⟩
/-- THAIQ INT_EN (+0x018), R33. -/
def THAIQ.INT_EN : Nat := 0xC0018
def THAIQ.INT_EN_BITS : Fld := ⟨THAIQ.INT_EN, 0, 32⟩
/-- THAIQ INT_STAT (+0x01C), R33. -/
def THAIQ.INT_STAT : Nat := 0xC001C
def THAIQ.INT_STAT_FAULT_EV : Fld := ⟨THAIQ.INT_STAT, 0, 1⟩
def THAIQ.INT_STAT_LINK_EV : Fld := ⟨THAIQ.INT_STAT, 1, 1⟩
/-- THAIQ CASCADE_CFG (+0x020), R545. -/
def THAIQ.CASCADE_CFG : Nat := 0xC0020
def THAIQ.CASCADE_CFG_DEVICES : Fld := ⟨THAIQ.CASCADE_CFG, 8, 3⟩
def THAIQ.CASCADE_CFG_POSITION : Fld := ⟨THAIQ.CASCADE_CFG, 0, 2⟩
/-- THAIQ LINK_STATUS (+0x024), R545. -/
def THAIQ.LINK_STATUS : Nat := 0xC0024
def THAIQ.LINK_STATUS_HOP_LAT : Fld := ⟨THAIQ.LINK_STATUS, 16, 10⟩
def THAIQ.LINK_STATUS_MISMATCH : Fld := ⟨THAIQ.LINK_STATUS, 4, 1⟩
def THAIQ.LINK_STATUS_LINK_UP : Fld := ⟨THAIQ.LINK_STATUS, 3, 1⟩
def THAIQ.LINK_STATUS_RX1_LOCK : Fld := ⟨THAIQ.LINK_STATUS, 1, 1⟩
def THAIQ.LINK_STATUS_RX0_LOCK : Fld := ⟨THAIQ.LINK_STATUS, 0, 1⟩
/-- THAIQ REMOTE_INFO (+0x028), R544. -/
def THAIQ.REMOTE_INFO : Nat := 0xC0028
def THAIQ.REMOTE_INFO_DEVICE : Fld := ⟨THAIQ.REMOTE_INFO, 30, 2⟩
def THAIQ.REMOTE_INFO_CLASS : Fld := ⟨THAIQ.REMOTE_INFO, 28, 2⟩
def THAIQ.REMOTE_INFO_BIT : Fld := ⟨THAIQ.REMOTE_INFO, 16, 8⟩
def THAIQ.REMOTE_INFO_BLOCK : Fld := ⟨THAIQ.REMOTE_INFO, 0, 16⟩

/-- The registers of the THAIQ block, in the order of the spec's tables (chapter 19). -/
def THAIQ.rows0 : List RegRow := [
  ⟨0x0, 1, 0x0, 1, 0x0, 0x0, 0x0, 0x0, 0x0⟩,
  ⟨0x4, 1, 0x0, 1, 0x0, 0x3, 0x0, 0x0, 0x0⟩,
  ⟨0x8, 1, 0x0, 1, 0x0, 0x0, 0x0, 0x0, 0x0⟩,
  ⟨0xC, 1, 0x0, 1, 0x0, 0x0, 0x3, 0x0, 0x0⟩,
  ⟨0x10, 1, 0x0, 1, 0x0, 0x0, 0x0, 0xFFFFFFFF, 0x0⟩,
  ⟨0x14, 1, 0x0, 1, 0x0, 0x0, 0x0, 0x0, 0x0⟩,
  ⟨0x18, 1, 0x0, 1, 0x0, 0xFFFFFFFF, 0x0, 0x0, 0x0⟩,
  ⟨0x1C, 1, 0x0, 1, 0x0, 0x0, 0x3, 0x0, 0x0⟩,
  ⟨0x20, 1, 0x0, 1, 0x0, 0x703, 0x0, 0x0, 0x100⟩,
  ⟨0x24, 1, 0x0, 1, 0x0, 0x0, 0x10, 0x0, 0x0⟩,
  ⟨0x28, 1, 0x0, 1, 0x0, 0x0, 0x0, 0x0, 0x0⟩]
def THAIQ.rows : List RegRow := THAIQ.rows0

/-! ## HEARTH -/

/-- HEARTH ID (+0x000), R28. -/
def HEARTH.ID : Nat := 0xD0000
def HEARTH.ID_CODE : Fld := ⟨HEARTH.ID, 16, 16⟩
def HEARTH.ID_VERSION : Fld := ⟨HEARTH.ID, 0, 16⟩
/-- HEARTH CTRL (+0x004), R30. -/
def HEARTH.CTRL : Nat := 0xD0004
def HEARTH.CTRL_ENABLE : Fld := ⟨HEARTH.CTRL, 0, 1⟩
def HEARTH.CTRL_FORCE_ARM : Fld := ⟨HEARTH.CTRL, 1, 1⟩
/-- HEARTH STATUS (+0x008), R30. -/
def HEARTH.STATUS : Nat := 0xD0008
def HEARTH.STATUS_ENABLED : Fld := ⟨HEARTH.STATUS, 0, 1⟩
def HEARTH.STATUS_DISABLE_PENDING : Fld := ⟨HEARTH.STATUS, 1, 1⟩
def HEARTH.STATUS_FAULT_ANY : Fld := ⟨HEARTH.STATUS, 2, 1⟩
/-- HEARTH FAULT (+0x00C), R31. -/
def HEARTH.FAULT : Nat := 0xD000C
def HEARTH.FAULT_JOURNAL : Fld := ⟨HEARTH.FAULT, 3, 1⟩
def HEARTH.FAULT_DIE_HOT : Fld := ⟨HEARTH.FAULT, 2, 1⟩
def HEARTH.FAULT_SENSOR : Fld := ⟨HEARTH.FAULT, 1, 1⟩
def HEARTH.FAULT_TRIP : Fld := ⟨HEARTH.FAULT, 0, 1⟩
/-- HEARTH FAULT_FORCE (+0x010), R32. -/
def HEARTH.FAULT_FORCE : Nat := 0xD0010
def HEARTH.FAULT_FORCE_BITS : Fld := ⟨HEARTH.FAULT_FORCE, 0, 32⟩
/-- HEARTH INT_EN (+0x018), R33. -/
def HEARTH.INT_EN : Nat := 0xD0018
def HEARTH.INT_EN_BITS : Fld := ⟨HEARTH.INT_EN, 0, 32⟩
/-- HEARTH INT_STAT (+0x01C), R33. -/
def HEARTH.INT_STAT : Nat := 0xD001C
def HEARTH.INT_STAT_FAULT_EV : Fld := ⟨HEARTH.INT_STAT, 0, 1⟩
def HEARTH.INT_STAT_DIE_WARN_EV : Fld := ⟨HEARTH.INT_STAT, 3, 1⟩
def HEARTH.INT_STAT_ACK_DONE : Fld := ⟨HEARTH.INT_STAT, 2, 1⟩
def HEARTH.INT_STAT_READY_EV : Fld := ⟨HEARTH.INT_STAT, 1, 1⟩
/-- HEARTH JNL_SEQ (+0x020), R536. -/
def HEARTH.JNL_SEQ : Nat := 0xD0020
def HEARTH.JNL_SEQ_SEQ : Fld := ⟨HEARTH.JNL_SEQ, 0, 32⟩
/-- HEARTH JNL_STATUS (+0x024), R536. -/
def HEARTH.JNL_STATUS : Nat := 0xD0024
def HEARTH.JNL_STATUS_LOST : Fld := ⟨HEARTH.JNL_STATUS, 16, 16⟩
def HEARTH.JNL_STATUS_WRITING : Fld := ⟨HEARTH.JNL_STATUS, 5, 1⟩
def HEARTH.JNL_STATUS_PENDING : Fld := ⟨HEARTH.JNL_STATUS, 0, 5⟩
/-- HEARTH TRIP_SEQ (+0x028), R536. -/
def HEARTH.TRIP_SEQ : Nat := 0xD0028
def HEARTH.TRIP_SEQ_SEQ : Fld := ⟨HEARTH.TRIP_SEQ, 0, 32⟩
/-- HEARTH TRIP_INFO (+0x02C), R536. -/
def HEARTH.TRIP_INFO : Nat := 0xD002C
def HEARTH.TRIP_INFO_TEMP : Fld := ⟨HEARTH.TRIP_INFO, 16, 12⟩
def HEARTH.TRIP_INFO_ZONE : Fld := ⟨HEARTH.TRIP_INFO, 8, 3⟩
def HEARTH.TRIP_INFO_INPUT : Fld := ⟨HEARTH.TRIP_INFO, 4, 4⟩
def HEARTH.TRIP_INFO_KIND : Fld := ⟨HEARTH.TRIP_INFO, 0, 4⟩
/-- HEARTH ACK_SEQ (+0x030), R536. -/
def HEARTH.ACK_SEQ : Nat := 0xD0030
def HEARTH.ACK_SEQ_SEQ : Fld := ⟨HEARTH.ACK_SEQ, 0, 32⟩
/-- HEARTH ACK_CMD (+0x034), R536. -/
def HEARTH.ACK_CMD : Nat := 0xD0034
def HEARTH.ACK_CMD_KEY : Fld := ⟨HEARTH.ACK_CMD, 20, 12⟩
def HEARTH.ACK_CMD_GO : Fld := ⟨HEARTH.ACK_CMD, 0, 1⟩
/-- HEARTH ACK_STATUS (+0x038), R536. -/
def HEARTH.ACK_STATUS : Nat := 0xD0038
def HEARTH.ACK_STATUS_LATCHED : Fld := ⟨HEARTH.ACK_STATUS, 8, 1⟩
def HEARTH.ACK_STATUS_RESULT : Fld := ⟨HEARTH.ACK_STATUS, 0, 3⟩
/-- HEARTH FIRING (+0x03C), R536. -/
def HEARTH.FIRING : Nat := 0xD003C
def HEARTH.FIRING_GATE_END : Fld := ⟨HEARTH.FIRING, 16, 16⟩
def HEARTH.FIRING_GATE_DELAY : Fld := ⟨HEARTH.FIRING, 0, 16⟩
/-- HEARTH DIE_CFG (+0x040), R536. -/
def HEARTH.DIE_CFG : Nat := 0xD0040
def HEARTH.DIE_CFG_DIE_HOT : Fld := ⟨HEARTH.DIE_CFG, 16, 12⟩
def HEARTH.DIE_CFG_DIE_WARN : Fld := ⟨HEARTH.DIE_CFG, 0, 12⟩
/-- HEARTH DIE_TEMP (+0x044), chapter 18. -/
def HEARTH.DIE_TEMP (n : Nat) : Nat := 0xD0044 + n * 0x4
def HEARTH.DIE_TEMP_HI (n : Nat) : Fld := ⟨HEARTH.DIE_TEMP n, 16, 12⟩
def HEARTH.DIE_TEMP_LO (n : Nat) : Fld := ⟨HEARTH.DIE_TEMP n, 0, 12⟩
/-- HEARTH TH_CFG (+0x100), R536. -/
def HEARTH.TH_CFG (n : Nat) : Nat := 0xD0100 + n * 0x10
def HEARTH.TH_CFG_TRIP (n : Nat) : Fld := ⟨HEARTH.TH_CFG n, 16, 12⟩
def HEARTH.TH_CFG_MODE (n : Nat) : Fld := ⟨HEARTH.TH_CFG n, 1, 1⟩
def HEARTH.TH_CFG_EN (n : Nat) : Fld := ⟨HEARTH.TH_CFG n, 0, 1⟩
/-- HEARTH TH_NTC (+0x104), R536. -/
def HEARTH.TH_NTC (n : Nat) : Nat := 0xD0104 + n * 0x10
def HEARTH.TH_NTC_R0 (n : Nat) : Fld := ⟨HEARTH.TH_NTC n, 16, 16⟩
def HEARTH.TH_NTC_B (n : Nat) : Fld := ⟨HEARTH.TH_NTC n, 0, 16⟩
/-- HEARTH TH_RATE (+0x108), R536. -/
def HEARTH.TH_RATE (n : Nat) : Nat := 0xD0108 + n * 0x10
def HEARTH.TH_RATE_RISE_MAX (n : Nat) : Fld := ⟨HEARTH.TH_RATE n, 16, 16⟩
def HEARTH.TH_RATE_NORISE_MIN (n : Nat) : Fld := ⟨HEARTH.TH_RATE n, 8, 8⟩
def HEARTH.TH_RATE_NORISE_N (n : Nat) : Fld := ⟨HEARTH.TH_RATE n, 0, 8⟩
/-- HEARTH TH_VALUE (+0x10C), R536. -/
def HEARTH.TH_VALUE (n : Nat) : Nat := 0xD010C + n * 0x10
def HEARTH.TH_VALUE_BROKEN (n : Nat) : Fld := ⟨HEARTH.TH_VALUE n, 16, 1⟩
def HEARTH.TH_VALUE_TEMP (n : Nat) : Fld := ⟨HEARTH.TH_VALUE n, 0, 12⟩
/-- HEARTH Z_CFG (+0x200), R536. -/
def HEARTH.Z_CFG (n : Nat) : Nat := 0xD0200 + n * 0x20
def HEARTH.Z_CFG_LAMPS (n : Nat) : Fld := ⟨HEARTH.Z_CFG n, 24, 8⟩
def HEARTH.Z_CFG_GUARD_EN (n : Nat) : Fld := ⟨HEARTH.Z_CFG n, 20, 1⟩
def HEARTH.Z_CFG_GUARD (n : Nat) : Fld := ⟨HEARTH.Z_CFG n, 16, 4⟩
def HEARTH.Z_CFG_CTRL (n : Nat) : Fld := ⟨HEARTH.Z_CFG n, 12, 4⟩
def HEARTH.Z_CFG_REF_PHASE (n : Nat) : Fld := ⟨HEARTH.Z_CFG n, 4, 2⟩
def HEARTH.Z_CFG_CFG_ERR (n : Nat) : Fld := ⟨HEARTH.Z_CFG n, 3, 1⟩
def HEARTH.Z_CFG_CLASS (n : Nat) : Fld := ⟨HEARTH.Z_CFG n, 1, 1⟩
def HEARTH.Z_CFG_ENABLE (n : Nat) : Fld := ⟨HEARTH.Z_CFG n, 0, 1⟩
/-- HEARTH Z_SP (+0x204), R536. -/
def HEARTH.Z_SP (n : Nat) : Nat := 0xD0204 + n * 0x20
def HEARTH.Z_SP_RUN_SP (n : Nat) : Fld := ⟨HEARTH.Z_SP n, 16, 12⟩
def HEARTH.Z_SP_BANK_SP (n : Nat) : Fld := ⟨HEARTH.Z_SP n, 0, 12⟩
/-- HEARTH Z_BAND (+0x208), R536. -/
def HEARTH.Z_BAND (n : Nat) : Nat := 0xD0208 + n * 0x20
def HEARTH.Z_BAND_READY_BAND (n : Nat) : Fld := ⟨HEARTH.Z_BAND n, 16, 8⟩
def HEARTH.Z_BAND_REARM (n : Nat) : Fld := ⟨HEARTH.Z_BAND n, 0, 12⟩
/-- HEARTH Z_GAIN1 (+0x20C), R536. -/
def HEARTH.Z_GAIN1 (n : Nat) : Nat := 0xD020C + n * 0x20
def HEARTH.Z_GAIN1_KP (n : Nat) : Fld := ⟨HEARTH.Z_GAIN1 n, 16, 16⟩
def HEARTH.Z_GAIN1_KI (n : Nat) : Fld := ⟨HEARTH.Z_GAIN1 n, 0, 16⟩
/-- HEARTH Z_GAIN2 (+0x210), R536. -/
def HEARTH.Z_GAIN2 (n : Nat) : Nat := 0xD0210 + n * 0x20
def HEARTH.Z_GAIN2_KD (n : Nat) : Fld := ⟨HEARTH.Z_GAIN2 n, 16, 16⟩
def HEARTH.Z_GAIN2_U_MAX (n : Nat) : Fld := ⟨HEARTH.Z_GAIN2 n, 0, 16⟩
/-- HEARTH Z_STATUS (+0x214), R536. -/
def HEARTH.Z_STATUS (n : Nat) : Nat := 0xD0214 + n * 0x20
def HEARTH.Z_STATUS_U (n : Nat) : Fld := ⟨HEARTH.Z_STATUS n, 16, 16⟩
def HEARTH.Z_STATUS_PRIORITY (n : Nat) : Fld := ⟨HEARTH.Z_STATUS n, 14, 2⟩
def HEARTH.Z_STATUS_READY (n : Nat) : Fld := ⟨HEARTH.Z_STATUS n, 12, 1⟩
def HEARTH.Z_STATUS_TEMP (n : Nat) : Fld := ⟨HEARTH.Z_STATUS n, 0, 12⟩
/-- HEARTH H_CFG (+0x300), R536. -/
def HEARTH.H_CFG (n : Nat) : Nat := 0xD0300 + n * 0x10
def HEARTH.H_CFG_WATTS (n : Nat) : Fld := ⟨HEARTH.H_CFG n, 16, 16⟩
def HEARTH.H_CFG_SOFT_GAP (n : Nat) : Fld := ⟨HEARTH.H_CFG n, 8, 8⟩
def HEARTH.H_CFG_PHASE (n : Nat) : Fld := ⟨HEARTH.H_CFG n, 0, 2⟩
/-- HEARTH H_STATUS (+0x304), R536. -/
def HEARTH.H_STATUS (n : Nat) : Nat := 0xD0304 + n * 0x10
def HEARTH.H_STATUS_DENIED (n : Nat) : Fld := ⟨HEARTH.H_STATUS n, 16, 16⟩
def HEARTH.H_STATUS_SOFT (n : Nat) : Fld := ⟨HEARTH.H_STATUS n, 2, 1⟩
def HEARTH.H_STATUS_LAST_DENIED (n : Nat) : Fld := ⟨HEARTH.H_STATUS n, 1, 1⟩
def HEARTH.H_STATUS_ON (n : Nat) : Fld := ⟨HEARTH.H_STATUS n, 0, 1⟩

/-- The registers of the HEARTH block, in the order of the spec's tables (chapter 18). -/
def HEARTH.rows0 : List RegRow := [
  ⟨0x0, 1, 0x0, 1, 0x0, 0x0, 0x0, 0x0, 0x0⟩,
  ⟨0x4, 1, 0x0, 1, 0x0, 0x2, 0x0, 0x0, 0x1⟩,
  ⟨0x8, 1, 0x0, 1, 0x0, 0x0, 0x0, 0x0, 0x1⟩,
  ⟨0xC, 1, 0x0, 1, 0x0, 0x0, 0xF, 0x0, 0x0⟩,
  ⟨0x10, 1, 0x0, 1, 0x0, 0x0, 0x0, 0xFFFFFFFF, 0x0⟩,
  ⟨0x14, 1, 0x0, 1, 0x0, 0x0, 0x0, 0x0, 0x0⟩,
  ⟨0x18, 1, 0x0, 1, 0x0, 0xFFFFFFFF, 0x0, 0x0, 0x0⟩,
  ⟨0x1C, 1, 0x0, 1, 0x0, 0x0, 0xF, 0x0, 0x0⟩,
  ⟨0x20, 1, 0x0, 1, 0x0, 0x0, 0x0, 0x0, 0x0⟩,
  ⟨0x24, 1, 0x0, 1, 0x0, 0x0, 0x0, 0x0, 0x0⟩,
  ⟨0x28, 1, 0x0, 1, 0x0, 0x0, 0x0, 0x0, 0x0⟩,
  ⟨0x2C, 1, 0x0, 1, 0x0, 0x0, 0x0, 0x0, 0x0⟩,
  ⟨0x30, 1, 0x0, 1, 0x0, 0xFFFFFFFF, 0x0, 0x0, 0x0⟩,
  ⟨0x34, 1, 0x0, 1, 0x0, 0x0, 0x0, 0xFFF00001, 0x0⟩,
  ⟨0x38, 1, 0x0, 1, 0x0, 0x0, 0x0, 0x0, 0x0⟩,
  ⟨0x3C, 1, 0x0, 1, 0x0, 0xFFFFFFFF, 0x0, 0x0, 0xEB85028F⟩,
  ⟨0x40, 1, 0x0, 1, 0x0, 0xFFF0FFF, 0x0, 0x0, 0x9E00910⟩,
  ⟨0x44, 2, 0x4, 1, 0x0, 0x0, 0x0, 0x0, 0x0⟩,
  ⟨0x100, 16, 0x10, 1, 0x0, 0xFFF0003, 0x0, 0x0, 0xE100000⟩,
  ⟨0x104, 16, 0x10, 1, 0x0, 0xFFFFFFFF, 0x0, 0x0, 0x3E80F6E⟩]
def HEARTH.rows1 : List RegRow := [
  ⟨0x108, 16, 0x10, 1, 0x0, 0xFFFFFFFF, 0x0, 0x0, 0xFFFF1000⟩,
  ⟨0x10C, 16, 0x10, 1, 0x0, 0x0, 0x0, 0x0, 0x0⟩,
  ⟨0x200, 8, 0x20, 1, 0x0, 0xFF1FF033, 0x8, 0x0, 0x0⟩,
  ⟨0x204, 8, 0x20, 1, 0x0, 0xFFF0FFF, 0x0, 0x0, 0x0⟩,
  ⟨0x208, 8, 0x20, 1, 0x0, 0xFF0FFF, 0x0, 0x0, 0x300640⟩,
  ⟨0x20C, 8, 0x20, 1, 0x0, 0xFFFFFFFF, 0x0, 0x0, 0x0⟩,
  ⟨0x210, 8, 0x20, 1, 0x0, 0xFFFFFFFF, 0x0, 0x0, 0xFFFF⟩,
  ⟨0x214, 8, 0x20, 1, 0x0, 0x0, 0x0, 0x0, 0x0⟩,
  ⟨0x300, 8, 0x10, 1, 0x0, 0xFFFFFF03, 0x0, 0x0, 0x3200⟩,
  ⟨0x304, 8, 0x10, 1, 0x0, 0x0, 0x0, 0x0, 0x0⟩]
def HEARTH.rows : List RegRow := HEARTH.rows0 ++ HEARTH.rows1

/-! ## HV -/

/-- HV ID (+0x000), R28. -/
def HV.ID : Nat := 0xE0000
def HV.ID_CODE : Fld := ⟨HV.ID, 16, 16⟩
def HV.ID_VERSION : Fld := ⟨HV.ID, 0, 16⟩
/-- HV CTRL (+0x004), R30. -/
def HV.CTRL : Nat := 0xE0004
def HV.CTRL_ENABLE : Fld := ⟨HV.CTRL, 0, 1⟩
def HV.CTRL_FORCE_ARM : Fld := ⟨HV.CTRL, 1, 1⟩
/-- HV STATUS (+0x008), R30. -/
def HV.STATUS : Nat := 0xE0008
def HV.STATUS_ENABLED : Fld := ⟨HV.STATUS, 0, 1⟩
def HV.STATUS_DISABLE_PENDING : Fld := ⟨HV.STATUS, 1, 1⟩
def HV.STATUS_FAULT_ANY : Fld := ⟨HV.STATUS, 2, 1⟩
/-- HV FAULT (+0x00C), R31. -/
def HV.FAULT : Nat := 0xE000C
def HV.FAULT_OVERVOLT : Fld := ⟨HV.FAULT, 1, 1⟩
def HV.FAULT_ARC : Fld := ⟨HV.FAULT, 0, 1⟩
/-- HV FAULT_FORCE (+0x010), R32. -/
def HV.FAULT_FORCE : Nat := 0xE0010
def HV.FAULT_FORCE_BITS : Fld := ⟨HV.FAULT_FORCE, 0, 32⟩
/-- HV INT_EN (+0x018), R33. -/
def HV.INT_EN : Nat := 0xE0018
def HV.INT_EN_BITS : Fld := ⟨HV.INT_EN, 0, 32⟩
/-- HV INT_STAT (+0x01C), R33. -/
def HV.INT_STAT : Nat := 0xE001C
def HV.INT_STAT_FAULT_EV : Fld := ⟨HV.INT_STAT, 0, 1⟩
def HV.INT_STAT_AT_SP_EV : Fld := ⟨HV.INT_STAT, 1, 1⟩
/-- HV FORCE_SEL (+0x020), R537. -/
def HV.FORCE_SEL : Nat := 0xE0020
def HV.FORCE_SEL_CHANNEL : Fld := ⟨HV.FORCE_SEL, 0, 5⟩
/-- HV FAULT_CH (+0x024), R537. -/
def HV.FAULT_CH : Nat := 0xE0024
def HV.FAULT_CH_FAULTED : Fld := ⟨HV.FAULT_CH, 0, 32⟩
/-- HV V_CFG (+0x100), R537. -/
def HV.V_CFG (n : Nat) : Nat := 0xE0100 + n * 0x20
def HV.V_CFG_MON_MAX (n : Nat) : Fld := ⟨HV.V_CFG n, 16, 12⟩
def HV.V_CFG_SETTLE (n : Nat) : Fld := ⟨HV.V_CFG n, 8, 8⟩
def HV.V_CFG_CFG_ERR (n : Nat) : Fld := ⟨HV.V_CFG n, 7, 1⟩
def HV.V_CFG_CRITICAL (n : Nat) : Fld := ⟨HV.V_CFG n, 6, 1⟩
def HV.V_CFG_AC_SYNC (n : Nat) : Fld := ⟨HV.V_CFG n, 5, 1⟩
def HV.V_CFG_AC_EN (n : Nat) : Fld := ⟨HV.V_CFG n, 2, 1⟩
def HV.V_CFG_LOOP_EN (n : Nat) : Fld := ⟨HV.V_CFG n, 1, 1⟩
def HV.V_CFG_ENABLE (n : Nat) : Fld := ⟨HV.V_CFG n, 0, 1⟩
/-- HV V_DUTY (+0x104), R537. -/
def HV.V_DUTY (n : Nat) : Nat := 0xE0104 + n * 0x20
def HV.V_DUTY_DUTY (n : Nat) : Fld := ⟨HV.V_DUTY n, 0, 16⟩
/-- HV V_SP (+0x108), R537. -/
def HV.V_SP (n : Nat) : Nat := 0xE0108 + n * 0x20
def HV.V_SP_SP_TOL (n : Nat) : Fld := ⟨HV.V_SP n, 16, 8⟩
def HV.V_SP_SETPOINT (n : Nat) : Fld := ⟨HV.V_SP n, 0, 12⟩
/-- HV V_PI (+0x10C), R537. -/
def HV.V_PI (n : Nat) : Nat := 0xE010C + n * 0x20
def HV.V_PI_KP (n : Nat) : Fld := ⟨HV.V_PI n, 16, 16⟩
def HV.V_PI_KI (n : Nat) : Fld := ⟨HV.V_PI n, 0, 16⟩
/-- HV V_AC_LEVELS (+0x110), R537. -/
def HV.V_AC_LEVELS (n : Nat) : Nat := 0xE0110 + n * 0x20
def HV.V_AC_LEVELS_LEVEL_HI (n : Nat) : Fld := ⟨HV.V_AC_LEVELS n, 16, 16⟩
def HV.V_AC_LEVELS_LEVEL_LO (n : Nat) : Fld := ⟨HV.V_AC_LEVELS n, 0, 16⟩
/-- HV V_AC_TIMING (+0x114), R537. -/
def HV.V_AC_TIMING (n : Nat) : Nat := 0xE0114 + n * 0x20
def HV.V_AC_TIMING_RAMP (n : Nat) : Fld := ⟨HV.V_AC_TIMING n, 16, 7⟩
def HV.V_AC_TIMING_HIGH (n : Nat) : Fld := ⟨HV.V_AC_TIMING n, 8, 7⟩
def HV.V_AC_TIMING_PERIOD (n : Nat) : Fld := ⟨HV.V_AC_TIMING n, 0, 7⟩
/-- HV V_ARC (+0x118), R537. -/
def HV.V_ARC (n : Nat) : Nat := 0xE0118 + n * 0x20
def HV.V_ARC_WINDOW (n : Nat) : Fld := ⟨HV.V_ARC n, 16, 8⟩
def HV.V_ARC_LIMIT (n : Nat) : Fld := ⟨HV.V_ARC n, 8, 8⟩
def HV.V_ARC_THRESH (n : Nat) : Fld := ⟨HV.V_ARC n, 0, 8⟩
/-- HV V_STATUS (+0x11C), R537. -/
def HV.V_STATUS (n : Nat) : Nat := 0xE011C + n * 0x20
def HV.V_STATUS_ARCS (n : Nat) : Fld := ⟨HV.V_STATUS n, 16, 16⟩
def HV.V_STATUS_OV_FLT (n : Nat) : Fld := ⟨HV.V_STATUS n, 15, 1⟩
def HV.V_STATUS_ARC_FLT (n : Nat) : Fld := ⟨HV.V_STATUS n, 14, 1⟩
def HV.V_STATUS_OUTPUT (n : Nat) : Fld := ⟨HV.V_STATUS n, 13, 1⟩
def HV.V_STATUS_AT_SP (n : Nat) : Fld := ⟨HV.V_STATUS n, 12, 1⟩
def HV.V_STATUS_MONITOR (n : Nat) : Fld := ⟨HV.V_STATUS n, 0, 12⟩

/-- The registers of the HV block, in the order of the spec's tables (chapter 18). -/
def HV.rows0 : List RegRow := [
  ⟨0x0, 1, 0x0, 1, 0x0, 0x0, 0x0, 0x0, 0x0⟩,
  ⟨0x4, 1, 0x0, 1, 0x0, 0x3, 0x0, 0x0, 0x0⟩,
  ⟨0x8, 1, 0x0, 1, 0x0, 0x0, 0x0, 0x0, 0x0⟩,
  ⟨0xC, 1, 0x0, 1, 0x0, 0x0, 0x3, 0x0, 0x0⟩,
  ⟨0x10, 1, 0x0, 1, 0x0, 0x0, 0x0, 0xFFFFFFFF, 0x0⟩,
  ⟨0x14, 1, 0x0, 1, 0x0, 0x0, 0x0, 0x0, 0x0⟩,
  ⟨0x18, 1, 0x0, 1, 0x0, 0xFFFFFFFF, 0x0, 0x0, 0x0⟩,
  ⟨0x1C, 1, 0x0, 1, 0x0, 0x0, 0x3, 0x0, 0x0⟩,
  ⟨0x20, 1, 0x0, 1, 0x0, 0x1F, 0x0, 0x0, 0x0⟩,
  ⟨0x24, 1, 0x0, 1, 0x0, 0x0, 0x0, 0x0, 0x0⟩,
  ⟨0x100, 32, 0x20, 1, 0x0, 0xFFFFF67, 0x80, 0x0, 0xFFF0A00⟩,
  ⟨0x104, 32, 0x20, 1, 0x0, 0xFFFF, 0x0, 0x0, 0x0⟩,
  ⟨0x108, 32, 0x20, 1, 0x0, 0xFF0FFF, 0x0, 0x0, 0x80000⟩,
  ⟨0x10C, 32, 0x20, 1, 0x0, 0xFFFFFFFF, 0x0, 0x0, 0x0⟩,
  ⟨0x110, 32, 0x20, 1, 0x0, 0xFFFFFFFF, 0x0, 0x0, 0x0⟩,
  ⟨0x114, 32, 0x20, 1, 0x0, 0x7F7F7F, 0x0, 0x0, 0x50A⟩,
  ⟨0x118, 32, 0x20, 1, 0x0, 0xFFFFFF, 0x0, 0x0, 0x6410FF⟩,
  ⟨0x11C, 32, 0x20, 1, 0x0, 0x0, 0x0, 0x0, 0x0⟩]
def HV.rows : List RegRow := HV.rows0

/-! ## CORD -/

/-- CORD ID (+0x000), R28. -/
def CORD.ID : Nat := 0xF0000
def CORD.ID_CODE : Fld := ⟨CORD.ID, 16, 16⟩
def CORD.ID_VERSION : Fld := ⟨CORD.ID, 0, 16⟩
/-- CORD CTRL (+0x004), R30. -/
def CORD.CTRL : Nat := 0xF0004
def CORD.CTRL_ENABLE : Fld := ⟨CORD.CTRL, 0, 1⟩
def CORD.CTRL_FORCE_ARM : Fld := ⟨CORD.CTRL, 1, 1⟩
/-- CORD STATUS (+0x008), R30. -/
def CORD.STATUS : Nat := 0xF0008
def CORD.STATUS_ENABLED : Fld := ⟨CORD.STATUS, 0, 1⟩
def CORD.STATUS_DISABLE_PENDING : Fld := ⟨CORD.STATUS, 1, 1⟩
def CORD.STATUS_FAULT_ANY : Fld := ⟨CORD.STATUS, 2, 1⟩
/-- CORD FAULT (+0x00C), R31. -/
def CORD.FAULT : Nat := 0xF000C
def CORD.FAULT_OVERDRAW : Fld := ⟨CORD.FAULT, 0, 1⟩
/-- CORD FAULT_FORCE (+0x010), R32. -/
def CORD.FAULT_FORCE : Nat := 0xF0010
def CORD.FAULT_FORCE_BITS : Fld := ⟨CORD.FAULT_FORCE, 0, 32⟩
/-- CORD INT_EN (+0x018), R33. -/
def CORD.INT_EN : Nat := 0xF0018
def CORD.INT_EN_BITS : Fld := ⟨CORD.INT_EN, 0, 32⟩
/-- CORD INT_STAT (+0x01C), R33. -/
def CORD.INT_STAT : Nat := 0xF001C
def CORD.INT_STAT_FAULT_EV : Fld := ⟨CORD.INT_STAT, 0, 1⟩
def CORD.INT_STAT_LEARNED_EV : Fld := ⟨CORD.INT_STAT, 3, 1⟩
def CORD.INT_STAT_OVER_EV : Fld := ⟨CORD.INT_STAT, 2, 1⟩
def CORD.INT_STAT_DENY_EV : Fld := ⟨CORD.INT_STAT, 1, 1⟩
/-- CORD P_BUDGET (+0x040), R538. -/
def CORD.P_BUDGET (n : Nat) : Nat := 0xF0040 + n * 0x10
def CORD.P_BUDGET_V_NOM (n : Nat) : Fld := ⟨CORD.P_BUDGET n, 16, 10⟩
def CORD.P_BUDGET_BUDGET (n : Nat) : Fld := ⟨CORD.P_BUDGET n, 0, 8⟩
/-- CORD P_LOADS (+0x044), R538. -/
def CORD.P_LOADS (n : Nat) : Nat := 0xF0044 + n * 0x10
def CORD.P_LOADS_HV_LOAD (n : Nat) : Fld := ⟨CORD.P_LOADS n, 16, 16⟩
def CORD.P_LOADS_FIXED (n : Nat) : Fld := ⟨CORD.P_LOADS n, 0, 16⟩
/-- CORD P_STATUS (+0x048), R538. -/
def CORD.P_STATUS (n : Nat) : Nat := 0xF0048 + n * 0x10
def CORD.P_STATUS_DEMAND (n : Nat) : Fld := ⟨CORD.P_STATUS n, 16, 16⟩
def CORD.P_STATUS_GRANTED (n : Nat) : Fld := ⟨CORD.P_STATUS n, 0, 16⟩
/-- CORD P_OVER (+0x04C), R538. -/
def CORD.P_OVER (n : Nat) : Nat := 0xF004C + n * 0x10
def CORD.P_OVER_RUN (n : Nat) : Fld := ⟨CORD.P_OVER n, 16, 16⟩
def CORD.P_OVER_LAMPS_ON (n : Nat) : Fld := ⟨CORD.P_OVER n, 8, 4⟩
def CORD.P_OVER_OVERDRAWN (n : Nat) : Fld := ⟨CORD.P_OVER n, 0, 1⟩
/-- CORD BUS_CFG (+0x100), R538. -/
def CORD.BUS_CFG (n : Nat) : Nat := 0xF0100 + n * 0x10
def CORD.BUS_CFG_MAX_POWER (n : Nat) : Fld := ⟨CORD.BUS_CFG n, 16, 16⟩
def CORD.BUS_CFG_PF (n : Nat) : Fld := ⟨CORD.BUS_CFG n, 8, 8⟩
def CORD.BUS_CFG_PHASES (n : Nat) : Fld := ⟨CORD.BUS_CFG n, 0, 3⟩
/-- CORD BUS_LEARN (+0x104), R538. -/
def CORD.BUS_LEARN (n : Nat) : Nat := 0xF0104 + n * 0x10
def CORD.BUS_LEARN_RAMPS (n : Nat) : Fld := ⟨CORD.BUS_LEARN n, 28, 4⟩
def CORD.BUS_LEARN_SCALE (n : Nat) : Fld := ⟨CORD.BUS_LEARN n, 0, 16⟩
/-- CORD BUS_NOW (+0x108), R538. -/
def CORD.BUS_NOW (n : Nat) : Nat := 0xF0108 + n * 0x10
def CORD.BUS_NOW_CURRENT (n : Nat) : Fld := ⟨CORD.BUS_NOW n, 0, 16⟩

/-- The registers of the CORD block, in the order of the spec's tables (chapter 18). -/
def CORD.rows0 : List RegRow := [
  ⟨0x0, 1, 0x0, 1, 0x0, 0x0, 0x0, 0x0, 0x0⟩,
  ⟨0x4, 1, 0x0, 1, 0x0, 0x2, 0x0, 0x0, 0x1⟩,
  ⟨0x8, 1, 0x0, 1, 0x0, 0x0, 0x0, 0x0, 0x1⟩,
  ⟨0xC, 1, 0x0, 1, 0x0, 0x0, 0x1, 0x0, 0x0⟩,
  ⟨0x10, 1, 0x0, 1, 0x0, 0x0, 0x0, 0xFFFFFFFF, 0x0⟩,
  ⟨0x14, 1, 0x0, 1, 0x0, 0x0, 0x0, 0x0, 0x0⟩,
  ⟨0x18, 1, 0x0, 1, 0x0, 0xFFFFFFFF, 0x0, 0x0, 0x0⟩,
  ⟨0x1C, 1, 0x0, 1, 0x0, 0x0, 0xF, 0x0, 0x0⟩,
  ⟨0x40, 3, 0x10, 1, 0x0, 0x3FF00FF, 0x0, 0x0, 0xE60000⟩,
  ⟨0x44, 3, 0x10, 1, 0x0, 0xFFFFFFFF, 0x0, 0x0, 0x0⟩,
  ⟨0x48, 3, 0x10, 1, 0x0, 0x0, 0x0, 0x0, 0x0⟩,
  ⟨0x4C, 3, 0x10, 1, 0x0, 0x0, 0x0, 0x0, 0x0⟩,
  ⟨0x100, 8, 0x10, 1, 0x0, 0xFFFFFF07, 0x0, 0x0, 0xFFFFF301⟩,
  ⟨0x104, 8, 0x10, 1, 0x0, 0x0, 0x0, 0x0, 0x100⟩,
  ⟨0x108, 8, 0x10, 1, 0x0, 0x0, 0x0, 0x0, 0x0⟩]
def CORD.rows : List RegRow := CORD.rows0

/-! ## GRAVER -/

/-- GRAVER ID (+0x000), R28. -/
def GRAVER.ID (u : Nat) : Nat := 0x100000 + u * 0x10000
def GRAVER.ID_CODE (u : Nat) : Fld := ⟨GRAVER.ID u, 16, 16⟩
def GRAVER.ID_VERSION (u : Nat) : Fld := ⟨GRAVER.ID u, 0, 16⟩
/-- GRAVER CTRL (+0x004), R30. -/
def GRAVER.CTRL (u : Nat) : Nat := 0x100004 + u * 0x10000
def GRAVER.CTRL_ENABLE (u : Nat) : Fld := ⟨GRAVER.CTRL u, 0, 1⟩
def GRAVER.CTRL_FORCE_ARM (u : Nat) : Fld := ⟨GRAVER.CTRL u, 1, 1⟩
/-- GRAVER STATUS (+0x008), R30. -/
def GRAVER.STATUS (u : Nat) : Nat := 0x100008 + u * 0x10000
def GRAVER.STATUS_ENABLED (u : Nat) : Fld := ⟨GRAVER.STATUS u, 0, 1⟩
def GRAVER.STATUS_DISABLE_PENDING (u : Nat) : Fld := ⟨GRAVER.STATUS u, 1, 1⟩
def GRAVER.STATUS_FAULT_ANY (u : Nat) : Fld := ⟨GRAVER.STATUS u, 2, 1⟩
def GRAVER.STATUS_BD_GATE (u : Nat) : Fld := ⟨GRAVER.STATUS u, 12, 1⟩
def GRAVER.STATUS_PRIVILEGED (u : Nat) : Fld := ⟨GRAVER.STATUS u, 11, 1⟩
def GRAVER.STATUS_DRV_READY (u : Nat) : Fld := ⟨GRAVER.STATUS u, 10, 1⟩
def GRAVER.STATUS_LANES_UP (u : Nat) : Fld := ⟨GRAVER.STATUS u, 9, 1⟩
def GRAVER.STATUS_SCANNING (u : Nat) : Fld := ⟨GRAVER.STATUS u, 8, 1⟩
/-- GRAVER FAULT (+0x00C), R31. -/
def GRAVER.FAULT (u : Nat) : Nat := 0x10000C + u * 0x10000
def GRAVER.FAULT_LUT_ERR (u : Nat) : Fld := ⟨GRAVER.FAULT u, 15, 1⟩
def GRAVER.FAULT_INTERLOCK (u : Nat) : Fld := ⟨GRAVER.FAULT u, 14, 1⟩
def GRAVER.FAULT_EMITTER_GAP (u : Nat) : Fld := ⟨GRAVER.FAULT u, 13, 1⟩
def GRAVER.FAULT_SUB_MISSED (u : Nat) : Fld := ⟨GRAVER.FAULT u, 12, 1⟩
def GRAVER.FAULT_CLAMP (u : Nat) : Fld := ⟨GRAVER.FAULT u, 11, 1⟩
def GRAVER.FAULT_T_LIM (u : Nat) : Fld := ⟨GRAVER.FAULT u, 10, 1⟩
def GRAVER.FAULT_DRV_TRIP (u : Nat) : Fld := ⟨GRAVER.FAULT u, 9, 1⟩
def GRAVER.FAULT_T_TRIP (u : Nat) : Fld := ⟨GRAVER.FAULT u, 8, 1⟩
def GRAVER.FAULT_LANE_LATE (u : Nat) : Fld := ⟨GRAVER.FAULT u, 6, 1⟩
def GRAVER.FAULT_GAUGE_LOST (u : Nat) : Fld := ⟨GRAVER.FAULT u, 5, 1⟩
def GRAVER.FAULT_CTRL_ERR (u : Nat) : Fld := ⟨GRAVER.FAULT u, 4, 1⟩
def GRAVER.FAULT_LINE_SLIP (u : Nat) : Fld := ⟨GRAVER.FAULT u, 3, 1⟩
def GRAVER.FAULT_DRV_STAT_LOST (u : Nat) : Fld := ⟨GRAVER.FAULT u, 2, 1⟩
def GRAVER.FAULT_FRAME_ERR (u : Nat) : Fld := ⟨GRAVER.FAULT u, 1, 1⟩
def GRAVER.FAULT_UNDERRUN (u : Nat) : Fld := ⟨GRAVER.FAULT u, 0, 1⟩
/-- GRAVER FAULT_FORCE (+0x010), R32. -/
def GRAVER.FAULT_FORCE (u : Nat) : Nat := 0x100010 + u * 0x10000
def GRAVER.FAULT_FORCE_BITS (u : Nat) : Fld := ⟨GRAVER.FAULT_FORCE u, 0, 32⟩
/-- GRAVER INT_EN (+0x018), R33. -/
def GRAVER.INT_EN (u : Nat) : Nat := 0x100018 + u * 0x10000
def GRAVER.INT_EN_BITS (u : Nat) : Fld := ⟨GRAVER.INT_EN u, 0, 32⟩
/-- GRAVER INT_STAT (+0x01C), R33. -/
def GRAVER.INT_STAT (u : Nat) : Nat := 0x10001C + u * 0x10000
def GRAVER.INT_STAT_FAULT_EV (u : Nat) : Fld := ⟨GRAVER.INT_STAT u, 0, 1⟩
def GRAVER.INT_STAT_GATE_EV (u : Nat) : Fld := ⟨GRAVER.INT_STAT u, 14, 1⟩
def GRAVER.INT_STAT_LUT_DONE (u : Nat) : Fld := ⟨GRAVER.INT_STAT u, 13, 1⟩
def GRAVER.INT_STAT_RELEASE_EV (u : Nat) : Fld := ⟨GRAVER.INT_STAT u, 12, 1⟩
def GRAVER.INT_STAT_CLAMP_EV (u : Nat) : Fld := ⟨GRAVER.INT_STAT u, 11, 1⟩
def GRAVER.INT_STAT_CAP_EV (u : Nat) : Fld := ⟨GRAVER.INT_STAT u, 10, 1⟩
def GRAVER.INT_STAT_BAND_EV (u : Nat) : Fld := ⟨GRAVER.INT_STAT u, 9, 1⟩
def GRAVER.INT_STAT_WARN_EV (u : Nat) : Fld := ⟨GRAVER.INT_STAT u, 8, 1⟩
def GRAVER.INT_STAT_LOCK_EV (u : Nat) : Fld := ⟨GRAVER.INT_STAT u, 6, 1⟩
def GRAVER.INT_STAT_CTRL_DONE (u : Nat) : Fld := ⟨GRAVER.INT_STAT u, 5, 1⟩
def GRAVER.INT_STAT_BANK_EV (u : Nat) : Fld := ⟨GRAVER.INT_STAT u, 4, 1⟩
def GRAVER.INT_STAT_PAGE_MISSED_EV (u : Nat) : Fld := ⟨GRAVER.INT_STAT u, 3, 1⟩
def GRAVER.INT_STAT_PAGE_DONE_EV (u : Nat) : Fld := ⟨GRAVER.INT_STAT u, 2, 1⟩
def GRAVER.INT_STAT_COMMIT_EV (u : Nat) : Fld := ⟨GRAVER.INT_STAT u, 1, 1⟩
/-- GRAVER GEOM (+0x020), R406. -/
def GRAVER.GEOM (u : Nat) : Nat := 0x100020 + u * 0x10000
def GRAVER.GEOM_EMITTERS (u : Nat) : Fld := ⟨GRAVER.GEOM u, 24, 6⟩
def GRAVER.GEOM_WINDOW (u : Nat) : Fld := ⟨GRAVER.GEOM u, 16, 6⟩
def GRAVER.GEOM_W_TARGET (u : Nat) : Fld := ⟨GRAVER.GEOM u, 8, 6⟩
/-- GRAVER START_BASE (+0x024), R406. -/
def GRAVER.START_BASE (u : Nat) : Nat := 0x100024 + u * 0x10000
def GRAVER.START_BASE_DELAY (u : Nat) : Fld := ⟨GRAVER.START_BASE u, 0, 24⟩
/-- GRAVER REG_OFFSET (+0x028), R406. -/
def GRAVER.REG_OFFSET (u : Nat) : Nat := 0x100028 + u * 0x10000
def GRAVER.REG_OFFSET_OFFSET (u : Nat) : Fld := ⟨GRAVER.REG_OFFSET u, 0, 32⟩
/-- GRAVER TIMING (+0x02C), R406. -/
def GRAVER.TIMING (u : Nat) : Nat := 0x10002C + u * 0x10000
def GRAVER.TIMING_BD_LEAD (u : Nat) : Fld := ⟨GRAVER.TIMING u, 0, 16⟩
/-- GRAVER BANK (+0x030), R406. -/
def GRAVER.BANK (u : Nat) : Nat := 0x100030 + u * 0x10000
def GRAVER.BANK_NEXT (u : Nat) : Fld := ⟨GRAVER.BANK u, 4, 1⟩
def GRAVER.BANK_PENDING (u : Nat) : Fld := ⟨GRAVER.BANK u, 1, 1⟩
def GRAVER.BANK_ACTIVE (u : Nat) : Fld := ⟨GRAVER.BANK u, 0, 1⟩
/-- GRAVER DOT_MAP (+0x034), R406. -/
def GRAVER.DOT_MAP (u : Nat) : Nat := 0x100034 + u * 0x10000
def GRAVER.DOT_MAP_MAP (u : Nat) : Fld := ⟨GRAVER.DOT_MAP u, 0, 16⟩
/-- GRAVER LANE_CFG (+0x038), R406. -/
def GRAVER.LANE_CFG (u : Nat) : Nat := 0x100038 + u * 0x10000
def GRAVER.LANE_CFG_EMPH (u : Nat) : Fld := ⟨GRAVER.LANE_CFG u, 10, 3⟩
def GRAVER.LANE_CFG_SWING (u : Nat) : Fld := ⟨GRAVER.LANE_CFG u, 8, 2⟩
def GRAVER.LANE_CFG_POL (u : Nat) : Fld := ⟨GRAVER.LANE_CFG u, 4, 4⟩
def GRAVER.LANE_CFG_LANES_ON (u : Nat) : Fld := ⟨GRAVER.LANE_CFG u, 0, 1⟩
/-- GRAVER CTRL_ADDR (+0x03C), R406. -/
def GRAVER.CTRL_ADDR (u : Nat) : Nat := 0x10003C + u * 0x10000
def GRAVER.CTRL_ADDR_ADDR (u : Nat) : Fld := ⟨GRAVER.CTRL_ADDR u, 0, 16⟩
/-- GRAVER CTRL_DATA (+0x040), R406. -/
def GRAVER.CTRL_DATA (u : Nat) : Nat := 0x100040 + u * 0x10000
def GRAVER.CTRL_DATA_DATA (u : Nat) : Fld := ⟨GRAVER.CTRL_DATA u, 0, 32⟩
/-- GRAVER CTRL_PUSH (+0x044), R406. -/
def GRAVER.CTRL_PUSH (u : Nat) : Nat := 0x100044 + u * 0x10000
def GRAVER.CTRL_PUSH_PUSH (u : Nat) : Fld := ⟨GRAVER.CTRL_PUSH u, 0, 1⟩
/-- GRAVER CTRL_DMA_HANDLE (+0x048), R406. -/
def GRAVER.CTRL_DMA_HANDLE (u : Nat) : Nat := 0x100048 + u * 0x10000
def GRAVER.CTRL_DMA_HANDLE_GO (u : Nat) : Fld := ⟨GRAVER.CTRL_DMA_HANDLE u, 16, 1⟩
def GRAVER.CTRL_DMA_HANDLE_HANDLE (u : Nat) : Fld := ⟨GRAVER.CTRL_DMA_HANDLE u, 0, 16⟩
/-- GRAVER CTRL_DMA_OFFSET (+0x04C), R406. -/
def GRAVER.CTRL_DMA_OFFSET (u : Nat) : Nat := 0x10004C + u * 0x10000
def GRAVER.CTRL_DMA_OFFSET_OFFSET (u : Nat) : Fld := ⟨GRAVER.CTRL_DMA_OFFSET u, 0, 32⟩
/-- GRAVER CTRL_DMA_COUNT (+0x050), R406. -/
def GRAVER.CTRL_DMA_COUNT (u : Nat) : Nat := 0x100050 + u * 0x10000
def GRAVER.CTRL_DMA_COUNT_PAIRS (u : Nat) : Fld := ⟨GRAVER.CTRL_DMA_COUNT u, 0, 16⟩
/-- GRAVER CTRL_STATUS (+0x054), R406. -/
def GRAVER.CTRL_STATUS (u : Nat) : Nat := 0x100054 + u * 0x10000
def GRAVER.CTRL_STATUS_SENT (u : Nat) : Fld := ⟨GRAVER.CTRL_STATUS u, 16, 16⟩
def GRAVER.CTRL_STATUS_DMA_ERR (u : Nat) : Fld := ⟨GRAVER.CTRL_STATUS u, 9, 1⟩
def GRAVER.CTRL_STATUS_FULL (u : Nat) : Fld := ⟨GRAVER.CTRL_STATUS u, 8, 1⟩
def GRAVER.CTRL_STATUS_DMA_BUSY (u : Nat) : Fld := ⟨GRAVER.CTRL_STATUS u, 7, 1⟩
def GRAVER.CTRL_STATUS_QUEUED (u : Nat) : Fld := ⟨GRAVER.CTRL_STATUS u, 0, 7⟩
/-- GRAVER PAGEQ_HANDLE (+0x058), R406. -/
def GRAVER.PAGEQ_HANDLE (u : Nat) : Nat := 0x100058 + u * 0x10000
def GRAVER.PAGEQ_HANDLE_HANDLE (u : Nat) : Fld := ⟨GRAVER.PAGEQ_HANDLE u, 0, 16⟩
/-- GRAVER PAGEQ_LINES (+0x064), R406. -/
def GRAVER.PAGEQ_LINES (u : Nat) : Nat := 0x100064 + u * 0x10000
def GRAVER.PAGEQ_LINES_LINES (u : Nat) : Fld := ⟨GRAVER.PAGEQ_LINES u, 0, 24⟩
/-- GRAVER PAGEQ_CMD (+0x068), R406. -/
def GRAVER.PAGEQ_CMD (u : Nat) : Nat := 0x100068 + u * 0x10000
def GRAVER.PAGEQ_CMD_WITHDRAW (u : Nat) : Fld := ⟨GRAVER.PAGEQ_CMD u, 1, 1⟩
def GRAVER.PAGEQ_CMD_PUSH (u : Nat) : Fld := ⟨GRAVER.PAGEQ_CMD u, 0, 1⟩
/-- GRAVER PAGEQ_STATUS (+0x06C), R406. -/
def GRAVER.PAGEQ_STATUS (u : Nat) : Nat := 0x10006C + u * 0x10000
def GRAVER.PAGEQ_STATUS_HEAD (u : Nat) : Fld := ⟨GRAVER.PAGEQ_STATUS u, 16, 16⟩
def GRAVER.PAGEQ_STATUS_REFUSED (u : Nat) : Fld := ⟨GRAVER.PAGEQ_STATUS u, 4, 1⟩
def GRAVER.PAGEQ_STATUS_HEAD_COMMITTED (u : Nat) : Fld := ⟨GRAVER.PAGEQ_STATUS u, 3, 1⟩
def GRAVER.PAGEQ_STATUS_COUNT (u : Nat) : Fld := ⟨GRAVER.PAGEQ_STATUS u, 0, 3⟩
/-- GRAVER SCAN_STATUS (+0x070), R406. -/
def GRAVER.SCAN_STATUS (u : Nat) : Nat := 0x100070 + u * 0x10000
def GRAVER.SCAN_STATUS_ADVANCE (u : Nat) : Fld := ⟨GRAVER.SCAN_STATUS u, 16, 8⟩
def GRAVER.SCAN_STATUS_WSTART (u : Nat) : Fld := ⟨GRAVER.SCAN_STATUS u, 8, 6⟩
def GRAVER.SCAN_STATUS_FACET (u : Nat) : Fld := ⟨GRAVER.SCAN_STATUS u, 0, 4⟩
/-- GRAVER SCAN_COUNT (+0x074), R406. -/
def GRAVER.SCAN_COUNT (u : Nat) : Nat := 0x100074 + u * 0x10000
def GRAVER.SCAN_COUNT_SCAN_NO (u : Nat) : Fld := ⟨GRAVER.SCAN_COUNT u, 0, 32⟩
/-- GRAVER WSTAT (+0x080), R406. -/
def GRAVER.WSTAT (u : Nat) : Nat := 0x100080 + u * 0x10000
def GRAVER.WSTAT_W_MAX (u : Nat) : Fld := ⟨GRAVER.WSTAT u, 24, 6⟩
def GRAVER.WSTAT_W_MIN (u : Nat) : Fld := ⟨GRAVER.WSTAT u, 16, 6⟩
def GRAVER.WSTAT_W_ERR (u : Nat) : Fld := ⟨GRAVER.WSTAT u, 0, 16⟩
/-- GRAVER PRED_TOL (+0x084), R406. -/
def GRAVER.PRED_TOL (u : Nat) : Nat := 0x100084 + u * 0x10000
def GRAVER.PRED_TOL_TOL (u : Nat) : Fld := ⟨GRAVER.PRED_TOL u, 0, 16⟩
/-- GRAVER PRED_ERR (+0x088), R406. -/
def GRAVER.PRED_ERR (u : Nat) : Nat := 0x100088 + u * 0x10000
def GRAVER.PRED_ERR_ERR (u : Nat) : Fld := ⟨GRAVER.PRED_ERR u, 0, 32⟩
/-- GRAVER DRV_STATUS (+0x08C), R406. -/
def GRAVER.DRV_STATUS (u : Nat) : Nat := 0x10008C + u * 0x10000
def GRAVER.DRV_STATUS_WORD (u : Nat) : Fld := ⟨GRAVER.DRV_STATUS u, 0, 32⟩
/-- GRAVER DRV_MISS (+0x09C), R406. -/
def GRAVER.DRV_MISS (u : Nat) : Nat := 0x10009C + u * 0x10000
def GRAVER.DRV_MISS_TOTAL (u : Nat) : Fld := ⟨GRAVER.DRV_MISS u, 8, 24⟩
def GRAVER.DRV_MISS_RUN (u : Nat) : Fld := ⟨GRAVER.DRV_MISS u, 0, 8⟩
/-- GRAVER PAGEQ_BASE_LO (+0x05C), chapter 14/15. -/
def GRAVER.PAGEQ_BASE_LO (u : Nat) : Nat := 0x10005C + u * 0x10000
def GRAVER.PAGEQ_BASE_LO_BASE (u : Nat) : Fld := ⟨GRAVER.PAGEQ_BASE_LO u, 0, 32⟩
/-- GRAVER PAGEQ_BASE_HI (+0x060), chapter 14/15. -/
def GRAVER.PAGEQ_BASE_HI (u : Nat) : Nat := 0x100060 + u * 0x10000
def GRAVER.PAGEQ_BASE_HI_BASE (u : Nat) : Fld := ⟨GRAVER.PAGEQ_BASE_HI u, 0, 16⟩
/-- GRAVER NEXT_LO (+0x078), chapter 14/15. -/
def GRAVER.NEXT_LO (u : Nat) : Nat := 0x100078 + u * 0x10000
def GRAVER.NEXT_LO_LINE (u : Nat) : Fld := ⟨GRAVER.NEXT_LO u, 0, 32⟩
/-- GRAVER NEXT_HI (+0x07C), chapter 14/15. -/
def GRAVER.NEXT_HI (u : Nat) : Nat := 0x10007C + u * 0x10000
def GRAVER.NEXT_HI_LINE (u : Nat) : Fld := ⟨GRAVER.NEXT_HI u, 0, 16⟩
/-- GRAVER SLIP_COUNT (+0x090), chapter 14/15. -/
def GRAVER.SLIP_COUNT (u : Nat) : Nat := 0x100090 + u * 0x10000
def GRAVER.SLIP_COUNT_COUNT (u : Nat) : Fld := ⟨GRAVER.SLIP_COUNT u, 0, 32⟩
/-- GRAVER UNDERRUN_COUNT (+0x094), chapter 14/15. -/
def GRAVER.UNDERRUN_COUNT (u : Nat) : Nat := 0x100094 + u * 0x10000
def GRAVER.UNDERRUN_COUNT_COUNT (u : Nat) : Fld := ⟨GRAVER.UNDERRUN_COUNT u, 0, 32⟩
/-- GRAVER FRAME_ERR_COUNT (+0x098), chapter 14/15. -/
def GRAVER.FRAME_ERR_COUNT (u : Nat) : Nat := 0x100098 + u * 0x10000
def GRAVER.FRAME_ERR_COUNT_COUNT (u : Nat) : Fld := ⟨GRAVER.FRAME_ERR_COUNT u, 0, 32⟩
/-- GRAVER EXPO_CFG (+0x0A0), R441. -/
def GRAVER.EXPO_CFG (u : Nat) : Nat := 0x1000A0 + u * 0x10000
def GRAVER.EXPO_CFG_SUB_EN (u : Nat) : Fld := ⟨GRAVER.EXPO_CFG u, 2, 1⟩
def GRAVER.EXPO_CFG_BOOST_EN (u : Nat) : Fld := ⟨GRAVER.EXPO_CFG u, 1, 1⟩
def GRAVER.EXPO_CFG_DERATE_EN (u : Nat) : Fld := ⟨GRAVER.EXPO_CFG u, 0, 1⟩
/-- GRAVER T_WARN_LIM (+0x0A4), R441. -/
def GRAVER.T_WARN_LIM (u : Nat) : Nat := 0x1000A4 + u * 0x10000
def GRAVER.T_WARN_LIM_T_LIM (u : Nat) : Fld := ⟨GRAVER.T_WARN_LIM u, 16, 12⟩
def GRAVER.T_WARN_LIM_T_WARN (u : Nat) : Fld := ⟨GRAVER.T_WARN_LIM u, 0, 12⟩
/-- GRAVER T_TRIP_HYST (+0x0A8), R441. -/
def GRAVER.T_TRIP_HYST (u : Nat) : Nat := 0x1000A8 + u * 0x10000
def GRAVER.T_TRIP_HYST_HYST (u : Nat) : Fld := ⟨GRAVER.T_TRIP_HYST u, 16, 12⟩
def GRAVER.T_TRIP_HYST_T_TRIP (u : Nat) : Fld := ⟨GRAVER.T_TRIP_HYST u, 0, 12⟩
/-- GRAVER DUTY_LIMIT (+0x0B4), R441. -/
def GRAVER.DUTY_LIMIT (u : Nat) : Nat := 0x1000B4 + u * 0x10000
def GRAVER.DUTY_LIMIT_LIMIT (u : Nat) : Fld := ⟨GRAVER.DUTY_LIMIT u, 0, 16⟩
/-- GRAVER ARRAY_LIMIT (+0x0B8), R441. -/
def GRAVER.ARRAY_LIMIT (u : Nat) : Nat := 0x1000B8 + u * 0x10000
def GRAVER.ARRAY_LIMIT_LIMIT (u : Nat) : Fld := ⟨GRAVER.ARRAY_LIMIT u, 0, 32⟩
/-- GRAVER ENERGY_NOW (+0x0BC), R441. -/
def GRAVER.ENERGY_NOW (u : Nat) : Nat := 0x1000BC + u * 0x10000
def GRAVER.ENERGY_NOW_ENERGY (u : Nat) : Fld := ⟨GRAVER.ENERGY_NOW u, 0, 32⟩
/-- GRAVER GUARD_STATUS (+0x0C0), R441. -/
def GRAVER.GUARD_STATUS (u : Nat) : Nat := 0x1000C0 + u * 0x10000
def GRAVER.GUARD_STATUS_CLAMPS (u : Nat) : Fld := ⟨GRAVER.GUARD_STATUS u, 24, 6⟩
def GRAVER.GUARD_STATUS_TEMP (u : Nat) : Fld := ⟨GRAVER.GUARD_STATUS u, 8, 12⟩
def GRAVER.GUARD_STATUS_LUT_VALID (u : Nat) : Fld := ⟨GRAVER.GUARD_STATUS u, 7, 1⟩
def GRAVER.GUARD_STATUS_TEMP_VALID (u : Nat) : Fld := ⟨GRAVER.GUARD_STATUS u, 6, 1⟩
def GRAVER.GUARD_STATUS_BAND (u : Nat) : Fld := ⟨GRAVER.GUARD_STATUS u, 4, 2⟩
def GRAVER.GUARD_STATUS_WARN (u : Nat) : Fld := ⟨GRAVER.GUARD_STATUS u, 2, 1⟩
def GRAVER.GUARD_STATUS_ARRAY_CLAMPED (u : Nat) : Fld := ⟨GRAVER.GUARD_STATUS u, 1, 1⟩
def GRAVER.GUARD_STATUS_T_CAPPED (u : Nat) : Fld := ⟨GRAVER.GUARD_STATUS u, 0, 1⟩
/-- GRAVER TH_TRIP (+0x0CC), R441. -/
def GRAVER.TH_TRIP (u : Nat) : Nat := 0x1000CC + u * 0x10000
def GRAVER.TH_TRIP_EN (u : Nat) : Fld := ⟨GRAVER.TH_TRIP u, 4, 1⟩
def GRAVER.TH_TRIP_INPUT (u : Nat) : Fld := ⟨GRAVER.TH_TRIP u, 0, 4⟩
/-- GRAVER LUT_SRC (+0x0D0), R441. -/
def GRAVER.LUT_SRC (u : Nat) : Nat := 0x1000D0 + u * 0x10000
def GRAVER.LUT_SRC_FROM_MRAM (u : Nat) : Fld := ⟨GRAVER.LUT_SRC u, 31, 1⟩
def GRAVER.LUT_SRC_OFFSET (u : Nat) : Fld := ⟨GRAVER.LUT_SRC u, 0, 17⟩
/-- GRAVER LUT_CMD (+0x0D4), R441. -/
def GRAVER.LUT_CMD (u : Nat) : Nat := 0x1000D4 + u * 0x10000
def GRAVER.LUT_CMD_GO (u : Nat) : Fld := ⟨GRAVER.LUT_CMD u, 16, 1⟩
def GRAVER.LUT_CMD_HANDLE (u : Nat) : Fld := ⟨GRAVER.LUT_CMD u, 0, 16⟩
/-- GRAVER LUT_STATUS (+0x0D8), R441. -/
def GRAVER.LUT_STATUS (u : Nat) : Nat := 0x1000D8 + u * 0x10000
def GRAVER.LUT_STATUS_SENT (u : Nat) : Fld := ⟨GRAVER.LUT_STATUS u, 16, 16⟩
def GRAVER.LUT_STATUS_BUSY (u : Nat) : Fld := ⟨GRAVER.LUT_STATUS u, 0, 1⟩
/-- GRAVER LASER_CTRL (+0x0DC), R441. -/
def GRAVER.LASER_CTRL (u : Nat) : Nat := 0x1000DC + u * 0x10000
def GRAVER.LASER_CTRL_TERMS (u : Nat) : Fld := ⟨GRAVER.LASER_CTRL u, 8, 8⟩
def GRAVER.LASER_CTRL_LEVEL (u : Nat) : Fld := ⟨GRAVER.LASER_CTRL u, 1, 1⟩
def GRAVER.LASER_CTRL_LASER_REQ (u : Nat) : Fld := ⟨GRAVER.LASER_CTRL u, 0, 1⟩
/-- GRAVER BAND_EDGES_A (+0x0AC), chapter 14/15. -/
def GRAVER.BAND_EDGES_A (u : Nat) : Nat := 0x1000AC + u * 0x10000
def GRAVER.BAND_EDGES_A_EDGE2 (u : Nat) : Fld := ⟨GRAVER.BAND_EDGES_A u, 16, 12⟩
def GRAVER.BAND_EDGES_A_EDGE1 (u : Nat) : Fld := ⟨GRAVER.BAND_EDGES_A u, 0, 12⟩
/-- GRAVER BAND_EDGES_B (+0x0B0), chapter 14/15. -/
def GRAVER.BAND_EDGES_B (u : Nat) : Nat := 0x1000B0 + u * 0x10000
def GRAVER.BAND_EDGES_B_EDGE3 (u : Nat) : Fld := ⟨GRAVER.BAND_EDGES_B u, 0, 12⟩
/-- GRAVER CLAMP_LO (+0x0C4), R441. -/
def GRAVER.CLAMP_LO (u : Nat) : Nat := 0x1000C4 + u * 0x10000
def GRAVER.CLAMP_LO_CLAMPED (u : Nat) : Fld := ⟨GRAVER.CLAMP_LO u, 0, 32⟩
/-- GRAVER CLAMP_HI (+0x0C8), R441. -/
def GRAVER.CLAMP_HI (u : Nat) : Nat := 0x1000C8 + u * 0x10000
def GRAVER.CLAMP_HI_CLAMPED (u : Nat) : Fld := ⟨GRAVER.CLAMP_HI u, 0, 8⟩
/-- GRAVER HEALTH (+0x200), R441. -/
def GRAVER.HEALTH (u n : Nat) : Nat := 0x100200 + u * 0x10000 + n * 0x4
def GRAVER.HEALTH_HEALTH (u n : Nat) : Fld := ⟨GRAVER.HEALTH u n, 0, 2⟩
/-- GRAVER FACET (+0x1000), R406. -/
def GRAVER.FACET (u n k : Nat) : Nat := 0x101000 + u * 0x10000 + n * 0x400 + k * 0x4
def GRAVER.FACET_MAG (u n k : Nat) : Fld := ⟨GRAVER.FACET u n k, 16, 16⟩
def GRAVER.FACET_DELAY (u n k : Nat) : Fld := ⟨GRAVER.FACET u n k, 0, 16⟩
/-- GRAVER LIN (+0x1040), R406. -/
def GRAVER.LIN (u n k : Nat) : Nat := 0x101040 + u * 0x10000 + n * 0x400 + k * 0x4
def GRAVER.LIN_STEP (u n k : Nat) : Fld := ⟨GRAVER.LIN u n k, 0, 16⟩
/-- GRAVER BOW (+0x1140), R406. -/
def GRAVER.BOW (u n k : Nat) : Nat := 0x101140 + u * 0x10000 + n * 0x400 + k * 0x4
def GRAVER.BOW_BOW (u n k : Nat) : Fld := ⟨GRAVER.BOW u n k, 0, 32⟩
/-- GRAVER EMIT (+0x1180), R406. -/
def GRAVER.EMIT (u n k : Nat) : Nat := 0x101180 + u * 0x10000 + n * 0x400 + k * 0x4
def GRAVER.EMIT_FINE (u n k : Nat) : Fld := ⟨GRAVER.EMIT u n k, 16, 6⟩
def GRAVER.EMIT_OFS (u n k : Nat) : Fld := ⟨GRAVER.EMIT u n k, 0, 10⟩

/-- The registers of the GRAVER block, in the order of the spec's tables (chapter 14/15). -/
def GRAVER.rows0 : List RegRow := [
  ⟨0x0, 1, 0x0, 1, 0x0, 0x0, 0x0, 0x0, 0x0⟩,
  ⟨0x4, 1, 0x0, 1, 0x0, 0x3, 0x0, 0x0, 0x0⟩,
  ⟨0x8, 1, 0x0, 1, 0x0, 0x0, 0x0, 0x0, 0x0⟩,
  ⟨0xC, 1, 0x0, 1, 0x0, 0x0, 0xFF7F, 0x0, 0x0⟩,
  ⟨0x10, 1, 0x0, 1, 0x0, 0x0, 0x0, 0xFFFFFFFF, 0x0⟩,
  ⟨0x14, 1, 0x0, 1, 0x0, 0x0, 0x0, 0x0, 0x0⟩,
  ⟨0x18, 1, 0x0, 1, 0x0, 0xFFFFFFFF, 0x0, 0x0, 0x0⟩,
  ⟨0x1C, 1, 0x0, 1, 0x0, 0x0, 0x7F7F, 0x0, 0x0⟩,
  ⟨0x20, 1, 0x0, 1, 0x0, 0x3F3F3F00, 0x0, 0x0, 0x28200400⟩,
  ⟨0x24, 1, 0x0, 1, 0x0, 0xFFFFFF, 0x0, 0x0, 0x0⟩,
  ⟨0x28, 1, 0x0, 1, 0x0, 0xFFFFFFFF, 0x0, 0x0, 0x0⟩,
  ⟨0x2C, 1, 0x0, 1, 0x0, 0xFFFF, 0x0, 0x0, 0x100⟩,
  ⟨0x30, 1, 0x0, 1, 0x0, 0x10, 0x0, 0x0, 0x0⟩,
  ⟨0x34, 1, 0x0, 1, 0x0, 0xFFFF, 0x0, 0x0, 0xFA50⟩,
  ⟨0x38, 1, 0x0, 1, 0x0, 0x1FF1, 0x0, 0x0, 0x300⟩,
  ⟨0x3C, 1, 0x0, 1, 0x0, 0xFFFF, 0x0, 0x0, 0x0⟩,
  ⟨0x40, 1, 0x0, 1, 0x0, 0xFFFFFFFF, 0x0, 0x0, 0x0⟩,
  ⟨0x44, 1, 0x0, 1, 0x0, 0x0, 0x0, 0x1, 0x0⟩,
  ⟨0x48, 1, 0x0, 1, 0x0, 0xFFFF, 0x0, 0x10000, 0x0⟩,
  ⟨0x4C, 1, 0x0, 1, 0x0, 0xFFFFFFFF, 0x0, 0x0, 0x0⟩]
def GRAVER.rows1 : List RegRow := [
  ⟨0x50, 1, 0x0, 1, 0x0, 0xFFFF, 0x0, 0x0, 0x0⟩,
  ⟨0x54, 1, 0x0, 1, 0x0, 0x0, 0x300, 0x0, 0x0⟩,
  ⟨0x58, 1, 0x0, 1, 0x0, 0xFFFF, 0x0, 0x0, 0x0⟩,
  ⟨0x64, 1, 0x0, 1, 0x0, 0xFFFFFF, 0x0, 0x0, 0x0⟩,
  ⟨0x68, 1, 0x0, 1, 0x0, 0x0, 0x0, 0x3, 0x0⟩,
  ⟨0x6C, 1, 0x0, 1, 0x0, 0x0, 0x10, 0x0, 0x0⟩,
  ⟨0x70, 1, 0x0, 1, 0x0, 0x0, 0x0, 0x0, 0x0⟩,
  ⟨0x74, 1, 0x0, 1, 0x0, 0x0, 0x0, 0x0, 0x0⟩,
  ⟨0x80, 1, 0x0, 1, 0x0, 0x0, 0x0, 0x0, 0x0⟩,
  ⟨0x84, 1, 0x0, 1, 0x0, 0xFFFF, 0x0, 0x0, 0x40⟩,
  ⟨0x88, 1, 0x0, 1, 0x0, 0x0, 0x0, 0x0, 0x0⟩,
  ⟨0x8C, 1, 0x0, 1, 0x0, 0x0, 0x0, 0x0, 0x0⟩,
  ⟨0x9C, 1, 0x0, 1, 0x0, 0x0, 0x0, 0x0, 0x0⟩,
  ⟨0x5C, 1, 0x0, 1, 0x0, 0xFFFFFFFF, 0x0, 0x0, 0x0⟩,
  ⟨0x60, 1, 0x0, 1, 0x0, 0xFFFF, 0x0, 0x0, 0x0⟩,
  ⟨0x78, 1, 0x0, 1, 0x0, 0x0, 0x0, 0x0, 0x0⟩,
  ⟨0x7C, 1, 0x0, 1, 0x0, 0x0, 0x0, 0x0, 0x0⟩,
  ⟨0x90, 1, 0x0, 1, 0x0, 0x0, 0x0, 0x0, 0x0⟩,
  ⟨0x94, 1, 0x0, 1, 0x0, 0x0, 0x0, 0x0, 0x0⟩,
  ⟨0x98, 1, 0x0, 1, 0x0, 0x0, 0x0, 0x0, 0x0⟩]
def GRAVER.rows2 : List RegRow := [
  ⟨0xA0, 1, 0x0, 1, 0x0, 0x7, 0x0, 0x0, 0x0⟩,
  ⟨0xA4, 1, 0x0, 1, 0x0, 0xFFF0FFF, 0x0, 0x0, 0x6E00640⟩,
  ⟨0xA8, 1, 0x0, 1, 0x0, 0xFFF0FFF, 0x0, 0x0, 0x100780⟩,
  ⟨0xB4, 1, 0x0, 1, 0x0, 0xFFFF, 0x0, 0x0, 0x8000⟩,
  ⟨0xB8, 1, 0x0, 1, 0x0, 0xFFFFFFFF, 0x0, 0x0, 0xFFFFFFFF⟩,
  ⟨0xBC, 1, 0x0, 1, 0x0, 0x0, 0x0, 0x0, 0x0⟩,
  ⟨0xC0, 1, 0x0, 1, 0x0, 0x0, 0x0, 0x0, 0x0⟩,
  ⟨0xCC, 1, 0x0, 1, 0x0, 0x1F, 0x0, 0x0, 0x0⟩,
  ⟨0xD0, 1, 0x0, 1, 0x0, 0x8001FFFF, 0x0, 0x0, 0x80000000⟩,
  ⟨0xD4, 1, 0x0, 1, 0x0, 0xFFFF, 0x0, 0x10000, 0x0⟩,
  ⟨0xD8, 1, 0x0, 1, 0x0, 0x0, 0x0, 0x0, 0x0⟩,
  ⟨0xDC, 1, 0x0, 1, 0x0, 0x1, 0x0, 0x0, 0x0⟩,
  ⟨0xAC, 1, 0x0, 1, 0x0, 0xFFF0FFF, 0x0, 0x0, 0x55004B0⟩,
  ⟨0xB0, 1, 0x0, 1, 0x0, 0xFFF, 0x0, 0x0, 0x5F0⟩,
  ⟨0xC4, 1, 0x0, 1, 0x0, 0x0, 0x0, 0x0, 0x0⟩,
  ⟨0xC8, 1, 0x0, 1, 0x0, 0x0, 0x0, 0x0, 0x0⟩,
  ⟨0x200, 40, 0x4, 1, 0x0, 0x3, 0x0, 0x0, 0x0⟩,
  ⟨0x1000, 2, 0x400, 12, 0x4, 0xFFFFFFFF, 0x0, 0x0, 0x0⟩,
  ⟨0x1040, 2, 0x400, 64, 0x4, 0xFFFF, 0x0, 0x0, 0x0⟩,
  ⟨0x1140, 2, 0x400, 16, 0x4, 0xFFFFFFFF, 0x0, 0x0, 0x0⟩]
def GRAVER.rows3 : List RegRow := [
  ⟨0x1180, 2, 0x400, 40, 0x4, 0x3F03FF, 0x0, 0x0, 0x0⟩]
def GRAVER.rows : List RegRow := GRAVER.rows0 ++ GRAVER.rows1 ++ GRAVER.rows2 ++ GRAVER.rows3

/-! ## FOC -/

/-- FOC ID (+0x000), R28. -/
def FOC.ID (u : Nat) : Nat := 0x200000 + u * 0x1000
def FOC.ID_CODE (u : Nat) : Fld := ⟨FOC.ID u, 16, 16⟩
def FOC.ID_VERSION (u : Nat) : Fld := ⟨FOC.ID u, 0, 16⟩
/-- FOC CTRL (+0x004), R30. -/
def FOC.CTRL (u : Nat) : Nat := 0x200004 + u * 0x1000
def FOC.CTRL_ENABLE (u : Nat) : Fld := ⟨FOC.CTRL u, 0, 1⟩
def FOC.CTRL_FORCE_ARM (u : Nat) : Fld := ⟨FOC.CTRL u, 1, 1⟩
/-- FOC STATUS (+0x008), R30. -/
def FOC.STATUS (u : Nat) : Nat := 0x200008 + u * 0x1000
def FOC.STATUS_ENABLED (u : Nat) : Fld := ⟨FOC.STATUS u, 0, 1⟩
def FOC.STATUS_DISABLE_PENDING (u : Nat) : Fld := ⟨FOC.STATUS u, 1, 1⟩
def FOC.STATUS_FAULT_ANY (u : Nat) : Fld := ⟨FOC.STATUS u, 2, 1⟩
/-- FOC FAULT (+0x00C), R31. -/
def FOC.FAULT (u : Nat) : Nat := 0x20000C + u * 0x1000
def FOC.FAULT_BUS_TRIP (u : Nat) : Fld := ⟨FOC.FAULT u, 5, 1⟩
def FOC.FAULT_CHOP_FAIL (u : Nat) : Fld := ⟨FOC.FAULT u, 4, 1⟩
def FOC.FAULT_FB_LOST (u : Nat) : Fld := ⟨FOC.FAULT u, 2, 1⟩
def FOC.FAULT_START_TIMEOUT (u : Nat) : Fld := ⟨FOC.FAULT u, 1, 1⟩
def FOC.FAULT_OVERCURRENT (u : Nat) : Fld := ⟨FOC.FAULT u, 0, 1⟩
/-- FOC FAULT_FORCE (+0x010), R32. -/
def FOC.FAULT_FORCE (u : Nat) : Nat := 0x200010 + u * 0x1000
def FOC.FAULT_FORCE_BITS (u : Nat) : Fld := ⟨FOC.FAULT_FORCE u, 0, 32⟩
/-- FOC INT_EN (+0x018), R33. -/
def FOC.INT_EN (u : Nat) : Nat := 0x200018 + u * 0x1000
def FOC.INT_EN_BITS (u : Nat) : Fld := ⟨FOC.INT_EN u, 0, 32⟩
/-- FOC INT_STAT (+0x01C), R33. -/
def FOC.INT_STAT (u : Nat) : Nat := 0x20001C + u * 0x1000
def FOC.INT_STAT_FAULT_EV (u : Nat) : Fld := ⟨FOC.INT_STAT u, 0, 1⟩
def FOC.INT_STAT_BUS_EV (u : Nat) : Fld := ⟨FOC.INT_STAT u, 5, 1⟩
def FOC.INT_STAT_STOPPED_EV (u : Nat) : Fld := ⟨FOC.INT_STAT u, 4, 1⟩
def FOC.INT_STAT_START_DONE_EV (u : Nat) : Fld := ⟨FOC.INT_STAT u, 3, 1⟩
def FOC.INT_STAT_AT_SPEED_EV (u : Nat) : Fld := ⟨FOC.INT_STAT u, 2, 1⟩
def FOC.INT_STAT_LIMIT_EV (u : Nat) : Fld := ⟨FOC.INT_STAT u, 1, 1⟩
/-- FOC CFG (+0x020), R499. -/
def FOC.CFG (u : Nat) : Nat := 0x200020 + u * 0x1000
def FOC.CFG_POLE_PAIRS (u : Nat) : Fld := ⟨FOC.CFG u, 20, 4⟩
def FOC.CFG_BUS (u : Nat) : Fld := ⟨FOC.CFG u, 17, 3⟩
def FOC.CFG_COAST_DIS (u : Nat) : Fld := ⟨FOC.CFG u, 7, 1⟩
def FOC.CFG_LIM_EN (u : Nat) : Fld := ⟨FOC.CFG u, 6, 1⟩
def FOC.CFG_HOLD_EN (u : Nat) : Fld := ⟨FOC.CFG u, 5, 1⟩
def FOC.CFG_START_N_EN (u : Nat) : Fld := ⟨FOC.CFG u, 4, 1⟩
def FOC.CFG_ANGLE_SRC (u : Nat) : Fld := ⟨FOC.CFG u, 2, 2⟩
def FOC.CFG_POS_MODE (u : Nat) : Fld := ⟨FOC.CFG u, 1, 1⟩
def FOC.CFG_DIR_INV (u : Nat) : Fld := ⟨FOC.CFG u, 0, 1⟩
/-- FOC PWM_CFG (+0x024), R499. -/
def FOC.PWM_CFG (u : Nat) : Nat := 0x200024 + u * 0x1000
def FOC.PWM_CFG_HALF (u : Nat) : Fld := ⟨FOC.PWM_CFG u, 16, 16⟩
def FOC.PWM_CFG_DOUBLE (u : Nat) : Fld := ⟨FOC.PWM_CFG u, 15, 1⟩
def FOC.PWM_CFG_DEADTIME (u : Nat) : Fld := ⟨FOC.PWM_CFG u, 0, 8⟩
/-- FOC SENSE_CFG (+0x028), R499. -/
def FOC.SENSE_CFG (u : Nat) : Nat := 0x200028 + u * 0x1000
def FOC.SENSE_CFG_OSR (u : Nat) : Fld := ⟨FOC.SENSE_CFG u, 16, 8⟩
def FOC.SENSE_CFG_SAMPLE_DLY (u : Nat) : Fld := ⟨FOC.SENSE_CFG u, 0, 6⟩
/-- FOC CUR_GAIN (+0x02C), R499. -/
def FOC.CUR_GAIN (u : Nat) : Nat := 0x20002C + u * 0x1000
def FOC.CUR_GAIN_GAIN (u : Nat) : Fld := ⟨FOC.CUR_GAIN u, 0, 32⟩
/-- FOC CUR_LIMIT (+0x030), R499. -/
def FOC.CUR_LIMIT (u : Nat) : Nat := 0x200030 + u * 0x1000
def FOC.CUR_LIMIT_OC_TRIP (u : Nat) : Fld := ⟨FOC.CUR_LIMIT u, 16, 16⟩
def FOC.CUR_LIMIT_I_MAX (u : Nat) : Fld := ⟨FOC.CUR_LIMIT u, 0, 16⟩
/-- FOC CUR_PI (+0x034), R499. -/
def FOC.CUR_PI (u : Nat) : Nat := 0x200034 + u * 0x1000
def FOC.CUR_PI_KP (u : Nat) : Fld := ⟨FOC.CUR_PI u, 16, 16⟩
def FOC.CUR_PI_KI (u : Nat) : Fld := ⟨FOC.CUR_PI u, 0, 16⟩
/-- FOC SPD_PI (+0x038), R499. -/
def FOC.SPD_PI (u : Nat) : Nat := 0x200038 + u * 0x1000
def FOC.SPD_PI_KP (u : Nat) : Fld := ⟨FOC.SPD_PI u, 16, 16⟩
def FOC.SPD_PI_KI (u : Nat) : Fld := ⟨FOC.SPD_PI u, 0, 16⟩
/-- FOC RATED (+0x03C), R499. -/
def FOC.RATED (u : Nat) : Nat := 0x20003C + u * 0x1000
def FOC.RATED_RATED (u : Nat) : Fld := ⟨FOC.RATED u, 0, 32⟩
/-- FOC SPEED_TOL (+0x040), R499. -/
def FOC.SPEED_TOL (u : Nat) : Nat := 0x200040 + u * 0x1000
def FOC.SPEED_TOL_TOL (u : Nat) : Fld := ⟨FOC.SPEED_TOL u, 0, 16⟩
/-- FOC JERK (+0x04C), R499. -/
def FOC.JERK (u : Nat) : Nat := 0x20004C + u * 0x1000
def FOC.JERK_JERK (u : Nat) : Fld := ⟨FOC.JERK u, 0, 32⟩
/-- FOC TARGET_SPEED (+0x050), R499. -/
def FOC.TARGET_SPEED (u : Nat) : Nat := 0x200050 + u * 0x1000
def FOC.TARGET_SPEED_SPEED (u : Nat) : Fld := ⟨FOC.TARGET_SPEED u, 0, 32⟩
/-- FOC START_CFG (+0x06C), R499. -/
def FOC.START_CFG (u : Nat) : Nat := 0x20006C + u * 0x1000
def FOC.START_CFG_PULSE (u : Nat) : Fld := ⟨FOC.START_CFG u, 24, 8⟩
def FOC.START_CFG_GAP (u : Nat) : Fld := ⟨FOC.START_CFG u, 16, 8⟩
def FOC.START_CFG_PROBE_PULSE (u : Nat) : Fld := ⟨FOC.START_CFG u, 8, 8⟩
def FOC.START_CFG_PROBE_GAP (u : Nat) : Fld := ⟨FOC.START_CFG u, 0, 8⟩
/-- FOC START_CFG2 (+0x070), R499. -/
def FOC.START_CFG2 (u : Nat) : Nat := 0x200070 + u * 0x1000
def FOC.START_CFG2_IF_CURRENT (u : Nat) : Fld := ⟨FOC.START_CFG2 u, 16, 16⟩
def FOC.START_CFG2_OBS_MIN (u : Nat) : Fld := ⟨FOC.START_CFG2 u, 0, 8⟩
/-- FOC CMD (+0x074), R499. -/
def FOC.CMD (u : Nat) : Nat := 0x200074 + u * 0x1000
def FOC.CMD_STOP (u : Nat) : Fld := ⟨FOC.CMD u, 2, 1⟩
def FOC.CMD_START (u : Nat) : Fld := ⟨FOC.CMD u, 1, 1⟩
/-- FOC AXIS_STATUS (+0x078), R499. -/
def FOC.AXIS_STATUS (u : Nat) : Nat := 0x200078 + u * 0x1000
def FOC.AXIS_STATUS_PHASE (u : Nat) : Fld := ⟨FOC.AXIS_STATUS u, 12, 4⟩
def FOC.AXIS_STATUS_CFG_ERR (u : Nat) : Fld := ⟨FOC.AXIS_STATUS u, 6, 1⟩
def FOC.AXIS_STATUS_REFUSED (u : Nat) : Fld := ⟨FOC.AXIS_STATUS u, 5, 1⟩
def FOC.AXIS_STATUS_LIMIT_OVERRUN (u : Nat) : Fld := ⟨FOC.AXIS_STATUS u, 4, 1⟩
def FOC.AXIS_STATUS_ZV_BRAKE (u : Nat) : Fld := ⟨FOC.AXIS_STATUS u, 3, 1⟩
def FOC.AXIS_STATUS_DERATED (u : Nat) : Fld := ⟨FOC.AXIS_STATUS u, 2, 1⟩
def FOC.AXIS_STATUS_AT_LIMIT (u : Nat) : Fld := ⟨FOC.AXIS_STATUS u, 1, 1⟩
def FOC.AXIS_STATUS_AT_SPEED (u : Nat) : Fld := ⟨FOC.AXIS_STATUS u, 0, 1⟩
/-- FOC SPEED (+0x07C), R499. -/
def FOC.SPEED (u : Nat) : Nat := 0x20007C + u * 0x1000
def FOC.SPEED_SPEED (u : Nat) : Fld := ⟨FOC.SPEED u, 0, 32⟩
/-- FOC IDQ (+0x088), R499. -/
def FOC.IDQ (u : Nat) : Nat := 0x200088 + u * 0x1000
def FOC.IDQ_IQ (u : Nat) : Fld := ⟨FOC.IDQ u, 16, 16⟩
def FOC.IDQ_ID (u : Nat) : Fld := ⟨FOC.IDQ u, 0, 16⟩
/-- FOC PROBE_RESULT (+0x08C), R499. -/
def FOC.PROBE_RESULT (u : Nat) : Nat := 0x20008C + u * 0x1000
def FOC.PROBE_RESULT_SPEED (u : Nat) : Fld := ⟨FOC.PROBE_RESULT u, 16, 16⟩
def FOC.PROBE_RESULT_PROBES (u : Nat) : Fld := ⟨FOC.PROBE_RESULT u, 8, 8⟩
def FOC.PROBE_RESULT_ANGLE (u : Nat) : Fld := ⟨FOC.PROBE_RESULT u, 0, 8⟩
/-- FOC FB_CFG (+0x090), R499. -/
def FOC.FB_CFG (u : Nat) : Nat := 0x200090 + u * 0x1000
def FOC.FB_CFG_ANGLE_OFFSET (u : Nat) : Fld := ⟨FOC.FB_CFG u, 16, 16⟩
def FOC.FB_CFG_FB_EN (u : Nat) : Fld := ⟨FOC.FB_CFG u, 7, 1⟩
def FOC.FB_CFG_GAUGE (u : Nat) : Fld := ⟨FOC.FB_CFG u, 0, 6⟩
/-- FOC FB_SCALE (+0x094), R499. -/
def FOC.FB_SCALE (u : Nat) : Nat := 0x200094 + u * 0x1000
def FOC.FB_SCALE_SCALE (u : Nat) : Fld := ⟨FOC.FB_SCALE u, 0, 32⟩
/-- FOC FORECAST (+0x098), R499. -/
def FOC.FORECAST (u : Nat) : Nat := 0x200098 + u * 0x1000
def FOC.FORECAST_BASE (u : Nat) : Fld := ⟨FOC.FORECAST u, 16, 16⟩
def FOC.FORECAST_J (u : Nat) : Fld := ⟨FOC.FORECAST u, 0, 16⟩
/-- FOC ACCEL (+0x044), chapter 17. -/
def FOC.ACCEL (u : Nat) : Nat := 0x200044 + u * 0x1000
def FOC.ACCEL_RATE (u : Nat) : Fld := ⟨FOC.ACCEL u, 0, 32⟩
/-- FOC DECEL (+0x048), chapter 17. -/
def FOC.DECEL (u : Nat) : Nat := 0x200048 + u * 0x1000
def FOC.DECEL_RATE (u : Nat) : Fld := ⟨FOC.DECEL u, 0, 32⟩
/-- FOC TARGET_POS_LO (+0x054), chapter 17. -/
def FOC.TARGET_POS_LO (u : Nat) : Nat := 0x200054 + u * 0x1000
def FOC.TARGET_POS_LO_POS (u : Nat) : Fld := ⟨FOC.TARGET_POS_LO u, 0, 32⟩
/-- FOC TARGET_POS_HI (+0x058), chapter 17. -/
def FOC.TARGET_POS_HI (u : Nat) : Nat := 0x200058 + u * 0x1000
def FOC.TARGET_POS_HI_POS (u : Nat) : Fld := ⟨FOC.TARGET_POS_HI u, 0, 32⟩
/-- FOC LIM_MIN_LO (+0x05C), chapter 17. -/
def FOC.LIM_MIN_LO (u : Nat) : Nat := 0x20005C + u * 0x1000
def FOC.LIM_MIN_LO_POS (u : Nat) : Fld := ⟨FOC.LIM_MIN_LO u, 0, 32⟩
/-- FOC LIM_MIN_HI (+0x060), chapter 17. -/
def FOC.LIM_MIN_HI (u : Nat) : Nat := 0x200060 + u * 0x1000
def FOC.LIM_MIN_HI_POS (u : Nat) : Fld := ⟨FOC.LIM_MIN_HI u, 0, 32⟩
/-- FOC LIM_MAX_LO (+0x064), chapter 17. -/
def FOC.LIM_MAX_LO (u : Nat) : Nat := 0x200064 + u * 0x1000
def FOC.LIM_MAX_LO_POS (u : Nat) : Fld := ⟨FOC.LIM_MAX_LO u, 0, 32⟩
/-- FOC LIM_MAX_HI (+0x068), chapter 17. -/
def FOC.LIM_MAX_HI (u : Nat) : Nat := 0x200068 + u * 0x1000
def FOC.LIM_MAX_HI_POS (u : Nat) : Fld := ⟨FOC.LIM_MAX_HI u, 0, 32⟩
/-- FOC POS_LO (+0x080), chapter 17. -/
def FOC.POS_LO (u : Nat) : Nat := 0x200080 + u * 0x1000
def FOC.POS_LO_POS (u : Nat) : Fld := ⟨FOC.POS_LO u, 0, 32⟩
/-- FOC POS_HI (+0x084), chapter 17. -/
def FOC.POS_HI (u : Nat) : Nat := 0x200084 + u * 0x1000
def FOC.POS_HI_POS (u : Nat) : Fld := ⟨FOC.POS_HI u, 0, 32⟩
/-- FOC BUS_CFG (+0x800), R500. -/
def FOC.BUS_CFG (u : Nat) : Nat := 0x200800 + u * 0x1000
def FOC.BUS_CFG_CHOP_DERATE (u : Nat) : Fld := ⟨FOC.BUS_CFG u, 1, 3⟩
def FOC.BUS_CFG_CHOP_EN (u : Nat) : Fld := ⟨FOC.BUS_CFG u, 0, 1⟩
/-- FOC BUS_GAIN (+0x804), R500. -/
def FOC.BUS_GAIN (u : Nat) : Nat := 0x200804 + u * 0x1000
def FOC.BUS_GAIN_GAIN (u : Nat) : Fld := ⟨FOC.BUS_GAIN u, 0, 32⟩
/-- FOC BUS_CHOP (+0x808), R500. -/
def FOC.BUS_CHOP (u : Nat) : Nat := 0x200808 + u * 0x1000
def FOC.BUS_CHOP_CHOP_ON (u : Nat) : Fld := ⟨FOC.BUS_CHOP u, 16, 16⟩
def FOC.BUS_CHOP_CHOP_OFF (u : Nat) : Fld := ⟨FOC.BUS_CHOP u, 0, 16⟩
/-- FOC BUS_LIMITS (+0x80C), R500. -/
def FOC.BUS_LIMITS (u : Nat) : Nat := 0x20080C + u * 0x1000
def FOC.BUS_LIMITS_TRIP (u : Nat) : Fld := ⟨FOC.BUS_LIMITS u, 16, 16⟩
def FOC.BUS_LIMITS_CHOP_RISE (u : Nat) : Fld := ⟨FOC.BUS_LIMITS u, 8, 8⟩
/-- FOC BUS_STATUS (+0x810), R500. -/
def FOC.BUS_STATUS (u : Nat) : Nat := 0x200810 + u * 0x1000
def FOC.BUS_STATUS_REGEN_LIMIT (u : Nat) : Fld := ⟨FOC.BUS_STATUS u, 16, 16⟩
def FOC.BUS_STATUS_VOLTAGE (u : Nat) : Fld := ⟨FOC.BUS_STATUS u, 2, 14⟩
def FOC.BUS_STATUS_CHOP_FAILED (u : Nat) : Fld := ⟨FOC.BUS_STATUS u, 1, 1⟩
def FOC.BUS_STATUS_BRAKE (u : Nat) : Fld := ⟨FOC.BUS_STATUS u, 0, 1⟩

/-- The registers of the FOC block, in the order of the spec's tables (chapter 17). -/
def FOC.rows0 : List RegRow := [
  ⟨0x0, 1, 0x0, 1, 0x0, 0x0, 0x0, 0x0, 0x0⟩,
  ⟨0x4, 1, 0x0, 1, 0x0, 0x3, 0x0, 0x0, 0x0⟩,
  ⟨0x8, 1, 0x0, 1, 0x0, 0x0, 0x0, 0x0, 0x0⟩,
  ⟨0xC, 1, 0x0, 1, 0x0, 0x0, 0x37, 0x0, 0x0⟩,
  ⟨0x10, 1, 0x0, 1, 0x0, 0x0, 0x0, 0xFFFFFFFF, 0x0⟩,
  ⟨0x14, 1, 0x0, 1, 0x0, 0x0, 0x0, 0x0, 0x0⟩,
  ⟨0x18, 1, 0x0, 1, 0x0, 0xFFFFFFFF, 0x0, 0x0, 0x0⟩,
  ⟨0x1C, 1, 0x0, 1, 0x0, 0x0, 0x3F, 0x0, 0x0⟩,
  ⟨0x20, 1, 0x0, 1, 0x0, 0xFE00FF, 0x0, 0x0, 0x100000⟩,
  ⟨0x24, 1, 0x0, 1, 0x0, 0xFFFF80FF, 0x0, 0x0, 0x27100032⟩,
  ⟨0x28, 1, 0x0, 1, 0x0, 0xFF003F, 0x0, 0x0, 0x400000⟩,
  ⟨0x2C, 1, 0x0, 1, 0x0, 0xFFFFFFFF, 0x0, 0x0, 0x10000⟩,
  ⟨0x30, 1, 0x0, 1, 0x0, 0xFFFFFFFF, 0x0, 0x0, 0xFFFF0000⟩,
  ⟨0x34, 1, 0x0, 1, 0x0, 0xFFFFFFFF, 0x0, 0x0, 0x0⟩,
  ⟨0x38, 1, 0x0, 1, 0x0, 0xFFFFFFFF, 0x0, 0x0, 0x0⟩,
  ⟨0x3C, 1, 0x0, 1, 0x0, 0xFFFFFFFF, 0x0, 0x0, 0x0⟩,
  ⟨0x40, 1, 0x0, 1, 0x0, 0xFFFF, 0x0, 0x0, 0x100⟩,
  ⟨0x4C, 1, 0x0, 1, 0x0, 0xFFFFFFFF, 0x0, 0x0, 0x0⟩,
  ⟨0x50, 1, 0x0, 1, 0x0, 0xFFFFFFFF, 0x0, 0x0, 0x0⟩,
  ⟨0x6C, 1, 0x0, 1, 0x0, 0xFFFFFFFF, 0x0, 0x0, 0x28141432⟩]
def FOC.rows1 : List RegRow := [
  ⟨0x70, 1, 0x0, 1, 0x0, 0xFFFF00FF, 0x0, 0x0, 0x5⟩,
  ⟨0x74, 1, 0x0, 1, 0x0, 0x0, 0x0, 0x6, 0x0⟩,
  ⟨0x78, 1, 0x0, 1, 0x0, 0x0, 0x70, 0x0, 0x0⟩,
  ⟨0x7C, 1, 0x0, 1, 0x0, 0x0, 0x0, 0x0, 0x0⟩,
  ⟨0x88, 1, 0x0, 1, 0x0, 0x0, 0x0, 0x0, 0x0⟩,
  ⟨0x8C, 1, 0x0, 1, 0x0, 0x0, 0x0, 0x0, 0x0⟩,
  ⟨0x90, 1, 0x0, 1, 0x0, 0xFFFF00BF, 0x0, 0x0, 0x0⟩,
  ⟨0x94, 1, 0x0, 1, 0x0, 0xFFFFFFFF, 0x0, 0x0, 0x10000⟩,
  ⟨0x98, 1, 0x0, 1, 0x0, 0xFFFFFFFF, 0x0, 0x0, 0x0⟩,
  ⟨0x44, 1, 0x0, 1, 0x0, 0xFFFFFFFF, 0x0, 0x0, 0x0⟩,
  ⟨0x48, 1, 0x0, 1, 0x0, 0xFFFFFFFF, 0x0, 0x0, 0x0⟩,
  ⟨0x54, 1, 0x0, 1, 0x0, 0xFFFFFFFF, 0x0, 0x0, 0x0⟩,
  ⟨0x58, 1, 0x0, 1, 0x0, 0xFFFFFFFF, 0x0, 0x0, 0x0⟩,
  ⟨0x5C, 1, 0x0, 1, 0x0, 0xFFFFFFFF, 0x0, 0x0, 0x0⟩,
  ⟨0x60, 1, 0x0, 1, 0x0, 0xFFFFFFFF, 0x0, 0x0, 0x0⟩,
  ⟨0x64, 1, 0x0, 1, 0x0, 0xFFFFFFFF, 0x0, 0x0, 0x0⟩,
  ⟨0x68, 1, 0x0, 1, 0x0, 0xFFFFFFFF, 0x0, 0x0, 0x0⟩,
  ⟨0x80, 1, 0x0, 1, 0x0, 0x0, 0x0, 0x0, 0x0⟩,
  ⟨0x84, 1, 0x0, 1, 0x0, 0x0, 0x0, 0x0, 0x0⟩,
  ⟨0x800, 1, 0x0, 1, 0x0, 0xF, 0x0, 0x0, 0x4⟩]
def FOC.rows2 : List RegRow := [
  ⟨0x804, 1, 0x0, 1, 0x0, 0xFFFFFFFF, 0x0, 0x0, 0x10000⟩,
  ⟨0x808, 1, 0x0, 1, 0x0, 0xFFFFFFFF, 0x0, 0x0, 0xFFFFFFFF⟩,
  ⟨0x80C, 1, 0x0, 1, 0x0, 0xFFFFFF00, 0x0, 0x0, 0xFFFFC800⟩,
  ⟨0x810, 1, 0x0, 1, 0x0, 0xFFFF0000, 0x0, 0x0, 0xFFFF0000⟩]
def FOC.rows : List RegRow := FOC.rows0 ++ FOC.rows1 ++ FOC.rows2

/-! ## STEP -/

/-- STEP ID (+0x000), R28. -/
def STEP.ID (u : Nat) : Nat := 0x210000 + u * 0x1000
def STEP.ID_CODE (u : Nat) : Fld := ⟨STEP.ID u, 16, 16⟩
def STEP.ID_VERSION (u : Nat) : Fld := ⟨STEP.ID u, 0, 16⟩
/-- STEP CTRL (+0x004), R30. -/
def STEP.CTRL (u : Nat) : Nat := 0x210004 + u * 0x1000
def STEP.CTRL_ENABLE (u : Nat) : Fld := ⟨STEP.CTRL u, 0, 1⟩
def STEP.CTRL_FORCE_ARM (u : Nat) : Fld := ⟨STEP.CTRL u, 1, 1⟩
/-- STEP STATUS (+0x008), R30. -/
def STEP.STATUS (u : Nat) : Nat := 0x210008 + u * 0x1000
def STEP.STATUS_ENABLED (u : Nat) : Fld := ⟨STEP.STATUS u, 0, 1⟩
def STEP.STATUS_DISABLE_PENDING (u : Nat) : Fld := ⟨STEP.STATUS u, 1, 1⟩
def STEP.STATUS_FAULT_ANY (u : Nat) : Fld := ⟨STEP.STATUS u, 2, 1⟩
/-- STEP FAULT (+0x00C), R31. -/
def STEP.FAULT (u : Nat) : Nat := 0x21000C + u * 0x1000
def STEP.FAULT_STALL (u : Nat) : Fld := ⟨STEP.FAULT u, 1, 1⟩
def STEP.FAULT_OVERCURRENT (u : Nat) : Fld := ⟨STEP.FAULT u, 0, 1⟩
/-- STEP FAULT_FORCE (+0x010), R32. -/
def STEP.FAULT_FORCE (u : Nat) : Nat := 0x210010 + u * 0x1000
def STEP.FAULT_FORCE_BITS (u : Nat) : Fld := ⟨STEP.FAULT_FORCE u, 0, 32⟩
/-- STEP INT_EN (+0x018), R33. -/
def STEP.INT_EN (u : Nat) : Nat := 0x210018 + u * 0x1000
def STEP.INT_EN_BITS (u : Nat) : Fld := ⟨STEP.INT_EN u, 0, 32⟩
/-- STEP INT_STAT (+0x01C), R33. -/
def STEP.INT_STAT (u : Nat) : Nat := 0x21001C + u * 0x1000
def STEP.INT_STAT_FAULT_EV (u : Nat) : Fld := ⟨STEP.INT_STAT u, 0, 1⟩
def STEP.INT_STAT_MAX_CURRENT_EV (u : Nat) : Fld := ⟨STEP.INT_STAT u, 5, 1⟩
def STEP.INT_STAT_STOPPED_EV (u : Nat) : Fld := ⟨STEP.INT_STAT u, 4, 1⟩
def STEP.INT_STAT_START_DONE_EV (u : Nat) : Fld := ⟨STEP.INT_STAT u, 3, 1⟩
def STEP.INT_STAT_AT_SPEED_EV (u : Nat) : Fld := ⟨STEP.INT_STAT u, 2, 1⟩
def STEP.INT_STAT_LIMIT_EV (u : Nat) : Fld := ⟨STEP.INT_STAT u, 1, 1⟩
/-- STEP CFG (+0x020), R501. -/
def STEP.CFG (u : Nat) : Nat := 0x210020 + u * 0x1000
def STEP.CFG_BUS (u : Nat) : Fld := ⟨STEP.CFG u, 17, 3⟩
def STEP.CFG_MICRO_LOG2 (u : Nat) : Fld := ⟨STEP.CFG u, 8, 4⟩
def STEP.CFG_COAST_DIS (u : Nat) : Fld := ⟨STEP.CFG u, 7, 1⟩
def STEP.CFG_LIM_EN (u : Nat) : Fld := ⟨STEP.CFG u, 6, 1⟩
def STEP.CFG_START_N_EN (u : Nat) : Fld := ⟨STEP.CFG u, 4, 1⟩
def STEP.CFG_CUR_MODE (u : Nat) : Fld := ⟨STEP.CFG u, 2, 2⟩
def STEP.CFG_POS_MODE (u : Nat) : Fld := ⟨STEP.CFG u, 1, 1⟩
def STEP.CFG_DIR_INV (u : Nat) : Fld := ⟨STEP.CFG u, 0, 1⟩
/-- STEP CURRENT (+0x030), R501. -/
def STEP.CURRENT (u : Nat) : Nat := 0x210030 + u * 0x1000
def STEP.CURRENT_RUN (u : Nat) : Fld := ⟨STEP.CURRENT u, 16, 16⟩
def STEP.CURRENT_HOLD (u : Nat) : Fld := ⟨STEP.CURRENT u, 0, 16⟩
/-- STEP ADAPT (+0x034), R501. -/
def STEP.ADAPT (u : Nat) : Nat := 0x210034 + u * 0x1000
def STEP.ADAPT_THETA_HI (u : Nat) : Fld := ⟨STEP.ADAPT u, 24, 8⟩
def STEP.ADAPT_THETA_LO (u : Nat) : Fld := ⟨STEP.ADAPT u, 16, 8⟩
def STEP.ADAPT_MAX_STEPS (u : Nat) : Fld := ⟨STEP.ADAPT u, 0, 16⟩
/-- STEP COIL_R (+0x038), R501. -/
def STEP.COIL_R (u : Nat) : Nat := 0x210038 + u * 0x1000
def STEP.COIL_R_R (u : Nat) : Fld := ⟨STEP.COIL_R u, 0, 16⟩
/-- STEP FB_CFG (+0x064), R501. -/
def STEP.FB_CFG (u : Nat) : Nat := 0x210064 + u * 0x1000
def STEP.FB_CFG_DEV_WINDOW (u : Nat) : Fld := ⟨STEP.FB_CFG u, 16, 16⟩
def STEP.FB_CFG_FB_EN (u : Nat) : Fld := ⟨STEP.FB_CFG u, 7, 1⟩
def STEP.FB_CFG_GAUGE (u : Nat) : Fld := ⟨STEP.FB_CFG u, 0, 6⟩
/-- STEP FB_SCALE (+0x068), R501. -/
def STEP.FB_SCALE (u : Nat) : Nat := 0x210068 + u * 0x1000
def STEP.FB_SCALE_SCALE (u : Nat) : Fld := ⟨STEP.FB_SCALE u, 0, 32⟩
/-- STEP DEVIATION (+0x080), R501. -/
def STEP.DEVIATION (u : Nat) : Nat := 0x210080 + u * 0x1000
def STEP.DEVIATION_DEV (u : Nat) : Fld := ⟨STEP.DEVIATION u, 0, 32⟩
/-- STEP LOAD (+0x084), R501. -/
def STEP.LOAD (u : Nat) : Nat := 0x210084 + u * 0x1000
def STEP.LOAD_LOAD_ANGLE (u : Nat) : Fld := ⟨STEP.LOAD u, 24, 8⟩
def STEP.LOAD_AT_MAX (u : Nat) : Fld := ⟨STEP.LOAD u, 0, 24⟩
/-- STEP SENSE_CFG (+0x028), R499. -/
def STEP.SENSE_CFG (u : Nat) : Nat := 0x210028 + u * 0x1000
def STEP.SENSE_CFG_OSR (u : Nat) : Fld := ⟨STEP.SENSE_CFG u, 16, 8⟩
def STEP.SENSE_CFG_SAMPLE_DLY (u : Nat) : Fld := ⟨STEP.SENSE_CFG u, 0, 6⟩
/-- STEP CUR_GAIN (+0x02C), R499. -/
def STEP.CUR_GAIN (u : Nat) : Nat := 0x21002C + u * 0x1000
def STEP.CUR_GAIN_GAIN (u : Nat) : Fld := ⟨STEP.CUR_GAIN u, 0, 32⟩
/-- STEP JERK (+0x044), R499. -/
def STEP.JERK (u : Nat) : Nat := 0x210044 + u * 0x1000
def STEP.JERK_JERK (u : Nat) : Fld := ⟨STEP.JERK u, 0, 32⟩
/-- STEP TARGET_SPEED (+0x048), R499. -/
def STEP.TARGET_SPEED (u : Nat) : Nat := 0x210048 + u * 0x1000
def STEP.TARGET_SPEED_SPEED (u : Nat) : Fld := ⟨STEP.TARGET_SPEED u, 0, 32⟩
/-- STEP CMD (+0x06C), R499. -/
def STEP.CMD (u : Nat) : Nat := 0x21006C + u * 0x1000
def STEP.CMD_STOP (u : Nat) : Fld := ⟨STEP.CMD u, 2, 1⟩
def STEP.CMD_START (u : Nat) : Fld := ⟨STEP.CMD u, 1, 1⟩
/-- STEP AXIS_STATUS (+0x070), R499. -/
def STEP.AXIS_STATUS (u : Nat) : Nat := 0x210070 + u * 0x1000
def STEP.AXIS_STATUS_PHASE (u : Nat) : Fld := ⟨STEP.AXIS_STATUS u, 12, 4⟩
def STEP.AXIS_STATUS_CFG_ERR (u : Nat) : Fld := ⟨STEP.AXIS_STATUS u, 6, 1⟩
def STEP.AXIS_STATUS_REFUSED (u : Nat) : Fld := ⟨STEP.AXIS_STATUS u, 5, 1⟩
def STEP.AXIS_STATUS_LIMIT_OVERRUN (u : Nat) : Fld := ⟨STEP.AXIS_STATUS u, 4, 1⟩
def STEP.AXIS_STATUS_ZV_BRAKE (u : Nat) : Fld := ⟨STEP.AXIS_STATUS u, 3, 1⟩
def STEP.AXIS_STATUS_DERATED (u : Nat) : Fld := ⟨STEP.AXIS_STATUS u, 2, 1⟩
def STEP.AXIS_STATUS_AT_LIMIT (u : Nat) : Fld := ⟨STEP.AXIS_STATUS u, 1, 1⟩
def STEP.AXIS_STATUS_AT_SPEED (u : Nat) : Fld := ⟨STEP.AXIS_STATUS u, 0, 1⟩
/-- STEP SPEED (+0x074), R499. -/
def STEP.SPEED (u : Nat) : Nat := 0x210074 + u * 0x1000
def STEP.SPEED_SPEED (u : Nat) : Fld := ⟨STEP.SPEED u, 0, 32⟩
/-- STEP FORECAST (+0x088), R499. -/
def STEP.FORECAST (u : Nat) : Nat := 0x210088 + u * 0x1000
def STEP.FORECAST_BASE (u : Nat) : Fld := ⟨STEP.FORECAST u, 16, 16⟩
def STEP.FORECAST_J (u : Nat) : Fld := ⟨STEP.FORECAST u, 0, 16⟩
/-- STEP PWM_CFG (+0x024), chapter 17. -/
def STEP.PWM_CFG (u : Nat) : Nat := 0x210024 + u * 0x1000
def STEP.PWM_CFG_HALF (u : Nat) : Fld := ⟨STEP.PWM_CFG u, 16, 16⟩
def STEP.PWM_CFG_DOUBLE (u : Nat) : Fld := ⟨STEP.PWM_CFG u, 15, 1⟩
/-- STEP ACCEL (+0x03C), chapter 17. -/
def STEP.ACCEL (u : Nat) : Nat := 0x21003C + u * 0x1000
def STEP.ACCEL_RATE (u : Nat) : Fld := ⟨STEP.ACCEL u, 0, 32⟩
/-- STEP DECEL (+0x040), chapter 17. -/
def STEP.DECEL (u : Nat) : Nat := 0x210040 + u * 0x1000
def STEP.DECEL_RATE (u : Nat) : Fld := ⟨STEP.DECEL u, 0, 32⟩
/-- STEP TARGET_POS_LO (+0x04C), chapter 17. -/
def STEP.TARGET_POS_LO (u : Nat) : Nat := 0x21004C + u * 0x1000
def STEP.TARGET_POS_LO_POS (u : Nat) : Fld := ⟨STEP.TARGET_POS_LO u, 0, 32⟩
/-- STEP TARGET_POS_HI (+0x050), chapter 17. -/
def STEP.TARGET_POS_HI (u : Nat) : Nat := 0x210050 + u * 0x1000
def STEP.TARGET_POS_HI_POS (u : Nat) : Fld := ⟨STEP.TARGET_POS_HI u, 0, 32⟩
/-- STEP LIM_MIN_LO (+0x054), chapter 17. -/
def STEP.LIM_MIN_LO (u : Nat) : Nat := 0x210054 + u * 0x1000
def STEP.LIM_MIN_LO_POS (u : Nat) : Fld := ⟨STEP.LIM_MIN_LO u, 0, 32⟩
/-- STEP LIM_MIN_HI (+0x058), chapter 17. -/
def STEP.LIM_MIN_HI (u : Nat) : Nat := 0x210058 + u * 0x1000
def STEP.LIM_MIN_HI_POS (u : Nat) : Fld := ⟨STEP.LIM_MIN_HI u, 0, 32⟩
/-- STEP LIM_MAX_LO (+0x05C), chapter 17. -/
def STEP.LIM_MAX_LO (u : Nat) : Nat := 0x21005C + u * 0x1000
def STEP.LIM_MAX_LO_POS (u : Nat) : Fld := ⟨STEP.LIM_MAX_LO u, 0, 32⟩
/-- STEP LIM_MAX_HI (+0x060), chapter 17. -/
def STEP.LIM_MAX_HI (u : Nat) : Nat := 0x210060 + u * 0x1000
def STEP.LIM_MAX_HI_POS (u : Nat) : Fld := ⟨STEP.LIM_MAX_HI u, 0, 32⟩
/-- STEP POS_LO (+0x078), chapter 17. -/
def STEP.POS_LO (u : Nat) : Nat := 0x210078 + u * 0x1000
def STEP.POS_LO_POS (u : Nat) : Fld := ⟨STEP.POS_LO u, 0, 32⟩
/-- STEP POS_HI (+0x07C), chapter 17. -/
def STEP.POS_HI (u : Nat) : Nat := 0x21007C + u * 0x1000
def STEP.POS_HI_POS (u : Nat) : Fld := ⟨STEP.POS_HI u, 0, 32⟩

/-- The registers of the STEP block, in the order of the spec's tables (chapter 17). -/
def STEP.rows0 : List RegRow := [
  ⟨0x0, 1, 0x0, 1, 0x0, 0x0, 0x0, 0x0, 0x0⟩,
  ⟨0x4, 1, 0x0, 1, 0x0, 0x3, 0x0, 0x0, 0x0⟩,
  ⟨0x8, 1, 0x0, 1, 0x0, 0x0, 0x0, 0x0, 0x0⟩,
  ⟨0xC, 1, 0x0, 1, 0x0, 0x0, 0x3, 0x0, 0x0⟩,
  ⟨0x10, 1, 0x0, 1, 0x0, 0x0, 0x0, 0xFFFFFFFF, 0x0⟩,
  ⟨0x14, 1, 0x0, 1, 0x0, 0x0, 0x0, 0x0, 0x0⟩,
  ⟨0x18, 1, 0x0, 1, 0x0, 0xFFFFFFFF, 0x0, 0x0, 0x0⟩,
  ⟨0x1C, 1, 0x0, 1, 0x0, 0x0, 0x3F, 0x0, 0x0⟩,
  ⟨0x20, 1, 0x0, 1, 0x0, 0xE0FDF, 0x0, 0x0, 0x402⟩,
  ⟨0x30, 1, 0x0, 1, 0x0, 0xFFFFFFFF, 0x0, 0x0, 0x0⟩,
  ⟨0x34, 1, 0x0, 1, 0x0, 0xFFFFFFFF, 0x0, 0x0, 0x5A140040⟩,
  ⟨0x38, 1, 0x0, 1, 0x0, 0xFFFF, 0x0, 0x0, 0x0⟩,
  ⟨0x64, 1, 0x0, 1, 0x0, 0xFFFF00BF, 0x0, 0x0, 0x400000⟩,
  ⟨0x68, 1, 0x0, 1, 0x0, 0xFFFFFFFF, 0x0, 0x0, 0x10000⟩,
  ⟨0x80, 1, 0x0, 1, 0x0, 0x0, 0x0, 0x0, 0x0⟩,
  ⟨0x84, 1, 0x0, 1, 0x0, 0x0, 0x0, 0x0, 0x0⟩,
  ⟨0x28, 1, 0x0, 1, 0x0, 0xFF003F, 0x0, 0x0, 0x400000⟩,
  ⟨0x2C, 1, 0x0, 1, 0x0, 0xFFFFFFFF, 0x0, 0x0, 0x10000⟩,
  ⟨0x44, 1, 0x0, 1, 0x0, 0xFFFFFFFF, 0x0, 0x0, 0x0⟩,
  ⟨0x48, 1, 0x0, 1, 0x0, 0xFFFFFFFF, 0x0, 0x0, 0x0⟩]
def STEP.rows1 : List RegRow := [
  ⟨0x6C, 1, 0x0, 1, 0x0, 0x0, 0x0, 0x6, 0x0⟩,
  ⟨0x70, 1, 0x0, 1, 0x0, 0x0, 0x70, 0x0, 0x0⟩,
  ⟨0x74, 1, 0x0, 1, 0x0, 0x0, 0x0, 0x0, 0x0⟩,
  ⟨0x88, 1, 0x0, 1, 0x0, 0xFFFFFFFF, 0x0, 0x0, 0x0⟩,
  ⟨0x24, 1, 0x0, 1, 0x0, 0xFFFF8000, 0x0, 0x0, 0x27100000⟩,
  ⟨0x3C, 1, 0x0, 1, 0x0, 0xFFFFFFFF, 0x0, 0x0, 0x0⟩,
  ⟨0x40, 1, 0x0, 1, 0x0, 0xFFFFFFFF, 0x0, 0x0, 0x0⟩,
  ⟨0x4C, 1, 0x0, 1, 0x0, 0xFFFFFFFF, 0x0, 0x0, 0x0⟩,
  ⟨0x50, 1, 0x0, 1, 0x0, 0xFFFFFFFF, 0x0, 0x0, 0x0⟩,
  ⟨0x54, 1, 0x0, 1, 0x0, 0xFFFFFFFF, 0x0, 0x0, 0x0⟩,
  ⟨0x58, 1, 0x0, 1, 0x0, 0xFFFFFFFF, 0x0, 0x0, 0x0⟩,
  ⟨0x5C, 1, 0x0, 1, 0x0, 0xFFFFFFFF, 0x0, 0x0, 0x0⟩,
  ⟨0x60, 1, 0x0, 1, 0x0, 0xFFFFFFFF, 0x0, 0x0, 0x0⟩,
  ⟨0x78, 1, 0x0, 1, 0x0, 0x0, 0x0, 0x0, 0x0⟩,
  ⟨0x7C, 1, 0x0, 1, 0x0, 0x0, 0x0, 0x0, 0x0⟩]
def STEP.rows : List RegRow := STEP.rows0 ++ STEP.rows1

/-! ## The map -/

/-- The blocks of R26: base, number of units, distance between units, code in ID[31:16] of the first unit, rows. -/
structure RegBlock where
  base : Nat
  count : Nat
  stride : Nat
  code : Nat
  rows : List RegRow
deriving DecidableEq, Repr

/-- The BAR0 block table of R26. -/
def blocks : List RegBlock := [
  ⟨0x0, 1, 0x10000, 0x7840, SYS.rows⟩,
  ⟨0x10000, 1, 0x10000, 0x1, TINDER.rows⟩,
  ⟨0x20000, 1, 0x10000, 0x2, CLOCK.rows⟩,
  ⟨0x30000, 1, 0x10000, 0x3, GAUGE.rows⟩,
  ⟨0x40000, 1, 0x10000, 0x4, CALENDAR.rows⟩,
  ⟨0x50000, 1, 0x10000, 0x5, SCRIBER.rows⟩,
  ⟨0x60000, 1, 0x10000, 0x6, PLACER.rows⟩,
  ⟨0x70000, 1, 0x10000, 0x7, INTAKE.rows⟩,
  ⟨0x80000, 1, 0x10000, 0x8, MOVER.rows⟩,
  ⟨0x90000, 1, 0x10000, 0x9, CODEC.rows⟩,
  ⟨0xA0000, 1, 0x10000, 0xA, DRAMC.rows⟩,
  ⟨0xB0000, 1, 0x10000, 0xB, PLATE.rows⟩,
  ⟨0xC0000, 1, 0x10000, 0xC, THAIQ.rows⟩,
  ⟨0xD0000, 1, 0x10000, 0xD, HEARTH.rows⟩,
  ⟨0xE0000, 1, 0x10000, 0xE, HV.rows⟩,
  ⟨0xF0000, 1, 0x10000, 0xF, CORD.rows⟩,
  ⟨0x100000, 6, 0x10000, 0x10, GRAVER.rows⟩,
  ⟨0x200000, 12, 0x1000, 0x200, FOC.rows⟩,
  ⟨0x210000, 8, 0x1000, 0x210, STEP.rows⟩]

/-- Does the row hold the block-relative offset `r`? -/
def RegRow.holds (w : RegRow) (r : Nat) : Bool :=
  let d := r - w.off
  let i := if w.s1 = 0 then 0 else d / w.s1
  let d1 := d - i * w.s1
  let j := if w.s2 = 0 then 0 else d1 / w.s2
  decide (w.off ≤ r) && decide (i < w.n1) && decide (j < w.n2) && decide (d1 = j * w.s2)

/-- The block that holds offset `a`, with the unit number and the offset inside the unit (R26). -/
def blockOf (a : Nat) : Option (RegBlock × Nat × Nat) :=
  (blocks.find? (fun b => decide (b.base ≤ a) && decide (a < b.base + b.count * b.stride))).map
    (fun b => (b, (a - b.base) / b.stride, (a - b.base) % b.stride))

/-- The register row that holds offset `a`, or none for a reserved offset (R26, R37). -/
def regRow (a : Nat) : Option RegRow :=
  match blockOf a with
  | none => none
  | some (b, _, r) => b.rows.find? (fun w => w.holds r)

/-- ID of every block: the code of R26 with the version of R29. -/
def resetsOfId : List (Nat × Nat) := [
  (0x0, 0x7840A100), (0x10000, 0x10001), (0x20000, 0x20001), (0x30000, 0x30001), (0x40000, 0x40001), (0x50000, 0x50001),
  (0x60000, 0x60001), (0x70000, 0x70001), (0x80000, 0x80001), (0x90000, 0x90001), (0xA0000, 0xA0001), (0xB0000, 0xB0001),
  (0xC0000, 0xC0001), (0xD0000, 0xD0001), (0xE0000, 0xE0001), (0xF0000, 0xF0001), (0x100000, 0x100001), (0x110000, 0x110001),
  (0x120000, 0x120001), (0x130000, 0x130001), (0x140000, 0x140001), (0x150000, 0x150001), (0x200000, 0x2000001), (0x201000, 0x2010001),
  (0x202000, 0x2020001), (0x203000, 0x2030001), (0x204000, 0x2040001), (0x205000, 0x2050001), (0x206000, 0x2060001), (0x207000, 0x2070001),
  (0x208000, 0x2080001), (0x209000, 0x2090001), (0x20A000, 0x20A0001), (0x20B000, 0x20B0001), (0x210000, 0x2100001), (0x211000, 0x2110001),
  (0x212000, 0x2120001), (0x213000, 0x2130001), (0x214000, 0x2140001), (0x215000, 0x2150001), (0x216000, 0x2160001), (0x217000, 0x2170001)]
/-- RAILn_CFG and RAILn_LEVELS: the own rails of R95 and the parents of R126. -/
def resetsOfRail : List (Nat × Nat) := [
  (0x10040, 0x9F0003E8), (0x10044, 0x29EA2282), (0x10050, 0x800003E8), (0x10054, 0x301B36C2), (0x10060, 0x810003E8), (0x10064, 0x2C0A4287),
  (0x10070, 0x820003E8), (0x10074, 0x2F1B62D1), (0x10080, 0x830003E8), (0x10084, 0x301B36C2), (0x10090, 0x840003E8), (0x10094, 0x39ADE770),
  (0x100A0, 0x1F0003E8), (0x100B0, 0x1F0003E8), (0x100C0, 0x1F0003E8), (0x100D0, 0x1F0003E8), (0x100E0, 0x1F0003E8), (0x100F0, 0x1F0003E8),
  (0x10100, 0x1F0003E8), (0x10110, 0x1F0003E8), (0x10120, 0x1F0003E8), (0x10130, 0x1F0003E8)]
/-- PLLp_CFG of R127 and PLLp_DITHER of R147; PLL 3 reads 0. -/
def resetsOfPll : List (Nat × Nat) := [
  (0x20020, 0x28), (0x20024, 0x8000ACE1), (0x20030, 0x60), (0x20034, 0x8000ACE1), (0x20040, 0x400000CE), (0x20044, 0x8000ACE1),
  (0x20050, 0x0), (0x20054, 0x0), (0x20060, 0x64), (0x20064, 0x8000ACE1)]
/-- Gn_SCALE, Gn_TRACK and Gn_LIMITS of the gauges whose kind has them; the mains gauges G24–G26 differ (R180). -/
def resetsOfGauge : List (Nat × Nat) := [
  (0x30104, 0x10000), (0x30108, 0x1002006), (0x3010C, 0x30010), (0x30124, 0x10000), (0x30128, 0x1002006), (0x3012C, 0x30010),
  (0x30144, 0x10000), (0x30148, 0x1002006), (0x3014C, 0x30010), (0x30164, 0x10000), (0x30168, 0x1002006), (0x3016C, 0x30010),
  (0x30184, 0x10000), (0x30188, 0x1002006), (0x3018C, 0x30010), (0x301A4, 0x10000), (0x301A8, 0x1002006), (0x301AC, 0x30010),
  (0x301C4, 0x10000), (0x301C8, 0x1002006), (0x301CC, 0x30010), (0x301E4, 0x10000), (0x301E8, 0x1002006), (0x301EC, 0x30010),
  (0x30204, 0x10000), (0x30208, 0x1002006), (0x3020C, 0x30010), (0x30224, 0x10000), (0x30228, 0x1002006), (0x3022C, 0x30010),
  (0x30244, 0x10000), (0x30248, 0x1002006), (0x3024C, 0x30010), (0x30264, 0x10000), (0x30268, 0x1002006), (0x3026C, 0x30010),
  (0x30284, 0x10000), (0x30288, 0x1002006), (0x3028C, 0x30010), (0x302A4, 0x10000), (0x302A8, 0x1002006), (0x302AC, 0x30010),
  (0x302C4, 0x10000), (0x302C8, 0x1002006), (0x302CC, 0x30010), (0x302E4, 0x10000), (0x302E8, 0x1002006), (0x302EC, 0x30010),
  (0x303C4, 0x10000), (0x303C8, 0x1002006), (0x303CC, 0x10), (0x303E4, 0x10000), (0x303E8, 0x1002006), (0x303EC, 0x10),
  (0x30408, 0x202004), (0x3040C, 0x1), (0x30428, 0x202004), (0x3042C, 0x1), (0x30448, 0x202004), (0x3044C, 0x1)]
/-- VGv_C1 resets to 1.0 (R180). -/
def resetsOfVirtual : List (Nat × Nat) := [
  (0x30904, 0x10000), (0x30924, 0x10000), (0x30944, 0x10000), (0x30964, 0x10000), (0x30984, 0x10000), (0x309A4, 0x10000),
  (0x309C4, 0x10000), (0x309E4, 0x10000), (0x30A04, 0x10000), (0x30A24, 0x10000), (0x30A44, 0x10000), (0x30A64, 0x10000),
  (0x30A84, 0x10000), (0x30AA4, 0x10000), (0x30AC4, 0x10000), (0x30AE4, 0x10000)]
/-- IRQ_MAPi resets to enabled on vector i, 31 from source 32 on (R294, R306). -/
def resetsOfIrqMap : List (Nat × Nat) := [
  (0x70040, 0x20), (0x70044, 0x21), (0x70048, 0x22), (0x7004C, 0x23), (0x70050, 0x24), (0x70054, 0x25),
  (0x70058, 0x26), (0x7005C, 0x27), (0x70060, 0x28), (0x70064, 0x29), (0x70068, 0x2A), (0x7006C, 0x2B),
  (0x70070, 0x2C), (0x70074, 0x2D), (0x70078, 0x2E), (0x7007C, 0x2F), (0x70080, 0x30), (0x70084, 0x31),
  (0x70088, 0x32), (0x7008C, 0x33), (0x70090, 0x34), (0x70094, 0x35), (0x70098, 0x36), (0x7009C, 0x37),
  (0x700A0, 0x38), (0x700A4, 0x39), (0x700A8, 0x3A), (0x700AC, 0x3B), (0x700B0, 0x3C), (0x700B4, 0x3D),
  (0x700B8, 0x3E), (0x700BC, 0x3F), (0x700C0, 0x3F), (0x700C4, 0x3F), (0x700C8, 0x3F), (0x700CC, 0x3F),
  (0x700D0, 0x3F), (0x700D4, 0x3F), (0x700D8, 0x3F), (0x700DC, 0x3F), (0x700E0, 0x3F), (0x700E4, 0x3F),
  (0x700E8, 0x3F), (0x700EC, 0x3F), (0x700F0, 0x3F), (0x700F4, 0x3F), (0x700F8, 0x3F), (0x700FC, 0x3F),
  (0x70100, 0x3F), (0x70104, 0x3F), (0x70108, 0x3F), (0x7010C, 0x3F), (0x70110, 0x3F), (0x70114, 0x3F),
  (0x70118, 0x3F), (0x7011C, 0x3F), (0x70120, 0x3F), (0x70124, 0x3F)]

/-- The reset values that are not one value for a whole register array, and the ID registers. -/
def specialResets : List (Nat × Nat) := resetsOfId ++ resetsOfRail ++ resetsOfPll ++ resetsOfGauge ++ resetsOfVirtual ++ resetsOfIrqMap

/-- The reset value of the register at offset `a` (R6, R28–R30 and the reset columns of the field tables). -/
def resetNat (a : Nat) : Nat :=
  match specialResets.find? (fun p => p.1 == a) with
  | some p => p.2
  | none => match regRow a with
    | some w => w.reset
    | none => 0

/-- The reset value of the register at offset `a`, as a word. -/
def resetWord (a : Nat) : Word := BitVec.ofNat 32 (resetNat a)

end Sys2Proof.Machine
end

