-- ==== Sys2Proof/Machine/State.lean ====
section
/-!
DEFINITION. The whole state of the RH7840 as plain data, and the state right after reset.
Every register of BAR0 has one home: the sparse table `State.regs`, whose unlisted offsets hold the reset value of
`RegMap.lean`.
Everything the spec gives the device that no register holds stands in the structures below, one per chapter.
Sparse tables list only what differs from reset; an array of like units (gauges, cores, axes) is one such table.
-/

namespace Sys2Proof.Machine

/-! ## Tinder, Ember, reset and boot (chapter 05) -/

/-- What an all-off power-down leads to when its hold-off has ended (R104–R107, R109). -/
inductive AfterDown where
  | rest       -- rest, PHASE 0x8
  | reset      -- the register reset of R109 step 4
  | inputBack  -- a restart once the input entry is good again (R105)
deriving DecidableEq, Repr

/-- A word write of the MRAM service in progress (R124). -/
structure MramWrite where
  addr : Nat
  data : Nat
deriving DecidableEq, Repr

/-- A command of the flash port in progress (R125). -/
structure FlashOp where
  op : Nat
  addr : Nat
  len : Nat
deriving DecidableEq, Repr

/-- Supplies, Ember, the rail sequencer, reset and boot, beside their registers (R89–R126).
Rail states, PHASE, WARN and the monitor readings stand in the TINDER registers. -/
structure Tinder where
  /-- VSTBY is at or above 2.70 V (R90, R92). -/
  vstby : Bool
  /-- VBAT is at or above 2.0 V (R92). -/
  vbat : Bool
  /-- The power-on reset of R90 has not ended. -/
  por : Bool
  /-- VSTBY has risen above 2.90 V since it was last below 2.70 V (R90). -/
  vstbyHigh : Bool
  /-- The Ember domain holds valid data (R92). -/
  emberValid : Bool
  /-- A power-on reset was asserted while Ember held no valid data and waits to be counted (R92). -/
  uncounted : Bool
  /-- Ember: reset counter (R109). -/
  count : Nat
  /-- Ember: last reset cause (R41). -/
  cause : Nat
  /-- Ember: VBAT_LOST (R92). -/
  vbatLost : Bool
  /-- Ember: thermal-trip flag (R92). -/
  trip : Bool
  /-- Crystal edges arrive (R91, R130). -/
  crystal : Bool
  /-- Reset is asserted and not yet released (R109, R546). -/
  inReset : Bool
  /-- The outputs are held at their reset levels: reset, forced off or power-down (R106, R107, R109). -/
  outputsHeld : Bool
  /-- Level of RESET_N. -/
  resetN : Bool
  /-- BOOT[1:0] levels (R66). -/
  bootPins : Nat
  /-- Levels driven on EN0–EN15 (R93). -/
  en : Nat
  /-- Microseconds for which a rising rail has held its conditions (R94). -/
  filterUs : Tbl Nat
  /-- Microseconds for which a good rail has been bad (R100). -/
  dropUs : Tbl Nat
  /-- Rails whose switch-off has begun (R103, R104). -/
  down : Nat
  /-- FAILED rails whose EN is low and whose output does not yet count as off (R101, R103). -/
  draining : Nat
  /-- Rails whose failure waits for their dependants to be off (R101). -/
  failing : Nat
  /-- Forced flag of those failures (R549). -/
  failForced : Nat
  /-- What the hold-off leads to. -/
  after : AfterDown
  /-- WAKE to be latched at the next reset release (R126). -/
  wakeNext : Nat
  /-- A short press is held until PHASE 0x4 (R106). -/
  pbHeld : Bool
  /-- The boot ROM has settled the rail table of this session (R97). -/
  tableRead : Bool
  /-- The boot configuration was read and checked: its script is the one to apply (R119). -/
  cfgValid : Bool
  /-- MRAM_REWRITE_OFF of the boot configuration (R88, R119). -/
  rewriteOff : Bool
  /-- Passes of the yearly MRAM rewrite (R88). -/
  rewrites : Nat
  /-- Domains released from reset and clocked: bit 0 fabric, 1 DDR, 2 SerDes, 3 PCIe, 4 output PLL (R113, R128). -/
  released : Nat
  /-- The MRAM partitions, by offset in the window of R27. -/
  mram : Tbl Nat
  mramWrite : Option MramWrite
  /-- The flash the boot ROM found by SFDP, as its table describes it (R116, R125). -/
  flashPart : Option FlashPart
  /-- The SPI flash's bytes (R116); an external part. -/
  flash : Tbl Nat
  flashOp : Option FlashOp
  /-- Bytes of the UART frame being received (R123). -/
  uartPartial : List Nat
deriving DecidableEq, Repr

/-! ## Clocks (chapter 06) -/

/-- A station tracking synthesizer beside its registers (R132–R145). Times are in 1/16 ns (R137). -/
structure Syn where
  /-- The loop's control value, 48 bits (R132). -/
  fcw : Nat
  /-- Beam-detect edges seen in this acquisition (R134). -/
  edges : Nat
  /-- Time of the first edge of this acquisition. -/
  firstEdge : Nat
  /-- Times of the latest sync events, newest first, one revolution and one more (R133, R144). -/
  syncs : List Nat
  /-- GATED was set by the range check of R132. -/
  gatedRange : Bool
  /-- Consecutive good edges in this coast (R144). -/
  good : Nat
  /-- The coast limit is reached and COAST_EXPIRED waits for the next predicted sync event (R145). -/
  expiring : Bool
  /-- The outputs go to electrical idle at the end of the scan in progress (R143). -/
  idle : Bool
  /-- The frequency offsets of the scan in progress, one for each segment, in ppm, clamped (R136); none while the Graver does not scan. -/
  offsets : List Int
  /-- Time of the first DOTCLK edge of the scan in progress: the accumulator was re-phased to it (R137). -/
  slot0 : Nat
deriving DecidableEq, Repr

/-- A general clock output (R138–R142). Cycles are those of the output PLL. -/
structure Gclk where
  /-- The level it drives. -/
  high : Bool
  /-- Cycles left of the half period in progress, or until the first rising edge after a phase reset. -/
  left : Nat
  /-- Cycles of the low half of the period in progress. -/
  low : Nat
  /-- The accumulator, in 1/256 cycle. -/
  acc : Nat
  /-- The output was gated and completes its high phase (R142). -/
  ending : Bool
  /-- The DIV of the first period after a phase reset, where a DIV write came in its cycle (R555). -/
  firstDiv : Option Nat
  /-- Phase resets it has taken. -/
  resets : Nat
deriving DecidableEq, Repr

/-- Clock state beside the CLOCK registers. -/
structure Clock where
  syn : Tbl Syn
  /-- Start value of each PLL's dither generator in the current acquisition (R129). -/
  dither : Tbl Nat
  gclk : Tbl Gclk
deriving DecidableEq, Repr

/-! ## Gauges and the calendar (chapter 07) -/

/-- A gauge beside its registers (R148–R168). Positions are 64-bit two's complement, 48.16 (R149). -/
structure Gauge where
  /-- The gauge value. -/
  value : Nat
  /-- The value at the last edge, event or stamp (R152, R154). -/
  edgeVal : Nat
  /-- The last edge moved forward. -/
  fwd : Bool
  /-- Edges since the gauge was enabled or began to acquire, up to 2 (R151). -/
  edges : Nat
  /-- Last sampled levels of A and B, A in bit 0 (R155). -/
  ab : Nat
  /-- High-water mark of RAWn in the expected direction (R157). -/
  high : Int
  /-- An index has been seen since enable (R158). -/
  indexSeen : Bool
  /-- Consecutive edges whose tracked rate was out of range (R164). -/
  outOfRange : Nat
  /-- Remote gauge: the source reports lock (R167). -/
  srcLocked : Bool
  /-- Remote gauge: stamps arrive (R167). -/
  stamped : Bool
deriving DecidableEq, Repr

/-- The committed definition of a virtual gauge (R165, R166). -/
structure VirtualDef where
  a : Nat
  bEn : Bool
  b : Nat
  c1 : Int
  c2 : Int
  off : Int
deriving DecidableEq, Repr

/-- Facet identification of a station (R163). -/
structure FacetId where
  /-- Intervals of the revolution being measured, oldest first. -/
  ints : List Nat
  /-- Whole count at the first interval of the revolution. -/
  start : Nat
  /-- Running sum of squared differences for each rotation h. -/
  sums : List Nat
  /-- Revolutions summed in this run. -/
  revs : Nat
deriving DecidableEq, Repr

/-- A calendar entry (R171). -/
structure Entry where
  owner : Nat
  action : Nat
  arg : Nat
  dir : Nat
  gauge : Nat
  pos : Nat
  discard : Bool
  gen : Nat
  /-- Order of acceptance (R175). -/
  seq : Nat
  /-- Its arm request still waits for the calendar: the entry is taken, nothing stands yet (R220–R222). -/
  requested : Bool
  /-- Accepted, insertion not complete (R175). -/
  inserting : Bool
  /-- Either-entry: it lay below its position's far side at insertion; forward group (R174, R176). -/
  below : Bool
  /-- Its position has been crossed and it waits to fire (R161, R176). -/
  crossed : Bool
  /-- Marked LATE (R174). -/
  late : Bool
  /-- Marked RESUMED (R161). -/
  resumed : Bool
  /-- Its core halted with disarm-on-halt: it never fires and the calendar removes it (R178). -/
  doomed : Bool
  /-- Armed by the page engine for a sheet (R458, R459): what its firing means is the page engine's own command (assumption 59). -/
  engine : Bool
deriving DecidableEq, Repr

/-- A request waiting for the calendar (R175): a core's arm, which holds its entry already (R222), the host's arm with what
its registers held, or a disarm. -/
inductive CalReq where
  | arm (entry : Nat)
  | hostArm (action arg dir gauge pos : Nat) (discard : Bool)
  | disarm (owner ticket : Nat)
deriving DecidableEq, Repr

/-- Gauge and calendar state beside the registers. -/
structure GaugeCal where
  gauges : Tbl Gauge
  virtuals : Tbl (Option VirtualDef)
  fid : Tbl FacetId
  /-- Latched value of each capture unit (R170). -/
  capVal : Tbl Nat
  /-- Capture units with an unread value (R170). -/
  capUnread : Nat
  /-- Calendar entries by number (R171). -/
  entries : Tbl (Option Entry)
  /-- Generation last given to each entry number (R171). -/
  gens : Tbl Nat
  seq : Nat
  reqs : List CalReq
deriving DecidableEq, Repr

/-! ## The Scriber and Steward cores (chapters 08 and 09) -/

/-- What a core in a wait instruction waits for (R212, R226, R229, R238). -/
inductive Wait where
  | none
  /-- WAITP: destination register, its entry's number, WAKE_END. -/
  | position (rd entry : Nat) (wakeEnd : Bool)
  /-- WAITEV: destination register and mask. -/
  | event (rd mask : Nat)
  /-- RECV without NW: source register and payload register. -/
  | mail (rd pa : Nat)
deriving DecidableEq, Repr

/-- A message in a mailbox: payload and source word (R236). -/
structure Message where
  payload : DWord
  source : Nat
deriving DecidableEq, Repr

/-- A posted object write (R232). -/
structure ObjWrite where
  handle : Nat
  field : Nat
  value : Nat
deriving DecidableEq, Repr

/-- One Scriber or Steward core (R182–R244). CRITICAL, BREAK_HALT, DISARM_ON_HALT and the breakpoint stand in the SCRIBER
registers. -/
structure Core where
  /-- g1–g31; g0 reads zero (R190). -/
  g : Tbl Word
  /-- p0–p7 (R190). -/
  p : Tbl DWord
  pc : Word
  /-- CSTAT (R192). -/
  pie : Bool
  exc : Bool
  ie : Bool
  epc : Word
  ecause : Word
  eval : Word
  vbase : Word
  scratch : Tbl Word
  /-- CYCLE and its latched high half (R192). -/
  cycle : DWord
  cycleHi : Word
  /-- RETIRED and its latched high half (R192). -/
  retired : DWord
  retiredHi : Word
  /-- GFAULT_HI:GFAULT_LO (R192, R208). -/
  gfault : Nat
  /-- CAL_RANGE (R218, R220). -/
  calBase : Nat
  calCount : Nat
  /-- CAL_PEND (R218). -/
  calPend : Nat
  armLost : Bool
  disarmResult : Nat
  disarmTicket : Nat
  waitTicket : Nat
  /-- Wake flag (R218). -/
  wake : Bool
  /-- Mailbox, oldest first (R236). -/
  mail : List Message
  mailDrops : Nat
  /-- OBJ_ERR (R218). -/
  objErrHandle : Nat
  wqWait : Bool
  undelivered : Bool
  /-- Posted object writes, oldest first (R232). -/
  writes : List ObjWrite
  wait : Wait
  halted : Bool
  haltReason : Nat
  halting : Bool
  /-- The next instruction is the first after a RUN or STEP (R213). -/
  firstInstr : Bool
  /-- Local memory, bytes (R185). -/
  mem : Tbl Nat
  /-- By aligned word address, the versions older than the present one that a fetch before the next ISYNC may still return
  (R188). -/
  stale : Tbl (List Nat)
deriving DecidableEq, Repr

/-! ## Objects, groups, placement and the engine object (chapters 01 and 10) -/

/-- A created object: a data object, or a group (R246–R275). -/
structure Obj where
  kind : Nat
  /-- Data objects: size in bytes (R260). -/
  size : Nat
  cls : Nat
  plateOk : Bool
  /-- WHERE and PLATE_STATION of R269. -/
  place : Nat
  plateStation : Nat
  /-- The 2 KiB half-granules it holds on each rank, 4 × channel + rank, in the order of the interleave (R265). Empty for a group and in
  Plate. -/
  spread : List (Nat × Nat)
  /-- Holders (R269). -/
  use : Nat
  freePending : Bool
  evicted : Bool
  moving : Bool
  /-- Offsets of the 64-byte words poisoned (R270, R356). -/
  poisoned : List Nat
  /-- The kept ENABLE of R250. -/
  enable : Bool
  /-- Content (R260); what nothing has written reads zero, a marked choice. -/
  bytes : Tbl Nat
  /-- Groups: level, direct member words, depth, flattened count (R253–R256). -/
  level : Nat
  members : List Nat
  depth : Nat
  flat : Nat
deriving DecidableEq, Repr

/-- A Placer port: its arguments and result stand in the PLACER registers for port 0; ports 1 and 2 are the Stewards' (R272). -/
structure PlcPort where
  arg0 : Nat
  arg1 : Nat
  arg2 : Nat
  code : Nat
  value : Nat
deriving DecidableEq, Repr

/-- A placed program (R276): the device it went to, by cascade position, and the core there. -/
structure Placed where
  programId : Nat
  device : Nat
  core : Nat
  object : Nat
deriving DecidableEq, Repr

/-- A command the Placer is carrying out or has queued: port, code and arguments (R272). -/
structure PlcCmd where
  port : Nat
  cmd : Nat
  arg0 : Nat
  arg1 : Nat
  arg2 : Nat
deriving DecidableEq, Repr

/-- An object move under way or waiting (R268, R278): object index, reason, the rank it leaves (migration) or the channel (compaction), and
granules still to copy. -/
structure Move where
  index : Nat
  reason : Nat
  rank : Nat
  left : Nat
deriving DecidableEq, Repr

/-- Station object fields (R252). -/
structure Station where
  enable : Bool
  enabled : Bool
  refused : Bool
  busyCommitted : Bool
  plateBusy : Bool
  drumAxis : Nat
  drumGauge : Nat
deriving DecidableEq, Repr

/-- Object table, Placer and engine object, beside their registers. -/
structure Objects where
  /-- Created objects by table index; the fixed objects of R247 are not listed. -/
  objs : Tbl (Option Obj)
  /-- Lowest index never used yet; the free list is this to 0xFFF, then `freed` (R248). -/
  fresh : Nat
  freed : List Nat
  ports : Tbl PlcPort
  cmds : List PlcCmd
  placed : List Placed
  /-- Affinity bindings: group to station member word (R273). -/
  affinity : Tbl Nat
  moves : List Move
  /-- POISON_LOG entries, oldest first: handle and granule offset (R270, R279). -/
  poisonLog : List (Nat × Nat)
  /-- EVICT_LOG handles, oldest first (R271, R279). -/
  evictLog : List Nat
  /-- Channel the next LOCAL object takes (R265). -/
  localNext : Nat
  stations : Tbl Station
  /-- Fixed objects whose last request was refused, by table index (R250 STATUS.REFUSED); the engine and the stations keep their own. -/
  refusals : Tbl Bool
  /-- ENABLE of the fixed objects where it is only kept and read back, by table index (R250). -/
  keptEnable : Tbl Bool
  /-- POISON_LOG has been read since its oldest entry became the oldest (R279). -/
  poisonShown : Bool
deriving DecidableEq, Repr

/-- The engine object and the engine's pending events (R18–R25, R251). STATE stands in SYS ENGINE_STATE. -/
structure Engine where
  enable : Bool
  refused : Bool
  runRefused : Bool
  stationSet : Nat
  runGroup : Nat
  gpioDir : Nat
  gpioOut : Nat
  /-- Levels at the GPIO balls that the device does not drive. -/
  gpioBall : Nat
  /-- START_N is pulled low by this device (R172). -/
  startN : Bool
  /-- A bank request waits for the pages to end (R19). -/
  bankPending : Bool
  /-- A stop request waits for the pages to end (R251). -/
  stopPending : Bool
  /-- An orderly shutdown waits for the pages to end (R107). -/
  shutdownPending : Bool
  /-- The run-out in progress ends in SAFE (R19, R22). -/
  runOutToSafe : Bool
  /-- The run-out's sheets are done and its axes ramp down (R19). -/
  runOutEnding : Bool
  /-- INTERLOCK_N level (R428, R429). -/
  interlock : Bool
  /-- INTERLOCK_N has been high for 10 ms (R428). -/
  interlockOk : Bool
deriving DecidableEq, Repr

/-! ## Endpoint, rings and the Mover (chapter 11) -/

/-- A 64-byte queue record, as bytes (R240, R288, R291). -/
abbrev Record := List Nat

/-- What the device has sent to the outside, oldest first: the model's own record of it. -/
inductive Sent where
  /-- An MSI-X message of a vector (R295). -/
  | msix (vector : Nat)
  /-- A memory write to the host: address and bytes (R291, R296). -/
  | hostWrite (addr : Nat) (bytes : List Nat)
  /-- A read request to the host: address and length (R287, R296). -/
  | hostRead (addr len : Nat)
  /-- A message to a core of another device (R237). -/
  | message (pos core : Nat) (payload : DWord) (source : Nat)
  /-- A fault broadcast: class, bit, block (R24, R544). -/
  | broadcast (cls bit block : Nat)
  /-- A fault broadcast of the device at `pos`, passed on (R544). -/
  | forwarded (pos cls bit block : Nat)
  /-- A start event (R169). -/
  | startEvent
  /-- An object write for a member of another device (R234). -/
  | remoteWrite (pos handle field value : Nat)
  /-- A frame of a station, before scrambling: its four header blocks as 32 bytes, its data words with their padding, and the
  CRC-32C of each lane (R397, R398). -/
  | frame (station : Nat) (header words crcs : List Nat)
  /-- A control block of a station (R400). -/
  | ctrl (station addr data : Nat)
  /-- The ALIGN blocks of a station with their count (R396). -/
  | align (station count : Nat)
  /-- A start-of-scan strobe of a station (R375). -/
  | sos (station scan : Nat)
deriving DecidableEq, Repr

/-- A Mover descriptor (R297). -/
structure Desc where
  host : Nat
  off : Nat
  len : Nat
  handle : Nat
  ctl : Nat
  resv : Nat
  next : Nat
deriving DecidableEq, Repr

/-- A Mover channel beside its registers (R296–R305). -/
structure Chan where
  /-- Space, core and address of the current descriptor. -/
  space : Nat
  core : Nat
  addr : Nat
  /-- The current descriptor, once read and accepted. -/
  desc : Option Desc
  /-- Descriptors read in this chain (R298). -/
  chain : Nat
  /-- Bytes of the current descriptor whose read has been issued. -/
  issued : Nat
  /-- A descriptor read is outstanding. -/
  fetching : Bool
  /-- The last descriptor of the chain is complete, and the chain ends when the drained channel is resumed (R303). -/
  ended : Bool
deriving DecidableEq, Repr

/-- Endpoint, rings, device queues and the Mover beside their registers. -/
structure HostLink where
  /-- Configuration space by byte offset of its dwords: what differs from its reset values (R280, R283). -/
  cfg : Tbl Word
  /-- The function is in D0 (R282). -/
  d0 : Bool
  /-- MSI-X function mask. -/
  fnMask : Bool
  /-- Conditions of the vectors as last evaluated (R295). -/
  vecCond : Nat
  /-- MSI-X pending bits (R295). -/
  pba : Nat
  /-- Device queues 0–47 (R240), records oldest first. -/
  dq : Tbl (List Record)
  /-- A record whose chain is running, by ring (R289). -/
  chainRec : Tbl (Option Record)
  /-- Mover channels. -/
  chans : Tbl Chan
  /-- The submission ring the intake served last (R287), and the channel whose beat was the last (R296). -/
  sqTurn : Nat
  beatTurn : Nat
  /-- The neighbour was accepted when the upstream Thaiq hop was trained (R545). -/
  hopTrained : Bool
  /-- What has left the device. -/
  sent : List Sent
deriving DecidableEq, Repr

/-! ## Codec (chapter 12) -/

/-- A decoder run (R321). -/
structure Run where
  object : Nat
  page : Nat
  first : Nat
  count : Nat
  newPage : Bool
  endPage : Bool
deriving DecidableEq, Repr

/-- An encoder job as its GO started it (R331, R336): source and destination handles, source offset, first line, lines, geometry, lines per
block, level, STATION byte, FORCE_STORED and SRC_KIND. -/
structure EncJob where
  src : Nat
  dst : Nat
  offset : Nat
  first : Nat
  count : Nat
  dots : Nat
  bpd : Nat
  per : Nat
  level : Nat
  station : Nat
  stored : Bool
  blocks : Bool
deriving DecidableEq, Repr

/-- A decoder beside its registers (R321–R330). -/
structure Dec where
  /-- Runs waiting, oldest first, at most 8. -/
  runs : List Run
  /-- The run in progress and the index entry it comes to next. -/
  cur : Option Run
  entry : Nat
  /-- A block in progress, with the index entry's first line and line count. -/
  block : Option (Nat × Nat)
  /-- The next block ends FORCED (R336). -/
  forced : Bool
deriving DecidableEq, Repr

/-! ## DDR5 (chapter 13) -/

/-- A bank's page predictor (R347). -/
structure Bank where
  count : Nat
  learn : Nat
  lastRow : Option Nat
  /-- The row is left open. -/
  isOpen : Bool
deriving DecidableEq, Repr

/-- The DDR5 controller beside its registers. Ranks are numbered 4 × channel + rank. -/
structure Dram where
  /-- Debt of each bank set: (rank × 2 + subchannel) × 4 + set (R349). -/
  debt : Tbl Nat
  /-- Predictors: (rank × 2 + subchannel) × 32 + bank (R347). -/
  banks : Tbl Bank
  /-- Temperature of a channel as last evaluated, and at its training: codes of R507 (R340, R351, R354). -/
  temp : Tbl Nat
  refTemp : Tbl Nat
  /-- Channels whose last MR4 poll asked for more than the nominal refresh rate (R351). -/
  mr4 : Nat
  /-- Rank-subchannels still to retrain on a channel (R354). -/
  slices : Tbl Nat
  /-- Times in seconds of a rank's corrected errors within the last hour, oldest first (R359). -/
  ceTimes : Tbl (List Nat)
  /-- Activations of a bank since it was last managed, numbered as the predictors (R337, R350). -/
  raa : Tbl Nat
  /-- Rank-subchannels, 2 × rank + subchannel, accessed since the last interval boundary, and those in precharge power-down (R337). -/
  touched : Nat
  powerDown : Nat
  /-- The real-time port served last on a subchannel, 2 × channel + subchannel, in panic and out of it (R343). -/
  turnPanic : Tbl Nat
  turnReal : Tbl Nat
  /-- The place the patrol scrub reads next: rank × 2^23 + place in the rank's pass (R359). -/
  scrubAt : Nat
  /-- Bit q: the next pass over rank q is an even one, of the second half of a spare rank of 32 Gb devices (R557). -/
  scrubOdd : Nat
deriving DecidableEq, Repr

/-! ## Plate and Gravers (chapters 14 and 15) -/

/-- A released line in a Plate slot (R367, R323); `blank` lines read dot value 0 (R326, R371). -/
structure PlateLine where
  line : Int
  bytes : List Nat
  blank : Bool
deriving DecidableEq, Repr

/-- An entry of a Graver's page queue (R369): the page's table index, its first station line and its line count. -/
structure QEntry where
  page : Nat
  base : Int
  lines : Nat
  committed : Bool
deriving DecidableEq, Repr

/-- A frame, from its window decision to its scan (R383–R399). -/
structure Frame where
  /-- The scan that fires it. -/
  scan : Nat
  facet : Nat
  /-- Window start, first new line, and the line below which emitters send 0 (R383, R386). -/
  w : Nat
  first : Int
  low : Int
  /-- R of its decision (R384). -/
  row : Int
  bank : Nat
  coasted : Bool
  /-- It begins with SOS_s low: run-out, lost gauge, late lanes (R392, R394, R399). -/
  suppressed : Bool
  blank : Bool
  /-- Sets of the emitters (R414) and the band, once its header is made. -/
  sets : List Nat
  band : Nat
  /-- Pages whose lines it carries, pages that commit with it, lines sent as 0 (R390, R391). -/
  pages : List Nat
  commits : List Nat
  holes : List Int
  /-- CTRL blocks its header counts (R397). -/
  ctrl : Nat
  started : Bool
  complete : Bool
  /-- Health codes at its decision (R408). -/
  health : List Nat
  /-- Cap or clamp in force at its header (R420, R423). -/
  capped : Bool
  clamped : Bool
deriving DecidableEq, Repr

/-- One Graver beside its registers. Times are in 1/16 ns. -/
structure Grav where
  /-- Number of the scan in progress. -/
  scan : Nat
  /-- n_next (R383). -/
  next : Int
  /-- N_f of R368. -/
  nf : Int
  /-- Predicted Y of the scan to come (R385). -/
  pred : Option Int
  /-- R and w of the last decision (R384). -/
  lastRow : Int
  lastW : Nat
  /-- Frames decided and not yet fired, oldest first. -/
  frames : List Frame
  /-- The frame last fired, whose status word is due (R403). -/
  fired : Option Frame
  queue : List QEntry
  /-- The Plate ring by slot. -/
  lines : Tbl (Option PlateLine)
  /-- Fine-delay writes of a switch, pushed writes, and the stream of a CTRL_DMA or a look-up-table build, as address and data
  (R382, R400, R416). -/
  switchQ : List (Nat × Nat)
  ctrlQ : List (Nat × Nat)
  stream : List (Nat × Nat)
  /-- The stream is a look-up-table build; CTRL_ERR was reported during it (R417). -/
  building : Bool
  buildErr : Bool
  /-- The stream's table ends in an error (R406 DMA_ERR). -/
  streamErr : Bool
  /-- The TABLE object that a stream holds (R269, R400, R416). -/
  streamFrom : Option Nat
  /-- A build's blocks are all sent and the first status word after them is awaited. -/
  buildEnd : Bool
  /-- Copies of the driver's setpoint words and look-up-table entries (R416). -/
  setpoints : Tbl Nat
  luts : Tbl Nat
  /-- Window starts of the latest scans, newest first, at most 4,096 (R406 WSTAT). -/
  ws : List Nat
  /-- Duty: per emitter the widths summed in the current bin of 64 frames and in the 63 bins before, newest first (R418). -/
  duty : Tbl (List Nat)
  binFrames : Nat
  /-- Slot 0 time, scan and energy numerator of the frames in the last 1,000 µs (R419). -/
  energy : List (Nat × Nat × Nat)
  /-- Dots owed by substituted emitters of the last complete frame: emitter and count per dot value (R410). -/
  owed : List (Nat × List Nat)
  /-- Substituted emitters of the last decision, to be checked at the next (R410). -/
  subs : List Nat
  /-- DRV_TRIP as the last valid word showed it (R427). -/
  drvTrip : Bool
  /-- A status word has shown READY and LANE_LOCK (R406 LOCK_EV). -/
  lockSeen : Bool
  /-- Forced faults that wait for the next frame (R406). -/
  forced : Nat
  /-- The next line read reads 0 (R407). -/
  plateForced : Bool
  /-- Control blocks sent since the header last sent (R400). -/
  ctrlSince : Nat
  /-- ALIGN blocks sent, modulo 2^16 (R396). -/
  aligns : Nat
  /-- The coast limit was passed while the committed pages now in the queue were on the station: it has no coast privilege (R145). -/
  lapsed : Bool
  /-- Time of the sync event of the scan in progress, and whether it was predicted (R137, R144). -/
  syncTime : Nat
  coasted : Bool
deriving DecidableEq, Repr

/-- A mark sensor beside its registers (R432–R434). -/
structure Mark where
  /-- The last sample and the gauge value it was paired with. -/
  prev : Option (Nat × Nat)
  /-- The last sample that armed a rising edge (below THRESH − HYST) or a falling one has been seen. -/
  armRise : Bool
  armFall : Bool
  sum : Nat
  count : Nat
  /-- The capture object held. -/
  held : Option Nat
deriving DecidableEq, Repr

/-- A word write of the calibration write port of an array in progress, with its registers (R438, R124). -/
structure CalPort where
  addr : Nat
  data : Nat
  busy : Bool
  status : Nat
deriving DecidableEq, Repr


/-! ## The page engine (chapter 16) -/

/-- An object an encoder job makes for a page: an expansion of a stretch of a separation (R454), or for a reprint the recompressed
separation (R462): engine station, source entries `first` to `last`, object index, job done. -/
structure Expansion where
  reprint : Bool
  station : Nat
  first : Nat
  last : Nat
  object : Nat
  ready : Bool
deriving DecidableEq, Repr

/-- A page the page engine has taken in (R443–R463). -/
structure Page where
  /-- STATE of R444. -/
  state : Nat
  marks : Nat
  reason : Nat
  /-- The pitch it was admitted to. -/
  pitch : Option Nat
  gauge : Nat
  attempt : Nat
  withdrawn : Bool
  /-- From the page object (R262, R445). -/
  id : Nat
  flags : Nat
  lines : Nat
  sheetLines : Nat
  offset : Int
  side : Nat
  source : Nat
  output : Nat
  media : Nat
  sheetId : Nat
  pitches : Nat
  seps : List Nat
  /-- The submission record: queue, SQ_INDEX, CHAIN_RESULT, TAG. -/
  queue : Nat
  sqIndex : Nat
  chain : Nat
  tag : Nat
  /-- Local stations whose PAGE_DONE_EV is still to come. -/
  imaging : Nat
  /-- Its sheet has been started, its sheet has left the path (R458, R463). -/
  started : Bool
  gone : Bool
  /-- The other side of its sheet (R447). -/
  mate : Option Nat
  /-- Its objects are held (R269). -/
  holding : Bool
  expansions : List Expansion
deriving DecidableEq, Repr

/-- A path sensor of the configuration (R465). -/
structure Sensor where
  gpio : Nat
  cap : Nat
  role : Nat
  high : Bool
  simplex : Bool
  front : Bool
  zone : Nat
  pos : Int
  early : Nat
  late : Nat
deriving DecidableEq, Repr

/-- The configuration table (R465). -/
structure PageCfg where
  /-- Handle of the configuration table. -/
  table : Nat
  pageRing : Nat
  returns : Nat
  slack : Nat
  reprintLevel : Nat
  pitchGauge : Nat
  pathCore : Nat
  sheetVg : Nat
  pitchLines : Nat
  pitch0 : Nat
  admitLead : Nat
  sheetLead : Nat
  fuserNip : Nat
  purgeLines : Nat
  lineRate : Nat
  minGap : Nat
  zoneAxes : List Nat
  sensors : List Sensor
  origins : List Int
  status : Nat
deriving DecidableEq, Repr

/-- What an admitted page uses a pitch for (R449–R451): its page, return pass or not, counted as skipped. -/
structure Pitch where
  page : Nat
  isReturn : Bool
  counted : Bool
deriving DecidableEq, Repr

/-- A pass of a sheet along the path (R458): its page, pitch, gauge, and per sensor what has been seen: bit 0 the leading window has
opened, 1 its edge was captured, 2 it has closed, 3 the trailing window has opened, 4 its edge was captured, 5 it has closed. -/
structure Sheet where
  page : Nat
  pitch : Nat
  isReturn : Bool
  gauge : Nat
  seen : Tbl Nat
  /-- The zone in which it has been stopped by a jam. -/
  stopped : Bool
deriving DecidableEq, Repr

/-- The page engine. -/
structure PageEng where
  cfg : Option PageCfg
  /-- Pages by object table index. -/
  pages : Tbl (Option Page)
  /-- Pages taken in and not yet reported, in ring order. -/
  order : List Nat
  pitches : Tbl (Option Pitch)
  /-- The next pitch whose deadline is to come. -/
  nextPitch : Nat
  /-- Planned finish of each station, fabric cycles × 1,024 (R453). -/
  finish : Tbl Int
  sheets : List Sheet
  /-- A jam is outstanding; a purge runs (R460). -/
  jammed : Bool
  purging : Bool
  skips : Nat
  /-- SKIP[0–7], then ADMITTED, DELIVERED, SPOILED, ABANDONED, EXPANDED, REPRINTED (R467). -/
  counts : Tbl Nat
  lastPitch : Nat
  lastJam : Nat
deriving DecidableEq, Repr

/-- A record popped by the services and not yet completed, oldest first in its queue (R290–R293): submission record, and once it is
done its completion. -/
structure Serving where
  opcode : Nat
  sqIndex : Nat
  chain : Nat
  tag : Nat
  /-- STATUS and the first three words of BODY. -/
  result : Option (Nat × List Nat)
  /-- The page of a PAGE record. -/
  page : Nat
deriving DecidableEq, Repr


/-! ## Motion (chapter 17) -/

/-- A motor axis beside its registers: FOC axes 0–11, steppers 12–19 (R469–R495). -/
structure Axis where
  /-- What the last start applied: speed and position targets, acceleration and deceleration (R480). -/
  speed : Int
  pos : Int
  accel : Nat
  decel : Nat
  /-- The profile's speed, in 10⁻⁹ of the SPEED register's unit, and its acceleration in ACCEL's unit (R478). -/
  ref : Int
  acc : Int
  /-- Current-loop updates since the last speed-loop update (R476). -/
  updates : Nat
  /-- Pulses ended in the phase in progress (R482, R483). -/
  pulses : Nat
  /-- The pulse of largest di/dt so far: number, peak, length; of the polarity pulses the first peak. -/
  best : Option (Nat × Nat × Nat)
  north : Nat
  /-- Electrical angle in use, degrees (R482). -/
  angle : Nat
  /-- Electrical angle of an encoder axis at its last update, in 1/65,536 revolution (R477). -/
  elec : Nat
  /-- Coil current of an adaptive stepper in motion, mA (R494). -/
  cur : Nat
  /-- A slow axis waits for its next probe, with the bridges off (R483). -/
  reprobe : Bool
  /-- It has been braked under the zero vector and probes below OBS_MIN (R483). -/
  braked : Bool
  /-- An acceleration is under way with its declared peak, W (R495). -/
  declared : Option Nat
  /-- Direction of the limit it stands at: 0 none, 1 LIM_MAX, 2 LIM_MIN (R485). -/
  limit : Nat
deriving DecidableEq, Repr

/-- A bus group beside its registers (R488–R491). Voltages in 10 mV / 65,536. -/
structure BusGroup where
  volts : Nat
  /-- The voltage noted when BRAKEb rose. -/
  noted : Nat
deriving DecidableEq, Repr


/-! ## Hearth, HV and Cord (chapter 18) -/

/-- A TH input beside its registers: the samples of the last 10 ms, newest first; the reading at the start of the rate window; the
readings that began the latest windows in which its zone was heating (NO_RISE), newest first, and whether it has been heating
since the window began; and whether it stands in its trip condition (R507–R509, R514). -/
structure Therm where
  samples : List Nat
  windowStart : Option Nat
  rises : List Nat
  heating : Bool
  bad : Bool
deriving DecidableEq, Repr

/-- A heater zone beside its registers (R512, R529). -/
structure Zone where
  integ : Int
  prev : Nat
  /-- HOLD_P1. -/
  holdP1 : Bool
deriving DecidableEq, Repr

/-- A lamp beside its registers (R504, R505, R530). -/
structure Lamp where
  /-- Request accumulator, 1/65,536; below zero while a lamp conducts on without a request (R531). -/
  acc : Int
  /-- Soft-start half-cycle, 0 none. -/
  soft : Nat
  /-- Half-cycles without conduction, up to 255. -/
  gap : Nat
  /-- Granted the half-cycle to come, from Cord's decision to its crossing. -/
  granted : Bool
  /-- Level of HTRn. -/
  htr : Bool
deriving DecidableEq, Repr

/-- A journal entry waiting or being written, without what the writer adds (R516, R517). -/
structure JEntry where
  kind : Nat
  block : Nat
  bitNo : Nat
  forced : Bool
  engine : Nat
  detail16 : Nat
  detail : Nat
  /-- RESET_COUNT of its session and its UPTIME, ms. -/
  session : Nat
  uptime : Nat
deriving DecidableEq, Repr

/-- The journal writer and the acknowledgement (R517–R519). -/
structure Journal where
  queue : List JEntry
  /-- TRIP and ACK entries held until a place frees. -/
  held : List JEntry
  writing : Option JEntry
  /-- Entries lost since the header was last written. -/
  lost : Nat
deriving DecidableEq, Repr

/-- An HV channel beside its registers (R522–R526). -/
structure HvChan where
  /-- Integrator, 1/256 of DUTY (R524). -/
  integ : Nat
  /-- Windows within SP_TOL, or windows since enabled. -/
  settled : Nat
  /-- Pulse counts of the latest windows, newest first (R526). -/
  pulses : List Nat
  /-- ENABLE has been written 1 since the last fault (R526). -/
  armed : Bool
  /-- Step of the AC cycle (R525) and remainder of the PWM accumulator (R522). -/
  step : Nat
  rem : Nat
deriving DecidableEq, Repr

/-- Cord beside its registers: the last ten ratios of a bus group in 1/256, newest first (R528). -/
abbrev Ratios := List Nat


/-! ## The device -/

/-- The fault classes of R22, with the "none" of R539. -/
inductive FaultClass where
  | none | mark | spoil | engine | engineSafe | safety
deriving DecidableEq, Repr

/-- The state of the device. -/
structure State where
  /-- The registers of BAR0 by offset: one home for every field that the register tables hold (R26–R41). -/
  regs : Tbl Word
  /-- The class each set FAULT bit had when it was raised, by 32 × block code + bit (R540). -/
  classes : Tbl FaultClass
  tinder : Tinder
  engine : Engine
  clock : Clock
  gc : GaugeCal
  cores : Tbl Core
  obj : Objects
  host : HostLink
  dec : Tbl Dec
  /-- Encoder jobs of the page engine: index of the object a job makes, by encoder. -/
  encFor : Tbl (Option Nat)
  /-- What each encoder's job was started with (R331). -/
  encJobs : Tbl EncJob
  dram : Dram
  grav : Tbl Grav
  marks : Tbl Mark
  calPorts : Tbl CalPort
  page : PageEng
  axes : Tbl Axis
  buses : Tbl BusGroup
  therms : Tbl Therm
  zones : Tbl Zone
  lamps : Tbl Lamp
  journal : Journal
  hv : Tbl HvChan
  ratios : Tbl Ratios
  /-- Records being served, by queue 0–15. -/
  serving : Tbl (List Serving)
  /-- The latched high halves of RL register pairs whose live high half stands in `regs`, by offset (R7, R35). -/
  latched : Tbl Nat
  /-- The model's own: the data the last read or recovery command returned to its requester. -/
  reply : List Nat
  /-- The model's own: how many free values have been taken. -/
  freeCtr : Nat
  /-- The commands waiting, first in, first out. -/
  pending : List Instr
deriving DecidableEq, Repr

/-- No command of this block stops with a fault: where the spec calls an access wrong it says what the device does. -/
inductive Fault where
deriving DecidableEq, Repr

/-- Why a command is refused by the model. -/
inductive Refusal where
  /-- Raised by `exec` for a command that has no meaning yet; safe: it proves nothing about the device. -/
  | notModelled (mnemonic : String)
deriving DecidableEq, Repr

/-- What a command answers. -/
abbrev Result := Host.Outcome State Fault Refusal

/-- The machine right after the first power-on reset of a device as shipped: registers at their reset values, reset still
asserted, the rail sequence not started (R90, R92, R109, R563). -/
def State.reset : State := {
  regs := []
  classes := []
  tinder := {
    vstby := true, vbat := true, por := false, vstbyHigh := true, emberValid := true, uncounted := false,
    count := 1, cause := 1, vbatLost := true, trip := false, crystal := true, inReset := true, outputsHeld := true,
    resetN := true, bootPins := 0, en := 0, filterUs := [], dropUs := [], down := 0, draining := 0, failing := 0, failForced := 0,
    after := .rest, wakeNext := 0, pbHeld := false, tableRead := false, cfgValid := false, rewriteOff := false,
    rewrites := 0, released := 0, mram := [], mramWrite := none, flashPart := none, flash := [], flashOp := none,
    uartPartial := [] }
  engine := {
    enable := false, refused := false, runRefused := false, stationSet := 0, runGroup := 0, gpioDir := 0, gpioOut := 0,
    gpioBall := 0, startN := false, bankPending := false, stopPending := false, shutdownPending := false,
    runOutToSafe := false, runOutEnding := false, interlock := false, interlockOk := false }
  clock := { syn := [], dither := [], gclk := [] }
  gc := { gauges := [], virtuals := [], fid := [], capVal := [], capUnread := 0, entries := [], gens := [], seq := 0,
          reqs := [] }
  cores := []
  obj := { objs := [], fresh := 0x200, freed := [], ports := [], cmds := [], placed := [], affinity := [], moves := [],
           poisonLog := [], evictLog := [], localNext := 0, stations := [], refusals := [],
           keptEnable := [], poisonShown := false }
  host := { cfg := [], d0 := true, fnMask := false, vecCond := 0, pba := 0, dq := [], chainRec := [], chans := [], sqTurn := 15,
            beatTurn := 31, hopTrained := false, sent := [] }
  dec := []
  encFor := []
  encJobs := []
  dram := { debt := [], banks := [], temp := [], refTemp := [], mr4 := 0, slices := [], ceTimes := [], raa := [], touched := 0,
            powerDown := 0, turnPanic := [], turnReal := [], scrubAt := 0, scrubOdd := 0 }
  grav := []
  marks := []
  calPorts := []
  page := { cfg := none, pages := [], order := [], pitches := [], nextPitch := 0, finish := [], sheets := [],
            jammed := false, purging := false, skips := 0, counts := [], lastPitch := 0, lastJam := 0 }
  axes := []
  buses := []
  therms := []
  zones := []
  lamps := []
  journal := { queue := [], held := [], writing := none, lost := 0 }
  hv := []
  ratios := []
  serving := []
  latched := []
  reply := []
  freeCtr := 0
  pending := [] }


end Sys2Proof.Machine
end

