-- ==== Sys2Proof/Machine/Ops.lean ====
section
/-!
DEFINITION. The named operations over registers, memories and tables that every meaning is written with, and the interrupt
and MSI-X machinery of R33 and R295.
-/

namespace Sys2Proof.Machine

/-! ## Registers -/

/-- The stored word of the register at BAR0 offset `a`. -/
def State.reg (s : State) (a : Nat) : Word := Tbl.get resetWord s.regs a

/-- Stores a word in the register at offset `a`. -/
def State.setReg (s : State) (a : Nat) (w : Word) : State := { s with regs := Tbl.put resetWord s.regs a w }

/-- The value of a register field. -/
def State.fld (s : State) (f : Fld) : Nat := bits (s.reg f.off).toNat f.lo f.width

/-- A register field read as two's complement. -/
def State.sfld (s : State) (f : Fld) : Int := sext f.width (s.fld f)

/-- Stores a register field. -/
def State.setFld (s : State) (f : Fld) (v : Nat) : State :=
  s.setReg f.off (BitVec.ofNat 32 (setBits (s.reg f.off).toNat f.lo f.width v))

/-- Is a one-bit field 1? -/
def State.on (s : State) (f : Fld) : Bool := decide (s.fld f = 1)

/-- Bit `i` of a field. -/
def State.fbit (s : State) (f : Fld) (i : Nat) : Bool := (s.fld f).testBit i

/-- Sets bit `i` of a field. -/
def State.setFbit (s : State) (f : Fld) (i : Nat) (b : Bool) : State := s.setFld f (withBit (s.fld f) i b)

/-- Adds to a counter field that stops at its largest value. -/
def State.bump (s : State) (f : Fld) (k : Nat) : State := s.setFld f (satAdd f.width (s.fld f) k)

/-- A 64-bit value held in a register pair. -/
def State.pair (s : State) (lo hi : Nat) : Nat := (s.reg lo).toNat + (s.reg hi).toNat * 2 ^ 32

/-- Writes a register pair. -/
def State.setPair (s : State) (lo hi v : Nat) : State :=
  (s.setReg lo (BitVec.ofNat 32 v)).setReg hi (BitVec.ofNat 32 (v / 2 ^ 32))

/-! ## Free values -/

/-- Takes a free number. -/
def State.free (s : State) : Nat × State := (Config.freeNat s.freeCtr, { s with freeCtr := s.freeCtr + 1 })

/-- Takes a free choice. -/
def State.choose (s : State) : Bool × State := (Config.freeBool s.freeCtr, { s with freeCtr := s.freeCtr + 1 })

/-- A quotient whose rounding the spec does not state: either neighbour of an inexact one, as a free choice. -/
def State.divFree (s : State) (a b : Nat) : Nat × State :=
  if b = 0 then s.free
  else if a % b = 0 then (a / b, s)
  else
    let (c, s1) := s.choose
    (a / b + bit c, s1)

/-! ## Interrupts (R33, R294, R295) -/

/-- Offset of the header register `r` of interrupt source `i` (R294): 16–31 the blocks, 32–57 the units. -/
def srcHeader (i r : Nat) : Nat :=
  if i < 32 then (i - 16) * 0x10000 + r
  else if i < 38 then 0x100000 + (i - 32) * 0x10000 + r
  else if i < 50 then 0x200000 + (i - 38) * 0x1000 + r
  else 0x210000 + (i - 50) * 0x1000 + r

/-- The request of interrupt source `i` (R33, R294). -/
def State.irqActive (s : State) (i : Nat) : Bool :=
  if i < 16 then s.on (INTAKE.CQ_CFG_IRQ_EN i) && decide (s.fld (INTAKE.CQ_TAIL_TAIL i) ≠ s.fld (INTAKE.CQ_HEAD_HEAD i))
  else if i < 58 then
    decide ((s.reg (srcHeader i 0x1C)).toNat &&& (s.reg (srcHeader i 0x18)).toNat ≠ 0)
  else false

/-- The requests of all sources as a bit set: what IRQ_PEND_LO and IRQ_PEND_HI show. -/
def State.irqPend (s : State) : Nat :=
  (List.range 58).foldl (fun x i => if s.irqActive i then x + 2 ^ i else x) 0

/-- The condition of vector `v`: some enabled source mapped to it requests (R295). -/
def State.vecOn (s : State) (pend v : Nat) : Bool :=
  (List.range 64).any (fun i => pend.testBit i && s.on (INTAKE.IRQ_MAP_EN i) && decide (s.fld (INTAKE.IRQ_MAP_VECTOR i) = v))

/-- May the function send upstream (R282)? -/
def State.canSend (s : State) : Bool := s.host.d0 && s.on INTAKE.EP_STATUS_BME

/-- May vector `v` send now (R282, R295)? -/
def State.vecOpen (s : State) (v : Nat) : Bool :=
  s.canSend && !s.host.fnMask && !s.on (INTAKE.MSIX_CTRL_MASK v)

/-- A message of vector `v` is due: it is sent, or held with its PBA bit (R295). -/
def State.msix (s : State) (v : Nat) : State :=
  if s.vecOpen v then { s with host := { s.host with sent := s.host.sent ++ [.msix v] } }
  else { s with host := { s.host with pba := withBit s.host.pba v true } }

/-- Re-evaluates vector `v`: a condition that became true makes a message due, one that became false clears its PBA bit. -/
def State.vecEval (pend : Nat) (s : State) (v : Nat) : State :=
  let now := s.vecOn pend v
  let was := s.host.vecCond.testBit v
  let s1 := { s with host := { s.host with vecCond := withBit s.host.vecCond v now } }
  if now && !was then s1.msix v
  else if !now then { s1 with host := { s1.host with pba := withBit s1.host.pba v false } }
  else s1

/-- Re-evaluates every vector when no request changes nothing else (R295). -/
def State.irqEval (s : State) : State :=
  let pend := s.irqPend
  if pend = 0 ∧ s.host.vecCond = 0 ∧ s.host.pba = 0 then s
  else (List.range 32).foldl (State.vecEval pend) s

/-- After a write to a W1C register or a CQ head of source `i`: its vector's message is sent again if the condition still
holds (R295). -/
def State.irqAgain (s : State) (i : Nat) : State :=
  let v := s.fld (INTAKE.IRQ_MAP_VECTOR i)
  let was := s.host.vecCond.testBit v
  let s1 := s.irqEval
  if was && s1.host.vecCond.testBit v then s1.msix v else s1

/-- An event sets its INT_STAT bit, whatever INT_EN holds (R33). -/
def State.event (s : State) (f : Fld) : State := (s.setFld f 1).irqEval

/-! ## The access log (R40, R41) -/

/-- Logs an access: its ACCESS_LOG bit, and the address of the first since the log read all-zero. -/
def State.logAccess (s : State) (f : Fld) (a : Nat) : State :=
  let s1 := if (s.reg SYS.ACCESS_LOG).toNat = 0 then s.setFld SYS.ACCESS_ADDR_ADDR a else s
  s1.setFld f 1

/-- A discarded write of a read-only place (R40). -/
def State.logRo (s : State) (a : Nat) : State := s.logAccess SYS.ACCESS_LOG_RO_WRITE a

/-! ## The engine state and the device's own mode -/

/-- The engine states of R18. -/
def engOff : Nat := 0
def engTinder : Nat := 1
def engKindling : Nat := 2
def engReady : Nat := 3
def engRunning : Nat := 4
def engRunOut : Nat := 5
def engBanked : Nat := 6
def engSafe : Nat := 7

/-- The engine state (R18, R41). -/
def State.eng (s : State) : Nat := s.fld SYS.ENGINE_STATE_STATE

/-- Enters an engine state. -/
def State.setEng (s : State) (e : Nat) : State := s.setFld SYS.ENGINE_STATE_STATE e

/-- Is the engine in KINDLING, READY or RUNNING? -/
def State.warm (s : State) : Bool := decide (s.eng = engKindling) || decide (s.eng = engReady) || decide (s.eng = engRunning)

/-- Is clock domain `d` released and clocked: 0 fabric, 1 DDR, 2 SerDes, 3 PCIe, 4 output PLL (R113, R128)? -/
def State.domain (s : State) (d : Nat) : Bool := s.tinder.released.testBit d

/-- Is the fabric domain up? -/
def State.fabric (s : State) : Bool := s.domain 0

/-- A write to the register at `a` of a block in the fabric domain: while the fabric is held it is discarded and logged (R38). -/
def State.ifFabric (s : State) (a : Nat) (t : State) : State := if s.fabric then t else s.logAccess SYS.ACCESS_LOG_HELD_BLOCK a

/-- Is the rail's output off: its EN low, and its voltage gone or given up as R103 counts it? -/
def State.railDown (s : State) (n : Nat) : Bool :=
  let st := s.fld (TINDER.RAIL_STATUS_STATE n)
  (decide (st ≤ 2) || decide (st = 5)) && !s.tinder.draining.testBit n

/-- The engine holds every bridge off and every chopper output low: in SAFE (R18), in TINDER and OFF, and from a reset or power-down
until the release (R106, R109, R111). -/
def State.drivesHeld (s : State) : Bool :=
  decide (s.eng = engSafe) || decide (s.eng = engTinder) || decide (s.eng = engOff) || s.tinder.outputsHeld

/-- Applies `f` in turn for each number of a list. -/
def State.each (s : State) (l : List Nat) (f : State → Nat → State) : State := l.foldl f s

/-! ## Tables -/

/-- An empty mailbox, all registers zero, halted: a core after reset (R210). -/
def Core.reset : Core := {
  g := [], p := [], pc := 0, pie := false, exc := false, ie := false, epc := 0, ecause := 0, eval := 0, vbase := 0,
  scratch := [], cycle := 0, cycleHi := 0, retired := 0, retiredHi := 0, gfault := 0, calBase := 0, calCount := 0,
  calPend := 0, armLost := false, disarmResult := 0, disarmTicket := 0, waitTicket := 0, wake := false, mail := [],
  mailDrops := 0, objErrHandle := 0, wqWait := false, undelivered := false, writes := [], wait := .none, halted := true,
  haltReason := 0, halting := false, firstInstr := false, mem := [], stale := [] }

/-- Core `n` (R182). -/
def State.core (s : State) (n : Nat) : Core := Tbl.get (fun _ => Core.reset) s.cores n

/-- Stores core `n`. -/
def State.setCore (s : State) (n : Nat) (c : Core) : State :=
  { s with cores := Tbl.put (fun _ => Core.reset) s.cores n c }

/-- A gauge after reset. -/
def Gauge.reset : Gauge := {
  value := 0, edgeVal := 0, fwd := true, edges := 0, ab := 0, high := 0, indexSeen := false, outOfRange := 0,
  srcLocked := false, stamped := false }

/-- Gauge `n` beside its registers. -/
def State.gauge (s : State) (n : Nat) : Gauge := Tbl.get (fun _ => Gauge.reset) s.gc.gauges n

/-- Stores gauge `n`. -/
def State.setGauge (s : State) (n : Nat) (g : Gauge) : State :=
  { s with gc := { s.gc with gauges := Tbl.put (fun _ => Gauge.reset) s.gc.gauges n g } }

/-- A synthesizer after reset. -/
def Syn.reset : Syn := {
  fcw := 0, edges := 0, firstEdge := 0, syncs := [], gatedRange := false, good := 0, expiring := false, idle := true,
  offsets := [], slot0 := 0 }

/-- The synthesizer of station `k`. -/
def State.syn (s : State) (k : Nat) : Syn := Tbl.get (fun _ => Syn.reset) s.clock.syn k

/-- Stores the synthesizer of station `k`. -/
def State.setSyn (s : State) (k : Nat) (y : Syn) : State :=
  { s with clock := { s.clock with syn := Tbl.put (fun _ => Syn.reset) s.clock.syn k y } }

/-- Calendar entry `e`, none when free (R171). -/
def State.entry (s : State) (e : Nat) : Option Entry := Tbl.get (fun _ => none) s.gc.entries e

/-- Stores calendar entry `e`. -/
def State.setEntry (s : State) (e : Nat) (x : Option Entry) : State :=
  { s with gc := { s.gc with entries := Tbl.put (fun _ => none) s.gc.entries e x } }

/-- The created object at table index `i`, none when free or fixed (R246). -/
def State.object (s : State) (i : Nat) : Option Obj := Tbl.get (fun _ => none) s.obj.objs i

/-- Stores the object at table index `i`. -/
def State.setObject (s : State) (i : Nat) (o : Option Obj) : State :=
  { s with obj := { s.obj with objs := Tbl.put (fun _ => none) s.obj.objs i o } }

/-- A station object after reset (R252). -/
def Station.reset : Station := {
  enable := false, enabled := false, refused := false, busyCommitted := false, plateBusy := false, drumAxis := 0,
  drumGauge := 0 }

/-- Station object `k`. -/
def State.station (s : State) (k : Nat) : Station := Tbl.get (fun _ => Station.reset) s.obj.stations k

/-- Stores station object `k`. -/
def State.setStation (s : State) (k : Nat) (t : Station) : State :=
  { s with obj := { s.obj with stations := Tbl.put (fun _ => Station.reset) s.obj.stations k t } }

/-- Notes whether the last request to the fixed object at index `i` was refused (R250). -/
def State.setRefused (s : State) (i : Nat) (b : Bool) : State :=
  { s with obj := { s.obj with refusals := Tbl.put (fun _ => false) s.obj.refusals i b } }

/-- A Mover channel after reset. -/
def Chan.reset : Chan := {
  space := 0, core := 0, addr := 0, desc := none, chain := 0, issued := 0, fetching := false, ended := false }

/-- Mover channel `c` beside its registers. -/
def State.chan (s : State) (c : Nat) : Chan := Tbl.get (fun _ => Chan.reset) s.host.chans c

/-- Stores Mover channel `c`. -/
def State.setChan (s : State) (c : Nat) (x : Chan) : State :=
  { s with host := { s.host with chans := Tbl.put (fun _ => Chan.reset) s.host.chans c x } }

/-- Device queue `q`, oldest record first (R240). -/
def State.dq (s : State) (q : Nat) : List Record := Tbl.get (fun _ => []) s.host.dq q

/-- Stores device queue `q`. -/
def State.setDq (s : State) (q : Nat) (l : List Record) : State :=
  { s with host := { s.host with dq := Tbl.put (fun _ => []) s.host.dq q l } }

/-- Records a device queue holds (R240): 16 in queues 0–31, 64 in queues 32–63. -/
def queueDepth (q : Nat) : Nat := if q < 32 then 16 else 64

/-- A byte of MRAM, by offset in the window of R27; 0x00 as shipped (R563). -/
def State.mramByte (s : State) (a : Nat) : Nat := Tbl.get (fun _ => 0) s.tinder.mram a

/-- Writes a byte of MRAM. -/
def State.setMramByte (s : State) (a v : Nat) : State :=
  { s with tinder := { s.tinder with mram := Tbl.put (fun _ => 0) s.tinder.mram a (v % 256) } }

/-- The little-endian value of `n` MRAM bytes at `a`. -/
def State.mramNat (s : State) (a n : Nat) : Nat := leNat ((List.range n).map (fun i => s.mramByte (a + i)))

/-- Writes bytes to MRAM from `a` upward. -/
def State.setMram (s : State) (a : Nat) : List Nat → State
  | [] => s
  | b :: t => (s.setMramByte a b).setMram (a + 1) t

/-- Returns data to the requester. -/
def State.answer (s : State) (l : List Nat) : State := { s with reply := l }

/-- Records something sent to the outside. -/
def State.send (s : State) (x : Sent) : State := { s with host := { s.host with sent := s.host.sent ++ [x] } }

/-! ## CRC-32C (R119, R123, R241) -/

/-- One bit step of the reflected CRC-32C register. -/
def crcBit (c : Nat) : Nat := if c % 2 = 1 then (c / 2) ^^^ 0x82F63B78 else c / 2

/-- One byte of CRC-32C. -/
def crcByte (c b : Nat) : Nat := crcBit (crcBit (crcBit (crcBit (crcBit (crcBit (crcBit (crcBit (c ^^^ (b % 256)))))))))

/-- CRC-32C of bytes. -/
def crc32c (l : List Nat) : Nat := (l.foldl crcByte 0xFFFFFFFF) ^^^ 0xFFFFFFFF

/-- A signed quotient whose rounding the spec does not state: floor or ceiling. -/
def State.divFreeInt (s : State) (a : Int) (b : Nat) : Int × State :=
  if b = 0 then (0, s)
  else if a % b = 0 then (a / b, s)
  else
    let (c, s1) := s.choose
    (a / b + bit c, s1)

/-! ## Gauges in general (R148, R165, R180) -/

/-- A product with a 16.16 coefficient, rounded to the nearest 1/65,536 with ties away from zero (R165, R202). -/
def mulCoef (p c : Int) : Int :=
  let x := p * c
  if 0 ≤ x then (x + 2 ^ 15) / 2 ^ 16 else -((-x + 2 ^ 15) / 2 ^ 16)

/-- Kinds of R148. -/
def isEncoder (n : Nat) : Bool := decide (n < 16)
def isBeam (n : Nat) : Bool := decide (16 ≤ n) && decide (n < 22)
def isAux (n : Nat) : Bool := decide (n = 22) || decide (n = 23)
def isMains (n : Nat) : Bool := decide (24 ≤ n) && decide (n < 27)
def isReserved (n : Nat) : Bool := decide (27 ≤ n) && decide (n < 32)
def isVirtual (n : Nat) : Bool := decide (32 ≤ n) && decide (n < 48)
def isRemote (n : Nat) : Bool := decide (48 ≤ n) && decide (n < 64)

def State.gaugeOn (s : State) (n : Nat) : Bool := !isReserved n && decide (n < 64) && s.on (GAUGE.G_CFG_ENABLE n)

/-- The committed definition of virtual gauge 32 + `k`. -/
def State.virtual (s : State) (k : Nat) : Option VirtualDef := Tbl.get (fun _ => none) s.gc.virtuals k

/-- RATE as software reads it (R180): a virtual gauge's is its definition's combination; a beam-detect gauge's the spec does not give, a
free value (assumption 99). -/
def State.gaugeRate (s : State) (n : Nat) : Nat × State :=
  if isVirtual n then
    match s.virtual (n - 32) with
    | some d => (wrap 32 (mulCoef (s.sfld (GAUGE.G_RATE_RATE d.a)) d.c1 +
        (if d.bEn then mulCoef (s.sfld (GAUGE.G_RATE_RATE d.b)) d.c2 else 0)), s)
    | none => (0, s)
  else if isBeam n && s.gaugeOn n then let (x, s1) := s.free; (x % 2 ^ 32, s1)
  else (s.fld (GAUGE.G_RATE_RATE n), s)

end Sys2Proof.Machine
end

