-- ==== Sys2Proof/Machine/Charcoal.lean ====
section
/-!
DEFINITION. The Charcoal block format: headers, tokens, decode cost, block checks (R308–R320, R325, R333).
-/

namespace Sys2Proof.Machine

/-! ## Header (R308, R310, R311) -/

/-- A block header. -/
structure Header where
  magic : Nat
  version : Nat
  mode : Nat
  origLen : Nat
  compLen : Nat
  firstLine : Nat
  dots : Nat
  lines : Nat
  bpd : Nat
  cost : Nat
  crc : Nat
  /-- The reserved bytes, as one number. -/
  resv : Nat
  /-- The sum of the 32 bytes modulo 256. -/
  sum : Nat
deriving DecidableEq, Repr

/-- The little-endian value of `k` bytes of a list from `a`. -/
def fieldAt (l : List Nat) (a k : Nat) : Nat := leNat ((l.drop a).take k)

/-- Reads a header from 32 bytes. -/
def parseHeader (l : List Nat) : Header := {
  magic := fieldAt l 0 2, version := fieldAt l 2 1, mode := fieldAt l 3 1, origLen := fieldAt l 4 4
  compLen := fieldAt l 8 4, firstLine := fieldAt l 12 4, dots := fieldAt l 16 2, lines := fieldAt l 18 1
  bpd := fieldAt l 19 1, cost := fieldAt l 20 1, crc := fieldAt l 24 4
  resv := fieldAt l 21 3 + fieldAt l 28 3
  sum := ((l.take 32).foldl (· + ·) 0) % 256 }

/-- The HEADER check of R325, with the reserved byte of FIRST_LINE. -/
def Header.ok (h : Header) : Bool :=
  decide (h.magic = 0xC4A2) && decide (h.version = 1) && decide (h.mode ≤ 2) && decide (h.resv = 0) && decide (h.sum = 0)
    && decide (h.firstLine < 2 ^ 24) && decide (2 ≤ h.cost) && decide (h.cost ≤ 16)
    && (decide (h.mode ≠ 0) || decide (h.compLen = h.origLen))

/-- The geometry of R308. -/
def geometryOk (dots bpd lines orig : Nat) : Bool :=
  decide (dots % 64 = 0) && decide (64 ≤ dots) && decide (dots ≤ 32768) && (bpd == 1 || bpd == 2 || bpd == 4)
    && decide (1 ≤ lines) && decide (lines ≤ 32) && decide (orig = lines * dots * bpd / 8) && decide (orig ≤ 262144)

/-- The bytes of a header with its check byte (R311). -/
def headerBytes (mode orig comp first dots lines bpd cost crc : Nat) : List Nat :=
  let l := [0xA2, 0xC4, 1, mode] ++ leBytes 4 orig ++ leBytes 4 comp ++ leBytes 4 first ++ leBytes 2 dots
    ++ [lines, bpd, cost, 0, 0, 0] ++ leBytes 4 crc ++ [0, 0, 0]
  l ++ [(256 - l.foldl (· + ·) 0 % 256) % 256]

/-! ## Tokens (R314–R317) -/

/-- What a decoder holds inside a payload: the output so far, newest byte first, its length, the cycles spent, and whether every
token was a RUN. -/
structure Decoding where
  out : List Nat
  len : Nat
  cycles : Nat
  runs : Bool
deriving DecidableEq, Repr

/-- The length of a token from its code, and what follows the extension (R314). -/
def tokenLength (code : Nat) (l : List Nat) : Option (Nat × List Nat) :=
  if code < 60 then some (code + 1, l)
  else match code, l with
    | 60, e :: t => some (61 + e, t)
    | 61, e0 :: e1 :: t => some (317 + e0 + 256 * e1, t)
    | _, _ => none

/-- The distance of a COPY, and what follows it (R315). -/
def copyDistance (l : List Nat) : Option (Nat × List Nat) :=
  match l with
  | [] => none
  | d0 :: t =>
    if d0 < 128 then some (d0 + 1, t)
    else if d0 < 192 then (match t with
      | d1 :: u => some (d0 % 64 + d1 * 64 + 129, u)
      | _ => none)
    else (match t with
      | d1 :: d2 :: u => some (d0 % 64 + d1 * 64 + d2 * 2 ^ 14 + 16513, u)
      | _ => none)

/-- Repeats the byte `d` places back, `n` times in ascending order. -/
def copyBack (d : Nat) : Nat → List Nat → List Nat
  | 0, out => out
  | n + 1, out => copyBack d n (out.getD (d - 1) 0 :: out)

/-- A quotient rounded up. -/
def ceilDiv (a b : Nat) : Nat := (a + b - 1) / b

/-- Cycles of a COPY (R317). -/
def copyCycles (n d : Nat) : Nat := if d = 2 then ceilDiv n 2 else if d = 3 then ceilDiv n 3 else ceilDiv n 4

/-- One token appended to the output, none where it breaks R316. -/
def oneToken (mode line orig : Nat) (x : Decoding) (b : Nat) (rest : List Nat) : Option (Decoding × List Nat) :=
  match tokenLength (b % 64) rest with
  | none => none
  | some (n, t) =>
    if orig < x.len + n then none
    else match b / 64 with
      | 0 => if mode = 2 ∨ t.length < n then none
          else some (⟨(t.take n).reverse ++ x.out, x.len + n, x.cycles + ceilDiv n 4, false⟩, t.drop n)
      | 1 => (match t with
          | v :: u => some (⟨List.replicate n v ++ x.out, x.len + n,
              x.cycles + (if mode = 2 then ceilDiv n 8 else ceilDiv n 4), x.runs⟩, u)
          | [] => none)
      | 2 => if mode = 2 ∨ x.len < line then none
          else some (⟨copyBack line n x.out, x.len + n, x.cycles + ceilDiv n 4, false⟩, t)
      | _ => if mode = 2 then none
          else match copyDistance t with
            | none => none
            | some (d, u) =>
              if x.len < d then none
              else some (⟨copyBack d n x.out, x.len + n, x.cycles + copyCycles n d, false⟩, u)

/-- A token payload, one token per step of the fuel (R316). -/
def tokens (mode line orig : Nat) : Nat → Decoding → List Nat → Option Decoding
  | _, x, [] => if x.len = orig then some x else none
  | 0, _, _ => none
  | k + 1, x, b :: rest =>
    match oneToken mode line orig x b rest with
    | none => none
    | some (y, t) => tokens mode line orig k y t

/-- A payload decoded: the original bytes and the cycles of R317, none where R316 fails. -/
def decodePayload (mode line orig : Nat) (pay : List Nat) : Option (List Nat × Nat × Bool) :=
  if mode = 0 then some (pay, orig / 8, false)
  else (tokens mode line orig pay.length ⟨[], 0, 0, true⟩ pay).map (fun x => (x.out.reverse, x.cycles, x.runs))

/-- A block's time T and its cost (R318). -/
def blockTime (cycles : Nat) : Nat := max 8 cycles
def blockCost (t orig : Nat) : Nat := ceilDiv (16 * t) orig

/-- What a decoder makes of a block: its header, its original and its time, or the kind of R325 that fails; `pay` is the payload
the header names and `fits` says that the block keeps its place in the index. -/
inductive BlockResult where
  | bad (kind : Nat)
  | good (h : Header) (orig : List Nat) (time : Nat)
deriving DecidableEq, Repr

/-- The checks of R325 in their order. -/
def checkBlock (h : Header) (pay : List Nat) (dots bpd : Nat) (place : Bool) : BlockResult :=
  if !h.ok then .bad 1
  else if !geometryOk h.dots h.bpd h.lines h.origLen || h.dots != dots || h.bpd != bpd then .bad 2
  else if !place then .bad 3
  else match decodePayload h.mode (h.dots * h.bpd / 8) h.origLen pay with
    | none => .bad 4
    | some (o, cycles, _) => if crc32c o = h.crc then .good h o (blockTime cycles) else .bad 5

/-- The block the encoder writes for original bytes `o` and a token stream `pay` (R333): stored, run-only or token, none where the
stream does not decode to `o`. -/
def encodeBlock (o pay : List Nat) (first dots lines bpd : Nat) (stored : Bool) : Option (List Nat) :=
  let orig := o.length
  let line := dots * bpd / 8
  match decodePayload 1 line orig pay with
  | none => none
  | some (d, cycles, runs) =>
    if d ≠ o then none
    else
      let mode := if stored || decide (orig ≤ pay.length) then 0 else if runs then 2 else 1
      let body := if mode = 0 then o else pay
      let time := if mode = 0 then orig / 8 else if mode = 2 then
          (match decodePayload 2 line orig pay with
           | some (_, c, _) => c
           | none => cycles) else cycles
      some (headerBytes mode orig body.length first dots lines bpd (blockCost (blockTime time) orig) (crc32c o) ++ body)

end Sys2Proof.Machine
end

