-- ==== Sys2Proof/Machine/ObjMem.lean ====
section
/-!
DEFINITION. Data objects: handles, checks, bytes, placement in DRAM and Plate, holders, poison, eviction and release
(R246–R248, R260–R271, R275), without the faults they raise.
-/

namespace Sys2Proof.Machine

/-! ## Handles (R246, R247) -/

/-- Kind and table index of a handle. -/
def kindOf (h : Nat) : Nat := bits h 12 4
def indexOf (h : Nat) : Nat := bits h 0 12

/-- Kinds of data objects: PAGE to RAW. -/
def isDataKind (k : Nat) : Bool := decide (8 ≤ k) && decide (k ≤ 14)

/-- The handle of the created object at index `i`. -/
def State.handleAt (s : State) (i : Nat) : Nat :=
  match s.object i with
  | some o => o.kind * 4096 + i
  | none => 0

/-- The data object a handle names. -/
def State.dataObj (s : State) (h : Nat) : Option Obj :=
  match s.object (indexOf h) with
  | some o => if o.kind = kindOf h ∧ isDataKind o.kind then some o else none
  | none => none

/-- Changes the object at index `i`, where there is one. -/
def State.mapObject (s : State) (i : Nat) (f : Obj → Obj) : State :=
  match s.object i with
  | some o => s.setObject i (some (f o))
  | none => s

/-! ## Bytes and checks (R219, R239, R260, R270, R271, R275) -/

/-- A byte of the content; what nothing has written reads 0, a marked choice (R260). -/
def Obj.byte (o : Obj) (a : Nat) : Nat := Tbl.get (fun _ => 0) o.bytes a

/-- The little-endian value of `n` bytes at `a`. -/
def Obj.nat (o : Obj) (a n : Nat) : Nat := leNat ((List.range n).map (fun i => o.byte (a + i)))

/-- `n` bytes at `a`. -/
def Obj.read (o : Obj) (a n : Nat) : List Nat := (List.range n).map (fun i => o.byte (a + i))

/-- Does a poisoned 64-byte word touch the `n` bytes at `a`? -/
def Obj.hits (o : Obj) (a n : Nat) : Bool := o.poisoned.any (fun w => decide (w < a + n) && decide (a < w + 64))

/-- One byte written; a byte of a poisoned word is not stored (R348). -/
def Obj.setByte (o : Obj) (a v : Nat) : Obj :=
  if o.poisoned.contains (a / 64 * 64) then o else { o with bytes := Tbl.put (fun _ => 0) o.bytes a (v % 256) }

/-- Writes bytes from `a` upward. -/
def Obj.setBytes (o : Obj) (a : Nat) : List Nat → Obj
  | [] => o
  | b :: t => (o.setByte a b).setBytes (a + 1) t

/-- Writes bytes; a word written as a whole loses its poison first (R270, R348, R358). -/
def Obj.write (o : Obj) (a : Nat) (l : List Nat) : Obj :=
  let n := l.length
  Obj.setBytes { o with poisoned := o.poisoned.filter (fun w => !(decide (a ≤ w) && decide (min (w + 64) o.size ≤ a + n))) } a l

/-- The reason code of an access of `n` bytes at `off`, 0 where none applies; `holder` is set for a block that holds the object, and
`reading` for a read (R219, R275).
An access that meets several takes the first of BAD_HANDLE, EVICTED, RANGE, POISON, a marked choice. -/
def State.objCheck (s : State) (h off n : Nat) (holder reading : Bool) : Nat :=
  match s.dataObj h with
  | none => 1
  | some o =>
    if o.freePending && !holder then 1
    else if o.evicted then 8
    else if o.size < off + n then 5
    else if reading && o.hits off n then 7
    else 0

/-- Bytes of a data object. -/
def State.objRead (s : State) (h off n : Nat) : List Nat :=
  match s.dataObj h with
  | some o => o.read off n
  | none => []

/-- The little-endian value of `n` bytes of a data object. -/
def State.objNat (s : State) (h off n : Nat) : Nat := leNat (s.objRead h off n)

/-! ## Placement (R265, R266, R269) -/

/-- State of rank `r` (4 × channel + rank): R365. -/
def State.rankState (s : State) (r : Nat) : Nat := s.fld (DRAMC.RANK_STATUS_STATE (r / 4) (r % 4))

/-- Sets it. -/
def State.setRankState (s : State) (r v : Nat) : State := s.setFld (DRAMC.RANK_STATUS_STATE (r / 4) (r % 4)) v

/-- 4 KiB granules of a rank: 16 GB with 16 Gb devices, 32 GB with 32 Gb (R338). -/
def State.rankSize (s : State) : Nat := if s.on DRAMC.CFG_DENSITY then 2 ^ 23 else 2 ^ 22

/-- Granules of an object of `size` bytes. -/
def granules (size : Nat) : Nat := (size + 4095) / 4096

/-- Half-granules that a spread holds on the ranks that `f` picks. -/
def halvesOn (f : Nat → Bool) (l : List (Nat × Nat)) : Nat := (l.filter (fun p => f p.1)).foldl (fun a p => a + p.2) 0

/-- Granules of object `o` on the ranks that `f` picks, a half one counted as one. -/
def Obj.onRanks (o : Obj) (f : Nat → Bool) : Nat := (halvesOn f o.spread + 1) / 2

/-- Granules of object `o` on rank `r`. -/
def Obj.onRank (o : Obj) (r : Nat) : Nat := o.onRanks (fun x => decide (x = r))

/-- Every object of the table. -/
def State.objects (s : State) : List (Nat × Obj) :=
  s.obj.objs.filterMap (fun p => p.2.map (fun o => (p.1, o)))

/-- Half-granules in use on rank `r`. -/
def State.rankUsed (s : State) (r : Nat) : Nat := s.objects.foldl (fun a p => a + halvesOn (fun x => decide (x = r)) p.2.spread) 0

/-- Is STATE DONE? Until then the Placer has no DRAM granules (R339). -/
def State.dramUp (s : State) : Bool := decide (s.fld DRAMC.TRAIN_STATE = 3)

/-- Free half-granules of rank `r`: only a rank in service takes new ones (R341, R361). -/
def State.rankRoom (s : State) (r : Nat) : Nat := if s.rankState r = 1 ∧ s.dramUp then 2 * s.rankSize - s.rankUsed r else 0

/-- Free granules of rank `r`. -/
def State.rankFree (s : State) (r : Nat) : Nat := s.rankRoom r / 2

/-- Free granules of the device: DRAM_FREE (R278). -/
def State.dramFree (s : State) : Nat := (List.range 8).foldl (fun a r => a + s.rankFree r) 0

/-- The ranks of both channels in the order granules are interleaved: channel by channel, then rank by rank (R265). -/
def rankOrder : List Nat := [0, 4, 1, 5, 2, 6, 3, 7]

/-- Ranks in service, of one channel where `ch` names it. -/
def State.inService (s : State) (ch : Option Nat) : List Nat :=
  rankOrder.filter (fun r => s.dramUp && decide (s.rankState r = 1) && (match ch with
    | none => true
    | some c => decide (r / 4 = c)))

/-- A last round of `share` pieces to each place with room, one more to the first `rem` of them. -/
def layLast (share : Nat) : Nat → List Nat → List Nat
  | _, [] => []
  | rem, r :: t => if r = 0 then 0 :: layLast share rem t else (share + bit (decide (0 < rem))) :: layLast share (rem - 1) t

/-- What each place takes of `u` pieces laid one by one in turn over places with `room`, those that are full left out: the interleave of
R265. -/
def lay : Nat → Nat → List Nat → List Nat
  | 0, _, room => room.map (fun _ => 0)
  | fuel + 1, u, room =>
    let n := (room.filter (fun r => decide (0 < r))).length
    let m := room.foldl (fun a r => if r = 0 then a else if a = 0 then r else min a r) 0
    if n = 0 then room.map (fun _ => 0)
    else if u < n * m then layLast (u / n) (u % n) room
    else List.zipWith (fun r t => min r m + t) room (lay fuel (u - n * m) (room.map (fun r => r - m)))

/-- How `g` granules of a class are spread over ranks: whole granules in turn, or the half-granules of a REALTIME object (R265); none
where they do not fit. -/
def State.spreadOver (s : State) (g cls : Nat) (l : List Nat) : Option (List (Nat × Nat)) :=
  let unit := if cls = 1 then 1 else 2
  let room := l.map (fun r => s.rankRoom r / unit)
  if room.foldl (· + ·) 0 * unit < 2 * g then none
  else some ((l.zip ((lay 9 (2 * g / unit) room).map (· * unit))).filter (fun p => decide (0 < p.2)))

/-- A DRAM placement of `g` granules for a class, and the channel the next LOCAL object takes (R265). -/
def State.placeDram (s : State) (g cls : Nat) : Option (List (Nat × Nat)) × Nat :=
  if cls = 2 then
    let c := if s.inService (some 1) = [] then 0 else s.obj.localNext
    match s.spreadOver g cls (s.inService (some c)) with
    | some l => (some l, 1 - c)
    | none => (s.spreadOver g cls (s.inService (some (1 - c))), s.obj.localNext)
  else (s.spreadOver g cls (s.inService none), s.obj.localNext)

/-- WHERE of a DRAM placement: where its granules lie (R269). -/
def whereOf (l : List (Nat × Nat)) : Nat :=
  if l.all (fun p => decide (p.1 < 4)) then 1 else if l.all (fun p => decide (4 ≤ p.1)) then 2 else 0

/-! ## Accesses to DRAM (R337, R347) -/

/-- A bank that has seen no access. -/
def Bank.reset : Bank := { count := 0, learn := 0, lastRow := none, isOpen := false }

/-- An access to a row of a bank (R347). -/
def Bank.access (b : Bank) (row : Nat) : Bank :=
  let count := if b.lastRow = some row then min (b.count + 1) 3 else b.count - 1
  let learn := min (b.learn + 1) 32
  { count := count, learn := learn, lastRow := some row, isOpen := decide (learn = 32) && decide (2 ≤ count) }

/-- Predictor of bank `i`. -/
def State.dramBank (s : State) (i : Nat) : Bank := Tbl.get (fun _ => Bank.reset) s.dram.banks i

/-- Activations of bank `i` since it was last managed. -/
def State.bankRaa (s : State) (i : Nat) : Nat := Tbl.get (fun _ => 0) s.dram.raa i

/-- An access to bank `i`: its predictor and LEARNED of its rank; its rank-subchannel leaves power-down; an access that opens a row is an
activation (R337, R347). -/
def State.bankAccess (s : State) (i row : Nat) : State :=
  let old := s.dramBank i
  let b := old.access row
  let act := !(old.isOpen && decide (old.lastRow = some row))
  let s1 := { s with dram := { s.dram with
    banks := Tbl.put (fun _ => Bank.reset) s.dram.banks i b
    raa := Tbl.put (fun _ => 0) s.dram.raa i (s.bankRaa i + bit act)
    touched := withBit s.dram.touched (i / 32) true
    powerDown := withBit s.dram.powerDown (i / 32) false } }
  let q := i / 64
  if b.learn = 32 ∧ old.learn < 32 then s1.bump (DRAMC.RANK_STATUS_LEARNED (q / 4) (q % 4)) 1 else s1

/-- An access to some bank of rank `q` at a position that the host never sees (R11): a free subchannel, bank and row (assumption 82). -/
def State.rankAccess (s : State) (q : Nat) : State :=
  let (x, s1) := s.free
  s1.bankAccess (64 * q + x % 64) (x / 64)

/-- A write request to object `o` reaches DRAM, on one of the ranks that hold it; Plate has no banks. -/
def State.writeAccess (s : State) (o : Obj) : State :=
  match o.spread with
  | [] => s
  | p :: t =>
    let (x, s1) := s.free
    s1.rankAccess (((p :: t).getD (x % (t.length + 1)) p).1)

/-- Writes bytes of a data object that passed its check; its controller serves the write (R347). -/
def State.objWrite (s : State) (h off : Nat) (l : List Nat) : State :=
  match s.dataObj h with
  | some o => (s.setObject (indexOf h) (some (o.write off l))).writeAccess o
  | none => s

/-- Granules of a Plate region: 6 MiB (R367). -/
def plateGranules : Nat := 1536

/-- Granules in use in the Plate region of station `k`. -/
def State.plateUsed (s : State) (k : Nat) : Nat :=
  s.objects.foldl (fun a p => if p.2.place = 3 ∧ p.2.plateStation = k then a + granules p.2.size else a) 0

/-- A free Plate region for `g` granules: its station is disabled and requests nothing (R266). -/
def State.freePlate (s : State) (g : Nat) : Option Nat :=
  (List.range 6).find? (fun k => !(s.station k).enabled && !(s.station k).enable && decide (s.plateUsed k + g ≤ plateGranules))

/-- PLACE of a data object (R269). -/
def Obj.placeWord (o : Obj) : Nat :=
  o.place + (if o.place = 3 then o.plateStation * 16 else 0) + bit o.moving * 2 ^ 8 + bit (!o.poisoned.isEmpty) * 2 ^ 9
    + bit o.evicted * 2 ^ 10 + bit o.freePending * 2 ^ 11 + o.cls % 16 * 2 ^ 12 + min o.use 0xFFFF * 2 ^ 16

/-! ## The object table (R247, R248) -/

/-- Free indices from 0x200 to 0xFFF. -/
def State.tableFree (s : State) : Nat := (0x1000 - s.obj.fresh) + s.obj.freed.length

/-- Takes the index at the head of the free list. -/
def State.takeIndex (s : State) : Option (Nat × State) :=
  if s.obj.fresh < 0x1000 then some (s.obj.fresh, { s with obj := { s.obj with fresh := s.obj.fresh + 1 } })
  else match s.obj.freed with
    | [] => none
    | i :: t => some (i, { s with obj := { s.obj with freed := t } })

/-- An object of kind `kind` with nothing in it. -/
def Obj.empty (kind : Nat) : Obj := {
  kind := kind, size := 0, cls := 0, plateOk := false, place := 0, plateStation := 0, spread := [], use := 0,
  freePending := false, evicted := false, moving := false, poisoned := [], enable := false, bytes := [], level := 0,
  members := [], depth := 0, flat := 0 }

/-- CREATE (R265, R266, R273, R274): a code and the new handle; a new page object has never been submitted (R444).
A reserved kind or class, and a size R260 does not allow, are refused. -/
def State.createData (s : State) (kind cls : Nat) (plateOk : Bool) (size : Nat) : Nat × Nat × State :=
  if !isDataKind kind || decide (3 < cls) || decide (size = 0) || decide (0xFFFFF000 < size) then (4, 0, s)
  else
    let g := granules size
    let cls' := if kind = 9 ∨ kind = 10 then 1 else cls
    match s.takeIndex with
    | none => (2, 0, s)
    | some (i, s1) =>
      let o := { Obj.empty kind with size := size, cls := cls', plateOk := plateOk }
      let s1 := if s1.page.order.contains i then s1
        else { s1 with page := { s1.page with pages := Tbl.put (fun _ => none) s1.page.pages i none } }
      let plate := if cls' = 3 ∧ plateOk then s.freePlate g else none
      match plate with
      | some k => (0, kind * 4096 + i, s1.setObject i (some { o with place := 3, plateStation := k }))
      | none =>
        match s.placeDram g cls' with
        | (none, _) => (3, 0, s)
        | (some l, nx) =>
          let s2 := s1.setObject i (some { o with place := whereOf l, spread := l })
          (0, kind * 4096 + i, { s2 with obj := { s2.obj with localNext := nx } })

/-! ## Moves (R268, R278) -/

/-- Sets MOVING on the object being moved and no other. -/
def State.markMoving (s : State) : State :=
  let hd := match s.obj.moves with
    | m :: _ => m.index
    | [] => 0
  { s with obj := { s.obj with objs := s.obj.objs.map (fun p => match p.2 with
      | some o => (p.1, some { o with moving := decide (p.1 = hd) })
      | none => p) } }

/-- The move list changes: MOVING follows, and MOVE_DONE is set when no move remains. -/
def State.setMoves (s : State) (l : List Move) : State :=
  let s1 := State.markMoving { s with obj := { s.obj with moves := l } }
  if l = [] ∧ s.obj.moves ≠ [] then s1.event PLACER.INT_STAT_MOVE_DONE else s1

/-- Granules a migration of channel `c` no longer copies are taken off LEFT. -/
def State.migLess (s : State) (c n : Nat) : State :=
  s.setFld (DRAMC.MIG_STATUS_LEFT c) (s.fld (DRAMC.MIG_STATUS_LEFT c) - n)

/-- Takes the moves of object `i` off the list, both copies released (R275, R363). -/
def State.dropMoves (s : State) (i : Nat) : State :=
  let gone := s.obj.moves.filter (fun m => decide (m.index = i))
  if gone = [] then s
  else (s.setMoves (s.obj.moves.filter (fun m => decide (m.index ≠ i)))).each (gone.filterMap (fun m =>
    if m.reason = 1 then some (m.rank / 4 * 2 ^ 32 + m.left) else none)) (fun t x => t.migLess (x / 2 ^ 32) (x % 2 ^ 32))

/-! ## Holding and releasing (R269, R275) -/

/-- Releases the object at index `i`: the index joins the tail of the free list (R248). -/
def State.release (s : State) (i : Nat) : State :=
  let s1 := (s.dropMoves i).setObject i none
  { s1 with obj := { s1.obj with freed := s1.obj.freed ++ [i] } }

/-- A holder takes the object. -/
def State.hold (s : State) (h : Nat) : State := s.mapObject (indexOf h) (fun o => { o with use := o.use + 1 })

/-- A holder drops the object; a free that waits for the last one is completed by DEFERRED_FREE_DONE (R275). -/
def State.drop (s : State) (h : Nat) : State :=
  if (s.dataObj h).isSome then s.mapObject (indexOf h) (fun o => { o with use := o.use - 1 }) else s

/-! ## Poison and eviction, the Placer's records (R270, R271, R279) -/

/-- Logs a poisoned granule; a full log loses it. -/
def State.logPoison (s : State) (h off : Nat) : State :=
  if s.obj.poisonLog.length < 16 then { s with obj := { s.obj with poisonLog := s.obj.poisonLog ++ [(h, off)] } } else s

/-- Logs an eviction. -/
def State.logEvict (s : State) (h : Nat) : State :=
  if s.obj.evictLog.length < 64 then { s with obj := { s.obj with evictLog := s.obj.evictLog ++ [h] } } else s

/-- The word of object `h` at `off` becomes poisoned. -/
def State.poisonWord (s : State) (h off : Nat) : State :=
  (s.mapObject (indexOf h) (fun o =>
    if o.poisoned.contains (off / 64 * 64) then o else { o with poisoned := o.poisoned ++ [off / 64 * 64] })).logPoison h (off / 4096 * 4096)

/-- The object at index `i` is evicted: its granules are released, its entry stays (R271). -/
def State.evictIndex (s : State) (i : Nat) : State :=
  let h := s.handleAt i
  ((s.dropMoves i).mapObject i (fun o => { o with evicted := true, spread := [], bytes := [], poisoned := [] })).logEvict h

/-- Indices of the data objects with a granule on rank `r`. -/
def State.onRank (s : State) (r : Nat) : List Nat :=
  (s.objects.filter (fun p => decide (0 < p.2.onRank r))).map Prod.fst

end Sys2Proof.Machine
end

