-- ==== Sys2Proof/Machine/StationOps.lean ====
section
/-!
DEFINITION. The tables of Gravers and decoders, the laser enables and the on and off of stations (R252, R321, R369, R428).
-/

namespace Sys2Proof.Machine

/-- This device's cascade position. -/
def State.position (s : State) : Nat := s.fld THAIQ.CASCADE_CFG_POSITION

/-- The member word of a handle on this device (R256). -/
def State.ownWord (s : State) (h : Nat) : Nat := h % 65536 + s.position * 65536

/-- Is the member on this device? -/
def State.isOwn (s : State) (w : Nat) : Bool := decide (bits w 16 2 = s.position)

/-! ## Gravers and decoders -/

/-- A Graver after reset. -/
def Grav.reset : Grav := {
  scan := 0, next := 0, nf := 0, pred := none, lastRow := 0, lastW := 0, frames := [], fired := none, queue := [], lines := []
  switchQ := [], ctrlQ := [], stream := [], building := false, buildErr := false, buildEnd := false, setpoints := [], luts := []
  ws := [], duty := [], binFrames := 0, energy := [], owed := [], subs := [], drvTrip := false
  lockSeen := false, forced := 0, plateForced := false, ctrlSince := 0, aligns := 0, syncTime := 0, coasted := false, streamErr := false, streamFrom := none, lapsed := false }

/-- The Graver of station `k`. -/
def State.gv (s : State) (k : Nat) : Grav := Tbl.get (fun _ => Grav.reset) s.grav k

/-- Stores it. -/
def State.setGv (s : State) (k : Nat) (g : Grav) : State := { s with grav := Tbl.put (fun _ => Grav.reset) s.grav k g }

/-! ## The laser enable (R428, R441) -/

/-- The eight conditions of LASER_EN_s, row i + 1 of R428 in bit i. -/
def State.laserTerms (s : State) (k : Nat) : Nat :=
  bit s.engine.interlockOk
    + 2 * bit (decide (s.eng ≠ engSafe) && !s.tinder.inReset && !s.tinder.outputsHeld)
    + 4 * bit (s.station k).enabled
    + 8 * bit (s.on (GRAVER.LASER_CTRL_LASER_REQ k))
    + 16 * bit (!s.on (GRAVER.FAULT_T_TRIP k) && !s.on (GRAVER.FAULT_DRV_TRIP k))
    + 32 * bit (!s.on (GRAVER.FAULT_DRV_STAT_LOST k))
    + 64 * bit (!s.fbit CLOCK.FAULT_COAST_EXPIRED k)
    + 128 * bit (s.on (CLOCK.PLL_STATUS_LOCKED 2))

/-- LASER_EN_s follows its conditions; GATE_EV when it changes level. -/
def State.laserEval (s : State) (k : Nat) : State :=
  let t := s.laserTerms k
  let now := decide (t = 255)
  let was := s.on (GRAVER.LASER_CTRL_LEVEL k)
  let s1 := (s.setFld (GRAVER.LASER_CTRL_TERMS k) t).setFld (GRAVER.LASER_CTRL_LEVEL k) (bit now)
  if now = was then s1 else s1.event (GRAVER.INT_STAT_GATE_EV k)

/-- All six follow. -/
def State.laserAll (s : State) : State := s.each (List.range 6) State.laserEval

/-! ## Stations (R252, R387, R417) -/

/-- Stores a station object: the Graver's header fields, one storage with it, follow (R252, R406). -/
def State.putStation (s : State) (k : Nat) (t : Station) : State :=
  let s1 := ((s.setStation k t).setFld (GRAVER.CTRL_ENABLE k) (bit t.enable)).setFld (GRAVER.STATUS_ENABLED k) (bit t.enabled)
  (s1.setFld (GRAVER.STATUS_DISABLE_PENDING k) (bit t.busyCommitted)).laserEval k

/-- Scanning stops: no frame is kept, and the next sync event that may scan begins anew (R387). -/
def State.stopScan (s : State) (k : Nat) : State :=
  State.setFld (s.setGv k { s.gv k with frames := [], fired := none, pred := none }) (GRAVER.STATUS_SCANNING k) 0

/-- A station turns off (R404, R417, R550): LUT_VALID clears, its lanes go idle. -/
def State.stationOff (s : State) (k : Nat) : State :=
  (State.setFld (s.stopScan k) (GRAVER.GUARD_STATUS_LUT_VALID k) 0).putStation k
    { s.station k with enable := false, enabled := false, busyCommitted := false, plateBusy := false }

/-- A station turns on (R407, R417, R441): its released lines are counted from here. -/
def State.stationOn (s : State) (k : Nat) : State :=
  (((s.setFld (GRAVER.GUARD_STATUS_LUT_VALID k) 0).setFld (GRAVER.GUARD_STATUS_TEMP_VALID k) 0).setFld (PLATE.RELEASED_LINES k) 0).putStation k
    { s.station k with enable := true, enabled := true, refused := false, plateBusy := false }

/-! ## Page queues and decoders -/

/-- Stores a Graver's page queue: PAGEQ_STATUS and PRIVILEGED follow, and a
disable that waited for the last committed page is carried out (R143, R369, R404). -/
def State.setQueue (s : State) (k : Nat) (l : List QEntry) : State :=
  let s1 := s.setGv k { s.gv k with queue := l, lapsed := (s.gv k).lapsed && l.any (·.committed) }
  let s2 := s1.setFld (GRAVER.PAGEQ_STATUS_COUNT k) l.length
  let s3 := s2.setFld (GRAVER.PAGEQ_STATUS_HEAD k) (match l with
    | e :: _ => s.handleAt e.page
    | [] => 0)
  let s4 := s3.setFld (GRAVER.PAGEQ_STATUS_HEAD_COMMITTED k) (match l with
    | e :: _ => bit e.committed
    | [] => 0)
  let s5 := s4.setFld (GRAVER.STATUS_PRIVILEGED k) (bit (l.any (·.committed) && !(s1.gv k).lapsed))
  if (s5.station k).busyCommitted && !l.any (·.committed) then s5.stationOff k else s5

/-- A decoder after reset. -/
def Dec.reset : Dec := { runs := [], cur := none, entry := 0, block := none, forced := false }

/-- Decoder `k`. -/
def State.decoder (s : State) (k : Nat) : Dec := Tbl.get (fun _ => Dec.reset) s.dec k

/-- Stores it; QUEUED follows. -/
def State.setDecoder (s : State) (k : Nat) (d : Dec) : State :=
  ({ s with dec := Tbl.put (fun _ => Dec.reset) s.dec k d }).setFld (CODEC.DEC_STATUS_QUEUED k) d.runs.length

/-- Takes every run of page handle `h` off decoder `k`. -/
def State.dropRuns (s : State) (k h : Nat) : State :=
  let d := s.decoder k
  let mine := match d.cur with
    | some r => decide (r.page = h)
    | none => false
  let d1 := { d with runs := d.runs.filter (fun r => decide (r.page ≠ h)) }
  if mine then (s.setDecoder k { d1 with cur := none, block := none }).setFld (CODEC.DEC_STATUS_STATE k) 0
  else s.setDecoder k d1

end Sys2Proof.Machine
end

