-- ==== Sys2Proof/Machine/PageOps.lean ====
section
/-!
DEFINITION. Groups and the engine's stations, and the page engine's own records: states, marks, reasons, holders and ends of pages
(R253–R258, R443–R445, R456, R461–R463), without the faults they follow from.
-/

namespace Sys2Proof.Machine

/-! ## Groups (R253–R257) -/

/-- Direct members of a group: the fixed HV groups (R255) and created groups. -/
def State.members (s : State) (h : Nat) : List Nat :=
  if kindOf h ≠ 5 then []
  else if 0x1F0 ≤ indexOf h ∧ indexOf h < 0x1F6 then
    (List.range 4).map (fun j => s.ownWord (0x2040 + 4 * (indexOf h - 0x1F0) + j))
  else match s.object (indexOf h) with
    | some o => if o.kind = 5 then o.members else []
    | none => []

/-- The flattened member list of a word: a group of another device stands for itself (R254). -/
def State.flatten (s : State) : Nat → Nat → List Nat
  | 0, w => [w]
  | n + 1, w => if s.isOwn w && decide (kindOf (w % 65536) = 5) then (s.members (w % 65536)).flatMap (s.flatten n) else [w]

/-- The flattened member list of a handle of this device. -/
def State.flat (s : State) (h : Nat) : List Nat := s.flatten 9 (s.ownWord h)

/-- The engine's stations, as member words, in order (R251, R258). -/
def State.engineStations (s : State) : List Nat :=
  if s.engine.stationSet = 0 then ((List.range 6).filter (fun k => (s.station k).enabled)).map (fun k => s.ownWord (0x3008 + k))
  else s.flat s.engine.stationSet

/-- The local station that engine station `i` is. -/
def State.localStation (s : State) (i : Nat) : Option Nat :=
  match s.engineStations[i]? with
  | some w => if s.isOwn w && decide (0x3008 ≤ w % 65536) && decide (w % 65536 < 0x300E) then some (w % 65536 - 0x3008) else none
  | none => none

/-- The engine station index of local station `k`, 0xFF where it has none. -/
def State.engineIndex (s : State) (k : Nat) : Nat :=
  match (List.range 24).find? (fun i => decide (s.localStation i = some k)) with
  | some i => i
  | none => 0xFF

/-! ## Pages -/

/-- States of R444. -/
def pgQueued : Nat := 1
def pgAdmitted : Nat := 2
def pgCommitted : Nat := 3
def pgImaged : Nat := 4
def pgTransferred : Nat := 5
def pgFused : Nat := 6
def pgDelivered : Nat := 7
def pgSpoiled : Nat := 8
def pgAbandoned : Nat := 9

/-- The page engine's page of table index `i`. -/
def State.pg (s : State) (i : Nat) : Option Page := Tbl.get (fun _ => none) s.page.pages i

/-- Stores it. -/
def State.setPg (s : State) (i : Nat) (p : Option Page) : State :=
  { s with page := { s.page with pages := Tbl.put (fun _ => none) s.page.pages i p } }

/-- Changes it, where there is one. -/
def State.mapPg (s : State) (i : Nat) (f : Page → Page) : State :=
  match s.pg i with
  | some p => s.setPg i (some (f p))
  | none => s

/-- The state of page `i`, 0 where it was never submitted. -/
def State.pgState (s : State) (i : Nat) : Nat :=
  match s.pg i with
  | some p => p.state
  | none => 0

/-- Indices of the pages in the states that satisfy `f`. -/
def State.pagesIn (s : State) (f : Nat → Bool) : List Nat :=
  s.page.pages.filterMap (fun x => match x.2 with
    | some p => if f p.state then some x.1 else none
    | none => none)

/-- Committed and short of an end state. -/
def isCommitted (st : Nat) : Bool := decide (pgCommitted ≤ st) && decide (st ≤ pgFused)

/-- Admitted or later, short of an end state. -/
def isActive (st : Nat) : Bool := decide (pgAdmitted ≤ st) && decide (st ≤ pgFused)

/-- An end state. -/
def isEnded (st : Nat) : Bool := decide (pgDelivered ≤ st)

/-- Adds to counter `n` of the status table; every counter saturates (R467): 0–7 SKIP, 8 ADMITTED, 9 DELIVERED, 10 SPOILED,
11 ABANDONED, 12 EXPANDED, 13 REPRINTED. -/
def State.countPage (s : State) (n : Nat) : State :=
  { s with page := { s.page with counts := Tbl.put (fun _ => 0) s.page.counts n (satAdd 32 (Tbl.get (fun _ => 0) s.page.counts n) 1) } }

/-- The separations of a page on this device: engine station, station, handle. -/
def State.localSeps (s : State) (p : Page) : List (Nat × Nat × Nat) :=
  (List.range 24).filterMap (fun i =>
    match p.seps[i]?, s.localStation i with
    | some w, some k => if w = 0 then none else some (i, k, w % 65536)
    | _, _ => none)

/-- A reason word (R462): code, engine station or 0xFF, DETAIL. -/
def reasonWord (code station detail : Nat) : Nat := code % 256 + station % 256 * 256 + detail % 65536 * 65536

/-- Which reasons allow a reprint (R462). -/
def reprintable (code : Nat) : Bool := decide (4 ≤ code) && decide (code ≤ 0xD)

/-- Spoils a page that is under way: the first reason is kept, and the page ends SPOILED when its sheet has run its course
(R17, R443, R462). -/
def State.spoilPage (s : State) (i code station detail : Nat) : State :=
  s.mapPg i (fun p => if isActive p.state && decide (p.reason = 0) then { p with reason := reasonWord code station detail } else p)

/-- A page mark (R461): collected, and under STRICT the first one spoils the page, its bit number in DETAIL. -/
def State.markPage (s : State) (i markBit station : Nat) : State :=
  match s.pg i with
  | none => s
  | some p =>
    let s1 := s.setPg i (some { p with marks := withBit p.marks markBit true })
    if p.flags.testBit 2 then s1.spoilPage i 0xD station markBit else s1

/-- Frees a created object without a command: at once, or when its last holder drops it. -/
def State.freeOrDefer (s : State) (i : Nat) : State :=
  match s.object i with
  | none => s
  | some o => if o.use = 0 then s.release i else s.setObject i (some { o with freePending := true })

/-- The handles a page holds (R269): its object, its separations and its expansions. -/
def State.heldBy (s : State) (i : Nat) (p : Page) : List Nat :=
  s.handleAt i :: (s.localSeps p).map (fun x => x.2.2) ++ p.expansions.map (fun e => s.handleAt e.object)

/-- The page takes its holds (R447). -/
def State.holdPage (s : State) (i : Nat) : State :=
  match s.pg i with
  | none => s
  | some p => if p.holding then s
      else ((s.heldBy i p).foldl State.hold s).setPg i (some { p with holding := true })

/-- The page's expansions are freed with it. -/
def State.dropExpansions (s : State) (i : Nat) : State :=
  match s.pg i with
  | none => s
  | some p =>
    let s1 := if p.holding then (p.expansions.map (fun e => s.handleAt e.object)).foldl State.drop s else s
    (s1.each (p.expansions.map (·.object)) State.freeOrDefer).setPg i (some { p with expansions := [] })

/-- The page drops its holds. -/
def State.unholdPage (s : State) (i : Nat) : State :=
  let s1 := s.dropExpansions i
  match s1.pg i with
  | none => s1
  | some p => if p.holding then ((s1.heldBy i p).foldl State.drop s1).setPg i (some { p with holding := false }) else s1

/-- May a page that ends SPOILED for this reason be reprinted (R462)? -/
def Page.mayReprint (p : Page) : Bool :=
  decide (p.side = 0) && p.flags.testBit 0 && decide (p.attempt = 0) && reprintable (p.reason % 256)

/-- Takes page `i` off Graver `k` and decoder `k`, committed or not. -/
def State.clearPage (s : State) (i k : Nat) : State :=
  let q := (s.gv k).queue
  let q1 := q.filter (fun e => decide (e.page ≠ i))
  (if q1 = q then s else s.setQueue k q1).dropRuns k (s.handleAt i)

/-- A page reaches an end state: nothing of it stays on a station, it is counted and drops its objects, unless a reprint is still
open to it. -/
def State.endPage (s : State) (i endState : Nat) : State :=
  match s.pg i with
  | none => s
  | some p =>
    if isEnded p.state then s
    else
      let s1 := (s.setPg i (some { p with state := endState, imaging := 0 })).each (List.range 6) (fun t k => t.clearPage i k)
      if endState = pgSpoiled ∧ p.mayReprint then s1.dropExpansions i
      else ((if endState = pgDelivered then s1.countPage 9 else if endState = pgSpoiled then s1.countPage 10 else s1.countPage 11)).unholdPage i

/-- The end state a committed page comes to at the exit: SPOILED if it was spoiled on the way. -/
def State.finishPage (s : State) (i : Nat) : State :=
  match s.pg i with
  | none => s
  | some p => s.endPage i (if p.reason % 256 = 0 then pgDelivered else pgSpoiled)

/-- Removes page `i` from the uncommitted entries of Graver `k` and its runs from decoder `k` (R390, R456). -/
def State.pullPage (s : State) (i k : Nat) : State :=
  let q := (s.gv k).queue
  let q1 := q.filter (fun e => decide (e.page ≠ i) || e.committed)
  let s1 := if q1 = q then s else s.setQueue k q1
  s1.dropRuns k (s.handleAt i)

/-- An uncommitted page leaves every Graver queue and decoder run of the device and ends ABANDONED; `wd` sets its WITHDRAWN
(R15, R443, R456). -/
def State.abandonOne (s : State) (i code : Nat) (wd : Bool) : State :=
  match s.pg i with
  | none => s
  | some p =>
    if p.state = pgQueued ∨ p.state = pgAdmitted then
      let s1 := s.setPg i (some { p with withdrawn := p.withdrawn || wd, reason := reasonWord code 0xFF 0 })
      (s1.each (List.range 6) (fun t k => t.pullPage i k)).endPage i pgAbandoned
    else s

/-- The same for a page of a duplex sheet, with its back, which can no longer be fed, or with its front where neither is admitted yet, as
both are admitted together (R449–R451). -/
def State.abandonPage (s : State) (i code : Nat) (wd : Bool) : State :=
  match s.pg i with
  | none => s
  | some p =>
    let s1 := s.abandonOne i code wd
    match p.mate with
    | some j => if (p.side = 1 ∨ s1.pgState j = pgQueued) ∧ s1.pgState i = pgAbandoned ∧ p.state ≠ pgAbandoned then s1.abandonOne j code wd else s1
    | none => s1

/-- Spoils a page and ends it at once, its sheet notwithstanding (R460, R468). -/
def State.spoilNow (s : State) (i code detail : Nat) : State :=
  (s.spoilPage i code 0xFF detail).finishPage i

/-- Has the sheet of a page left the path, or was there none? -/
def Page.clear (p : Page) : Bool := !p.started || p.gone

/-- Ends the passes that satisfy `f`: their gauges are free, the page engine's entries on them disarmed (R458). -/
def State.freeSheets (s : State) (f : Sheet → Bool) : State :=
  let gone := (s.page.sheets.filter f).map (·.gauge)
  { s with
    page := { s.page with sheets := s.page.sheets.filter (fun x => !f x) }
    gc := { s.gc with entries := s.gc.entries.filter (fun p => match p.2 with
      | some e => !(e.engine && gone.contains e.gauge)
      | none => true) } }

/-- Takes the passes of page `i` off the path. -/
def State.dropSheets (s : State) (i : Nat) : State :=
  (State.mapPg (s.freeSheets (fun x => decide (x.page = i))) i
    (fun p => { p with gone := true, gauge := 0 }))

end Sys2Proof.Machine
end

