-- ==== Sys2Proof/Machine/AxisOps.lean ====
section
/-!
DEFINITION. Motor axes, FOC 0–11 and steppers as 12–19: their registers under one name, bridges off, starts and stops
(R469–R487, R495).
-/

namespace Sys2Proof.Machine

/-! ## Registers and records -/

/-- A field that FOC and stepper blocks both have, of axis `a`. -/
def axf (f g : Nat → Fld) (a : Nat) : Fld := if a < 12 then f a else g (a - 12)

/-- A register that both have. -/
def axr (f g : Nat → Nat) (a : Nat) : Nat := if a < 12 then f a else g (a - 12)

/-- An axis after reset. -/
def Axis.reset : Axis := {
  speed := 0, pos := 0, accel := 0, decel := 0, ref := 0, acc := 0, updates := 0, pulses := 0, best := none, north := 0, angle := 0, elec := 0, cur := 0
  reprobe := false, braked := false, declared := none, limit := 0 }

/-- Axis `a`. -/
def State.axis (s : State) (a : Nat) : Axis := Tbl.get (fun _ => Axis.reset) s.axes a

/-- Stores it. -/
def State.setAxis (s : State) (a : Nat) (x : Axis) : State := { s with axes := Tbl.put (fun _ => Axis.reset) s.axes a x }

/-- A bus group after reset. -/
def BusGroup.reset : BusGroup := { volts := 0, noted := 0 }

/-- Bus group `b`. -/
def State.bus (s : State) (b : Nat) : BusGroup := Tbl.get (fun _ => BusGroup.reset) s.buses b

/-- Stores it. -/
def State.setBus (s : State) (b : Nat) (x : BusGroup) : State := { s with buses := Tbl.put (fun _ => BusGroup.reset) s.buses b x }

/-- PHASE values (R499). -/
def phOff : Nat := 0
def phIdle : Nat := 1
def phProbing : Nat := 2
def phBraking : Nat := 3
def phAligning : Nat := 4
def phOpenLoop : Nat := 5
def phRamp : Nat := 6
def phAtTarget : Nat := 7
def phStopping : Nat := 8
def phHold : Nat := 9
def phCoast : Nat := 10
def phDisabling : Nat := 11
def phStalled : Nat := 12

def State.axPhase (s : State) (a : Nat) : Nat := s.fld (axf FOC.AXIS_STATUS_PHASE STEP.AXIS_STATUS_PHASE a)
def State.setAxPhase (s : State) (a v : Nat) : State := s.setFld (axf FOC.AXIS_STATUS_PHASE STEP.AXIS_STATUS_PHASE a) v
def State.axEnable (s : State) (a : Nat) : Bool := s.on (axf FOC.CTRL_ENABLE STEP.CTRL_ENABLE a)
def State.axEnabled (s : State) (a : Nat) : Bool := s.on (axf FOC.STATUS_ENABLED STEP.STATUS_ENABLED a)
def State.axBus (s : State) (a : Nat) : Nat := s.fld (axf FOC.CFG_BUS STEP.CFG_BUS a)
def State.axSpeed (s : State) (a : Nat) : Int := s.sfld (axf FOC.SPEED_SPEED STEP.SPEED_SPEED a)
def State.axPos (s : State) (a : Nat) : Int :=
  sext 64 (s.pair (axr FOC.POS_LO STEP.POS_LO a) (axr FOC.POS_HI STEP.POS_HI a))
def State.axPosMode (s : State) (a : Nat) : Bool := s.on (axf FOC.CFG_POS_MODE STEP.CFG_POS_MODE a)
def State.axStartN (s : State) (a : Nat) : Bool := s.on (axf FOC.CFG_START_N_EN STEP.CFG_START_N_EN a)
def State.atSpeed (s : State) (a : Nat) : Bool := s.on (axf FOC.AXIS_STATUS_AT_SPEED STEP.AXIS_STATUS_AT_SPEED a)
def State.setAtSpeed (s : State) (a : Nat) (b : Bool) : State := s.setFld (axf FOC.AXIS_STATUS_AT_SPEED STEP.AXIS_STATUS_AT_SPEED a) (bit b)

/-- Does the axis take its angle, position and speed from its encoder gauge (R477)? -/
def State.encoderAxis (s : State) (a : Nat) : Bool :=
  decide (a < 12) && s.on (FOC.FB_CFG_FB_EN a) && decide (s.fld (FOC.CFG_ANGLE_SRC a) = 1)

/-- Speed (16.16 rev/s), position (48.16 revolutions) and electrical angle (1/65,536 revolution) of an encoder axis, from its gauge; the
rounding is not stated, and an FB_SCALE of 0 gives none of them (R477). -/
def State.encoderMotion (s : State) (a : Nat) : (Int × Int × Nat) × State :=
  let g := s.fld (FOC.FB_CFG_GAUGE a)
  let scale := s.fld (FOC.FB_SCALE_SCALE a)
  let value := sext 64 (s.gauge g).value
  let (r, s0) := s.gaugeRate g
  if scale = 0 then
    let (x, s1) := s0.free
    let (y, s2) := s1.free
    let (z, s3) := s2.free
    ((sext 32 x, sext 64 y, z % 65536), s3)
  else
    let (v, s1) := s0.divFreeInt (sext 32 r * 1000 * 2 ^ 20) scale
    let (p, s2) := s1.divFreeInt (value * 65536) scale
    let (e, s3) := s2.divFreeInt (value * 65536 * (max 1 (s.fld (FOC.CFG_POLE_PAIRS a)) : Nat)) scale
    ((v, p, wrap 16 (e + s.fld (FOC.FB_CFG_ANGLE_OFFSET a))), s3)

/-- Table index of the axis object (R247). -/
def axIndex (a : Nat) : Nat := if a < 12 then 0x20 + a else 0x24 + a

/-- Block code of the axis (R26). -/
def axCode (a : Nat) : Nat := if a < 12 then 0x200 + a else 0x204 + a

/-- The axis that a member word of a group names, if it is one of this device. -/
def State.axisOf (s : State) (w : Nat) : Option Nat :=
  let h := w % 65536
  if !s.isOwn w then none
  else if 0x2020 ≤ h ∧ h < 0x202C then some (h - 0x2020)
  else if 0x2030 ≤ h ∧ h < 0x2038 then some (h - 0x2024)
  else none

/-- The axes of the engine's run group on this device (R20, R251). -/
def State.runAxes (s : State) : List Nat :=
  if s.engine.runGroup = 0 then (List.range 20).filter (fun a => s.axEnabled a)
  else (s.flat s.engine.runGroup).filterMap s.axisOf

/-- Is the block of this code a run-group axis (R496)? -/
def State.runGroupHas (s : State) (code : Nat) : Bool := s.runAxes.any (fun a => decide (axCode a = code))

/-- Is the axis in motion under its loops? -/
def runningPhase (p : Nat) : Bool :=
  p == phOpenLoop || p == phRamp || p == phAtTarget || p == phStopping || p == phHold || p == phDisabling

/-- Is the axis at rest: off, idle, held, coasting or stalled, or at a zero-speed target? -/
def State.axAtRest (s : State) (a : Nat) : Bool :=
  let p := s.axPhase a
  p == phOff || p == phIdle || p == phHold || p == phCoast || p == phStalled || (p == phAtTarget && decide ((s.axis a).ref = 0))

/-- Is it decelerating (R489, R491)? -/
def State.decelerating (s : State) (a : Nat) : Bool :=
  let p := s.axPhase a
  let x := s.axis a
  p == phStopping || p == phDisabling || p == phBraking ||
    (p == phRamp && (decide ((x.speed * 1000000000).natAbs < x.ref.natAbs) || decide (x.acc * x.ref < 0)))

/-! ## Bridges off (R472) -/

/-- ENABLE 0 has been carried out: PHASE OFF. -/
def State.axisOff (s : State) (a : Nat) : State :=
  ((s.setAxPhase a phOff).setFld (axf FOC.STATUS_ENABLED STEP.STATUS_ENABLED a) 0).setFld
    (axf FOC.STATUS_DISABLE_PENDING STEP.STATUS_DISABLE_PENDING a) 0

/-- Every PWM output of the axis at 0; PHASE COAST, or OFF where ENABLE is 0.
What the last start applied is forgotten; the staged targets stay. -/
def State.bridgesOff (s : State) (a : Nat) : State :=
  if s.axPhase a = phOff then s
  else
    let s1 := s.setAxis a { Axis.reset with angle := (s.axis a).angle, limit := (s.axis a).limit }
    let s2 := ((s1.setAtSpeed a false).setFld (axf FOC.AXIS_STATUS_ZV_BRAKE STEP.AXIS_STATUS_ZV_BRAKE a) 0).setFld
      (axf FOC.AXIS_STATUS_DERATED STEP.AXIS_STATUS_DERATED a) 0
    let s3 := if a < 12 then s2 else s2.setReg (STEP.SPEED (a - 12)) 0
    if s3.axEnable a then s3.setAxPhase a phCoast else s3.axisOff a

/-! ## Starts (R480, R482–R485, R495) -/

/-- 4π² × 10⁶, rounded: revolutions to radians, twice (R495). -/
def fourPiSq : Nat := 39478418

/-- The forecast of an acceleration to peak speed `v` at rate `acc`, in W (R495). -/
def State.forecast (s : State) (a v acc : Nat) : Nat × State :=
  let j := s.fld (axf FOC.FORECAST_J STEP.FORECAST_J a)
  let (w, s1) := s.divFree (j * v * acc * fourPiSq) (2 ^ 32 * 1000000 * 1000000)
  (w + s.fld (axf FOC.FORECAST_BASE STEP.FORECAST_BASE a), s1)

/-- Declares to Cord: an acceleration its peak, any other move nothing here, its BASE standing as R495 has it. -/
def State.declareMove (s : State) (a : Nat) : State :=
  let x := s.axis a
  let now := (s.axSpeed a).natAbs
  if now < x.speed.natAbs ∨ x.speed * s.axSpeed a < 0 then
    let (w, s1) := s.forecast a x.speed.natAbs x.accel
    s1.setAxis a { x with declared := some w }
  else s.setAxis a { x with declared := none }

/-- The staged targets are applied; a start that would move the axis further beyond the limit it stands at is one to zero speed, one
away from it clears AT_LIMIT (R485). -/
def State.applyTargets (s : State) (a : Nat) : State :=
  let sp := s.sfld (axf FOC.TARGET_SPEED_SPEED STEP.TARGET_SPEED_SPEED a)
  let tp := sext 64 (s.pair (axr FOC.TARGET_POS_LO STEP.TARGET_POS_LO a) (axr FOC.TARGET_POS_HI STEP.TARGET_POS_HI a))
  let x := s.axis a
  let dir : Int := if s.axPosMode a then tp - s.axPos a else sp
  let blocked := (x.limit == 1 && decide (0 < dir)) || (x.limit == 2 && decide (dir < 0))
  let away := (x.limit == 1 && decide (dir < 0)) || (x.limit == 2 && decide (0 < dir))
  let s1 := s.setAxis a { x with
    speed := if blocked then 0 else sp
    pos := if blocked then s.axPos a else tp
    accel := s.fld (axf FOC.ACCEL_RATE STEP.ACCEL_RATE a), decel := s.fld (axf FOC.DECEL_RATE STEP.DECEL_RATE a)
    limit := if away then 0 else x.limit }
  if away then s1.setFld (axf FOC.AXIS_STATUS_AT_LIMIT STEP.AXIS_STATUS_AT_LIMIT a) 0 else s1

/-- A stalled stepper starts from its encoder position (R493). -/
def State.fromEncoder (s : State) (a : Nat) : State :=
  let k := a - 12
  if s.axPhase a = phStalled ∧ s.on (STEP.FB_CFG_FB_EN k) = true then
    let v := sext 64 (s.gauge (s.fld (STEP.FB_CFG_GAUGE k))).value * 65536
    let d := s.fld (STEP.FB_SCALE_SCALE k)
    let (c, s1) := s.choose
    s1.setPair (STEP.POS_LO k) (STEP.POS_HI k) (wrap 64 (if v % d = 0 then v / d else v / d + bit c))
  else s

/-- Where a start comes from (R480). -/
inductive StartBy where
  | startN
  | other
deriving DecidableEq, Repr

/-- A start of axis `a` (R480, R482–R484, R493, R497): refused on a disabled or disabling axis, ignored by an axis that waits for
START_N and while the engine holds every bridge off (R18, R111), else the targets are applied; a moving axis plans again, one in its start sequence goes on with it, a stopped one begins
it. -/
def State.startAxis (s : State) (a : Nat) (by' : StartBy) : State :=
  let p := s.axPhase a
  if (s.axStartN a && decide (by' = .other)) || s.drivesHeld then s
  else if !s.axEnable a || p == phOff || p == phDisabling then
    (s.setFld (axf FOC.AXIS_STATUS_REFUSED STEP.AXIS_STATUS_REFUSED a) 1).setRefused (axIndex a) true
  else
    let s1 := ((((s.fromEncoder a).applyTargets a).setRefused (axIndex a) false).declareMove a).setAtSpeed a false
    if p == phProbing || p == phBraking || p == phAligning || p == phOpenLoop then s1
    else if p == phIdle || p == phCoast || p == phStalled then
      if a < 12 ∧ !s1.encoderAxis a then
        (State.setFld (s1.setAxis a { s1.axis a with ref := 0, acc := 0, pulses := 0, best := none, reprobe := false, braked := false })
          (FOC.PROBE_RESULT_PROBES a) 0).setAxPhase a phProbing
      else
        -- an encoder axis closes its loops at the gauge's speed (R484)
        let (v, s0) : Int × State := if a < 12 then (let m := s1.encoderMotion a; (m.1.1, m.2)) else (0, s1)
        -- an adaptive stepper's current before its first full step is not stated (R494)
        let (c, s0) := s0.free
        let s2 := (s0.setAxis a { s0.axis a with ref := v * 1000000000, acc := 0, cur := c % 65536 }).setAxPhase a phRamp
        s2.event (axf FOC.INT_STAT_START_DONE_EV STEP.INT_STAT_START_DONE_EV a)
    else s1.setAxPhase a phRamp

/-- The starts of a RUN request (R481), and of a START_N edge (R480). -/
def State.startAxes (s : State) (l : List Nat) (by' : StartBy) : State := s.each l (fun t a => t.startAxis a by')

/-! ## Stops (R486) -/

/-- A stop: a moving axis ramps to zero at DECEL; one that probes, brakes or aligns turns its bridges off. -/
def State.stopAxis (s : State) (a : Nat) : State :=
  let p := s.axPhase a
  if p == phRamp || p == phOpenLoop || p == phAtTarget || p == phHold then
    ((s.setAxis a { s.axis a with declared := none }).setAtSpeed a false).setAxPhase a phStopping
  else if p == phProbing || p == phBraking || p == phAligning then
    (s.bridgesOff a).event (axf FOC.INT_STAT_STOPPED_EV STEP.INT_STAT_STOPPED_EV a)
  else s

/-- The axes of the run group stop (R481). -/
def State.stopRun (s : State) : State := s.each s.runAxes State.stopAxis

/-- The coil current I of stepper `k`, mA: HOLD at rest, RUN in motion in native mode, the adaptive current in adaptive mode
(R492, R494). -/
def State.coilCurrent (s : State) (k : Nat) : Nat :=
  if s.axAtRest (12 + k) then s.fld (STEP.CURRENT_HOLD k)
  else if s.fld (STEP.CFG_CUR_MODE k) = 1 then (s.axis (12 + k)).cur
  else s.fld (STEP.CURRENT_RUN k)

/-- Are the run group's axes all at rest? -/
def State.runAtRest (s : State) : Bool := s.runAxes.all (fun a => s.axAtRest a)

end Sys2Proof.Machine
end

