-- ==== Sys2Proof/Machine/HeatOps.lean ====
section
/-!
DEFINITION. Heater zones, lamps, HV channels and the journal with its headers: the operations that raise no fault (R502–R526).
-/

namespace Sys2Proof.Machine

/-! ## Records -/

def Therm.reset : Therm := { samples := [], windowStart := none, rises := [], heating := false, bad := false }
def Zone.reset : Zone := { integ := 0, prev := 0, holdP1 := false }

/-- A lamp after reset: it has been dark (R505). -/
def Lamp.reset : Lamp := { acc := 0, soft := 0, gap := 255, granted := false, htr := false }
def HvChan.reset : HvChan := { integ := 0, settled := 0, pulses := [], armed := false, step := 0, rem := 0 }

/-- TH input `n`. -/
def State.therm (s : State) (n : Nat) : Therm := Tbl.get (fun _ => Therm.reset) s.therms n
def State.setTherm (s : State) (n : Nat) (x : Therm) : State := { s with therms := Tbl.put (fun _ => Therm.reset) s.therms n x }

/-- Heater zone `z`. -/
def State.zone (s : State) (z : Nat) : Zone := Tbl.get (fun _ => Zone.reset) s.zones z
def State.setZone (s : State) (z : Nat) (x : Zone) : State := { s with zones := Tbl.put (fun _ => Zone.reset) s.zones z x }

/-- Lamp `n`. -/
def State.lamp (s : State) (n : Nat) : Lamp := Tbl.get (fun _ => Lamp.reset) s.lamps n
def State.setLamp (s : State) (n : Nat) (x : Lamp) : State := { s with lamps := Tbl.put (fun _ => Lamp.reset) s.lamps n x }

/-- HV channel `n`. -/
def State.hvc (s : State) (n : Nat) : HvChan := Tbl.get (fun _ => HvChan.reset) s.hv n
def State.setHvc (s : State) (n : Nat) (x : HvChan) : State := { s with hv := Tbl.put (fun _ => HvChan.reset) s.hv n x }

/-! ## Zones (R510–R514) -/

/-- A zone counts as configured when its LAMPS mask is non-zero (R514). -/
def State.zoneUsed (s : State) (z : Nat) : Bool := decide (s.fld (HEARTH.Z_CFG_LAMPS z) ≠ 0)

/-- Zone `z` is enabled. -/
def State.zoneOn (s : State) (z : Nat) : Bool := s.on (HEARTH.Z_CFG_ENABLE z)

/-- The control reading of a zone. -/
def State.zoneTemp (s : State) (z : Nat) : Nat := s.fld (HEARTH.TH_VALUE_TEMP (s.fld (HEARTH.Z_CFG_CTRL z)))

/-- The set-point of an enabled zone under the engine state (R511); 0 none. -/
def State.setPoint (s : State) (z : Nat) : Nat :=
  if !s.zoneOn z then 0
  else if s.warm || decide (s.eng = engRunOut) then s.fld (HEARTH.Z_SP_RUN_SP z)
  else if s.eng = engBanked then s.fld (HEARTH.Z_SP_BANK_SP z)
  else 0

/-- READY of a zone (R513). -/
def State.zoneReady (s : State) (z : Nat) : Bool :=
  decide (s.setPoint z ≠ 0) &&
    decide (((s.zoneTemp z : Int) - (s.setPoint z : Int)).natAbs ≤ s.fld (HEARTH.Z_BAND_READY_BAND z))

/-- Priority of a zone's lamps (R529). -/
def State.zonePriority (s : State) (z : Nat) : Nat :=
  let fuser := !s.on (HEARTH.Z_CFG_CLASS z)
  if fuser && ((s.zone z).holdP1 || decide (s.eng = engRunOut)) then 1
  else if fuser && (decide (s.eng = engReady) || decide (s.eng = engRunning)) then 2
  else if fuser && decide (s.eng = engKindling) then 3
  else 4

/-- Z_STATUS of a zone follows its reading, its set-point and its priority; READY_EV when it becomes READY. -/
def State.zoneLevels (s : State) (z : Nat) : State :=
  let was := s.on (HEARTH.Z_STATUS_READY z)
  let now := s.zoneReady z
  let s1 := ((s.setFld (HEARTH.Z_STATUS_TEMP z) (s.zoneTemp z)).setFld (HEARTH.Z_STATUS_READY z) (bit now)).setFld
    (HEARTH.Z_STATUS_PRIORITY z) (s.zonePriority z - 1)
  if now && !was then s1.event HEARTH.INT_STAT_READY_EV else s1

/-- Every zone's levels follow. -/
def State.zonesFollow (s : State) : State := s.each (pick 8 (fun z => s.zoneUsed z || s.zoneOn z || s.on (HEARTH.Z_STATUS_READY z))) State.zoneLevels

/-! ## Lamps (R502–R506) -/

/-- LAMPS_ON of phase `p` counts its conducting lamps. -/
def State.countLamps (s : State) (p : Nat) : State :=
  if p < 3 then s.setFld (CORD.P_OVER_LAMPS_ON p)
    ((List.range 8).countP (fun n => decide (s.fld (HEARTH.H_CFG_PHASE n) = p) && s.on (HEARTH.H_STATUS_ON n)))
  else s

/-- HTRn low and no grant left; a lamp in soft start leaves it, one that conducts goes on to its current zero (R505, R515). -/
def State.htrLow (s : State) (n : Nat) : State :=
  let x := s.lamp n
  let waits := decide (x.soft ≠ 0) && !x.htr
  let s1 := (s.setLamp n { x with htr := false, granted := false, soft := 0 }).setFld (HEARTH.H_STATUS_SOFT n) 0
  if waits then (s1.setFld (HEARTH.H_STATUS_ON n) 0).countLamps (s.fld (HEARTH.H_CFG_PHASE n)) else s1

/-- The gauge of mains phase `p` has failed: every HTR of the phase low, the lamps dark from the current zero (R506, R534). -/
def State.mainsLost (s : State) (p : Nat) : State :=
  (s.each (pick 8 (fun n => decide (s.fld (HEARTH.H_CFG_PHASE n) = p))) (fun t n => (t.htrLow n).setFld (HEARTH.H_STATUS_ON n) 0)).countLamps p

/-- All eight HTR low. -/
def State.gatesOff (s : State) : State := s.each (List.range 8) State.htrLow

/-! ## HV channels (R523, R525) -/

/-- The level of HVENn (R523). -/
def State.hvLevel (s : State) (n : Nat) : Bool :=
  s.on (HV.V_CFG_ENABLE n) && (s.hvc n).armed && s.on HV.STATUS_ENABLED && decide (s.eng ≠ engSafe) && !s.tinder.inReset &&
    !s.tinder.outputsHeld && !s.on (HV.V_STATUS_ARC_FLT n) && !s.on (HV.V_STATUS_OV_FLT n)

/-- HVENn follows; a channel that turns on starts its settling anew, one that turns off is not AT_SP (R524). -/
def State.hvFollow (s : State) (n : Nat) : State :=
  let was := s.on (HV.V_STATUS_OUTPUT n)
  let now := s.hvLevel n
  if was = now then s
  else
    let s1 := (s.setHvc n { s.hvc n with settled := 0, step := 0, rem := 0 }).setFld (HV.V_STATUS_OUTPUT n) (bit now)
    s1.setFld (HV.V_STATUS_AT_SP n) 0

/-- Every HVEN follows. -/
def State.hvAll (s : State) : State := s.each (List.range 32) State.hvFollow

/-- Are the AC settings of a channel allowed (R525)? -/
def State.hvCfgOk (s : State) (n : Nat) : Bool :=
  !s.on (HV.V_CFG_AC_EN n) ||
    (decide (10 ≤ s.fld (HV.V_AC_TIMING_PERIOD n)) && decide (s.fld (HV.V_AC_TIMING_PERIOD n) ≤ 100) &&
      decide (s.fld (HV.V_AC_TIMING_HIGH n) + 2 * s.fld (HV.V_AC_TIMING_RAMP n) < s.fld (HV.V_AC_TIMING_PERIOD n)) &&
      !s.on (HV.V_CFG_LOOP_EN n))

/-- A write of channel `n`'s ENABLE (R523, R525, R526): refused with CFG_ERR for bad AC settings; a write of 1 while a fault is held
does not arm the channel. -/
def State.hvWrite (s : State) (n : Nat) (v : Bool) : State :=
  if v && !s.hvCfgOk n then
    ((s.setFld (HV.V_CFG_CFG_ERR n) 1).setFld (HV.V_CFG_ENABLE n) 0).setRefused (0x40 + n) true |>.hvFollow n
  else
    let held := s.on (HV.V_STATUS_ARC_FLT n) || s.on (HV.V_STATUS_OV_FLT n)
    let s1 := s.setHvc n { s.hvc n with armed := v && !held }
    ((s1.setFld (HV.V_CFG_ENABLE n) (bit v)).setRefused (0x40 + n) false).hvFollow n

/-- Entry into SAFE writes 0 to every channel's ENABLE (R523). -/
def State.hvSafe (s : State) : State :=
  (s.each (pick 32 (fun n => s.on (HV.V_CFG_ENABLE n))) (fun t n => (t.setFld (HV.V_CFG_ENABLE n) 0).setHvc n { t.hvc n with armed := false })).hvAll

/-! ## The journal (R516–R518) -/

/-- The header in use: its copy, and its fields. -/
structure JHeader where
  copy : Nat
  gen : Nat
  head : Nat
  nextSeq : Nat
  trip : Nat
  lost : Nat
deriving DecidableEq, Repr

/-- Header copy `c`, none where it is not valid (R517). -/
def State.headerCopy (s : State) (c : Nat) : Option JHeader :=
  let b := (List.range 28).map (fun i => s.mramByte (0x20 * c + i))
  if leNat (b.take 2) = 0xC5E1 ∧ b.getD 2 0 = 1 ∧ s.mramNat (0x20 * c + 0x1C) 4 = crc32c b then
    some ⟨c, leNat ((b.drop 4).take 4), leNat ((b.drop 8).take 2), leNat ((b.drop 12).take 4), leNat ((b.drop 16).take 4), leNat ((b.drop 20).take 4)⟩
  else none

/-- The current header (R517): the higher GEN, compared modulo 2³²; copy 0 at a tie. -/
def State.header (s : State) : Option JHeader :=
  match s.headerCopy 0, s.headerCopy 1 with
  | some a, some b => if 0 < sext 32 (b.gen + 2 ^ 32 - a.gen) then some b else some a
  | some a, none => some a
  | none, b => b

/-- TRIP_SEQ of the current header. -/
def State.headerTrip (s : State) : Nat :=
  match s.header with
  | some h => h.trip
  | none => 0

/-- The bytes of a header (R516). -/
def headerImage (gen head nextSeq trip lost : Nat) : List Nat :=
  let b := [0xE1, 0xC5, 1, 0] ++ leBytes 4 gen ++ leBytes 2 head ++ [0, 0] ++ leBytes 4 nextSeq ++ leBytes 4 trip ++ leBytes 4 lost ++ [0, 0, 0, 0]
  b ++ leBytes 4 (crc32c b)

/-- The bytes of an entry with sequence number `seq` (R516). -/
def JEntry.image (e : JEntry) (seq : Nat) : List Nat :=
  let b := leBytes 4 seq ++ leBytes 2 e.block ++ [e.bitNo, e.kind, bit e.forced, e.engine % 16] ++ leBytes 2 e.detail16 ++ leBytes 4 e.detail
    ++ leBytes 4 e.session ++ leBytes 4 e.uptime ++ [0, 0, 0, 0]
  b ++ leBytes 4 (crc32c b)

/-- Is the entry a TRIP or an ACK, which is never lost (R517)? -/
def JEntry.kept (e : JEntry) : Bool := e.kind == 2 || e.kind == 3

/-- The writer takes the next entry when it is free, held entries queue as places free, and PENDING and WRITING follow (R517). -/
def State.journalPump (s : State) : State :=
  let j := s.journal
  let j1 := match j.writing, j.queue with
    | none, e :: t => { j with writing := some e, queue := t }
    | _, _ => j
  let j2 := match j1.held with
    | e :: t => if j1.queue.length < 16 then { j1 with queue := j1.queue ++ [e], held := t } else j1
    | [] => j1
  let s1 := { s with journal := j2 }
  (s1.setFld HEARTH.JNL_STATUS_PENDING j2.queue.length).setFld HEARTH.JNL_STATUS_WRITING (bit j2.writing.isSome)

/-- An entry is lost and counted; the first loss since JOURNAL was cleared raises JOURNAL, whose own entry the full queue loses
too (R517, R547). -/
def State.journalLose (s : State) : State :=
  let lose := fun (t : State) => State.bump { t with journal := { t.journal with lost := t.journal.lost + 1 } } HEARTH.JNL_STATUS_LOST 1
  let s1 := lose s
  if s1.on HEARTH.FAULT_JOURNAL then s1
  else (lose (s1.setFld HEARTH.FAULT_JOURNAL 1)).event HEARTH.INT_STAT_FAULT_EV

/-- Replaces the last entry of a list that may be lost; none where every one is kept. -/
def replaceNewest (e : JEntry) (l : List JEntry) : Option (List JEntry) :=
  match l.reverse.span JEntry.kept with
  | (_, []) => none
  | (a, _ :: b) => some ((a ++ e :: b).reverse)

/-- A journal entry of `kind` for bit `bitNo` of block `code` is queued, held or lost (R516, R517, R547). -/
def State.journalEntry (s : State) (kind code bitNo : Nat) (forced : Bool) (d16 d : Nat) : State :=
  let (up, s1) := s.free
  let e : JEntry := { kind := kind, block := code, bitNo := bitNo, forced := forced, engine := s.eng, detail16 := d16 % 65536
                      detail := d % 2 ^ 32, session := s.tinder.count, uptime := up % 2 ^ 32 }
  let j := s1.journal
  if j.queue.length < 16 then State.journalPump { s1 with journal := { j with queue := j.queue ++ [e] } }
  else if e.kept then
    match replaceNewest e j.queue with
    | some q => (State.journalLose { s1 with journal := { j with queue := q } }).journalPump
    | none => { s1 with journal := { j with held := j.held ++ [e] } }
  else s1.journalLose

/-- The latch and TRIP_SEQ follow the header at reset release (R518). -/
def State.latchInit (s : State) : State :=
  (s.setFld HEARTH.TRIP_SEQ_SEQ s.headerTrip).setFld HEARTH.ACK_STATUS_LATCHED (bit (decide (s.headerTrip ≠ 0)))

/-- Does the journal hold an unacknowledged trip (R121)? -/
def State.journalTrip (s : State) : Bool := decide (s.headerTrip ≠ 0)

end Sys2Proof.Machine
end

