-- ==== Sys2Proof/Machine/React.lean ====
section
/-!
DEFINITION. The engine's transitions and the reactions of the fault classes (R15–R23, R429, R460, R468, R481), and what a reset or a
power-down does to the outputs.
-/

namespace Sys2Proof.Machine

/-! ## Readiness (R20) -/

/-- The encoder gauges a gauge uses: itself, or those its committed definition takes, which are no virtual gauges (R165). -/
def State.encodersOf (s : State) (n : Nat) : List Nat :=
  if n < 16 then [n]
  else if 32 ≤ n ∧ n < 48 then
    match Tbl.get (fun _ => none) s.gc.virtuals (n - 32) with
    | some d => (d.a :: (if d.bEn then [d.b] else [])).filter (fun m => decide (m < 16))
    | none => []
  else []

/-- Encoder gauges that must be locked: those that enabled stations and the paper path use, through virtual gauges too (R20, R165). -/
def State.neededGauges (s : State) : List Nat :=
  (((List.range 6).filter (fun k => (s.station k).enabled)).map (fun k => (s.station k).drumGauge) ++
    (match s.page.cfg with
     | some c => [c.pitchGauge]
     | none => [])).flatMap s.encodersOf

/-- Do all conditions of R20 hold? -/
def State.readyNow (s : State) : Bool :=
  (List.range 8).all (fun z => !s.zoneOn z || decide (s.fld (HEARTH.Z_SP_RUN_SP z) = 0) || s.zoneReady z)
  && s.runAxes.all (fun a => s.atSpeed a)
  && s.neededGauges.all (fun n => s.on (GAUGE.G_STATUS_LOCKED n))
  && (List.range 6).all (fun k => !(s.station k).enabled || (s.on (CLOCK.SYN_STATUS_LOCKED k) && s.on (GAUGE.FID_STATUS_FACET_VALID k)))
  && (List.range 32).all (fun n => !s.on (HV.V_CFG_ENABLE n) || s.on (HV.V_STATUS_AT_SP n))
  && decide (s.fld DRAMC.TRAIN_STATE = 3) && !s.on DRAMC.TRAIN_DRIFT_A && !s.on DRAMC.TRAIN_DRIFT_B

/-! ## Entering a state -/

/-- Enters an engine state: set-points, HV enables and laser enables follow (R511, R523, R428). -/
def State.enter (s : State) (e : Nat) : State := (((s.setEng e).zonesFollow).hvAll).laserAll

/-- BANKED: the run group's axes ramp down, pending requests are spent (R19, R481). -/
def State.enterBanked (s : State) : State :=
  State.enter { s.stopRun with engine := { s.stopRun.engine with
    bankPending := false, stopPending := false, runOutToSafe := false, runOutEnding := false } } engBanked

/-- The safe levels of R18 and the state SAFE. -/
def State.enterSafe (s : State) : State :=
  let s1 := { s with engine := { s.engine with bankPending := false, stopPending := false, runOutToSafe := false, runOutEnding := false } }
  let s2 := ((s1.setEng engSafe).gatesOff).hvSafe
  let s3 := s2.each (List.range 20) State.bridgesOff
  let s4 := s3.each (pick 6 (fun k => s3.on (GRAVER.STATUS_SCANNING k))) State.stopScan
  (s4.zonesFollow).laserAll

/-- A condition of R20 stopped holding in READY: KINDLING (R21). -/
def State.recheckReady (s : State) : State :=
  if s.eng = engReady ∧ !s.readyNow then s.enter engKindling else s

/-! ## Pages settle -/

/-- HOLD_P1 of every FUSER zone stands from the commit of a page until it is FUSED (R529). -/
def State.holdP1 (s : State) : State :=
  let any := s.pagesIn (fun st => decide (pgCommitted ≤ st) && decide (st < pgFused)) ≠ []
  s.each (pick 8 (fun z => s.zoneUsed z && !s.on (HEARTH.Z_CFG_CLASS z) && ((s.zone z).holdP1 != decide any)))
    (fun t z => t.setZone z { t.zone z with holdP1 := decide any })

/-- Is a committed page short of an end state? -/
def State.committedLeft (s : State) : Bool := decide (s.pagesIn isCommitted ≠ [])

/-- RUN_OUT goes on to its end: once every committed sheet has ended, the axes ramp down, and at rest the engine enters BANKED or
SAFE (R19, R481). -/
def State.runOutCheck (s : State) : State :=
  if s.eng = engRunOut ∧ !s.committedLeft then
    let s1 := if s.engine.runOutEnding then s else State.stopRun { s with engine := { s.engine with runOutEnding := true } }
    if s1.runAtRest then (if s1.engine.runOutToSafe then s1.enterSafe else s1.enterBanked) else s1
  else s

/-- A page has ended: RUNNING with no page left goes to BANKED after a bank or shutdown request, else to READY or KINDLING (R19, R21);
RUN_OUT may end. -/
def State.pageSettle (s : State) : State :=
  let s1 := s.holdP1
  if s1.eng = engRunning ∧ s1.pagesIn isActive = [] then
    if s1.engine.bankPending || s1.engine.shutdownPending then s1.enterBanked
    else
      let s2 := { s1 with engine := { s1.engine with stopPending := false } }
      s2.enter (if s2.readyNow then engReady else engKindling)
  else s1.runOutCheck

/-! ## Engine faults, safety faults (R15–R17, R19, R22, R23) -/

/-- Run-out's effect on pages: uncommitted ones end ABANDONED, COMMITTED and IMAGED ones are spoiled; a thermal trip spoils every one
not yet FUSED (R15, R17, R22). -/
def State.runOutPages (s : State) (trip : Bool) : State :=
  let s1 := s.each (s.pagesIn (fun st => st == pgAdmitted)) (fun t i => t.abandonPage i 0x12 false)
  s1.each (s1.pagesIn (fun st => decide (pgCommitted ≤ st) && decide (st < if trip then pgFused else pgTransferred)))
    (fun t i => t.spoilPage i 9 0xFF 0)

/-- An engine fault; `toSafe` where its class ends in SAFE (R19, R22). -/
def State.engineFault (s : State) (toSafe : Bool) : State :=
  if s.warm then
    let s1 := s.runOutPages toSafe
    if s1.committedLeft then
      State.enter { s1 with engine := { s1.engine with bankPending := false, stopPending := false, runOutToSafe := toSafe, runOutEnding := false } } engRunOut
    else if toSafe then s1.enterSafe else s1.enterBanked
  else if s.eng = engRunOut then
    let s1 := s.runOutPages toSafe
    { s1 with engine := { s1.engine with runOutToSafe := s1.engine.runOutToSafe || toSafe } }
  else if s.eng = engBanked ∧ toSafe then s.enterSafe
  else s

/-- A safety fault: SAFE at once from every state but TINDER, SAFE and OFF; committed pages end SPOILED where they are, admitted ones
ABANDONED (R19, R468). -/
def State.safetyFault (s : State) : State :=
  if s.warm ∨ s.eng = engRunOut ∨ s.eng = engBanked then
    let s1 := s.each (s.pagesIn (fun st => st == pgAdmitted)) (fun t i => t.abandonPage i 0x12 false)
    ((s1.each (s1.pagesIn isCommitted) (fun t i => t.spoilNow i 0xA 0)).enterSafe).holdP1
  else s

/-! ## Shutdown, reset levels (R105–R109) -/

/-- Every page QUEUED or not yet committed ends ABANDONED with SHUTDOWN (R463). -/
def State.abandonAll (s : State) : State :=
  s.each (s.pagesIn (fun st => st == pgQueued || st == pgAdmitted)) (fun t i => t.abandonPage i 0x13 false)

/-- An accepted orderly shutdown: admission stops, uncommitted pages end, committed ones run on; from KINDLING and READY the engine
banks at once (R19, R107). -/
def State.shutdownBegin (s : State) : State :=
  let s1 := State.abandonAll { s with engine := { s.engine with shutdownPending := true } }
  if s1.eng = engKindling ∨ s1.eng = engReady then s1.enterBanked
  else s1.pageSettle

/-- Engine outputs to their reset levels: bridges off, chopper outputs, heater gates and HV enables low, START_N released, laser
enables low once the outputs are held; the other balls follow in `State.ballLevel` (R54, R105, R106, R109, R111). -/
def State.outputsReset (s : State) : State :=
  let s1 := { s with tinder := { s.tinder with outputsHeld := true }, engine := { s.engine with
    bankPending := false, stopPending := false, shutdownPending := false, runOutToSafe := false, runOutEnding := false, startN := false } }
  let s2 := ((s1.gatesOff).each (List.range 20) State.bridgesOff).each (pick 8 (fun b => s1.on (FOC.BUS_STATUS_BRAKE b)))
    (fun t b => t.setFld (FOC.BUS_STATUS_BRAKE b) 0)
  let s3 := s2.each (pick 6 (fun k => s2.on (GRAVER.STATUS_SCANNING k))) State.stopScan
  (s3.hvAll).laserAll

/-- Loss of PLL 1: the decoders stop, and the pages they were feeding are spoiled (R131). -/
def State.decodersLost (s : State) : State :=
  s.each (List.range 6) (fun t k =>
    let d := t.decoder k
    match d.cur with
    | some r =>
      let t1 := (t.spoilPage (indexOf r.page) 9 (t.engineIndex k) 0)
      (t1.setDecoder k { d with cur := none, block := none }).setFld (CODEC.DEC_STATUS_STATE k) 0
    | none => t)

end Sys2Proof.Machine
end

