-- ==== Sys2Proof/Machine/Flags.lean ====
section
/-!
DEFINITION. The fault flags: the class of every fault source (R539), what a new raise does (R31, R33, R546, R547), and the
levels derived from the flags (FAULT_N, STATUS.FAULT_ANY).
-/

namespace Sys2Proof.Machine

/-- Offset of the FAULT register of the block with this code (R26, R28). -/
def faultReg (code : Nat) : Nat :=
  if code < 0x10 then code * 0x10000 + 0xC
  else if code < 0x16 then 0x100000 + (code - 0x10) * 0x10000 + 0xC
  else if code < 0x210 then 0x200000 + (code - 0x200) * 0x1000 + 0xC
  else 0x210000 + (code - 0x210) * 0x1000 + 0xC

/-- Offset of the INT_STAT register of the block with this code. -/
def intReg (code : Nat) : Nat := faultReg code + 0x10

/-- Codes of the blocks of R26 whose FAULT registers make up FAULT_N. -/
def faultCodes : List Nat :=
  [1, 2, 3, 4, 5, 6, 7, 8, 9, 10, 11, 12, 13, 14, 15, 0x10, 0x11, 0x12, 0x13, 0x14, 0x15,
   0x200, 0x201, 0x202, 0x203, 0x204, 0x205, 0x206, 0x207, 0x208, 0x209, 0x20A, 0x20B,
   0x210, 0x211, 0x212, 0x213, 0x214, 0x215, 0x216, 0x217]

/-- The class of fault bit `bit` of block `code` raised by source `idx`, under the settings in effect now (R539, R540). -/
def State.faultClass (s : State) (code bit idx : Nat) : FaultClass :=
  if code = 1 then (if bit < 16 then .engine else .none)
  else if code = 2 then
    (if bit = 8 ∨ bit = 0 ∨ bit = 4 then .safety
     else if bit = 1 ∨ bit = 2 then .engine
     else if 16 ≤ bit ∧ bit < 22 then .engine else .none)
  else if code = 3 then (if bit < 5 ∧ s.on (GAUGE.G_CFG_CRITICAL idx) then .engine else .none)
  else if code = 5 then (if s.on (SCRIBER.CORE_CTRL_CRITICAL idx) then .engine else .none)
  else if code = 9 then (if bit < 6 then .spoil else .none)
  else if code = 0xB then .spoil
  else if code = 0xC then (if bit = 0 ∧ s.on THAIQ.CTRL_ENABLE then .engine else .none)
  else if code = 0xD then (if bit = 0 then .engineSafe else if bit = 2 then .engine else .none)
  else if code = 0xE then (if s.on (HV.V_CFG_CRITICAL idx) then .engine else .none)
  else if code = 0xF then .engine
  else if 0x10 ≤ code ∧ code < 0x16 then
    (if bit = 0 ∨ bit = 1 ∨ bit = 5 ∨ bit = 6 then .spoil
     else if bit = 2 ∨ bit = 8 ∨ bit = 9 then .engine
     else if bit = 14 then .safety
     else if bit = 15 then .none else .mark)
  else if 0x200 ≤ code ∧ code < 0x20C then
    (if bit = 5 then .safety else if bit = 4 then .engine
     else if s.runGroupHas code then .engine else .none)
  else if 0x210 ≤ code ∧ code < 0x218 then (if bit = 0 ∧ s.runGroupHas code then .engine else .none)
  else .none

/-- Is the upstream Thaiq hop enabled, trained and in lock (R545)? -/
def State.linkUp (s : State) : Bool := s.on THAIQ.CTRL_ENABLE && s.on THAIQ.LINK_STATUS_LINK_UP

/-- A fault of engine or safety class is broadcast over a working Thaiq ring (R24, R546). -/
def State.broadcastFault (s : State) (cls bit code : Nat) : State :=
  if s.linkUp then s.send (.broadcast cls bit code) else s

/-- The engine's reaction to a class (R19, R22). -/
def State.react (s : State) (c : FaultClass) (bit code : Nat) : State :=
  match c with
  | .none | .mark | .spoil => s
  | .engine => (s.engineFault false).broadcastFault 2 bit code
  | .engineSafe => (s.engineFault true).broadcastFault 2 bit code
  | .safety => s.safetyFault.broadcastFault 3 bit code

/-- Is fault bit `bit` of block `code` set? -/
def State.faultBit (s : State) (code bit : Nat) : Bool := (s.reg (faultReg code)).toNat.testBit bit

/-- Sets a FAULT bit without a raise (R31). -/
def State.setFaultBit (s : State) (code bit : Nat) : State :=
  s.setReg (faultReg code) (BitVec.ofNat 32 (withBit (s.reg (faultReg code)).toNat bit true))

/-- A raise without its journal entry: the bit and the class it has now, the reaction, FAULT_EV. -/
def State.raiseQuiet (s : State) (c : FaultClass) (code bit : Nat) : State :=
  if s.faultBit code bit then s.react c bit code
  else
    let s1 := s.setFaultBit code bit
    let s2 := { s1 with classes := Tbl.put (fun _ => FaultClass.none) s1.classes (32 * code + bit) c }
    (s2.react c bit code).event ⟨intReg code, 0, 1⟩

/-- A fault source of class `c` raises its bit (R31–R33, R546–R548): if the bit was 0 the class reaction, FAULT_EV with the block's
interrupt, and one journal entry of `kind`, which holds the engine state at the raise.
A bit that is already 1 raises nothing. -/
def State.raiseAs (s : State) (c : FaultClass) (kind code bit idx : Nat) (forced : Bool) : State :=
  if s.faultBit code bit then s
  else
    let s1 := s.setFaultBit code bit
    let s2 := { s1 with classes := Tbl.put (fun _ => FaultClass.none) s1.classes (32 * code + bit) c }
    let s3 := s2.journalEntry kind code bit forced idx (s2.reg (faultReg code)).toNat
    let s4 := s3.react c bit code
    s4.event ⟨intReg code, 0, 1⟩

/-- A raise with the class of R539 and a FAULT journal entry (R516, R547). -/
def State.raise (s : State) (code bit idx : Nat) (forced : Bool) : State :=
  s.raiseAs (s.faultClass code bit idx) 1 code bit idx forced

/-- Does a FAULT bit raised with an engine or safety class still stand (R540, R543)? -/
def State.blocks (s : State) (code bit : Nat) : Bool :=
  s.faultBit code bit &&
    (match Tbl.get (fun _ => FaultClass.none) s.classes (32 * code + bit) with
     | .engine | .engineSafe | .safety => true
     | _ => false)

/-- Is any fault outstanding that blocks RUN and CLEAR (R543)? -/
def State.faultOutstanding (s : State) : Bool :=
  faultCodes.any (fun code => decide ((s.reg (faultReg code)).toNat ≠ 0) && (List.range 32).any (fun bit => s.blocks code bit))

/-- Is a fault outstanding that takes a booting engine to SAFE: a safety fault, or an engine fault whose class ends there
(R19)? -/
def State.safeOutstanding (s : State) : Bool :=
  faultCodes.any (fun code => decide ((s.reg (faultReg code)).toNat ≠ 0) && (List.range 32).any (fun bit =>
    s.faultBit code bit &&
      (match Tbl.get (fun _ => FaultClass.none) s.classes (32 * code + bit) with
       | .engineSafe | .safety => true
       | _ => false)))

/-- Does any FAULT register of the device hold a 1? -/
def State.anyFault (s : State) : Bool := faultCodes.any (fun code => decide ((s.reg (faultReg code)).toNat ≠ 0))

/-- The level of FAULT_N (R546): low while a FAULT bit or a HOLD bit is 1 or reset is not released. With the logic's own rail off only
Tinder's faults and a reset in progress count (R112). -/
def State.faultN (s : State) : Bool :=
  !(s.tinder.inReset ||
    (if s.railDown 0 then decide ((s.reg (faultReg 1)).toNat ≠ 0)
     else s.anyFault || decide (bits (s.reg SYS.BOOT_STATUS).toNat 8 5 ≠ 0)))

/-- The level of STBY_ALERT_N (R99): low while any WARN bit is 1. On A1 it may be low, too, while VSTBY rises through 2.90 V before the
power-on reset ends (R560): a free choice. -/
def State.stbyAlertN (s : State) : Bool :=
  decide (s.fld TINDER.SEQ_STATUS_WARN = 0) && !(s.tinder.por && s.tinder.vstbyHigh && Config.freeBool s.freeCtr)

/-- The level of THERM_TRIP_N (R54, R92). -/
def State.thermTripN (s : State) : Bool := !s.tinder.trip

end Sys2Proof.Machine
end

