-- ==== Sys2Proof/Machine/Cores.lean ====
section
/-!
DEFINITION. The Scriber and Steward cores: registers, local memory, control registers, exceptions, halts, waits and mailboxes
(R182–R216, R218, R226–R229, R236), and the frame every instruction runs in.
-/

namespace Sys2Proof.Machine

/-! ## Registers and memory -/

/-- Does core `n` hold the service profile (R182)? -/
def isSteward (n : Nat) : Bool := decide (32 ≤ n)

/-- Bytes of local memory (R182). -/
def memSize (n : Nat) : Nat := if n < 32 then 0x10000 else 0x80000

/-- A general register; g0 reads zero (R190). -/
def Core.gr (c : Core) (i : Nat) : Word := if i = 0 then 0 else Tbl.get (fun _ => (0 : Word)) c.g i

/-- Writes a general register; a write to g0 is discarded (R190). -/
def Core.setG (c : Core) (i : Nat) (w : Word) : Core :=
  if i = 0 then c else { c with g := Tbl.put (fun _ => (0 : Word)) c.g i w }

/-- A position register (R190). -/
def Core.pr (c : Core) (i : Nat) : DWord := Tbl.get (fun _ => (0 : DWord)) c.p i

/-- Writes a position register. -/
def Core.setP (c : Core) (i : Nat) (v : DWord) : Core := { c with p := Tbl.put (fun _ => (0 : DWord)) c.p i v }

def State.gr (s : State) (n i : Nat) : Word := (s.core n).gr i
def State.pr (s : State) (n i : Nat) : DWord := (s.core n).pr i
def State.setG (s : State) (n i : Nat) (w : Word) : State := s.setCore n ((s.core n).setG i w)
def State.setP (s : State) (n i : Nat) (v : DWord) : State := s.setCore n ((s.core n).setP i v)

/-- A byte of local memory; what nothing has written reads 0 (R189, a marked choice). -/
def Core.byte (c : Core) (a : Nat) : Nat := Tbl.get (fun _ => 0) c.mem a

/-- The little-endian value of `k` bytes at `a`. -/
def Core.load (c : Core) (a k : Nat) : Nat := leNat ((List.range k).map (fun i => c.byte (a + i)))

/-- Bytes written to local memory by a second port, the loader or RECORD moves: they take effect for fetch at once (R188, R39). -/
def Core.poke (c : Core) (a : Nat) : List Nat → Core
  | [] => c
  | b :: t =>
    Core.poke { c with mem := Tbl.put (fun _ => 0) c.mem a (b % 256), stale := Tbl.remove (a / 4 * 4) c.stale } (a + 1) t

/-- The older versions of the instruction word at `a` that a fetch may still return (R188). -/
def Core.older (c : Core) (a : Nat) : List Nat := Tbl.get (fun _ => []) c.stale a

/-- Before a store of the core's own touches the word at `a`, its present content joins the older versions. -/
def Core.age (c : Core) (a : Nat) : Core :=
  let old := c.load a 4
  if (c.older a).contains old then c else { c with stale := Tbl.put (fun _ => []) c.stale a (c.older a ++ [old]) }

/-- A store of the core's own (R187, R188). -/
def Core.store (c : Core) (a k v : Nat) : Core :=
  let c1 := c.age (a / 4 * 4)
  let c2 := if k = 8 then c1.age (a / 4 * 4 + 4) else c1
  { c2 with mem := ((List.range k).zip (leBytes k v)).foldl (fun m p => Tbl.put (fun _ => 0) m (a + p.1) p.2) c2.mem }


/-! ## Control registers (R192, R203, R218) -/

/-- CORE_ID. -/
def State.coreId (s : State) (n : Nat) : Nat := n % 64 + 256 * bit (isSteward n) + 2 ^ 16 * s.position

/-- CSTAT. -/
def Core.cstat (c : Core) : Nat := bit c.ie + 2 * bit c.exc + 4 * bit c.pie

/-- CAL_RANGE. -/
def Core.calRange (c : Core) : Nat := c.calBase % 2 ^ 13 + c.calCount * 2 ^ 16

/-- The value of control register `cr` without side effects, none for a reserved number. -/
def State.crGet (s : State) (n cr : Nat) : Option Nat :=
  let c := s.core n
  match cr with
  | 0x00 => some (s.coreId n)
  | 0x01 => some c.cstat
  | 0x02 => some c.epc.toNat
  | 0x03 => some c.ecause.toNat
  | 0x04 => some c.eval.toNat
  | 0x05 => some c.vbase.toNat
  | 0x06 => some (c.cycle.toNat % 2 ^ 32)
  | 0x07 => some c.cycleHi.toNat
  | 0x08 => some (c.retired.toNat % 2 ^ 32)
  | 0x09 => some c.retiredHi.toNat
  | 0x0A => some (c.gfault % 2 ^ 32)
  | 0x0B => some (c.gfault / 2 ^ 32 % 2 ^ 32)
  | 0x0C => some (s.fld (SCRIBER.CORE_CTRL_DISARM_ON_HALT n) + 2 * s.fld (SCRIBER.CORE_CTRL_BREAK_HALT n)
                   + 4 * s.fld (SCRIBER.CORE_CTRL_CRITICAL n))
  | 0x10 | 0x11 | 0x12 | 0x13 => some (Tbl.get (fun _ => (0 : Word)) c.scratch (cr - 0x10)).toNat
  | 0x20 => some c.calRange
  | 0x21 => some c.calPend
  | 0x22 => some (c.disarmTicket + c.disarmResult * 2 ^ 16 + bit c.armLost * 2 ^ 31)
  | 0x23 => some c.waitTicket
  | 0x24 => some (bit c.wake)
  | 0x25 => some c.mail.length
  | 0x26 => some c.mailDrops
  | 0x27 => some (bit c.undelivered + 2 * bit c.wqWait + c.objErrHandle * 2 ^ 16)
  | 0x28 => some c.writes.length
  | _ => none

/-- Is a control register reserved or read-only as a whole (R192, R203)? -/
def crReadOnly (cr : Nat) : Bool :=
  !([0x01, 0x02, 0x03, 0x04, 0x05, 0x0A, 0x0B, 0x0C, 0x10, 0x11, 0x12, 0x13, 0x22, 0x24, 0x26, 0x27].contains cr)

/-- Is a control register W1C in the fields that can be written (R192, R218)? -/
def crW1c (cr : Nat) : Bool := [0x0A, 0x0B, 0x22, 0x24, 0x27].contains cr

/-- A read by CRR, CRW, CRS or CRC: CYCLE_LO and RETIRED_LO latch their high halves (R192). -/
def State.crLatch (s : State) (n cr : Nat) : State :=
  let c := s.core n
  if cr = 0x06 then s.setCore n { c with cycleHi := BitVec.ofNat 32 (c.cycle.toNat / 2 ^ 32) }
  else if cr = 0x08 then s.setCore n { c with retiredHi := BitVec.ofNat 32 (c.retired.toNat / 2 ^ 32) }
  else s

/-- Writes `v` to the storage of a control register; to a W1C field `v` holds the bits to clear. -/
def State.crPut (s : State) (n cr v : Nat) : State :=
  let c := s.core n
  match cr with
  | 0x01 => s.setCore n { c with ie := v.testBit 0, exc := v.testBit 1, pie := v.testBit 2 }
  | 0x02 => s.setCore n { c with epc := BitVec.ofNat 32 v }
  | 0x03 => s.setCore n { c with ecause := BitVec.ofNat 32 (bits v 0 4 + bits v 31 1 * 2 ^ 31) }
  | 0x04 => s.setCore n { c with eval := BitVec.ofNat 32 v }
  | 0x05 => s.setCore n { c with vbase := BitVec.ofNat 32 (v / 256 * 256) }
  | 0x0A => s.setCore n { c with gfault := c.gfault - (c.gfault &&& (v % 2 ^ 32)) }
  | 0x0B => s.setCore n { c with gfault := c.gfault - (c.gfault &&& (v % 2 ^ 32 * 2 ^ 32)) }
  | 0x0C => (s.setFld (SCRIBER.CORE_CTRL_DISARM_ON_HALT n) (bits v 0 1)).setFld (SCRIBER.CORE_CTRL_BREAK_HALT n) (bits v 1 1)
  | 0x10 | 0x11 | 0x12 | 0x13 =>
    s.setCore n { c with scratch := Tbl.put (fun _ => (0 : Word)) c.scratch (cr - 0x10) (BitVec.ofNat 32 v) }
  | 0x22 => s.setCore n { c with armLost := c.armLost && !v.testBit 31 }
  | 0x24 => s.setCore n { c with wake := c.wake && !v.testBit 0 }
  | 0x26 => s.setCore n { c with mailDrops := v % 2 ^ 16 }
  | 0x27 => s.setCore n { c with undelivered := c.undelivered && !v.testBit 0, wqWait := c.wqWait && !v.testBit 1 }
  | _ => s

/-! ## Interpretation frame -/

/-- What one instruction does: it completes at the next pc or at a jump, halts the core, begins a wait, or raises a cause.
Cycles are Scriber cycles (R184). -/
inductive Effect where
  /-- Completes; pc moves to the next instruction. -/
  | done (s : State) (cycles : Nat)
  /-- Completes; pc moves to `pc`. -/
  | jump (s : State) (pc : Word) (cycles : Nat)
  /-- Completes or stays at its pc, and the core halts with a reason. -/
  | stop (s : State) (pc : Word) (cycles reason : Nat)
  /-- Stands in its wait with pc at itself. -/
  | hold (s : State) (cycles : Nat)
  /-- Raises a cause with a value, and changes nothing. -/
  | trap (cause eval : Nat)
  /-- Raises a cause with a value; `s` is the device after what it waited for. -/
  | trapAfter (s : State) (cause eval : Nat)
  /-- Raises ILLEGAL with its word. -/
  | illegal
  /-- Raises PROFILE with its word. -/
  | profile

/-- Is GAUGE_FAULT pending and takeable (R208)? -/
def Core.faultDue (c : Core) : Bool := decide (c.gfault ≠ 0) && c.ie && !c.exc

/-- Does the next instruction of core `n` hit its breakpoint (R213)? -/
def State.atBreakpoint (s : State) (n : Nat) : Bool :=
  s.on (SCRIBER.CORE_BP_EN n) && decide (s.fld (SCRIBER.CORE_BP_ADDR n) = (s.core n).pc.toNat / 4) && !(s.core n).firstInstr

/-- May core `n` execute at all: it exists, its domain is up, it is not halted or completing a halt? -/
def State.coreRuns (s : State) (n : Nat) : Bool :=
  decide (n < 34) && s.fabric && !(s.core n).halted && !(s.core n).halting

/-- May core `n` begin an instruction (R184, R208, R212, R213)? -/
def State.canBegin (s : State) (n : Nat) : Bool :=
  s.coreRuns n && decide ((s.core n).wait = .none) && !(s.core n).faultDue && !s.atBreakpoint n

/-- Core `n` spends cycles; a Steward's are not promised and the figure is a lower bound (R182). -/
def State.spend (s : State) (n k : Nat) : State :=
  if isSteward n then
    let f := s.free
    let c := f.2.core n
    f.2.setCore n { c with cycle := c.cycle + BitVec.ofNat 64 (k + f.1) }
  else s.setCore n { s.core n with cycle := (s.core n).cycle + BitVec.ofNat 64 k }

/-- An unknown number of cycles passes, at least `k` (R217, R233). -/
def State.spendAtLeast (s : State) (n k : Nat) : State :=
  let f := s.free
  let c := f.2.core n
  f.2.setCore n { c with cycle := c.cycle + BitVec.ofNat 64 (k + f.1) }

/-- An instruction completes: pc, RETIRED, and the breakpoint skip ends. -/
def State.retire (s : State) (n : Nat) (pc : Word) : State :=
  let c := s.core n
  s.setCore n { c with pc := pc, retired := c.retired + 1, firstInstr := false }

/-! ## Calendar entries seen from a core -/

/-- A request of core `n` has completed (R218). -/
def State.calDone (s : State) (n : Nat) : State :=
  if n < 34 then s.setCore n { s.core n with calPend := (s.core n).calPend - 1 } else s

/-- Takes entry `e` out of the calendar without firing it, its request with it if that still waits or is being carried out. -/
def State.dropEntry (s : State) (e : Nat) : State :=
  match s.entry e with
  | none => s
  | some x =>
    let s1 := if x.requested || x.inserting then s.calDone x.owner else s
    let s2 := { s1 with gc := { s1.gc with reqs := s1.gc.reqs.filter (fun r => decide (r ≠ CalReq.arm e)) } }
    s2.setEntry e none

/-! ## Waits (R212, R226, R227, R229, R238) -/

/-- The wait of core `n` ends and its instruction completes. -/
def State.waitDone (s : State) (n : Nat) : State :=
  let s1 := s.setCore n { s.core n with wait := .none }
  (s1.retire n ((s1.core n).pc + 4)).spendAtLeast n 0

/-- The conditions of R229 that hold now. -/
def Core.conditions (c : Core) : Nat :=
  bit c.wake + 2 * bit (!c.mail.isEmpty) + 4 * bit (decide (c.calPend = 0)) + 8 * bit c.writes.isEmpty

/-- WAITEV's exit: rd receives the conditions, and a selected wake flag is cleared (R229). -/
def State.takeConditions (s : State) (n rd mask : Nat) : State :=
  let c := s.core n
  let s1 := s.setG n rd (BitVec.ofNat 32 c.conditions)
  if mask.testBit 0 then s1.setCore n { s1.core n with wake := false } else s1

/-- RECV takes the oldest message (R238). -/
def State.takeMail (s : State) (n rd pa : Nat) : State :=
  let c := s.core n
  match c.mail with
  | [] => s
  | m :: t =>
    let c1 := { c with mail := t }
    s.setCore n ((c1.setP pa m.payload).setG rd (BitVec.ofNat 32 m.source))

/-- Ends the wait of core `n` if what it waits for holds now. -/
def State.settle (s : State) (n : Nat) : State :=
  let c := s.core n
  if !s.coreRuns n || c.faultDue then s
  else match c.wait with
  | .none => s
  | .position rd e we =>
    if we && c.wake then
      let s1 := (s.dropEntry e).setG n rd 2
      (s1.setCore n { s1.core n with wake := false }).waitDone n
    else s
  | .event rd mask =>
    if c.conditions &&& mask ≠ 0 then (s.takeConditions n rd mask).waitDone n else s
  | .mail rd pa => if c.mail.isEmpty then s else (s.takeMail n rd pa).waitDone n

/-- A wait is left without ending: a WAITP entry is removed (R212, R227), and CYCLE has counted the cycles of the wait (R192). -/
def State.leaveWait (s : State) (n : Nat) : State :=
  match (s.core n).wait with
  | .none => s
  | .position _ e _ =>
    let s1 := s.dropEntry e
    (s1.setCore n { s1.core n with wait := .none }).spendAtLeast n 0
  | _ => (s.setCore n { s.core n with wait := .none }).spendAtLeast n 0

/-- The wake flag of core `n` is set (R218, R226, R229). -/
def State.wakeCore (s : State) (n : Nat) : State := (s.setCore n { s.core n with wake := true }).settle n

/-- A message is offered to the mailbox of core `n`; a full one loses it and counts it (R236). Answers whether it was delivered. -/
def State.deliver (s : State) (n : Nat) (payload source : Nat) : Bool × State :=
  let c := s.core n
  if c.mail.length < 16 then
    (true, (s.setCore n { c with mail := c.mail ++ [⟨BitVec.ofNat 64 payload, source⟩] }).settle n)
  else (false, s.setCore n { c with mailDrops := satAdd 16 c.mailDrops 1 })

/-! ## Halts and exceptions -/

/-- Marks the entries of core `n`, accepted or still requested, as never to fire (R178, R225). -/
def State.doomEntries (s : State) (n : Nat) : State :=
  { s with gc := { s.gc with entries := s.gc.entries.map (fun p => match p.2 with
      | some e => if e.owner = n then (p.1, some { e with doomed := true }) else p
      | none => p) } }

/-- The core stops at an instruction boundary with pc where it stands: HALTED, HALT_REASON, HALT_EV, BP_EV for a breakpoint or a
BREAK, and its entries under DISARM_ON_HALT (R178, R212, R216). -/
def State.haltCore (s : State) (n reason : Nat) : State :=
  let s1 := s.leaveWait n
  let s2 := s1.setCore n { s1.core n with halted := true, halting := false, haltReason := reason, firstInstr := false }
  let s3 := if s2.on (SCRIBER.CORE_CTRL_DISARM_ON_HALT n) then s2.doomEntries n else s2
  let s4 := s3.event SCRIBER.INT_STAT_HALT_EV
  if reason = 3 ∨ reason = 6 then s4.event SCRIBER.INT_STAT_BP_EV else s4

/-- The exception registers take a cause (R207, R209). -/
def State.saveCause (s : State) (n cause eval : Nat) (epc : Word) (async : Bool) : State :=
  s.setCore n { s.core n with
    epc := epc, eval := BitVec.ofNat 32 eval, ecause := BitVec.ofNat 32 (cause + bit async * 2 ^ 31) }

/-- Exception entry (R207): 4 cycles, IE saved and cleared, EXC set, pc at the vector. An asynchronous entry executes no instruction, so the
first one after a RUN still hits no breakpoint (R213). -/
def State.enterHandler (s : State) (n cause eval : Nat) (epc : Word) (async : Bool) : State :=
  let s1 := (s.saveCause n cause eval epc async).spend n 4
  let c := s1.core n
  s1.setCore n { c with pie := c.ie, ie := false, exc := true, firstInstr := c.firstInstr && async, pc := c.vbase + BitVec.ofNat 32 (cause * 16) }

/-- A synchronous exception of the instruction at pc; inside a handler it is a double fault, which halts the core (R206, R209). -/
def State.syncException (s : State) (n cause eval : Nat) : State :=
  let pc := (s.core n).pc
  if (s.core n).exc then
    (((s.saveCause n cause eval pc false).spend n 4).haltCore n 5).raise 5 0 n false
  else s.enterHandler n cause eval pc false

/-- An effect is applied to core `n` at its pc; `w` is the instruction's word. -/
def State.apply (s : State) (n w : Nat) (e : Effect) : State :=
  match e with
  | .done t k => (t.retire n ((s.core n).pc + 4)).spend n k
  | .jump t pc k => (t.retire n pc).spend n k
  | .stop t pc k reason =>
    let t1 := if pc = (s.core n).pc then t else t.retire n pc
    (t1.spend n k).haltCore n reason
  | .hold t k => t.spend n k
  | .trap cause eval => s.syncException n cause eval
  | .trapAfter t cause eval => t.syncException n cause eval
  | .illegal => s.syncException n 1 w
  | .profile => s.syncException n 2 w

/-- One instruction with word `w` at the pc of core `n`: a fetch outside local memory raises FETCH first (R185, R206). -/
def State.perform (s : State) (n w : Nat) (eff : State → Effect) : State :=
  let pc := (s.core n).pc.toNat
  if memSize n ≤ pc then s.syncException n 3 pc else s.apply n w (eff s)

/-- An instruction command of core `n`: it happens only where the core may begin an instruction. -/
def State.instr (s : State) (n w : Nat) (eff : State → Effect) : Result :=
  if s.canBegin n then .next (s.perform n w eff) else .next s

/-- An effect of the service profile: PROFILE on a Scriber (R183, R217). -/
def serviceOnly (n : Nat) (e : Effect) : Effect := if isSteward n then e else .profile

/-- Writes a general register and completes. -/
def toG (s : State) (n rd : Nat) (w : Word) (k : Nat) : Effect := .done (s.setG n rd w) k

/-- Writes a position register and completes. -/
def toP (s : State) (n pd : Nat) (v : DWord) (k : Nat) : Effect := .done (s.setP n pd v) k

end Sys2Proof.Machine
end

