-- ==== Sys2Proof/Machine/Operands.lean ====
section
/-!
DEFINITION. The operand forms of the Scriber instructions: immediates, shift amounts, effective addresses, branch targets, and the
results their tables name (R194–R204).
-/

namespace Sys2Proof.Machine

/-- sext(imm16) (R194). -/
def sextImm (m : Nat) : Word := (BitVec.ofNat 16 m).signExtend 32

/-- zext(imm16) (R198). -/
def zextImm (m : Nat) : Word := (BitVec.ofNat 16 m).zeroExtend 32

/-- The effective address of a load or store (R199). -/
def State.address (s : State) (n rs1 m : Nat) : Nat := (s.gr n rs1 + sextImm m).toNat

/-- The target of a branch or JAL: pc + sext(imm16) × 4 (R200). -/
def State.target (s : State) (n m : Nat) : Word := (s.core n).pc + sextImm m * 4

/-- All ones for true, zero for false (R196, R198). -/
def truth (b : Bool) : Word := if b then 0xFFFFFFFF else 0

/-- A value of 8 or 16 bits extended by its sign. -/
def signed (w v : Nat) : Word := (BitVec.ofNat w v).signExtend 32

/-- Leading zeros of `x` below bit `k` (R196). -/
def leadZeros (x : Nat) : Nat → Nat
  | 0 => 0
  | k + 1 => if x.testBit k then 0 else leadZeros x k + 1

/-- Ones among the low `k` bits (R196). -/
def ones (x : Nat) : Nat → Nat
  | 0 => 0
  | k + 1 => ones x k + bit (x.testBit k)

/-- DIVS: rounded toward zero; 0 for a zero divisor; saturated for −2^31 by −1 (R197). -/
def divSigned (a b : Word) : Word :=
  if b = 0 then 0 else if a = 0x80000000 ∧ b = 0xFFFFFFFF then 0x7FFFFFFF else BitVec.ofInt 32 (a.toInt.tdiv b.toInt)

/-- MODS: the sign of rs1; 0 for a zero divisor and for −2^31 by −1 (R197). -/
def modSigned (a b : Word) : Word := if b = 0 then 0 else BitVec.ofInt 32 (a.toInt.tmod b.toInt)

/-- DIVU (R197). -/
def divUnsigned (a b : Word) : Word := if b = 0 then 0 else BitVec.ofNat 32 (a.toNat / b.toNat)

/-- MODU: 0 for a zero divisor (R197). -/
def modUnsigned (a b : Word) : Word := if b = 0 then 0 else BitVec.ofNat 32 (a.toNat % b.toNat)

/-- The high word of an exact product (R197). -/
def highWord (x : Int) : Word := BitVec.ofInt 32 (x / 2 ^ 32)

/-- A word read as a signed position amount (R202). -/
def sextP (w : Word) : DWord := w.signExtend 64

/-- A load or store of `k` bytes: MISALIGN before ACCESS, else the effect (R186, R199). -/
def checked (n a k : Nat) (e : Effect) : Effect :=
  if a % k ≠ 0 then .trap 4 a else if memSize n < a + k then .trap 5 a else e

end Sys2Proof.Machine
end

