-- ==== Sys2Proof/Machine/Arith.lean ====
section
/-!
DEFINITION. The arithmetic of the base instruction set: ALU, multiply and divide, immediates (R196–R198).
-/

namespace Sys2Proof.Machine

/-- ADD (R196): rd := rs1 + rs2. -/
def effAdd (n rd rs1 rs2 : Nat) (s : State) : Effect := toG s n rd (s.gr n rs1 + s.gr n rs2) 1
def execAdd (n rd rs1 rs2 : Nat) (s : State) : Result :=
  s.instr n (encodeScriber (.add n rd rs1 rs2)) (effAdd n rd rs1 rs2)

/-- SUB (R196): rd := rs1 − rs2. -/
def effSub (n rd rs1 rs2 : Nat) (s : State) : Effect := toG s n rd (s.gr n rs1 - s.gr n rs2) 1
def execSub (n rd rs1 rs2 : Nat) (s : State) : Result :=
  s.instr n (encodeScriber (.sub n rd rs1 rs2)) (effSub n rd rs1 rs2)

/-- AND (R196): rd := rs1 and rs2. -/
def effAnd (n rd rs1 rs2 : Nat) (s : State) : Effect := toG s n rd (s.gr n rs1 &&& s.gr n rs2) 1
def execAnd (n rd rs1 rs2 : Nat) (s : State) : Result :=
  s.instr n (encodeScriber (.and n rd rs1 rs2)) (effAnd n rd rs1 rs2)

/-- OR (R196): rd := rs1 or rs2. -/
def effOr (n rd rs1 rs2 : Nat) (s : State) : Effect := toG s n rd (s.gr n rs1 ||| s.gr n rs2) 1
def execOr (n rd rs1 rs2 : Nat) (s : State) : Result :=
  s.instr n (encodeScriber (.or n rd rs1 rs2)) (effOr n rd rs1 rs2)

/-- XOR (R196): rd := rs1 xor rs2. -/
def effXor (n rd rs1 rs2 : Nat) (s : State) : Effect := toG s n rd (s.gr n rs1 ^^^ s.gr n rs2) 1
def execXor (n rd rs1 rs2 : Nat) (s : State) : Result :=
  s.instr n (encodeScriber (.xor n rd rs1 rs2)) (effXor n rd rs1 rs2)

/-- ANDN (R196): rd := rs1 and not rs2. -/
def effAndn (n rd rs1 rs2 : Nat) (s : State) : Effect := toG s n rd (s.gr n rs1 &&& ~~~ s.gr n rs2) 1
def execAndn (n rd rs1 rs2 : Nat) (s : State) : Result :=
  s.instr n (encodeScriber (.andn n rd rs1 rs2)) (effAndn n rd rs1 rs2)

/-- SLL (R196): rd := rs1 << rs2[4:0]. -/
def effSll (n rd rs1 rs2 : Nat) (s : State) : Effect := toG s n rd (s.gr n rs1 <<< ((s.gr n rs2).toNat % 32)) 1
def execSll (n rd rs1 rs2 : Nat) (s : State) : Result :=
  s.instr n (encodeScriber (.sll n rd rs1 rs2)) (effSll n rd rs1 rs2)

/-- SRL (R196): rd := rs1 >> rs2[4:0], zero fill. -/
def effSrl (n rd rs1 rs2 : Nat) (s : State) : Effect := toG s n rd (s.gr n rs1 >>> ((s.gr n rs2).toNat % 32)) 1
def execSrl (n rd rs1 rs2 : Nat) (s : State) : Result :=
  s.instr n (encodeScriber (.srl n rd rs1 rs2)) (effSrl n rd rs1 rs2)

/-- SRA (R196): rd := rs1 >> rs2[4:0], sign fill. -/
def effSra (n rd rs1 rs2 : Nat) (s : State) : Effect := toG s n rd ((s.gr n rs1).sshiftRight ((s.gr n rs2).toNat % 32)) 1
def execSra (n rd rs1 rs2 : Nat) (s : State) : Result :=
  s.instr n (encodeScriber (.sra n rd rs1 rs2)) (effSra n rd rs1 rs2)

/-- LTS (R196): all ones where rs1 < rs2 as signed numbers. -/
def effLts (n rd rs1 rs2 : Nat) (s : State) : Effect := toG s n rd (truth ((s.gr n rs1).slt (s.gr n rs2))) 1
def execLts (n rd rs1 rs2 : Nat) (s : State) : Result :=
  s.instr n (encodeScriber (.lts n rd rs1 rs2)) (effLts n rd rs1 rs2)

/-- LTU (R196): all ones where rs1 < rs2 as unsigned numbers. -/
def effLtu (n rd rs1 rs2 : Nat) (s : State) : Effect := toG s n rd (truth ((s.gr n rs1).ult (s.gr n rs2))) 1
def execLtu (n rd rs1 rs2 : Nat) (s : State) : Result :=
  s.instr n (encodeScriber (.ltu n rd rs1 rs2)) (effLtu n rd rs1 rs2)

/-- MIN (R196): the signed minimum. -/
def effMin (n rd rs1 rs2 : Nat) (s : State) : Effect := toG s n rd (if (s.gr n rs1).slt (s.gr n rs2) then s.gr n rs1 else s.gr n rs2) 1
def execMin (n rd rs1 rs2 : Nat) (s : State) : Result :=
  s.instr n (encodeScriber (.min n rd rs1 rs2)) (effMin n rd rs1 rs2)

/-- MAX (R196): the signed maximum. -/
def effMax (n rd rs1 rs2 : Nat) (s : State) : Effect := toG s n rd (if (s.gr n rs1).slt (s.gr n rs2) then s.gr n rs2 else s.gr n rs1) 1
def execMax (n rd rs1 rs2 : Nat) (s : State) : Result :=
  s.instr n (encodeScriber (.max n rd rs1 rs2)) (effMax n rd rs1 rs2)

/-- MINU (R196): the unsigned minimum. -/
def effMinu (n rd rs1 rs2 : Nat) (s : State) : Effect := toG s n rd (if (s.gr n rs1).ult (s.gr n rs2) then s.gr n rs1 else s.gr n rs2) 1
def execMinu (n rd rs1 rs2 : Nat) (s : State) : Result :=
  s.instr n (encodeScriber (.minu n rd rs1 rs2)) (effMinu n rd rs1 rs2)

/-- MAXU (R196): the unsigned maximum. -/
def effMaxu (n rd rs1 rs2 : Nat) (s : State) : Effect := toG s n rd (if (s.gr n rs1).ult (s.gr n rs2) then s.gr n rs2 else s.gr n rs1) 1
def execMaxu (n rd rs1 rs2 : Nat) (s : State) : Result :=
  s.instr n (encodeScriber (.maxu n rd rs1 rs2)) (effMaxu n rd rs1 rs2)

/-- CLZ (R196): the leading zeros of rs1, 32 for zero. -/
def effClz (n rd rs1 : Nat) (s : State) : Effect := toG s n rd (BitVec.ofNat 32 (leadZeros (s.gr n rs1).toNat 32)) 1
def execClz (n rd rs1 : Nat) (s : State) : Result :=
  s.instr n (encodeScriber (.clz n rd rs1)) (effClz n rd rs1)

/-- POPC (R196): the number of 1 bits of rs1. -/
def effPopc (n rd rs1 : Nat) (s : State) : Effect := toG s n rd (BitVec.ofNat 32 (ones (s.gr n rs1).toNat 32)) 1
def execPopc (n rd rs1 : Nat) (s : State) : Result :=
  s.instr n (encodeScriber (.popc n rd rs1)) (effPopc n rd rs1)

/-- SLLI (R196): rd := rs1 << sh. -/
def effSlli (n rd rs1 sh : Nat) (s : State) : Effect := toG s n rd (s.gr n rs1 <<< sh) 1
def execSlli (n rd rs1 sh : Nat) (s : State) : Result :=
  s.instr n (encodeScriber (.slli n rd rs1 sh)) (effSlli n rd rs1 sh)

/-- SRLI (R196): rd := rs1 >> sh, zero fill. -/
def effSrli (n rd rs1 sh : Nat) (s : State) : Effect := toG s n rd (s.gr n rs1 >>> sh) 1
def execSrli (n rd rs1 sh : Nat) (s : State) : Result :=
  s.instr n (encodeScriber (.srli n rd rs1 sh)) (effSrli n rd rs1 sh)

/-- SRAI (R196): rd := rs1 >> sh, sign fill. -/
def effSrai (n rd rs1 sh : Nat) (s : State) : Effect := toG s n rd ((s.gr n rs1).sshiftRight sh) 1
def execSrai (n rd rs1 sh : Nat) (s : State) : Result :=
  s.instr n (encodeScriber (.srai n rd rs1 sh)) (effSrai n rd rs1 sh)

/-- MULLO (R197): the low word of the product. -/
def effMullo (n rd rs1 rs2 : Nat) (s : State) : Effect := toG s n rd (s.gr n rs1 * s.gr n rs2) 2
def execMullo (n rd rs1 rs2 : Nat) (s : State) : Result :=
  s.instr n (encodeScriber (.mullo n rd rs1 rs2)) (effMullo n rd rs1 rs2)

/-- MULHS (R197): the high word of the signed product. -/
def effMulhs (n rd rs1 rs2 : Nat) (s : State) : Effect := toG s n rd (highWord ((s.gr n rs1).toInt * (s.gr n rs2).toInt)) 2
def execMulhs (n rd rs1 rs2 : Nat) (s : State) : Result :=
  s.instr n (encodeScriber (.mulhs n rd rs1 rs2)) (effMulhs n rd rs1 rs2)

/-- MULHU (R197): the high word of the unsigned product. -/
def effMulhu (n rd rs1 rs2 : Nat) (s : State) : Effect := toG s n rd (highWord (((s.gr n rs1).toNat : Int) * ((s.gr n rs2).toNat : Int))) 2
def execMulhu (n rd rs1 rs2 : Nat) (s : State) : Result :=
  s.instr n (encodeScriber (.mulhu n rd rs1 rs2)) (effMulhu n rd rs1 rs2)

/-- MULHM (R197): the high word of signed rs1 by unsigned rs2. -/
def effMulhm (n rd rs1 rs2 : Nat) (s : State) : Effect := toG s n rd (highWord ((s.gr n rs1).toInt * ((s.gr n rs2).toNat : Int))) 2
def execMulhm (n rd rs1 rs2 : Nat) (s : State) : Result :=
  s.instr n (encodeScriber (.mulhm n rd rs1 rs2)) (effMulhm n rd rs1 rs2)

/-- DIVS (R197): the signed quotient, toward zero. -/
def effDivs (n rd rs1 rs2 : Nat) (s : State) : Effect := toG s n rd (divSigned (s.gr n rs1) (s.gr n rs2)) 34
def execDivs (n rd rs1 rs2 : Nat) (s : State) : Result :=
  s.instr n (encodeScriber (.divs n rd rs1 rs2)) (effDivs n rd rs1 rs2)

/-- DIVU (R197): the unsigned quotient. -/
def effDivu (n rd rs1 rs2 : Nat) (s : State) : Effect := toG s n rd (divUnsigned (s.gr n rs1) (s.gr n rs2)) 34
def execDivu (n rd rs1 rs2 : Nat) (s : State) : Result :=
  s.instr n (encodeScriber (.divu n rd rs1 rs2)) (effDivu n rd rs1 rs2)

/-- MODS (R197): the signed remainder, with the sign of rs1. -/
def effMods (n rd rs1 rs2 : Nat) (s : State) : Effect := toG s n rd (modSigned (s.gr n rs1) (s.gr n rs2)) 34
def execMods (n rd rs1 rs2 : Nat) (s : State) : Result :=
  s.instr n (encodeScriber (.mods n rd rs1 rs2)) (effMods n rd rs1 rs2)

/-- MODU (R197): the unsigned remainder. -/
def effModu (n rd rs1 rs2 : Nat) (s : State) : Effect := toG s n rd (modUnsigned (s.gr n rs1) (s.gr n rs2)) 34
def execModu (n rd rs1 rs2 : Nat) (s : State) : Result :=
  s.instr n (encodeScriber (.modu n rd rs1 rs2)) (effModu n rd rs1 rs2)

/-- ADDI (R198): rd := rs1 + sext(imm16). -/
def effAddi (n rd rs1 imm : Nat) (s : State) : Effect := toG s n rd (s.gr n rs1 + sextImm imm) 1
def execAddi (n rd rs1 imm : Nat) (s : State) : Result :=
  s.instr n (encodeScriber (.addi n rd rs1 imm)) (effAddi n rd rs1 imm)

/-- ANDI (R198): rd := rs1 and zext(imm16). -/
def effAndi (n rd rs1 imm : Nat) (s : State) : Effect := toG s n rd (s.gr n rs1 &&& zextImm imm) 1
def execAndi (n rd rs1 imm : Nat) (s : State) : Result :=
  s.instr n (encodeScriber (.andi n rd rs1 imm)) (effAndi n rd rs1 imm)

/-- ORI (R198): rd := rs1 or zext(imm16). -/
def effOri (n rd rs1 imm : Nat) (s : State) : Effect := toG s n rd (s.gr n rs1 ||| zextImm imm) 1
def execOri (n rd rs1 imm : Nat) (s : State) : Result :=
  s.instr n (encodeScriber (.ori n rd rs1 imm)) (effOri n rd rs1 imm)

/-- XORI (R198): rd := rs1 xor zext(imm16). -/
def effXori (n rd rs1 imm : Nat) (s : State) : Effect := toG s n rd (s.gr n rs1 ^^^ zextImm imm) 1
def execXori (n rd rs1 imm : Nat) (s : State) : Result :=
  s.instr n (encodeScriber (.xori n rd rs1 imm)) (effXori n rd rs1 imm)

/-- LTSI (R198): all ones where rs1 < sext(imm16) as signed numbers. -/
def effLtsi (n rd rs1 imm : Nat) (s : State) : Effect := toG s n rd (truth ((s.gr n rs1).slt (sextImm imm))) 1
def execLtsi (n rd rs1 imm : Nat) (s : State) : Result :=
  s.instr n (encodeScriber (.ltsi n rd rs1 imm)) (effLtsi n rd rs1 imm)

/-- LTUI (R198): all ones where rs1 < zext(imm16) as unsigned numbers. -/
def effLtui (n rd rs1 imm : Nat) (s : State) : Effect := toG s n rd (truth ((s.gr n rs1).ult (zextImm imm))) 1
def execLtui (n rd rs1 imm : Nat) (s : State) : Result :=
  s.instr n (encodeScriber (.ltui n rd rs1 imm)) (effLtui n rd rs1 imm)

/-- LUI (R198): rd := imm16 << 16. -/
def effLui (n rd imm : Nat) (s : State) : Effect := toG s n rd (zextImm imm <<< 16) 1
def execLui (n rd imm : Nat) (s : State) : Result :=
  s.instr n (encodeScriber (.lui n rd imm)) (effLui n rd imm)


end Sys2Proof.Machine
end

