-- ==== Sys2Proof/Machine/PciCfg.lean ====
section
/-!
DEFINITION. The configuration space of the PCI Express function (R280, R282, R283, R559): its rows and its stored words.
The spec names what the function presents; the standard header and the layouts inside each capability are PCI Express's own
(PRESUMED, assumption 95), and where the capabilities stand is the model's choice (assumption 95).
-/

namespace Sys2Proof.Machine

/-- A dword of configuration space: what it reads after a reset, its writable bits, its write-1-to-clear bits, and whether an endpoint
reset other than PERST_N leaves it alone. -/
structure CfgRow where
  init : Nat
  rw : Nat
  w1c : Nat
  sticky : Bool
deriving DecidableEq, Repr

/-- The standard header (R280): vendor and device, command and status, revision and class, BAR0 of 16 MiB, BAR2–BAR3 of 256 MiB
prefetchable, no legacy interrupt. -/
def cfgHeader (a : Nat) : Option CfgRow :=
  match a with
  | 0x00 => some ⟨0x78401E7B, 0, 0, false⟩
  | 0x04 => some ⟨0x00100000, 0x00000546, 0xF9000000, false⟩
  | 0x08 => some ⟨0x118000A1, 0, 0, false⟩
  | 0x0C => some ⟨0, 0xFF, 0, false⟩
  | 0x10 => some ⟨0, 0xFF000000, 0, false⟩
  | 0x18 => some ⟨0xC, 0xF0000000, 0, false⟩
  | 0x1C => some ⟨0, 0xFFFFFFFF, 0, false⟩
  | 0x2C => some ⟨0, 0, 0, false⟩
  | 0x34 => some ⟨0x40, 0, 0, false⟩
  | 0x3C => some ⟨0, 0xFF, 0, false⟩
  | _ => none

/-- The capabilities (R280): Power Management with D0 and D3hot; PCI Express with payloads of 512 B, extended tags, function-level reset,
16 GT/s, four lanes, ASPM L1 alone and the L1 Exit Latency 0b010 of revision A1 (R559), completion timeouts of range A; MSI-X with 32
vectors, its table and PBA in BAR0. -/
def cfgCaps (a : Nat) : Option CfgRow :=
  match a with
  | 0x40 => some ⟨0x00037001, 0, 0, false⟩
  | 0x44 => some ⟨0x00000008, 0x3, 0, false⟩
  | 0x70 => some ⟨0x0002B010, 0, 0, false⟩
  | 0x74 => some ⟨0x10008022, 0, 0, false⟩
  | 0x78 => some ⟨0x00002000, 0x000071EF, 0x000F0000, false⟩
  | 0x7C => some ⟨0x00410844, 0, 0, false⟩
  | 0x80 => some ⟨0, 0xCB, 0, false⟩
  | 0x94 => some ⟨0x00000001, 0, 0, false⟩
  | 0x98 => some ⟨0, 0xF, 0, false⟩
  | 0x9C => some ⟨0x0000001E, 0, 0, false⟩
  | 0xA0 => some ⟨0x00000004, 0xF, 0, true⟩
  | 0xB0 => some ⟨0x001F0011, 0xC0000000, 0, false⟩
  | 0xB4 => some ⟨0x00071000, 0, 0, false⟩
  | 0xB8 => some ⟨0x00071800, 0, 0, false⟩
  | _ => none

/-- The AER capability (R280): its status, mask, severity and log registers are sticky (R283). -/
def cfgAer (a : Nat) : Option CfgRow :=
  match a with
  | 0x100 => some ⟨0x00020001, 0, 0, false⟩
  | 0x104 => some ⟨0, 0, 0x07FFF030, true⟩
  | 0x108 => some ⟨0, 0x07FFF030, 0, true⟩
  | 0x10C => some ⟨0x00462030, 0x07FFF030, 0, true⟩
  | 0x110 => some ⟨0, 0, 0x0000F1C1, true⟩
  | 0x114 => some ⟨0x00002000, 0x0000F1C1, 0, true⟩
  | 0x118 => some ⟨0, 0x140, 0, true⟩
  | 0x11C | 0x120 | 0x124 | 0x128 => some ⟨0, 0, 0, true⟩
  | _ => none

/-- The dword at byte offset `a`; an offset with none reads 0 and takes no write. -/
def cfgRow (a : Nat) : CfgRow := ((cfgHeader a).or ((cfgCaps a).or (cfgAer a))).getD ⟨0, 0, 0, false⟩

/-- What the dword at `a` reads after a reset. -/
def cfgReset (a : Nat) : Word := BitVec.ofNat 32 (cfgRow a).init

/-- The stored dword at `a`. -/
def State.cfgStored (s : State) (a : Nat) : Word := Tbl.get cfgReset s.host.cfg a

/-- Stores a dword. -/
def State.setCfg (s : State) (a : Nat) (w : Word) : State := { s with host := { s.host with cfg := Tbl.put cfgReset s.host.cfg a w } }

/-- The dword at `a` as it reads: Bus Master Enable, the power state, the function mask, the link's speed and width and the subsystem
IDs stand elsewhere (R280, R282, R306). -/
def State.cfgWord (s : State) (a : Nat) : Word :=
  let w := (s.cfgStored a).toNat
  BitVec.ofNat 32 (match a with
    | 0x04 => setBits w 2 1 (s.fld INTAKE.EP_STATUS_BME)
    | 0x2C => (s.reg INTAKE.SUBSYS).toNat
    | 0x44 => setBits w 0 2 (if s.host.d0 then 0 else 3)
    | 0x80 => setBits (setBits w 16 4 (s.fld INTAKE.EP_STATUS_SPEED)) 20 6 (s.fld INTAKE.EP_STATUS_WIDTH)
    | 0xB0 => setBits w 30 1 (bit s.host.fnMask)
    | _ => w)

/-- Configuration space after an endpoint reset: the sticky dwords keep their values (R283). -/
def cfgAfterReset (t : Tbl Word) : Tbl Word := t.filter (fun x => (cfgRow x.1).sticky)

/-- Does the endpoint accept configuration requests: the link is up, and BOOT_STAGE has reached 0x3 or the fabric is held (R117, R283)? -/
def State.cfgOpen (s : State) : Bool :=
  s.tinder.vstby && s.on INTAKE.EP_STATUS_LINK_UP
    && (decide (s.fld SYS.BOOT_STATUS_BOOT_STAGE = 3) || decide (s.fld SYS.BOOT_STATUS_BOOT_STAGE = 0xF))

end Sys2Proof.Machine
end

