-- ==== Sys2Proof/Machine/Mover.lean ====
section
/-!
DEFINITION. The Mover's channels, bus errors, and the endpoint reset (R282, R283, R289, R296–R305, R307).
A beat toward the host is one READ_COMPLETION of at most 64 bytes; the host's reads are issued as soon as a channel may issue them.
A beat's read and its write are one event here: bytes take effect in the READ_COMPLETION that brings them.
-/

namespace Sys2Proof.Machine

/-! ## Channel states (R307) -/

def chIdle : Nat := 0
def chRunning : Nat := 1
def chDraining : Nat := 2
def chStopped : Nat := 3
def chFaulted : Nat := 4
def chStoppedBus : Nat := 5

/-- STATE of channel `c`. -/
def State.chState (s : State) (c : Nat) : Nat := s.fld (MOVER.CH_STATUS_STATE c)

/-- Sets it. -/
def State.setChState (s : State) (c v : Nat) : State := s.setFld (MOVER.CH_STATUS_STATE c) v

/-- Sets an event bit of a channel, and CH_EV (R299, R307). -/
def State.chEvent (s : State) (f : Fld) : State := (s.setFld f 1).event MOVER.INT_STAT_CH_EV

/-- Is MOVER_STOPPED set (R301)? -/
def State.moverStopped (s : State) : Bool := s.faultBit 8 0

/-- Names the current descriptor of channel `c` in CHc_DESC (R301). -/
def State.showDesc (s : State) (c a : Nat) : State :=
  (s.setFld (MOVER.CH_DESC_LO_DESC c) (a / 32)).setFld (MOVER.CH_DESC_HI_DESC c) (a / 2 ^ 32)

/-! ## Issuing (R282, R296, R298) -/

/-- The length of the next host read request of a descriptor from byte `at'`, with `room` bytes of buffer left: at most 512 bytes, not
across a 4 KiB boundary. -/
def reqLen (host at' left room : Nat) : Nat := min (min left room) (min 512 (4096 - (host + at') % 4096))

/-- Length of the next host read that channel `c` would issue for the data of its descriptor, by the room in its 4 KiB buffer; 0 for
none. -/
def State.nextRead (s : State) (c : Nat) : Nat :=
  let x := s.chan c
  match x.desc with
  | none => 0
  | some d =>
    if d.ctl.testBit 0 then 0
    else reqLen d.host x.issued (d.len - x.issued) (4096 - (x.issued - s.fld (MOVER.CH_DONE_BYTES c)))

/-- Is channel `c` ready to issue a host read: of its next descriptor, or of data? -/
def State.readReady (s : State) (c : Nat) : Bool :=
  let x := s.chan c
  s.canSend && decide (s.chState c = chRunning) &&
    (match x.desc with
     | some _ => decide (s.nextRead c ≠ 0)
     | none => !x.fetching && decide (x.space = 0) && decide (x.addr % 32 = 0))

/-- Channel `c` issues its next host read (R296, R298): one request of its descriptor's data, or its next descriptor. -/
def State.issueRead (s : State) (c : Nat) : State :=
  let x := s.chan c
  let n := s.nextRead c
  let s1 := { s with host := { s.host with beatTurn := c } }
  match x.desc with
  | some d => (s1.setChan c { x with issued := x.issued + n }).send (.hostRead (d.host + x.issued) n)
  | none => (s1.setChan c { x with fetching := true }).send (.hostRead x.addr 32)

/-- Of the channels in a list, those of the highest priority (R296). -/
def State.topPrio (s : State) (l : List Nat) : List Nat :=
  let p := fun c => s.fld (MOVER.CH_CTRL_PRIO c)
  l.filter (fun c => l.all (fun j => decide (p j ≤ p c)))

/-- The channel that takes the next beat: of those ready, one of the highest priority, and among equals the next in turn after the last
one served (R296). -/
def State.beatOwner (s : State) (ready : Nat → Bool) : Option Nat :=
  let l := s.topPrio (pick 32 ready)
  match l.find? (fun c => decide (s.host.beatTurn < c)) with
  | some c => some c
  | none => l.head?

/-- The Mover issues every host read it has room for, request by request, by priority and in turn (R296). -/
def State.moverIssue (s : State) : Nat → State
  | 0 => s
  | fuel + 1 =>
    match s.beatOwner s.readReady with
    | none => s
    | some c => (s.issueRead c).moverIssue fuel

/-- Channel `c`, the only one that has become ready, issues every host read it has room for. -/
def State.issueReads (s : State) (c : Nat) : Nat → State
  | 0 => s
  | fuel + 1 => if s.readReady c then (s.issueRead c).issueReads c fuel else s

/-- Channel `c` asks for what it waits for: its next descriptor, or data of the current one. A descriptor in core local memory comes
over the second port. Nothing goes upstream while the function may not send. -/
def State.chPump (s : State) (c : Nat) : State :=
  let x := s.chan c
  if s.chState c ≠ chRunning then s
  else match x.desc with
    | some _ => s.issueReads c 16
    | none =>
      if x.fetching then s
      else if x.space = 1 ∨ x.addr % 32 ≠ 0 then s.setChan c { x with fetching := true }
      else s.issueReads c 1

/-! ## Chains (R289, R298–R300) -/

/-- The record whose chain on channel `n` has ended enters device queue `n` with its CHAIN_RESULT (R289). -/
def State.passRecord (s : State) (n result : Nat) : State :=
  match Tbl.get (fun _ => none) s.host.chainRec n with
  | none => s
  | some r =>
    let s1 := { s with host := { s.host with chainRec := Tbl.put (fun _ => none) s.host.chainRec n none } }
    s1.setDq n (s1.dq n ++ [r.set 4 result])

/-- A chain starts on channel `c` at `addr`; on a disabled channel it waits to be resumed (R289, R303). -/
def State.chainStart (s : State) (c space core addr : Nat) : State :=
  let s1 := s.setChan c { Chan.reset with space := space, core := core, addr := addr }
  let s2 := ((s1.showDesc c addr).setFld (MOVER.CH_DONE_BYTES c) 0).setFld (MOVER.CH_COUNT_COUNT c) 0
  let s3 := s2.setFld (MOVER.CH_STATUS_FAULT_KIND c) 0
  if s3.on (MOVER.CH_CTRL_EN c) then (s3.setChState c chRunning).chPump c else s3.setChState c chStopped

/-- A descriptor fault: the channel goes to FAULTED, and its record is passed on with CHAIN_RESULT 1 (R289, R300). -/
def State.descFault (s : State) (c kind : Nat) (forced : Bool) : State :=
  let s1 := (s.setChState c chFaulted).setFld (MOVER.CH_STATUS_FAULT_KIND c) kind
  let s2 := s1.setChan c { s1.chan c with fetching := false, issued := s1.fld (MOVER.CH_DONE_BYTES c) }
  (s2.raise 8 1 c forced).passRecord c 1

/-- The chain of channel `c` ends (R289, R298). -/
def State.chainEnd (s : State) (c : Nat) : State :=
  (((s.setChan c { s.chan c with desc := none, fetching := false, ended := false }).setChState c chIdle).chEvent
    (MOVER.CH_STATUS_DONE_EV c)).passRecord c 0

/-- Every byte of the current descriptor has taken effect (R298, R299). The last descriptor ends the chain; where a drain completes it,
the channel still goes to STOPPED, and the chain ends when it is resumed (R303). -/
def State.descDone (s : State) (c : Nat) (d : Desc) : State :=
  let s1 := s.setFld (MOVER.CH_COUNT_COUNT c) (s.fld (MOVER.CH_COUNT_COUNT c) + 1)
  let s2 := if d.ctl.testBit 2 then s1.chEvent (MOVER.CH_STATUS_FULL_EV c) else s1
  if d.ctl.testBit 3 then
    if s2.chState c = chDraining then s2.setChan c { s2.chan c with desc := none, fetching := false, ended := true } else s2.chainEnd c
  else
    let s3 := s2.setChan c { s2.chan c with space := bits d.ctl 4 1, core := bits d.ctl 5 6, addr := d.next, desc := none, issued := 0, fetching := false }
    ((s3.showDesc c d.next).setFld (MOVER.CH_DONE_BYTES c) 0).chPump c

/-- `n` more bytes of the current descriptor have taken effect: CHc_DONE, and HALF_EV at its half (R299). -/
def State.bytesCount (s : State) (c n : Nat) (d : Desc) : State :=
  let was := s.fld (MOVER.CH_DONE_BYTES c)
  let now := was + n
  let half := (d.len + 1) / 2
  let s1 := s.setFld (MOVER.CH_DONE_BYTES c) now
  if d.ctl.testBit 1 && decide (was < half) && decide (half ≤ now) then s1.chEvent (MOVER.CH_STATUS_HALF_EV c) else s1

/-- `n` more bytes of the current descriptor have taken effect, and perhaps its last (R299). -/
def State.bytesDone (s : State) (c n : Nat) (d : Desc) : State :=
  let s1 := s.bytesCount c n d
  if d.len ≤ s.fld (MOVER.CH_DONE_BYTES c) + n then s1.descDone c d else s1.chPump c

/-- A descriptor from its 32 bytes (R297). -/
def Desc.ofBytes (l : List Nat) : Desc :=
  let at' := fun o n => leNat ((l.drop o).take n)
  { host := at' 0 8, off := at' 8 4, len := at' 12 4, handle := at' 16 2, ctl := at' 18 2, resv := at' 20 4, next := at' 24 8 }

/-- The kind of fault a descriptor read at `addr` meets before any beat, 0 where it is accepted (R298, R300). -/
def State.descCheck (s : State) (x : Chan) (d : Desc) : Nat :=
  let limit := max 1 (s.fld MOVER.CHAIN_LIMIT_LIMIT)
  let last := d.ctl.testBit 3
  if 33 < bits d.ctl 5 6 then 1
  else if d.resv ≠ 0 ∨ bits d.ctl 11 5 ≠ 0 ∨ d.len = 0 then 2
  else if !last && decide (d.next = x.addr) && decide (bits d.ctl 4 1 = x.space) && (decide (x.space = 0) || decide (bits d.ctl 5 6 = x.core)) then 3
  else if limit < x.chain + 1 then 4
  else
    let k := s.objCheck d.handle d.off d.len false false
    if k = 1 then 5 else if k = 8 then 8 else if k = 5 then 6 else 0

/-- DESCRIPTOR_READ (R298, R300): the descriptor of channel `c` has been read, from core local memory or as the `bytes` the host
returned. -/
def execDescriptorRead (c : Nat) (bytes : List Nat) (s : State) : Result :=
  let x := s.chan c
  if 32 ≤ c ∨ !x.fetching ∨ (s.chState c ≠ chRunning ∧ s.chState c ≠ chDraining) then .next s
  else if x.addr % 32 ≠ 0 ∨ (x.space = 1 ∧ (33 < x.core ∨ (if x.core < 32 then 0x10000 else 0x80000) < x.addr + 32)) then
    .next (s.descFault c 1 false)
  else
    let d := Desc.ofBytes (if x.space = 1 then (List.range 32).map (fun i => Tbl.get (fun _ => 0) (s.core x.core).mem (x.addr + i)) else bytes)
    let k := s.descCheck x d
    if k ≠ 0 then .next (s.descFault c k false)
    else .next (((s.setChan c { x with desc := some d, chain := x.chain + 1, issued := 0, fetching := false }).setFld
      (MOVER.CH_DONE_BYTES c) 0).chPump c)

/-- Bytes of the object a channel may still touch from `off`: the descriptor's `n`, cut before the first poisoned word. -/
def Obj.clean (o : Obj) (off n : Nat) : Nat := ((List.range n).find? (fun i => o.hits (off + i) 1)).getD n

/-- Has channel `c` bytes of an object to send to the host? -/
def State.outReady (s : State) (c : Nat) : Bool :=
  s.canSend && decide (s.chState c = chRunning) &&
    (match (s.chan c).desc with
     | some d => d.ctl.testBit 0
     | none => false)

/-- READ_COMPLETION (R296, R299, R300, R305): a read of channel `c` returns: host data for the object, or, toward the host, a beat of as
many bytes of the object as `data` is long, at most 64, which only the channel the next beat belongs to may take. -/
def execReadCompletion (c : Nat) (data : List Nat) (s : State) : Result :=
  let x := s.chan c
  match x.desc with
  | none => .next s
  | some d =>
    let done := s.fld (MOVER.CH_DONE_BYTES c)
    let out := d.ctl.testBit 0
    let running := decide (s.chState c = chRunning)
    let n := min data.length (if out then min 64 (d.len - done) else x.issued - done)
    if 32 ≤ c ∨ n = 0 ∨ !(running || (!out && decide (s.chState c = chDraining))) ∨ (out && decide (s.beatOwner s.outReady ≠ some c)) = true then .next s
    else match s.dataObj d.handle with
      | none => .next (s.descFault c 5 false)
      | some o =>
        if o.evicted then .next (s.descFault c 8 false)
        else if out then
          let k := o.clean (d.off + done) n
          let s0 := { s with host := { s.host with beatTurn := c } }
          let s1 := if k = 0 then s0 else
            (s0.setChan c { x with issued := done + k }).send (.hostWrite (d.host + done) (o.read (d.off + done) k))
          if k < n then .next ((s1.bytesCount c k d).descFault c 7 false)
          else .next (s1.bytesDone c n d)
        else .next ((s.objWrite d.handle (d.off + done) (data.take n)).bytesDone c n d)

/-! ## Bus errors (R301, R304) -/

/-- A stopped channel's current descriptor leaves its destination bytes in the object undefined (R301). -/
def State.spoilDest (s : State) (d : Desc) : State :=
  if d.ctl.testBit 0 || decide (s.objCheck d.handle d.off d.len true false ≠ 0) then s
  else { (s.objWrite d.handle d.off ((List.range d.len).map (fun i => Config.freeByte (s.freeCtr + i) % 256))) with
    freeCtr := s.freeCtr + d.len }

/-- Channel `c` is stopped by a bus error. -/
def State.busStop (s : State) (c : Nat) : State :=
  let x := s.chan c
  let s1 := match x.desc with
    | some d => s.spoilDest d
    | none => s
  let s2 := s1.setChan c { x with desc := none, issued := 0, fetching := false, chain := x.chain - bit x.desc.isSome }
  (s2.setChState c chStoppedBus).chEvent (MOVER.CH_STATUS_STOP_EV c)

/-- Is channel `c` RUNNING or DRAINING? -/
def State.chActive (s : State) (c : Nat) : Bool := decide (s.chState c = chRunning) || decide (s.chState c = chDraining)

/-- A bus error of `kind` at channel `c` (0x3F unknown) and address `a` (R301). -/
def State.busError (s : State) (kind c a : Nat) (forced : Bool) : State :=
  let s1 := ((s.setFld MOVER.ERR_INFO_KIND kind).setFld MOVER.ERR_INFO_CHANNEL c).setPair MOVER.ERR_ADDR_LO MOVER.ERR_ADDR_HI a
  let s2 := s1.each (pick 32 s1.chActive) State.busStop
  (s2.raise 8 0 (if kind = 5 ∨ kind = 6 then 0 else c) forced).each (List.range 16) (fun t n => t.passRecord n 2)

/-- The last write of channel `c`'s descriptor is issued in the cycle of a bus error: on A1 it takes effect and is counted, without its
FULL_EV (R558). -/
def State.lastWrite (s : State) (c : Nat) (bytes : List Nat) : State :=
  match (s.chan c).desc with
  | some d =>
    let done := s.fld (MOVER.CH_DONE_BYTES c)
    if s.chActive c && !d.ctl.testBit 0 && decide (bytes ≠ []) && decide (done + bytes.length = d.len) &&
        decide ((s.chan c).issued = d.len) && decide (s.objCheck d.handle d.off d.len true false = 0) then
      ((s.objWrite d.handle (d.off + done) bytes).bytesCount c bytes.length d).descDone c { d with ctl := setBits d.ctl 2 1 0 }
    else s
  | none => s

/-- BUS_ERROR (R301, R558): a read of channel `c` fails with `kind` 1 to 4, perhaps met by a last write. -/
def execBusError (c kind : Nat) (read : FailedRead) (s : State) : Result :=
  .next (if c < 32 ∧ 1 ≤ kind ∧ kind ≤ 4 ∧ s.chActive c then
      State.busError (match read.last with
        | some (w, bytes) => s.lastWrite w bytes
        | none => s) kind c read.addr false
    else s)

/-- A bus error that no request of a channel caused: its address is a free value (R283, R301, R307). -/
def State.busErrorFree (s : State) (kind : Nat) (forced : Bool) : State :=
  let (a, s1) := s.free
  s1.busError kind 0x3F a forced

/-! ## Channel control (R296, R301, R303, R304) -/

/-- START (R296, R304). -/
def State.chStart (s : State) (c : Nat) : State :=
  if c < 16 then s.logRo (MOVER.CH_CTRL c)
  else if s.moverStopped || !s.on (MOVER.CH_CTRL_EN c) || !(decide (s.chState c = chIdle) || decide (s.chState c = chFaulted) || decide (s.chState c = chStopped)) then
    s.setFld (MOVER.CH_STATUS_REFUSED c) 1
  else s.chainStart c (s.fld (MOVER.CH_CTRL_SPACE c)) (s.fld (MOVER.CH_CTRL_CORE c))
    (s.fld (MOVER.CH_DESC_LO_DESC c) * 32 + s.fld (MOVER.CH_DESC_HI_DESC c) * 2 ^ 32)

/-- RESUME (R301, R303, R304): a STOPPED channel goes on at byte CHc_DONE, a STOPPED_BUS one from the beginning of its descriptor; a chain
whose last descriptor a drain has completed ends now. -/
def State.chResume (s : State) (c : Nat) : State :=
  if s.moverStopped || !s.on (MOVER.CH_CTRL_EN c) || !(decide (s.chState c = chStopped) || decide (s.chState c = chStoppedBus)) then
    s.setFld (MOVER.CH_STATUS_REFUSED c) 1
  else if (s.chan c).ended then s.chainEnd c
  else
    let s1 := if s.chState c = chStoppedBus then s.setFld (MOVER.CH_DONE_BYTES c) 0 else s
    (s1.setChState c chRunning).chPump c

/-- A write of CHc_CTRL: EN, PRIO, SPACE and CORE, then START and RESUME; EN 0 on a running channel begins to drain it. -/
def State.chCtrlWrite (s : State) (c v : Nat) : State :=
  let s1 := s.setReg (MOVER.CH_CTRL c) (BitVec.ofNat 32 (v &&& 0x7F71))
  let s2 := if !v.testBit 0 && decide (s1.chState c = chRunning) then s1.setChState c chDraining else s1
  let s3 := if v.testBit 2 then s2.chStart c else s2
  if v.testBit 3 then s3.chResume c else s3

/-- MOVER_START (R296, R304): a write of CHc_CTRL with START. -/
def execMoverStart (c value : Nat) (s : State) : Result :=
  .next (if c < 32 ∧ s.fabric then s.chCtrlWrite c (setBits value 2 1 1) else s)

/-- CHANNEL_RESUME (R301, R303, R304): a write of CHc_CTRL with RESUME. -/
def execChannelResume (c value : Nat) (s : State) : Result :=
  .next (if c < 32 ∧ s.fabric then s.chCtrlWrite c (setBits value 3 1 1) else s)

/-- CHANNEL_DISABLE (R303): a write of CHc_CTRL with EN 0. -/
def execChannelDisable (c value : Nat) (s : State) : Result :=
  .next (if c < 32 ∧ s.fabric then s.chCtrlWrite c (setBits value 0 1 0) else s)

/-- DRAIN_COMPLETE (R303): no read of the channel is outstanding and all it has read is written. -/
def execDrainComplete (c : Nat) (s : State) : Result :=
  let x := s.chan c
  .next (if c < 32 ∧ s.chState c = chDraining ∧ !x.fetching ∧ (x.desc = none ∨ x.issued ≤ s.fld (MOVER.CH_DONE_BYTES c) ∨ (x.desc.map (fun d => d.ctl.testBit 0)) = some true) then
    (s.setChState c chStopped).chEvent (MOVER.CH_STATUS_STOP_EV c)
  else s)

/-- SQ_READ (R32, R287): a record fetch of ring `n` has failed, or is forced to have failed: ERR, and the ring is disabled. -/
def State.sqFail (s : State) (n : Nat) (forced : Bool) : State :=
  ((s.setFld (INTAKE.SQ_CFG_ERR n) 1).setFld (INTAKE.SQ_CFG_EN n) 0).raise 7 0 0 forced

/-! ## The endpoint reset (R283, R306) -/

/-- Returns registers to their reset values. -/
def State.resetRegs (s : State) (l : List Nat) : State := s.each l (fun t a => t.setReg a (resetWord a))

/-- The registers an endpoint reset returns to reset: apertures, rings, the MSI-X table (R306). -/
def endpointRegs : List Nat :=
  (List.range 8).flatMap (fun k => [INTAKE.AP_HANDLE k, INTAKE.AP_OFFSET k]) ++
  (List.range 16).flatMap (fun n => [INTAKE.SQ_BASE_LO n, INTAKE.SQ_BASE_HI n, INTAKE.SQ_CFG n, INTAKE.SQ_TAIL n, INTAKE.SQ_HEAD n,
    INTAKE.CQ_BASE_LO n, INTAKE.CQ_BASE_HI n, INTAKE.CQ_CFG n, INTAKE.CQ_HEAD n, INTAKE.CQ_TAIL n]) ++
  (List.range 32).flatMap (fun v => [INTAKE.MSIX_ADDR_LO v, INTAKE.MSIX_ADDR_HI v, INTAKE.MSIX_DATA v, INTAKE.MSIX_CTRL v])

/-- An endpoint reset (R283); the sticky registers of AER keep their values, as PCI Express has it of every reset but PERST_N. -/
def State.endpointReset (s : State) : State :=
  let s1 := if (pick 32 s.chActive) = [] then s else s.busErrorFree 5 false
  let s2 := (s1.resetRegs endpointRegs).setFld INTAKE.EP_STATUS_BME 0
  let s3 := { s2 with host := { s2.host with d0 := true, fnMask := false, pba := 0, cfg := cfgAfterReset s2.host.cfg } }
  (s3.bump INTAKE.EP_STATUS_RESETS 1).event INTAKE.INT_STAT_LINK_EV

/-- The data link is lost (R131, R283): an endpoint reset, the link down. -/
def State.linkLost (s : State) : State :=
  (((s.setFld INTAKE.EP_STATUS_LINK_UP 0).setFld INTAKE.EP_STATUS_SPEED 0).setFld INTAKE.EP_STATUS_WIDTH 0).endpointReset

/-- ENDPOINT_RESET (R283): `cause` 0 PERST_N asserted, 1 hot reset, 2 function-level reset, 3 loss of the data link. -/
def execEndpointReset (cause : Nat) (s : State) : Result :=
  if 3 < cause ∨ !s.fabric then .next s
  else if cause = 2 then .next s.endpointReset
  else if cause = 0 then
    let t := (s.setFld INTAKE.EP_STATUS_PERST_N 0).linkLost
    .next { t with host := { t.host with cfg := [] } }
  else .next s.linkLost

/-- PCIE_LINK_UP (R117, R283): training completes at a speed (1–4) and a width (1, 2 or 4). -/
def execPcieLinkUp (speed width : Nat) (s : State) : Result :=
  .next (if s.domain 3 ∧ 1 ≤ speed ∧ speed ≤ 4 ∧ (width = 1 ∨ width = 2 ∨ width = 4) then
    (((s.setFld INTAKE.EP_STATUS_LINK_UP 1).setFld INTAKE.EP_STATUS_SPEED speed).setFld INTAKE.EP_STATUS_WIDTH width).setFld INTAKE.EP_STATUS_PERST_N 1
  else s)

/-- A held message of vector `v` goes out if its condition still holds (R295). -/
def State.msixRelease (s : State) (v : Nat) : State :=
  if s.host.pba.testBit v && s.vecOpen v then
    let s1 := { s with host := { s.host with pba := withBit s.host.pba v false } }
    if s1.vecOn s1.irqPend v then s1.msix v else s1
  else s

/-- The power state (`d0`), Bus Master Enable and the MSI-X function mask become as given; what was held goes out once the function may
send (R282, R295). -/
def State.busMaster (s : State) (d0 bme mask : Bool) : State :=
  let s1 := ({ s with host := { s.host with d0 := d0, fnMask := mask } }).setFld INTAKE.EP_STATUS_BME (bit bme)
  let s2 := s1.each (List.range 32) State.msixRelease
  if s2.canSend then s2.moverIssue 512 else s2

/-- BUS_MASTER_ENABLE (R117, R282, R295): a configuration write sets the power state (`d0`), Bus Master Enable and the MSI-X function
mask. -/
def execBusMasterEnable (d0 bme mask : Bool) (s : State) : Result :=
  .next (if s.cfgOpen then s.busMaster d0 bme mask else s)

/-! ## Configuration requests (R280, R283, R559) -/

/-- A configuration write of `v` to the dword that holds offset `a`, with byte enables `be`: writable bits, write-1-to-clear bits, and
what Bus Master Enable, the power state, the function mask and Initiate Function Level Reset do. D1 and D2 are not supported, and a
write of them leaves the power state alone. -/
def State.cfgPut (s : State) (a v be : Nat) : State :=
  let row := cfgRow a
  let lanes := (pick 4 be.testBit).foldl (fun m i => m + 255 * 2 ^ (8 * i)) 0
  let rw := BitVec.ofNat 32 (row.rw &&& lanes)
  let w := BitVec.ofNat 32 v
  let new := ((s.cfgWord a &&& ~~~rw) ||| (w &&& rw)) &&& ~~~(w &&& BitVec.ofNat 32 (row.w1c &&& lanes))
  let s1 := s.setCfg a new
  let d0 := s.host.d0
  match a with
  | 0x04 => s1.busMaster d0 (new.toNat.testBit 2) s.host.fnMask
  | 0x44 => s1.busMaster (if bits new.toNat 0 2 = 0 then true else if bits new.toNat 0 2 = 3 then false else d0) (s.on INTAKE.EP_STATUS_BME) s.host.fnMask
  | 0x78 => if lanes.testBit 15 && v.testBit 15 then s1.endpointReset else s1
  | 0xB0 => s1.busMaster d0 (s.on INTAKE.EP_STATUS_BME) (new.toNat.testBit 30)
  | _ => s1

/-- A configuration write (R117, R280). -/
def State.configWrite (s : State) (addr v be : Nat) : State :=
  if s.cfgOpen then s.cfgPut (addr % 4096 / 4 * 4) (v % 2 ^ 32) (be % 16) else s

/-- A configuration read of the dword that holds offset `addr` (R117, R280): before the endpoint accepts it, nothing. -/
def State.configRead (s : State) (addr : Nat) : State :=
  s.answer (if s.cfgOpen then [(s.cfgWord (addr % 4096 / 4 * 4)).toNat] else [])

end Sys2Proof.Machine
end

