-- ==== Sys2Proof/Machine/Power.lean ====
section
/-!
DEFINITION. Supplies, Ember, the rail sequencer, the push-button and reset (R89–R112, R126).
-/

namespace Sys2Proof.Machine

/-! ## Rails -/

/-- Rail states of RAILn_STATUS (R126). -/
def railOff : Nat := 0
def railWait : Nat := 1
def railDelay : Nat := 2
def railQualify : Nat := 3
def railGood : Nat := 4
def railFailed : Nat := 5
def railDischarge : Nat := 6

def State.rail (s : State) (n : Nat) : Nat := s.fld (TINDER.RAIL_STATUS_STATE n)
def State.setRail (s : State) (n v : Nat) : State := s.setFld (TINDER.RAIL_STATUS_STATE n) v
def State.phase (s : State) : Nat := s.fld TINDER.SEQ_STATUS_PHASE
def State.setPhase (s : State) (p : Nat) : State := s.setFld TINDER.SEQ_STATUS_PHASE p
def State.setTinder (s : State) (t : Tinder) : State := { s with tinder := t }

/-- Drives EN of rail `n`. -/
def State.setEn (s : State) (n : Nat) (b : Bool) : State := s.setTinder { s.tinder with en := withBit s.tinder.en n b }

/-- Entry in use. -/
def State.railEn (s : State) (n : Nat) : Bool := s.on (TINDER.RAIL_CFG_RAIL_EN n)

/-- Entry monitors the input supply (R105). -/
def State.railInput (s : State) (n : Nat) : Bool := decide (n < 16) && s.on (TINDER.RAIL_CFG_INPUT n)

/-- Rail `m` is an enabled direct dependant of rail `n`. -/
def State.railChild (s : State) (n m : Nat) : Bool :=
  s.railEn m && !s.railInput m && decide (s.fld (TINDER.RAIL_CFG_PARENT m) = n)

/-- Is rail `m` a direct or indirect dependant of rail `n`? A parent chain is at most 16 long (R119). -/
def State.railUnder (s : State) (n : Nat) : Nat → Nat → Bool
  | 0, _ => false
  | k + 1, m =>
    s.railEn m && !s.railInput m &&
      (decide (s.fld (TINDER.RAIL_CFG_PARENT m) = n) ||
        (decide (s.fld (TINDER.RAIL_CFG_PARENT m) < 16) && s.railUnder n k (s.fld (TINDER.RAIL_CFG_PARENT m))))


/-- The shared bounds of R94 and R100: VM between FAULT_LO and FAULT_HI (0 removes the upper bound), PG if used. -/
def State.railInRange (s : State) (n vm : Nat) (pg : Bool) : Bool :=
  decide (s.fld (TINDER.RAIL_LEVELS_FAULT_LO n) ≤ vm) &&
  (decide (s.fld (TINDER.RAIL_LEVELS_FAULT_HI n) = 0) || decide (vm ≤ s.fld (TINDER.RAIL_LEVELS_FAULT_HI n))) &&
  (pg || !s.on (TINDER.RAIL_CFG_PG_USE n))

def State.filterUs (s : State) (n : Nat) : Nat := Tbl.get (fun _ => 0) s.tinder.filterUs n
def State.setFilterUs (s : State) (n v : Nat) : State :=
  s.setTinder { s.tinder with filterUs := Tbl.put (fun _ => 0) s.tinder.filterUs n v }
def State.dropUs (s : State) (n : Nat) : Nat := Tbl.get (fun _ => 0) s.tinder.dropUs n
def State.setDropUs (s : State) (n v : Nat) : State :=
  s.setTinder { s.tinder with dropUs := Tbl.put (fun _ => 0) s.tinder.dropUs n v }

/-- Raises ENn and starts the filter of R94. -/
def State.raiseRail (s : State) (n : Nat) : State := ((s.setEn n true).setRail n railQualify).setFilterUs n 0

/-- A rail whose parent is good, or that is a root, comes up: at once, or after its ON_DELAY (R93). -/
def State.startRail (s : State) (n : Nat) : State :=
  if s.fld (TINDER.RAIL_CFG_ON_DELAY n) = 0 ∨ s.fld (TINDER.RAIL_CFG_PARENT n) = 0x1F then s.raiseRail n
  else s.setRail n railDelay

/-- Is rail `n` a root, or is its parent a good rail (R93, R105)? -/
def State.parentGood (s : State) (n : Nat) : Bool :=
  let p := s.fld (TINDER.RAIL_CFG_PARENT n)
  decide (p = 0x1F) || (decide (p < 16) && !s.railInput p && decide (s.rail p = railGood))

/-- Rail `n` rises: an input entry is judged from now on with its EN low (R105), any other waits for its parent or starts (R93). -/
def State.riseRail (s : State) (n : Nat) : State :=
  if s.railInput n then (s.setRail n railQualify).setFilterUs n 0
  else if s.parentGood n then s.startRail n
  else s.setRail n railWait

/-- Are all six own rails good? -/
def State.ownGood (s : State) : Bool := (List.range 6).all (fun n => decide (s.rail n = railGood))

/-- Is every enabled entry other than an input entry good (R98)? -/
def State.allGood (s : State) : Bool :=
  (List.range 16).all (fun n => !s.railEn n || s.railInput n || decide (s.rail n = railGood))

/-- Is every enabled entry other than an input entry good or failed (R98, PHASE 0x4)? -/
def State.allSettled (s : State) : Bool :=
  (List.range 16).all (fun n => !s.railEn n || s.railInput n || decide (s.rail n = railGood) || decide (s.rail n = railFailed))

/-- PSEQ_OUT and INPUT_OK follow the rails (R98, R126): PSEQ_OUT is high while every enabled entry other than an input entry is good
and no switch-off of one has begun, once the rail table is settled (assumption 46). -/
def State.seqLevels (s : State) : State :=
  let up := s.tinder.tableRead && s.allGood && decide (s.tinder.down = 0) && decide (s.tinder.failing = 0) && decide (1 ≤ s.phase) && decide (s.phase ≤ 5)
  let s1 := s.setFld TINDER.SEQ_STATUS_PSEQ_OUT (bit up)
  s1.setFld TINDER.SEQ_STATUS_INPUT_OK
    (bit ((List.range 16).any (fun n => s1.railEn n && s1.railInput n && decide (s1.rail n = railGood))))

/-- An orderly shutdown request is accepted in PHASE 0x4: PHASE 0x5, SHUTDOWN_EV, and the engine winds down (R107).
While rails still rise it is held as R106 holds a press; in any other phase it is ignored. -/
def State.requestShutdown (s : State) : State :=
  if s.phase = 4 then ((s.setPhase 5).event TINDER.INT_STAT_SHUTDOWN_EV).shutdownBegin
  else if 1 ≤ s.phase ∧ s.phase ≤ 3 then s.setTinder { s.tinder with pbHeld := true }
  else s

/-- PHASE advances as rails come up (R98, R126); reaching 0x4 sets SEQ_DONE and acts on a held press (R106). -/
def State.seqProgress (s : State) : State :=
  if s.phase < 1 ∨ 3 < s.phase then s.seqLevels
  else
    let target := if !s.ownGood then (if s.tinder.tableRead && s.allSettled then 4 else 1)
                  else if !s.tinder.tableRead then 2
                  else if s.allSettled then 4 else 3
    let p := max s.phase target
    let s1 := (s.setPhase p).seqLevels
    if p = 4 then
      let s2 := s1.event TINDER.INT_STAT_SEQ_DONE
      if s2.tinder.pbHeld then (s2.setTinder { s2.tinder with pbHeld := false }).requestShutdown else s2
    else s1

/-- One pass of the leaves-first rule of R103 over rail `n`: a rail whose switch-off has begun goes low once its dependants are
off; it is no longer good, so it warns no more (R99). -/
def State.pumpRail (s : State) (n : Nat) : State :=
  if s.tinder.down.testBit n && s.tinder.en.testBit n &&
      (List.range 16).all (fun m => !s.railChild n m || s.railDown m) then
    ((s.setEn n false).setRail n railDischarge).setFbit TINDER.SEQ_STATUS_WARN n false
  else s

/-- The clock domains that go on when rail `n` has failed (R102): without VDD or the PLLs' VDDA18 none; without the SerDes supplies
neither the SerDes nor the PCIe domain. Which domain each supply carries is DEDUCED from the supply table of the balls (assumption 93). -/
def domainsWithout (n released : Nat) : Nat :=
  if n ≤ 1 then 0 else if n ≤ 4 then withBit (withBit released 2 false) 3 false else released

/-- Completes the failure of rail `n` once every dependant is off: EN low, FAILED, RAIL_FAIL[n], and what it supplied stops (R101,
R102). The dependants that were switched off wait for their parent as those not yet raised do, and rise again once it is good:
R101 does not say in which state they end (assumption 94). -/
def State.finishFail (s : State) (n : Nat) : State :=
  if s.tinder.failing.testBit n && (List.range 16).all (fun m => !s.railUnder n 16 m || s.railDown m) then
    let forced := s.tinder.failForced.testBit n
    let s1 := ((s.setEn n false).setRail n railFailed).setFbit TINDER.SEQ_STATUS_WARN n false
    let s2 := s1.setTinder { s1.tinder with
      failing := withBit s1.tinder.failing n false, failForced := withBit s1.tinder.failForced n false
      draining := withBit s1.tinder.draining n (s.tinder.en.testBit n)
      down := (List.range 16).foldl (fun x m => if s.railUnder n 16 m || decide (m = n) then withBit x m false else x) s1.tinder.down }
    let s3 := s2.each (pick 16 (fun m => s2.railUnder n 16 m && decide (s2.rail m = railOff))) (fun t m => t.setRail m railWait)
    let s4 := s3.setTinder { s3.tinder with released := domainsWithout n s3.tinder.released }
    (s4.raise 1 n n forced).seqProgress
  else s

/-- All rails off after a power-down: PHASE 0x7, the hold-off (R104). -/
def State.finishDown (s : State) : State :=
  if s.phase = 6 ∧ s.tinder.en = 0 ∧ s.tinder.draining = 0 ∧ (List.range 16).all (fun n => decide (s.rail n ≠ railDischarge)) then
    (s.setTinder { s.tinder with down := 0, failing := 0, released := 0 }).setPhase 7
  else s

/-- Lets every switch-off in progress go as far as it can (R103); PSEQ_OUT falls as soon as a rail is no longer good (R98). -/
def State.pump (s : State) : State :=
  (((s.each (List.range 16) State.pumpRail).seqLevels).each (List.range 16) State.finishFail).finishDown

/-- Is rail `n` held off or going down with a failure of R101: its own, or that of a rail it depends on? -/
def State.heldOff (s : State) (n : Nat) : Bool :=
  s.tinder.down.testBit n || (List.range 16).any (fun f => s.tinder.failing.testBit f && (decide (f = n) || s.railUnder f 16 n))

/-- Rail `n` fails (R101): its dependants that are on go down leaves first, those not yet raised are held off. -/
def State.failRail (s : State) (n : Nat) (forced : Bool) : State :=
  let under := pick 16 (fun m => s.railUnder n 16 m)
  let s1 := s.each (under.filter (fun m => !s.tinder.en.testBit m && decide (s.rail m = railDelay))) (fun t m => t.setRail m railWait)
  let s2 := s1.setTinder { s1.tinder with
    down := under.foldl (fun x m => if s1.tinder.en.testBit m then withBit x m true else x) s1.tinder.down
    failing := withBit s1.tinder.failing n true
    failForced := withBit s1.tinder.failForced n forced }
  s2.pump

/-- A power-down of all rails begins (R103, R104): PHASE 0x6, no rail is judged any more, and `a` follows the hold-off. -/
def State.powerDown (s : State) (a : AfterDown) : State :=
  let s1 := s.setPhase 6
  let s2 := s1.each (pick 16 (fun n => !s.railInput n && (decide (s.rail n = railWait) || decide (s.rail n = railDelay))))
    (fun t n => t.setRail n railOff)
  (s2.setTinder { s2.tinder with down := s2.tinder.en, failing := 0, failForced := 0, after := a, pbHeld := false }).seqLevels.pump

/-- Engine outputs to their reset levels and the engine to TINDER (R105–R107). -/
def State.dropOutputs (s : State) : State :=
  let s1 := (s.outputsReset).setEng engTinder
  s1.setTinder { s1.tinder with outputsHeld := true }

/-- Forced off (R106): outputs at once, rails down, then rest; a reset already in progress continues (R110). -/
def State.forcedOff (s : State) : State :=
  (s.dropOutputs).powerDown (if s.tinder.after = .reset then .reset else .rest)

/-- An input entry fails (R105): INPUT_LOST, outputs to reset levels, its journal entry, rails down, restart when it returns.
Rail `n` is judged again for its return. -/
def State.inputLost (s : State) (n : Nat) (forced : Bool) : State :=
  let s1 := if s.railInput n then ((s.setRail n railQualify).setFilterUs n 0).setFbit TINDER.SEQ_STATUS_WARN n false else s
  let s2 := s1.raiseAs .none 4 1 17 (n % 16) forced
  let s3 := s2.dropOutputs
  if s3.phase = 6 ∨ s3.phase = 7 ∨ s3.phase = 8 then s3
  else s3.powerDown (if s3.tinder.after = .reset then .reset else .inputBack)

/-! ## Reset (R108–R110) -/

/-- Ember after both supplies were absent: VBAT_LOST set, counter, cause and trip flag cleared; the power-on reset in progress is
then counted, so that COUNT reads 1 (R41, R92). -/
def State.emberClear (s : State) : State :=
  if s.tinder.emberValid then s
  else s.setTinder { s.tinder with emberValid := true, count := 0, cause := 0, vbatLost := true, trip := false, uncounted := true }

/-- Counts a reset in Ember, saturating, and records its cause; while Ember holds no valid data a power-on reset waits to be
counted (R92, R109). -/
def State.countReset (s : State) (cause : Nat) : State :=
  if s.tinder.emberValid then
    s.setTinder { s.tinder with count := min (s.tinder.count + 1) 0xFFFFFFFF, cause := cause, uncounted := false }
  else s.setTinder { s.tinder with uncounted := true }

/-- Step 1 of R109: outputs to reset levels, FAULT_N low, the count, the engine to TINDER, WAKE noted for the release. -/
def State.resetAssert (s : State) (cause wake : Nat) : State :=
  let s1 := (s.dropOutputs).countReset cause
  s1.setTinder { s1.tinder with inReset := true, released := 0, wakeNext := wake }

/-- Step 4 of R109: every register and state except Ember, the non-volatile memories and the levels at the balls takes its reset
value. -/
def State.registerReset (s : State) : State :=
  { State.reset with
    tinder := { State.reset.tinder with
      vstby := s.tinder.vstby, vstbyHigh := s.tinder.vstbyHigh, vbat := s.tinder.vbat, por := s.tinder.por, emberValid := s.tinder.emberValid,
      uncounted := s.tinder.uncounted, count := s.tinder.count, cause := s.tinder.cause, vbatLost := s.tinder.vbatLost,
      trip := s.tinder.trip, crystal := s.tinder.crystal, resetN := s.tinder.resetN, bootPins := s.tinder.bootPins,
      wakeNext := s.tinder.wakeNext, mram := s.tinder.mram, flash := s.tinder.flash, rewrites := s.tinder.rewrites }
    engine := { State.reset.engine with gpioBall := s.engine.gpioBall, interlock := s.engine.interlock }
    host := { State.reset.host with sent := s.host.sent }
    reply := s.reply
    freeCtr := s.freeCtr
    pending := s.pending }

/-- A reset of either source (R109, R110): merged into one whose steps 1 to 3 are in progress; else asserted, with the power-down
if a rail is on, or continuing the power-down or hold-off in progress, or straight to the register reset. -/
def State.resetDevice (s : State) (cause wake : Nat) : State :=
  if s.tinder.por ∨ ((s.phase = 6 ∨ s.phase = 7) ∧ s.tinder.after = .reset) then s
  else
    let s1 := s.resetAssert cause wake
    if s1.phase = 6 ∨ s1.phase = 7 then s1.setTinder { s1.tinder with after := .reset }
    else if s1.tinder.en ≠ 0 then s1.powerDown .reset
    else s1.registerReset

/-! ## The commands -/

/-- VSTBY_RISE (R90, R92, R19): VSTBY above 2.70 V, where Ember runs from it again, and, where `full`, above 2.90 V, from which the
10 ms of the power-on reset count and the engine leaves OFF. -/
def execVstbyRise (levels : StandbyLevels) (s : State) : Result :=
  if s.tinder.vstby && s.tinder.vstbyHigh then .next s
  else
    let s1 := if s.tinder.vstby then s else State.emberClear (s.setTinder { s.tinder with vstby := true, vbat := levels.vbat, por := true, wakeNext := 0 })
    let s2 := if s1.tinder.uncounted then s1.countReset 1 else s1
    let s3 := s2.setTinder { s2.tinder with vstbyHigh := levels.full }
    .next (if levels.full && decide (s3.eng = engOff) then s3.setEng engTinder else s3)

/-- POWER_ON_RESET (R90, R92, R109, R110): VSTBY below 2.70 V, Ember on VBAT where that is there, which no command has sampled since
VSTBY rose (assumption 104); every EN low at once, any reset in progress abandoned, a new counted power-on reset asserted; no rail is
on, so the registers reset. -/
def execPowerOnReset (s : State) : Result :=
  if !s.tinder.vstby then .next s
  else
    let (vbat, s0) := s.choose
    let s1 := s0.setTinder { s.tinder with
      vstby := false, vstbyHigh := false, vbat := vbat, por := true, en := 0, down := 0, draining := 0, failing := 0, failForced := 0, after := .rest
      emberValid := s.tinder.emberValid && vbat }
    .next (s1.resetAssert 1 0).registerReset

/-- VSTBY_LOST (R92, R19): VSTBY is gone; the engine state is OFF and Ember runs from VBAT. -/
def execVstbyLost (s : State) : Result :=
  if s.tinder.vstby then .next s
  else
    let s1 := s.setTinder { s.tinder with emberValid := s.tinder.emberValid && s.tinder.vbat }
    .next (s1.setEng engOff)

/-- POR_END (R90): 10 ms after VSTBY rose above 2.90 V. -/
def execPorEnd (s : State) : Result :=
  if s.tinder.vstby && s.tinder.vstbyHigh && s.tinder.por then .next (s.setTinder { s.tinder with por := false }) else .next s

/-- XTAL_MISSING (R91): no crystal edge within 2 ms of the end of the power-on reset. -/
def execXtalMissing (s : State) : Result :=
  if !s.tinder.vstby || s.tinder.por then .next s
  else .next ((s.setTinder { s.tinder with crystal := false }).raise 1 16 0 false)

/-- The reset values of the own rails' table entries, loaded at every start (R95). -/
def State.loadOwnRails (s : State) : State :=
  s.each (List.range 6) (fun t n => ((t.setReg (TINDER.RAIL_CFG n) (resetWord (TINDER.RAIL_CFG n))).setReg (TINDER.RAIL_LEVELS n)
    (resetWord (TINDER.RAIL_LEVELS n))).setReg (TINDER.RAIL_TIME n) (resetWord (TINDER.RAIL_TIME n)))

/-- SEQUENCE_START (R93, R95, R98): PSEQ_IN high for 1 ms after the reset; PHASE 0x1, the own rails' table loaded, EN0 raised, the
other own rails waiting. Tinder looks at PSEQ_IN no more; the level SEQ_STATUS.PSEQ_IN reads is the ball's (assumption 43). -/
def execSequenceStart (s : State) : Result :=
  if !s.tinder.vstby || s.tinder.por || !s.tinder.resetN || decide (s.phase ≠ 0) then .next s
  else
    let s1 := (s.setPhase 1).loadOwnRails
    let s2 := s1.each [1, 2, 3, 4, 5] (fun t n => t.setRail n railWait)
    .next (s2.raiseRail 0).seqLevels

/-- RAIL_ON_DELAY_EXPIRY (R93): ON_DELAY has passed since the parent became good. -/
def execRailOnDelayExpiry (n : Nat) (s : State) : Result :=
  if n < 16 ∧ s.rail n = railDelay then .next (s.raiseRail n) else .next s

/-- RAIL_GOOD (R93, R94, R98): the conditions have held for FILTER without a break; waiting dependants start. -/
def execRailGood (n : Nat) (s : State) : Result :=
  if n < 16 ∧ s.rail n = railQualify ∧ !s.heldOff n ∧ max 1 (s.fld (TINDER.RAIL_CFG_FILTER n)) ≤ s.filterUs n then
    let s1 := (s.setRail n railGood).setDropUs n 0
    let s2 := s1.each (pick 16 (fun m => s1.railChild n m && decide (s1.rail m = railWait))) State.startRail
    .next s2.seqProgress
  else .next s

/-- RAIL_TIMEOUT (R94, R101, R105): not good TIMEOUT after ENn rose; an input entry has no timeout. -/
def execRailTimeout (n : Nat) (s : State) : Result :=
  if n < 16 ∧ s.rail n = railQualify ∧ !s.railInput n ∧ !s.tinder.down.testBit n then .next (s.failRail n false) else .next s

/-- STATUS.WARN of a rail: WARN_EV when it becomes 1 (R99, R126). -/
def State.setWarn (s : State) (n : Nat) (b : Bool) : State :=
  let was := s.fbit TINDER.SEQ_STATUS_WARN n
  let s1 := s.setFbit TINDER.SEQ_STATUS_WARN n b
  if b && !was then s1.event TINDER.INT_STAT_WARN_EV else s1

/-- The output of FAILED rail `n` counts as off (R103). -/
def State.drained (s : State) (n : Nat) : State := s.setTinder { s.tinder with draining := withBit s.tinder.draining n false }

/-- RAIL_MONITOR_SAMPLE (R94, R99, R100, R103): a sample of VMn and PGn, `us` after the previous one.
A rising rail's filter count and a good rail's drop count advance or restart; a discharging or failed rail below OFF_LEVEL is off. -/
def execRailMonitorSample (n vm : Nat) (pg : Bool) (us : Nat) (s : State) : Result :=
  if 16 ≤ n ∨ !s.tinder.vstby then .next s
  else
    let s1 := s.setFld (TINDER.RAIL_STATUS_VM_NOW n) (min vm 1023)
    let ok := s.railInRange n vm pg
    if s.rail n = railQualify then .next (s1.setFilterUs n (if ok then s1.filterUs n + us else 0))
    else if s.rail n = railGood then
      .next ((s1.setWarn n (decide (vm < s.fld (TINDER.RAIL_LEVELS_WARN_LO n)))).setDropUs n (if ok then 0 else s1.dropUs n + us))
    else if s.rail n = railDischarge ∧ vm < s.fld (TINDER.RAIL_TIME_OFF_LEVEL n) then
      .next (((s1.setWarn n false).setRail n railOff).pump)
    else if s.tinder.draining.testBit n ∧ vm < s.fld (TINDER.RAIL_TIME_OFF_LEVEL n) then
      .next (((s1.setWarn n false).drained n).pump)
    else .next (s1.setWarn n false)

/-- RAIL_FAIL (R100–R102, R104, R105): a good rail has been bad for DROP; an input entry's failure is INPUT_LOST; from the start of
a power-down no rail is judged. -/
def execRailFail (n : Nat) (s : State) : Result :=
  if n < 16 ∧ s.rail n = railGood ∧ max 1 (s.fld (TINDER.RAIL_TIME_DROP n)) ≤ s.dropUs n ∧ s.phase ≤ 5 ∧ !s.tinder.down.testBit n then
    .next (if s.railInput n then s.inputLost n false else s.failRail n false)
  else .next s

/-- Is an input entry good (R105)? -/
def State.inputGood (s : State) : Bool :=
  (List.range 16).any (fun n => s.railEn n && s.railInput n) &&
  (List.range 16).all (fun n => !(s.railEn n && s.railInput n) || decide (s.rail n = railGood))

/-- INPUT_RETURN_RESTART (R105, R110): after the hold-off the input entry is good again; a power-on reset with WAKE 0b11. -/
def execInputReturnRestart (s : State) : Result :=
  if s.phase = 8 ∧ s.tinder.after = .inputBack ∧ s.inputGood then .next (s.resetDevice 1 3) else .next s

/-- RAIL_DISCHARGE_TIMEOUT (R103): 100 ms after ENn fell the rail, discharging or failed, counts as off, and DISCHARGE_SLOW is set. -/
def execRailDischargeTimeout (n : Nat) (s : State) : Result :=
  if n < 16 ∧ s.rail n = railDischarge then
    .next (((s.setWarn n false).event TINDER.INT_STAT_DISCHARGE_SLOW).setRail n railOff).pump
  else if n < 16 ∧ s.tinder.draining.testBit n then .next ((s.event TINDER.INT_STAT_DISCHARGE_SLOW).drained n).pump
  else .next s

/-- HOLD_OFF_END (R104, R105, R109): rest, the register reset of a reset, or a restart if the input is back already. -/
def execHoldOffEnd (s : State) : Result :=
  if s.phase ≠ 7 then .next s
  else match s.tinder.after with
    | .rest => .next (s.setPhase 8)
    | .reset => .next s.registerReset
    | .inputBack => if s.inputGood then .next ((s.setPhase 8).resetDevice 1 3) else .next (s.setPhase 8)

/-- RAIL_RETRY (R97, R101, R105, R126): a RETRY bit restarts a FAILED rail whose parent is good or that is a root; not a disabled
entry, not a board entry before the rail table is read, and not while R101 holds the rail off. -/
def execRailRetry (n : Nat) (s : State) : Result :=
  if n < 16 ∧ s.rail n = railFailed ∧ 1 ≤ s.phase ∧ s.phase ≤ 5 ∧ s.railEn n ∧ (n < 6 ∨ s.tinder.tableRead) ∧ !s.heldOff n ∧ s.parentGood n then
    .next ((s.drained n).riseRail n)
  else .next s

/-- PB_SHORT_PRESS (R106): by PHASE, held while rails rise, an orderly shutdown request when they are up, otherwise ignored. -/
def execPbShortPress (s : State) : Result :=
  if s.phase ≤ 5 then .next s.requestShutdown else .next s

/-- PB_LONG_PRESS (R106): forced off in PHASE 0x1 to 0x5; ignored in a power-down or hold-off. -/
def execPbLongPress (s : State) : Result :=
  if 1 ≤ s.phase ∧ s.phase ≤ 5 then .next s.forcedOff else .next s

/-- PB_WAKE (R106, R110): a press in rest wakes the device as a counted power-on reset with WAKE 0b10. -/
def execPbWake (s : State) : Result :=
  if s.phase = 8 then .next (s.resetDevice 1 2) else .next s

/-- SHUTDOWN_REQ (R107): an orderly shutdown request from SEQ_CTRL. -/
def execShutdownReq (s : State) : Result := .next s.requestShutdown

/-- POWER_DOWN (R107): obeyed only in PHASE 0x5: outputs to reset levels, rails down, rest. -/
def execPowerDown (s : State) : Result :=
  if s.phase = 5 then .next s.forcedOff else .next s

/-- SHUTDOWN_TIMEOUT (R107): POWER_DOWN did not come in time; SHUTDOWN_FORCED and forced off. -/
def execShutdownTimeout (s : State) : Result :=
  if s.phase = 5 then .next (s.raise 1 18 0 false).forcedOff else .next s

/-- ORDERLY_SHUTDOWN_FINISH (R19, R23, R107): no committed page is left, a run-out has completed and the axes of the run group have
ramped down; the Steward service reports the rest ABANDONED and writes POWER_DOWN. -/
def execOrderlyShutdownFinish (s : State) : Result :=
  if s.phase = 5 ∧ !s.committedLeft ∧ !s.warm ∧ s.eng ≠ engRunOut ∧ s.runAtRest then .next s.abandonAll.forcedOff else .next s

/-- RESET_N_ASSERT (R108–R110): RESET_N low for 1 ms; a counted reset, or merged into the one in progress. -/
def execResetNAssert (s : State) : Result :=
  if !s.tinder.vstby then .next s
  else .next ((s.setTinder { s.tinder with resetN := false }).resetDevice 2 1)

/-- RESET_N_RELEASE (R98, R109): RESET_N is high; the sequence may start. -/
def execResetNRelease (s : State) : Result := .next (s.setTinder { s.tinder with resetN := true })

/-- VBAT_LOSS (R92): VBAT below 2.0 V; with VSTBY below 2.70 V both supplies are absent and Ember's values are lost. -/
def execVbatLoss (s : State) : Result :=
  .next (s.setTinder { s.tinder with vbat := false, emberValid := s.tinder.emberValid && s.tinder.vstby })

/-- MRAM_REWRITE (R88): the yearly rewrite in place, while the device is powered, changes no byte; the boot configuration can turn it
off. -/
def execMramRewrite (s : State) : Result :=
  if s.tinder.rewriteOff || !s.tinder.vstby || decide (s.rail 0 ≠ railGood) then .next s
  else .next (s.setTinder { s.tinder with rewrites := s.tinder.rewrites + 1 })

end Sys2Proof.Machine
end

