-- ==== Sys2Proof/Machine/Clock.lean ====
section
/-!
DEFINITION. Level-2 PLLs, general clock outputs and the loop of the station tracking synthesizers (R127–R147).
Times of beam-detect edges are in 1/16 ns (R137).
-/

namespace Sys2Proof.Machine

/-! ## General clock outputs (R138–R142) -/

/-- The DIV an output acts on, in 1/256 output-PLL cycle: below 25.0 acts as 25.0 (R138). -/
def State.gclkDivActs (s : State) (k : Nat) : Nat := max (25 * 256) (s.reg (CLOCK.GCLK_DIV k)).toNat

/-- A general output after reset. -/
def Gclk.reset : Gclk := { high := false, left := 0, low := 0, acc := 0, ending := false, firstDiv := none, resets := 0 }

/-- General output `k`. -/
def State.gclk (s : State) (k : Nat) : Gclk := Tbl.get (fun _ => Gclk.reset) s.clock.gclk k

/-- Stores it. -/
def State.setGclk (s : State) (k : Nat) (g : Gclk) : State :=
  { s with clock := { s.clock with gclk := Tbl.put (fun _ => Gclk.reset) s.clock.gclk k g } }

/-- One output-PLL cycle passes for an output that acts on `div` (R138, R139, R142): a half period ends, and a rising edge begins a period
of a whole number of cycles, the accumulator making them average DIV; the first half of it, rounded down, is high. -/
def Gclk.tick (g : Gclk) (div : Nat) : Gclk :=
  if 1 < g.left then { g with left := g.left - 1 }
  else if g.ending then { g with high := false, left := 0, ending := false }
  else if g.high then { g with high := false, left := g.low }
  else
    let d := g.firstDiv.getD div
    let a := g.acc + d % 256
    let n := d / 256 + a / 256
    { g with high := true, left := n / 2, low := n - n / 2, acc := a % 256, firstDiv := none }

/-- One output-PLL cycle passes (assumption 96). -/
def State.gclkTick (s : State) : State :=
  if s.domain 4 then
    s.each (pick 24 (fun k => s.on (CLOCK.GCLK_STATUS_RUNNING k) || (s.gclk k).ending)) (fun t k => t.setGclk k ((t.gclk k).tick (t.gclkDivActs k)))
  else s

/-- A phase reset of output `k`, `latency` output-PLL cycles after its cause (R140, R141): low at once, accumulator cleared, first rising
edge DELAY after the latency. A disabled or gated output takes none. One of an output that was gated, or of one enabled, while PLL 4
is still in holdover makes it run at once: R142 does not say that it waits (assumption 97). -/
def State.phaseResetAt (s : State) (k latency : Nat) : State :=
  if s.on (CLOCK.GCLK_CTRL_ENABLE k) && !s.on (CLOCK.GCLK_STATUS_GATED k) then
    (s.setGclk k { Gclk.reset with left := latency + s.fld (CLOCK.GCLK_CTRL_DELAY k), resets := (s.gclk k).resets + 1 }).setFld
      (CLOCK.GCLK_STATUS_RUNNING k) 1
  else s

/-- A phase reset by software, which promises no timing (R140). -/
def State.phaseReset (s : State) (k : Nat) : State :=
  let (n, s1) := s.free
  s1.phaseResetAt k n

/-- A phase reset by SYNC_IN: 16 ns ± 0.4 ns, 39 to 41 cycles (R140). -/
def State.syncReset (s : State) (k : Nat) : State :=
  let (n, s1) := s.free
  s1.phaseResetAt k (39 + n % 3)

/-- A phase reset by the calendar: the event-to-pin latency of R3, 9 ns at the least, more from a virtual or remote gauge (R140). -/
def State.eventReset (s : State) (k : Nat) : State :=
  let (n, s1) := s.free
  s1.phaseResetAt k (23 + n)

/-- The clock-phase-reset output of the calendar resets every output whose CAL_RESET_EN is 1 (R140). -/
def State.calPhaseReset (s : State) : State :=
  s.each (pick 24 (fun k => s.on (CLOCK.GCLK_CTRL_CAL_RESET_EN k))) State.eventReset

/-- The output PLL lost its reference: every enabled output completes its high phase, ends low and GATED (R142). -/
def State.gateGclk (s : State) : State :=
  let l := pick 24 (fun k => s.on (CLOCK.GCLK_CTRL_ENABLE k) && !s.on (CLOCK.GCLK_STATUS_GATED k))
  let s1 := s.each l (fun t k =>
    ((t.setGclk k { t.gclk k with ending := (t.gclk k).high }).setFld (CLOCK.GCLK_STATUS_GATED k) 1).setFld (CLOCK.GCLK_STATUS_RUNNING k) 0)
  if l = [] then s1 else s1.event CLOCK.INT_STAT_GATED_EV

/-- GCLK_DIV_WRITE (R38, R139, R555): DIV is written and acts from the next rising edge; on A1, where a phase reset comes in the same
cycle (`withReset`), from the second one after it. -/
def execGclkDivWrite (k div : Nat) (withReset : Bool) (s : State) : Result :=
  if 24 ≤ k then .next s
  else
    let s0 := if withReset then s.phaseReset k else s
    let s1 := if withReset then s0.setGclk k { s0.gclk k with firstDiv := some (s.gclkDivActs k) } else s0
    .next (s.ifFabric (CLOCK.GCLK_DIV k) (s1.setReg (CLOCK.GCLK_DIV k) (BitVec.ofNat 32 div)))

/-- SYNC_IN_EDGE (R140): phase reset of every output with SYNC_EN. -/
def execSyncInEdge (s : State) : Result :=
  .next (s.each (pick 24 (fun k => s.on (CLOCK.GCLK_CTRL_SYNC_EN k))) State.syncReset)

/-- PHASE_RESET (R38, R140): the software phase reset of output `k`. -/
def execPhaseReset (k : Nat) (s : State) : Result := .next (if k < 24 then s.ifFabric (CLOCK.GCLK_CTRL k) (s.phaseReset k) else s)

/-- ENABLE of a general output is written (R140): 0 to 1 performs a phase reset, 0 drives the ball low. -/
def State.gclkEnable (s : State) (k : Nat) (on : Bool) : State :=
  let was := s.on (CLOCK.GCLK_CTRL_ENABLE k)
  let s1 := s.setFld (CLOCK.GCLK_CTRL_ENABLE k) (bit on)
  if on && !was then s1.phaseReset k
  else if !on then (s1.setGclk k { Gclk.reset with resets := (s.gclk k).resets }).setFld (CLOCK.GCLK_STATUS_RUNNING k) 0
  else s1

/-- GCLK_ENABLE (R38, R140). -/
def execGclkEnable (k : Nat) (on : Bool) (s : State) : Result :=
  .next (if k < 24 then s.ifFabric (CLOCK.GCLK_CTRL k) (s.gclkEnable k on) else s)

/-- Writing 1 to GATED of an output ungates it with a phase reset (R142). -/
def State.gclkUngate (s : State) (k : Nat) : State :=
  if s.on (CLOCK.GCLK_STATUS_GATED k) then (s.setFld (CLOCK.GCLK_STATUS_GATED k) 0).phaseReset k else s

/-- GCLK_GATED_CLEAR (R38, R142, R295): writing 1 to GATED ungates the output with a phase reset; a write to a W1C register brings the
block's message again while its request holds. -/
def execGclkGatedClear (k : Nat) (s : State) : Result :=
  .next (if k < 24 then
    s.ifFabric (CLOCK.GCLK_STATUS k) ((s.gclkUngate k).irqAgain 18)
  else s)

/-! ## PLLs (R127–R131) -/

/-- Clocks the domain of PLL `p` or stops it; the block state is kept (R128). -/
def State.setDomain (s : State) (p : Nat) (b : Bool) : State :=
  s.setTinder { s.tinder with released := withBit s.tinder.released p b }

/-- The reaction of R131 to the loss of PLL `p`, beside its class: general outputs gated for PLLs 0 and 4, the decoders stopped for
PLL 1, the host link down for PLL 3; the beam lanes, idle for PLL 2, follow its lock in `State.lanesOn`. -/
def State.pllLossEffects (s : State) (p : Nat) : State :=
  if p = 0 ∨ p = 4 then s.gateGclk
  else if p = 1 then s.decodersLost
  else if p = 3 then s.linkLost
  else s

/-- The laser enables follow the lock of PLL 2 (R428). -/
def State.laserClock (s : State) (p : Nat) : State := if p = 2 then s.laserAll else s

/-- The dither generator's start value in the present acquisition of PLL `p` (R129). -/
def State.ditherStart (s : State) (p : Nat) : Nat := Tbl.get (fun _ => 0xACE1) s.clock.dither p

/-- Does PLL `p` dither (R129)? -/
def State.dithers (s : State) (p : Nat) : Bool := s.on (CLOCK.PLL_DITHER_DITHER_EN p) && decide (s.fld (CLOCK.PLL_CFG_FRAC p) ≠ 0)

/-- PLL `p` starts to acquire (R128, R129): the domain's clock stops, its blocks keep their state; the stop counts as loss of lock
while the engine is up. -/
def State.pllRestart (s : State) (p : Nat) : State :=
  let seed := if s.fld (CLOCK.PLL_DITHER_SEED p) = 0 then 0xACE1 else s.fld (CLOCK.PLL_DITHER_SEED p)
  let s1 := { s with clock := { s.clock with dither := Tbl.put (fun _ => 0xACE1) s.clock.dither p seed } }
  let s2 := ((s1.setFld (CLOCK.PLL_STATUS_ACQUIRING p) 1).setFld (CLOCK.PLL_STATUS_LOCKED p) 0).setFld (CLOCK.PLL_STATUS_HOLDOVER p) 0
  let s3 := s2.laserClock p
  let s4 := if s.warm || decide (s.eng = engRunOut) then (s3.raise 2 p 0 false).pllLossEffects p else s3
  s4.setDomain p false

/-- PLL_REACQUIRE (R128, R129): a write of PLLp_CFG (`dither` false) or PLLp_DITHER restarts acquisition. PLL 3 discards it. -/
def execPllReacquire (p : Nat) (dither : Bool) (value : Nat) (s : State) : Result :=
  let a := if dither then CLOCK.PLL_DITHER p else CLOCK.PLL_CFG p
  if 5 ≤ p then .next s
  else if !s.fabric then .next (s.logAccess SYS.ACCESS_LOG_HELD_BLOCK a)
  else if p = 3 then .next (s.logRo a)
  else
    let mask := if dither then 0x8000FFFF else 0xFFFFFFFF
    .next ((s.setReg a (BitVec.ofNat 32 (value &&& mask))).pllRestart p)

/-- Training goes on from step 1 once PLL 1 is locked and the DDR domain is released (R340). -/
def State.trainOn (s : State) : State :=
  if s.fld DRAMC.TRAIN_STATE = 1 ∧ s.on (CLOCK.PLL_STATUS_LOCKED 1) ∧ s.domain 1 then s.setFld DRAMC.TRAIN_STATE 2 else s

/-- PLL_LOCK (R128, R130, R340): lock is reported, from acquisition or from holdover after a clean reference; training goes on from
its wait for PLL 1. -/
def execPllLock (p : Nat) (s : State) : Result :=
  if 5 ≤ p then .next s
  else
    let s1 := (((s.setFld (CLOCK.PLL_STATUS_LOCKED p) 1).setFld (CLOCK.PLL_STATUS_ACQUIRING p) 0).setFld
      (CLOCK.PLL_STATUS_HOLDOVER p) 0).setFld (CLOCK.PLL_STATUS_REF_OK p) 1
    let s2 := (if p ≠ 3 then s1.setTinder { s1.tinder with crystal := true } else s1).laserClock p
    .next (if p = 1 then s2.trainOn else s2)

/-- PLL `p` freezes its control value and runs on (R130). -/
def State.pllHoldover (s : State) (p : Nat) : State :=
  State.laserClock ((s.setFld (CLOCK.PLL_STATUS_LOCKED p) 0).setFld (CLOCK.PLL_STATUS_HOLDOVER p) 1) p

/-- PLL_UNLOCK (R130, R131): PLL `p` leaves lock; `refOk` is the level of its reference. -/
def execPllUnlock (p : Nat) (refOk : Bool) (s : State) : Result :=
  if p < 5 ∧ s.on (CLOCK.PLL_STATUS_LOCKED p) then
    let s1 := (s.pllHoldover p).setFld (CLOCK.PLL_STATUS_REF_OK p) (bit refOk)
    .next ((s1.raise 2 p 0 false).pllLossEffects p)
  else .next s

/-- XTAL_LOST (R130, R131): no crystal edge for 200 ns; every crystal PLL holds over; a safety fault. -/
def execXtalLost (s : State) : Result :=
  if !s.fabric then .next s
  else
    let s1 := s.setTinder { s.tinder with crystal := false }
    let s2 := s1.each [0, 1, 2, 4] (fun t p => (t.pllHoldover p).setFld (CLOCK.PLL_STATUS_REF_OK p) 0)
    .next ((s2.raise 2 8 0 false).gateGclk)

/-! ## Station synthesizers (R132–R146) -/

/-- Facets per revolution: below 4 acts as 4, above 12 as 12 (R147). -/
def State.facets (s : State) (k : Nat) : Nat := min 12 (max 4 (s.fld (CLOCK.SYN_CTRL_FACETS k)))

/-- PERIOD in 1/256 dot (R147). -/
def State.period (s : State) (k : Nat) : Nat := (s.reg (CLOCK.SYN_PERIOD k)).toNat

/-- f_dot = FCW × 1 GHz / 2^48 lies from 20 to 200 MHz (R132). -/
def fcwInRange (fcw : Nat) : Bool := decide (2 ^ 48 ≤ 50 * fcw) && decide (5 * fcw ≤ 2 ^ 48)

/-- FCW seeded from the mean interval over `n` edges since the first (R134): round(PERIOD × 2^48 / I), I in fabric cycles. R134 does not
say what a value of 2^48 or more loads into the 48-bit FCW: it wraps, before the range check (assumption 98). -/
def seedFcw (period n first t : Nat) : Nat :=
  if t ≤ first then 0
  else ((roundDiv ((period * 2 ^ 48 * 16 * (n - 1) : Nat) : Int) (256 * (t - first))).toNat) % 2 ^ 48

/-- A time difference in 1/16 ns, in 1/64 dot at control value `fcw`, to the nearest. -/
def dots64 (fcw : Nat) (dt : Int) : Int := roundDiv (dt * 4 * (fcw : Int)) (2 ^ 48)

/-- The time `facets` edges ago plus FACETS × PERIOD dot periods (R133), in 1/16 ns. R133 states no rounding of the predicted time or of
the phase error: both go to the nearest (assumption 98). -/
def predictEdge (fcw facets period earlier : Nat) : Nat :=
  if fcw = 0 then earlier else earlier + (roundDiv ((facets * period * 2 ^ 48 : Nat) : Int) (16 * fcw)).toNat

/-- The predicted next sync event of a coast: the previous one plus the interval of the same facet one revolution earlier
(R144). -/
def Syn.predictSync (y : Syn) (facets : Nat) : Nat :=
  y.syncs.headD 0 + ((y.syncs.getD (facets - 1) 0) - (y.syncs.getD facets 0))

/-- Notes a sync event at time `t`; the last revolution and one more are kept. -/
def Syn.sync (y : Syn) (facets t : Nat) : Syn := { y with syncs := (t :: y.syncs).take (facets + 1) }

/-- The range gate of R132 after FCW was loaded or steered at a sync event. -/
def State.synRange (s : State) (k : Nat) : State :=
  let y := s.syn k
  if fcwInRange y.fcw then
    if y.gatedRange then (s.setSyn k { y with gatedRange := false }).setFld (CLOCK.SYN_STATUS_GATED k) 0 else s
  else if y.gatedRange then s
  else
    let s1 := (s.setSyn k { y with gatedRange := true }).setFld (CLOCK.SYN_STATUS_GATED k) 1
    if s.on (CLOCK.SYN_STATUS_GATED k) then s1 else s1.event CLOCK.INT_STAT_GATED_EV

/-- Counts an edge toward lock (R133); at 256 the synthesizer is LOCKED. -/
def State.synCount (s : State) (k : Nat) (good : Bool) : State :=
  if good then
    let n := min 256 (s.fld (CLOCK.SYN_STATUS_LOCK_COUNT k) + 1)
    let s1 := s.setFld (CLOCK.SYN_STATUS_LOCK_COUNT k) n
    if n = 256 ∧ !s.on (CLOCK.SYN_STATUS_LOCKED k) then
      (s1.setFld (CLOCK.SYN_STATUS_LOCKED k) 1).event CLOCK.INT_STAT_SYN_LOCK_EV
    else s1
  else s.setFld (CLOCK.SYN_STATUS_LOCK_COUNT k) 0

/-- Acquires again as from ENABLE (R143): FCW 0, no edge seen, LOCKED and LOCK_COUNT clear, GATED until the second edge. -/
def State.synReacquire (s : State) (k : Nat) : State :=
  let s1 := s.setSyn k { Syn.reset with idle := true }
  let s2 := (((s1.setFld (CLOCK.SYN_STATUS_LOCKED k) 0).setFld (CLOCK.SYN_STATUS_LOCK_COUNT k) 0).setFld
    (CLOCK.SYN_STATUS_COASTING k) 0).setFld (CLOCK.SYN_STATUS_COAST_COUNT k) 0
  let s3 := s2.setFld (CLOCK.SYN_STATUS_GATED k) 1
  if s.on (CLOCK.SYN_STATUS_GATED k) then s3 else s3.event CLOCK.INT_STAT_GATED_EV

/-- Does station `k` hold coast privilege: a committed page with lines to expose there, and no coast limit passed under it (R143, R145)? -/
def State.privileged (s : State) (k : Nat) : Bool := s.on (GRAVER.STATUS_PRIVILEGED k)

/-- The synthesizer of station `k` loses lock (R135, R143, R144): with privilege it coasts, without it gates and reacquires. -/
def State.synUnlock (s : State) (k : Nat) : State :=
  let s1 := s.event CLOCK.INT_STAT_SYN_UNLOCK_EV
  if s.privileged k then
    let s2 := ((s1.setFld (CLOCK.SYN_STATUS_LOCKED k) 0).setFld (CLOCK.SYN_STATUS_COASTING k) 1).setFld (CLOCK.SYN_STATUS_COAST_COUNT k) 0
    (s2.setSyn k { s2.syn k with good := 0, expiring := false }).event CLOCK.INT_STAT_COAST_START_EV
  else s1.synReacquire k

/-- What an edge is to the synthesizer. -/
inductive EdgeUse where
  | ignored   -- not enabled, or outside WINDOW
  | sync      -- the sync event of its scan
  | lost      -- it made the synthesizer acquire again
deriving DecidableEq, Repr

/-- A beam-detect edge at time `t` reaches the loop of station `k` (R133–R135, R144). An edge inside WINDOW but beyond UNLOCK_TOL that
starts a coast is taken as its scan's sync event, since R144 gives the prediction to the scans without one (assumption 98). -/
def State.synEdge (s : State) (k t : Nat) : EdgeUse × State :=
  let y := s.syn k
  let f := s.facets k
  if !s.on (CLOCK.SYN_CTRL_ENABLE k) then (.ignored, s)
  else if s.on (CLOCK.SYN_STATUS_COASTING k) then
    let err := dots64 y.fcw ((t : Int) - (y.predictSync f : Int))
    if 64 * s.fld (CLOCK.SYN_TOL_WINDOW k) < err.natAbs then (.ignored, s)
    else
      let good := if err.natAbs ≤ s.fld (CLOCK.SYN_TOL_UNLOCK_TOL k) then y.good + 1 else 0
      let s1 := (s.setSyn k { y.sync f t with good := good }).setFld (CLOCK.SYN_PHASE_ERR_ERR k) (wrap 32 err)
      if good = 4 then
        let s2 := ((s1.setFld (CLOCK.SYN_STATUS_COASTING k) 0).setFld (CLOCK.SYN_STATUS_COAST_COUNT k) 0).setFld (CLOCK.SYN_STATUS_LOCK_COUNT k) 256
        (.sync, (s2.setFld (CLOCK.SYN_STATUS_LOCKED k) 1).event CLOCK.INT_STAT_COAST_END_EV)
      else (.sync, s1)
  else if y.edges < f then
    let n := y.edges + 1
    let first := if n = 1 then t else y.firstEdge
    let fcw := if n = 1 then 0 else seedFcw (s.period k) n first t
    let s1 := s.setSyn k { y.sync f t with edges := n, firstEdge := first, fcw := fcw, idle := decide (n = 1) }
    let s2 := if n = 2 ∧ fcwInRange fcw then s1.setFld (CLOCK.SYN_STATUS_GATED k) 0 else s1
    let s3 := if 2 ≤ n then s2.synRange k else s2
    (.sync, s3.synCount k true)
  else
    let err := dots64 y.fcw ((t : Int) - (predictEdge y.fcw f (s.period k) (y.syncs.getD (f - 1) 0) : Int))
    if 64 * s.fld (CLOCK.SYN_TOL_WINDOW k) < err.natAbs then (.ignored, s)
    else
      let s1 := s.setFld (CLOCK.SYN_PHASE_ERR_ERR k) (wrap 32 err)
      if s.on (CLOCK.SYN_STATUS_LOCKED k) && decide (s.fld (CLOCK.SYN_TOL_UNLOCK_TOL k) < err.natAbs) then
        if s.privileged k then (.sync, (s1.setSyn k (y.sync f t)).synUnlock k) else (.lost, s1.synUnlock k)
      else
        let (v, s2) := s1.free
        let s3 := s2.setSyn k { y.sync f t with edges := min (y.edges + 1) (f + 1), fcw := v % 2 ^ 48 }
        (.sync, (s3.synRange k).synCount k (decide (err.natAbs ≤ s.fld (CLOCK.SYN_TOL_LOCK_TOL k))))

/-- No edge came within WINDOW of the prediction (R135): a locked synthesizer loses lock; one that acquires, from edge FACETS + 1
on, acquires again; in a coast the run of good edges ends. Answers whether identification starts again. -/
def State.synMissed (s : State) (k : Nat) : Bool × State :=
  let y := s.syn k
  if !s.on (CLOCK.SYN_CTRL_ENABLE k) then (false, s)
  else if s.on (CLOCK.SYN_STATUS_COASTING k) then (false, s.setSyn k { y with good := 0 })
  else if s.on (CLOCK.SYN_STATUS_LOCKED k) then (!s.privileged k, s.synUnlock k)
  else if s.facets k ≤ y.edges then (true, s.synReacquire k)
  else (false, s)

/-- The sync event a coasting synthesizer takes from its prediction (R144, R145): COAST_COUNT increments; at the limit the next one
expires the coast. Answers whether the coast expires now. -/
def State.synPredicted (s : State) (k : Nat) : Bool × State :=
  let y := s.syn k
  if y.expiring then (true, s)
  else
    let n := s.fld (CLOCK.SYN_STATUS_COAST_COUNT k) + 1
    let s1 := s.setFld (CLOCK.SYN_STATUS_COAST_COUNT k) n
    let y1 := y.sync (s.facets k) (y.predictSync (s.facets k))
    (false, s1.setSyn k { y1 with good := 0, expiring := decide (s.fld (CLOCK.SYN_CTRL_COAST_EDGES k) + 1 ≤ n) })

end Sys2Proof.Machine
end

