-- ==== Sys2Proof/Machine/Motion.lean ====
section
/-!
DEFINITION. The motor axes' commands: enable and disable, the start sequence, the profile and its limits, stops, faults, the bus groups
and the stepper's full steps (R472–R497).
Axes are numbered as in `AxisOps`: FOC 0–11, steppers 12–19.
-/

namespace Sys2Proof.Machine

/-! ## Configuration (R475, R485, R491) -/

/-- Nanoseconds between two current-loop updates: one carrier period, half of one with DOUBLE (R475). -/
def State.loopTime (s : State) (a : Nat) : Nat :=
  let h := s.fld (axf FOC.PWM_CFG_HALF STEP.PWM_CFG_HALF a)
  if s.on (axf FOC.PWM_CFG_DOUBLE STEP.PWM_CFG_DOUBLE a) then h else 2 * h

/-- Are the PWM settings within both ranges of R475? -/
def State.pwmOk (s : State) (a : Nat) : Bool :=
  let h := s.fld (axf FOC.PWM_CFG_HALF STEP.PWM_CFG_HALF a)
  decide (5000 ≤ h) && decide (h ≤ 62500) && decide (10000 ≤ s.loopTime a) && decide (s.loopTime a ≤ 62500)

/-- Is CHOP_FAIL set on the axis's bus group? -/
def State.chopFailed (s : State) (b : Nat) : Bool := s.on (FOC.FAULT_CHOP_FAIL b)

/-- The deceleration in use: derated after CHOP_FAIL (R491). -/
def State.decelNow (s : State) (a : Nat) : Nat :=
  let b := s.axBus a
  if s.chopFailed b then (s.axis a).decel / 2 ^ s.fld (FOC.BUS_CFG_CHOP_DERATE b) else (s.axis a).decel

/-- OBS_MIN in percent (R477). -/
def State.obsMin (s : State) (a : Nat) : Nat := min 5 (max 1 (s.fld (FOC.START_CFG2_OBS_MIN a)))

/-- The axes of bus group `b` (R470). -/
def State.groupAxes (s : State) (b : Nat) : List Nat := pick 20 (fun a => decide (s.axBus a = b) && decide (s.axPhase a ≠ phOff))

/-- What follows a change of an axis's phase or speed: RUN_OUT may end, READY may be lost (R19, R21). -/
def State.axisSettle (s : State) : State := s.runOutCheck.recheckReady

/-! ## Bus voltage (R489, R491) -/

/-- ZV_BRAKE and DERATED of axis `a` follow the group's bus and fault; BUS_EV of the group when DERATED goes to 1 (R489, R491, R499). -/
def State.regen (s : State) (a : Nat) : State :=
  let b := s.axBus a
  let slow := s.decelerating a
  let zv := slow && s.chopFailed b
  let der := slow && decide (s.fld (FOC.BUS_STATUS_REGEN_LIMIT b) * 65536 ≤ (s.bus b).volts)
  let s1 := (s.setFld (axf FOC.AXIS_STATUS_ZV_BRAKE STEP.AXIS_STATUS_ZV_BRAKE a) (bit zv)).setFld
    (axf FOC.AXIS_STATUS_DERATED STEP.AXIS_STATUS_DERATED a) (bit der)
  if der && !s.on (axf FOC.AXIS_STATUS_DERATED STEP.AXIS_STATUS_DERATED a) then s1.event (FOC.INT_STAT_BUS_EV b) else s1

/-! ## The profile (R478) -/

/-- One step of `dt` ns of a move from speed `ref` with acceleration `acc` to speed `goal`, speeds in 10⁻⁹ of the SPEED register's unit;
a move that has to reverse stops at zero first. Without a jerk limit the acceleration is the limit itself; with one, or while
the ramp is lengthened, it is any value the limits allow. -/
def State.ramp (s : State) (ref acc goal : Int) (up down jerk dt : Nat) (longer : Bool) : (Int × Int) × State :=
  if ref = goal then ((goal, 0), s)
  else
    let g := if ref * goal < 0 then 0 else goal
    let lim : Int := if g.natAbs < ref.natAbs then down else up
    let dir : Int := if ref < g then 1 else -1
    let (a, s1) : Int × State :=
      if jerk = 0 ∧ longer = false then (dir * lim, s)
      else
        let step : Int := jerk * 256 * dt / 1000000000 + 1
        let lo : Int := if jerk = 0 then min 0 (dir * lim) else max (-lim) (acc - step)
        let hi : Int := if jerk = 0 then max 0 (dir * lim) else min lim (acc + step)
        if hi < lo then (if lim < acc then acc - step else acc + step, s)
        else
          let (f, t) := s.free
          (lo + ((f : Int) % (hi - lo + 1)), t)
    let v := ref + a * dt
    let v1 := if 0 < dir then min v g else max v g
    ((v1, if v1 = g then 0 else a), s1)

/-- The speed the profile heads for in position mode: the set speed, or zero once a stop has to begin (R478). -/
def State.posGoal (s : State) (a : Nat) : Int :=
  let x := s.axis a
  let dist := x.pos - s.axPos a
  let toward := decide (0 < dist * x.ref)
  if dist.natAbs ≤ 256 then 0
  else if toward && decide (2 * s.decelNow a * dist.natAbs * 10 ^ 18 ≤ x.ref.natAbs ^ 2) then 0
  else if 0 < dist then (x.speed.natAbs : Int) * 1000000000 else -(x.speed.natAbs : Int) * 1000000000

/-! ## Ends of stops (R486, R487) -/

/-- A stopped axis: encoder axes with HOLD_EN and steppers hold, every other turns its bridges off with PHASE at IDLE. -/
def State.stopEnds (s : State) (a : Nat) : State :=
  let x := s.axis a
  let over' := s.on (axf FOC.AXIS_STATUS_LIMIT_OVERRUN STEP.AXIS_STATUS_LIMIT_OVERRUN a)
  let s1 :=
    if x.limit = 0 ∨ s.on (axf FOC.AXIS_STATUS_AT_LIMIT STEP.AXIS_STATUS_AT_LIMIT a) then s
    else
      let t := if over' then s.setAxis a { x with limit := 0 }
        else s.setFld (axf FOC.AXIS_STATUS_AT_LIMIT STEP.AXIS_STATUS_AT_LIMIT a) 1
      t.event (axf FOC.INT_STAT_LIMIT_EV STEP.INT_STAT_LIMIT_EV a)
  let s2 :=
    if 12 ≤ a ∨ (s1.encoderAxis a && s1.on (FOC.CFG_HOLD_EN a)) then s1.setAxPhase a phHold
    else (s1.bridgesOff a).setAxPhase a phIdle
  s2.event (axf FOC.INT_STAT_STOPPED_EV STEP.INT_STAT_STOPPED_EV a)

/-- A disable has ended: bridges off, PHASE OFF. -/
def State.disableEnds (s : State) (a : Nat) : State :=
  ((s.setFld (axf FOC.CTRL_ENABLE STEP.CTRL_ENABLE a) 0).bridgesOff a).event (axf FOC.INT_STAT_STOPPED_EV STEP.INT_STAT_STOPPED_EV a)

/-! ## Limits (R485) -/

/-- Twice DECEL times the way left to a limit, less (`sign` −1) or plus the way of one update, against the square of the speed: must a
stop begun now pass the limit? -/
def State.passes (s : State) (a : Nat) (lim : Int) (toMax : Bool) (slack dt : Int) : Bool :=
  let x := s.axis a
  let left := if toMax then lim - s.axPos a else s.axPos a - lim
  decide ((left * 10 ^ 18 + slack * (x.ref.natAbs : Int) * dt) * (2 * (s.decelNow a : Int)) < (x.ref.natAbs : Int) ^ 2)

/-- The limit check of a speed-loop update: a stop begins when it must, and LIMIT_OVERRUN is set when a derated one can no longer end
at the limit. -/
def State.limitCheck (s : State) (a : Nat) (dt : Nat) : State :=
  let x := s.axis a
  let p := s.axPhase a
  if !s.on (axf FOC.CFG_LIM_EN STEP.CFG_LIM_EN a) || decide (x.ref = 0) then s
  else
    let toMax := decide (0 < x.ref)
    let lim := if toMax then sext 64 (s.pair (axr FOC.LIM_MAX_LO STEP.LIM_MAX_LO a) (axr FOC.LIM_MAX_HI STEP.LIM_MAX_HI a))
      else sext 64 (s.pair (axr FOC.LIM_MIN_LO STEP.LIM_MIN_LO a) (axr FOC.LIM_MIN_HI STEP.LIM_MIN_HI a))
    let moving := p == phRamp || p == phOpenLoop || p == phAtTarget
    let begins := moving && s.passes a lim toMax (-1) dt
    let s1 := if begins then
        (s.setAxis a { x with limit := if toMax then 1 else 2, declared := none }).setAxPhase a phStopping |>.setAtSpeed a false
      else s
    if s.chopFailed (s.axBus a) && (begins || (p == phStopping && decide (x.limit ≠ 0))) && s.passes a lim toMax 1 dt then
      s1.setFld (axf FOC.AXIS_STATUS_LIMIT_OVERRUN STEP.AXIS_STATUS_LIMIT_OVERRUN a) 1
    else s1

/-! ## Updates (R476–R479, R482, R483, R486, R487, R492) -/

/-- A change of phase that a step of the profile brings. -/
def State.phaseStep (s : State) (a : Nat) : State :=
  let x := s.axis a
  let p := s.axPhase a
  let rated := s.fld (FOC.RATED_RATED a)
  if p == phStopping then (if x.ref = 0 then s.stopEnds a else s)
  else if p == phDisabling then (if x.ref = 0 then s.disableEnds a else s)
  else if p == phBraking then
    (if x.ref.natAbs * 100 ≤ s.obsMin a * rated * 1000000000 then s.setAxis a { x with braked := true } else s)
  else if p == phOpenLoop then
    (if s.obsMin a * rated * 1000000000 ≤ x.ref.natAbs * 100 then
      (s.setAxPhase a phRamp).event (FOC.INT_STAT_START_DONE_EV a)
     else s)
  else if p == phRamp then
    (if s.axPosMode a then
      (if x.ref = 0 ∧ (x.pos - s.axPos a).natAbs ≤ 256 then
        ((s.setAxPhase a phAtTarget).setAtSpeed a true).event (axf FOC.INT_STAT_AT_SPEED_EV STEP.INT_STAT_AT_SPEED_EV a)
       else s)
     else if x.ref = x.speed * 1000000000 then s.setAxPhase a phAtTarget
     else s)
  else s

/-- The speed-loop update: the limit check, then one step of the profile (R476, R478, R485). -/
def State.speedLoop (s : State) (a : Nat) : State :=
  let dt := 4 * s.loopTime a
  let s1 := s.limitCheck a dt
  let x := s1.axis a
  let p := s1.axPhase a
  let goal : Int := if p == phRamp || p == phOpenLoop || p == phAtTarget then
      (if s1.axPosMode a then s1.posGoal a else x.speed * 1000000000)
    else 0
  let moves := p == phRamp || p == phOpenLoop || p == phStopping || p == phDisabling || (p == phBraking && !x.braked) ||
    (p == phAtTarget && !s1.axPosMode a)
  if moves then
    let longer := s1.on (axf FOC.AXIS_STATUS_DERATED STEP.AXIS_STATUS_DERATED a) || s1.on (axf FOC.AXIS_STATUS_ZV_BRAKE STEP.AXIS_STATUS_ZV_BRAKE a)
    let ((v, acc), s2) := s1.ramp x.ref x.acc goal x.accel (s1.decelNow a) (s1.fld (axf FOC.JERK_JERK STEP.JERK_JERK a)) dt longer
    let s3 := s2.setAxis a { x with ref := v, acc := acc }
    -- a stepper's speed and position are its profile's
    let s4 := if a < 12 then s3
      else
        let (c, t1) := s3.choose
        let d := (x.ref + v) / 2 * dt / 10 ^ 18 + bit c
        let sp := v / 1000000000
        (t1.setReg (STEP.SPEED (a - 12)) (BitVec.ofInt 32 sp)).setPair (STEP.POS_LO (a - 12)) (STEP.POS_HI (a - 12)) (wrap 64 (s.axPos a + d))
    (s4.phaseStep a).regen a
  else s1.regen a

/-- |SPEED − TARGET_SPEED| within SPEED_TOL; a stepper has no tolerance (R479). -/
def State.speedWithin (s : State) (a : Nat) : Bool :=
  decide ((s.axSpeed a - (s.axis a).speed).natAbs ≤ if a < 12 then s.fld (FOC.SPEED_TOL_TOL a) * 256 else 0)

/-- FOC_CURRENT_UPDATE (R473, R476–R479, R492): axis `a` at a carrier peak or valley, with the measured rotor-frame currents of a FOC axis
and, where no encoder gives them, its speed and position as the observer or the open loop has them; every fourth update runs the speed
loop. -/
def execFocCurrentUpdate (a speed pos id iq : Nat) (s : State) : Result :=
  if 20 ≤ a ∨ s.axPhase a = phOff then .next s
  else
    let s1 := if s.encoderAxis a then
        let ((v, p, e), t) := s.encoderMotion a
        let u := t.setAxis a { t.axis a with elec := e }
        (((u.setReg (FOC.SPEED a) (BitVec.ofInt 32 v)).setPair (FOC.POS_LO a) (FOC.POS_HI a) (wrap 64 p)).setFld (FOC.IDQ_ID a) id).setFld (FOC.IDQ_IQ a) iq
      else if a < 12 then
        (((s.setReg (FOC.SPEED a) (BitVec.ofNat 32 speed)).setPair (FOC.POS_LO a) (FOC.POS_HI a) pos).setFld (FOC.IDQ_ID a) id).setFld (FOC.IDQ_IQ a) iq
      else s
    let x := s1.axis a
    let s2 := s1.setAxis a { x with updates := (x.updates + 1) % 4 }
    let s3 := if x.updates = 3 then s2.speedLoop a else s2
    let s4 := if s3.atSpeed a && !s3.axPosMode a && !s3.speedWithin a then s3.setAtSpeed a false else s3
    .next s4.axisSettle

/-- AT_SPEED (R479): speed has stayed within tolerance for 10 ms. -/
def execAtSpeed (a : Nat) (s : State) : Result :=
  let p := s.axPhase a
  if a < 20 ∧ (p == phRamp || p == phAtTarget) ∧ !s.axPosMode a ∧ s.speedWithin a ∧ !s.atSpeed a then
    .next ((s.setAtSpeed a true).event (axf FOC.INT_STAT_AT_SPEED_EV STEP.INT_STAT_AT_SPEED_EV a))
  else .next s

/-! ## Enable and disable (R475, R487, R499) -/

/-- A write of an axis's ENABLE: register and object field are one storage. -/
def State.axisEnable (s : State) (a : Nat) (v : Bool) : State :=
  let p := s.axPhase a
  let en := axf FOC.CTRL_ENABLE STEP.CTRL_ENABLE a
  if v then
    if s.axEnable a then s
    else if p == phDisabling then
      ((s.setFld en 1).setFld (axf FOC.STATUS_DISABLE_PENDING STEP.STATUS_DISABLE_PENDING a) 0).setAxPhase a phStopping
    else if s.pwmOk a then
      (((s.setFld en 1).setFld (axf FOC.STATUS_ENABLED STEP.STATUS_ENABLED a) 1).setAxPhase a phIdle).setRefused (axIndex a) false
    else (s.setFld (axf FOC.AXIS_STATUS_CFG_ERR STEP.AXIS_STATUS_CFG_ERR a) 1).setRefused (axIndex a) true
  else if !s.axEnable a then s
  else
    let moving := runningPhase p && decide ((s.axis a).ref ≠ 0)
    if moving && !s.on (axf FOC.CFG_COAST_DIS STEP.CFG_COAST_DIS a) then
      ((((s.setFld en 0).setFld (axf FOC.STATUS_DISABLE_PENDING STEP.STATUS_DISABLE_PENDING a) 1).setAtSpeed a false).setAxis a
        { s.axis a with declared := none }).setAxPhase a phDisabling
    else s.disableEnds a

/-- AXIS_ENABLE (R21, R475): in READY an axis that joins the run group without its speed takes the engine back to KINDLING. -/
def execAxisEnable (a : Nat) (s : State) : Result := if a < 20 then .next (s.axisEnable a true).recheckReady else .next s

/-- AXIS_DISABLE (R487). -/
def execAxisDisable (a : Nat) (s : State) : Result := if a < 20 then .next (s.axisEnable a false).axisSettle else .next s

/-- AXIS_START (R480, R482–R485, R495, R497). -/
def execAxisStart (a : Nat) (s : State) : Result := if a < 20 then .next (s.startAxis a .other).axisSettle else .next s

/-- START_N_EDGE (R480): START_N falls; every axis with START_N_EN starts. -/
def execStartNEdge (s : State) : Result :=
  .next (s.startAxes (pick 20 (fun a => s.axStartN a)) .startN).axisSettle

/-- AXIS_STOP (R486). -/
def execAxisStop (a : Nat) (s : State) : Result := if a < 20 then .next (s.stopAxis a).axisSettle else .next s

/-! ## Faults (R474, R483, R496) -/

/-- A motion fault that turns the axis's bridges off. -/
def State.axisFault (s : State) (a bitNo : Nat) (forced : Bool) : State :=
  ((s.bridgesOff a).raise (axCode a) bitNo (if a < 12 then a else a - 12) forced).axisSettle

/-- The encoder gauge of encoder-angle axes has faulted (R496). -/
def State.feedbackLost (s : State) (n : Nat) : State :=
  s.each (pick 12 (fun a => s.encoderAxis a && decide (s.fld (FOC.FB_CFG_GAUGE a) = n) && decide (s.axPhase a ≠ phOff)))
    (fun t a => t.axisFault a 2 false)

/-- OVERCURRENT (R474). -/
def execOvercurrent (a : Nat) (s : State) : Result := if a < 20 then .next (s.axisFault a 0 false) else .next s

/-- START_TIMEOUT (R483). -/
def execStartTimeout (a : Nat) (s : State) : Result :=
  if a < 12 ∧ (s.axPhase a == phProbing || s.axPhase a == phBraking) then .next (s.axisFault a 1 false) else .next s

/-! ## The start sequence (R482, R483) -/

/-- The sequence of a rotor at rest begins. -/
def State.alignBegins (s : State) (a : Nat) : State :=
  (s.setAxis a { s.axis a with ref := 0, acc := 0, pulses := 0, best := none, north := 0, reprobe := false, braked := false }).setAxPhase a phAligning

/-- PROBE_PULSE_END (R483): a zero-vector pulse ends; the second gives speed (16.16 rev/s) and angle (1/256 rev). -/
def execProbePulseEnd (a speed angle : Nat) (s : State) : Result :=
  let x := s.axis a
  let p := s.axPhase a
  if 12 ≤ a ∨ ¬ ((p = phProbing ∧ x.reprobe = false) ∨ (p = phBraking ∧ x.braked = true)) then .next s
  else if x.pulses = 0 then .next (s.setAxis a { x with pulses := 1 })
  else
    let v := sext 32 speed
    let rated := s.fld (FOC.RATED_RATED a)
    let (v8, s1) := if v % 256 = 0 then (v / 256, s) else
      let (c, t) := s.choose
      (v / 256 + bit c, t)
    let s2 := ((s1.setFld (FOC.PROBE_RESULT_SPEED a) (wrap 16 v8)).bump (FOC.PROBE_RESULT_PROBES a) 1).setFld (FOC.PROBE_RESULT_ANGLE a) angle
    let m := v.natAbs * 100
    let s3 := s2.setAxis a { s2.axis a with pulses := 0 }
    .next (if m < rated then s3.alignBegins a
      else if p = phBraking then s3
      else if m ≤ 5 * rated then s3.setAxis a { s3.axis a with reprobe := true }
      else
        let s4 := s3.setAxis a { s3.axis a with ref := v * 1000000000, acc := 0 }
        if 0 < v then (s4.setAxPhase a phRamp).event (FOC.INT_STAT_START_DONE_EV a) else s4.setAxPhase a phBraking).axisSettle

/-- PROBE_REPEAT (R483): 20 ms after a probe that found a slow turn. -/
def execProbeRepeat (a : Nat) (s : State) : Result :=
  if a < 12 ∧ s.axPhase a = phProbing ∧ (s.axis a).reprobe = true then
    .next (s.setAxis a { s.axis a with reprobe := false, pulses := 0 })
  else .next s

/-- ALIGN_PULSE_END (R482): a pulse of `len` ns ends with a peak current of `peak`; twelve find the angle, two the polarity. -/
def execAlignPulseEnd (a peak len : Nat) (s : State) : Result :=
  if 12 ≤ a ∨ s.axPhase a ≠ phAligning then .next s
  else
    let x := s.axis a
    let n := x.pulses
    if n < 12 then
      let l := max 1 len
      let (better, s1) := match x.best with
        | none => (true, s)
        | some (_, p, m) => if p * l < peak * m then (true, s) else if p * l = peak * m then s.choose else (false, s)
      let best := if better then some (n, peak, l) else x.best
      let angle := match best with
        | some (i, _, _) => 30 * i
        | none => 0
      .next (s1.setAxis a { x with pulses := n + 1, best := best, angle := angle })
    else if n = 12 then .next (s.setAxis a { x with pulses := 13, north := peak })
    else
      let (turn, s1) := if x.north < peak then (true, s) else if x.north = peak then s.choose else (false, s)
      let s2 := s1.setAxis a { x with pulses := 0, best := none, north := 0, angle := (x.angle + if turn then 180 else 0) % 360, ref := 0, acc := 0 }
      .next (s2.setAxPhase a phOpenLoop)

/-! ## Bus groups (R488–R491) -/

/-- BRAKEb follows the voltage; BUS_EV when it changes level (R488, R490). In TINDER and from a reset or power-down until the release it
is low (R111). -/
def State.brakeEval (s : State) (b : Nat) : State :=
  let v := (s.bus b).volts
  let was := s.on (FOC.BUS_STATUS_BRAKE b)
  let now := decide (s.eng ≠ engTinder) && decide (s.eng ≠ engOff) && !s.tinder.outputsHeld && s.on (FOC.BUS_CFG_CHOP_EN b) &&
    (if was then decide (s.fld (FOC.BUS_CHOP_CHOP_OFF b) * 65536 < v) else decide (s.fld (FOC.BUS_CHOP_CHOP_ON b) * 65536 ≤ v))
  if now = was then s
  else
    let s1 := if now then s.setBus b { s.bus b with noted := v } else s
    (s1.setFld (FOC.BUS_STATUS_BRAKE b) (bit now)).event (FOC.INT_STAT_BUS_EV b)

/-- CHOP_FAIL of group `b` (R490, R491). -/
def State.chopFail (s : State) (b : Nat) (forced : Bool) : State :=
  let s1 := (s.setFld (FOC.BUS_STATUS_CHOP_FAILED b) 1).raise (0x200 + b) 4 b forced
  s1.each (s1.groupAxes b) State.regen

/-- BUS_TRIP of group `b`: every output of every axis of the group at 0 (R491). -/
def State.busTrip (s : State) (b : Nat) (forced : Bool) : State :=
  ((s.each (s.groupAxes b) State.bridgesOff).raise (0x200 + b) 5 b forced).axisSettle

/-- BUS_VOLTAGE_SAMPLE (R473, R474, R488–R491, R497): a bus voltage result of group `b`. -/
def execBusVoltageSample (b code : Nat) (s : State) : Result :=
  if 8 ≤ b then .next s
  else
    let v := code * s.fld (FOC.BUS_GAIN_GAIN b)
    let (q, s1) := s.divFree v (4 * 65536)
    let s2 := (s1.setBus b { s1.bus b with volts := v }).setFld (FOC.BUS_STATUS_VOLTAGE b) (min q 0x3FFF)
    let s3 := s2.brakeEval b
    let s4 := s3.each (s3.groupAxes b) State.regen
    if s4.fld (FOC.BUS_LIMITS_TRIP b) * 65536 ≤ v then .next (s4.busTrip b false)
    else if s4.on (FOC.BUS_STATUS_BRAKE b) && decide ((s4.bus b).noted + s4.fld (FOC.BUS_LIMITS_CHOP_RISE b) * 65536 ≤ v) then
      .next ((s4.chopFail b false).axisSettle)
    else .next s4

/-! ## Steppers (R492–R494) -/

/-- STALL: the profile stops at once and PHASE becomes STALLED (R493). -/
def State.stall (s : State) (k : Nat) (forced : Bool) : State :=
  let a := 12 + k
  let s1 := if s.axPhase a = phOff then s
    else ((s.setAxis a { Axis.reset with limit := (s.axis a).limit }).setReg (STEP.SPEED k) 0).setAtSpeed a false |>.setAxPhase a phStalled
  (s1.raise (0x210 + k) 1 k forced).axisSettle

/-- STEPPER_FULL_STEP (R493, R494): stepper `k` passes a full step, `theta` being its load angle in electrical degrees. -/
def execStepperFullStep (k : Nat) (theta : Int) (s : State) : Result :=
  let a := 12 + k
  if 8 ≤ k ∨ s.axPhase a = phOff then .next s
  else
    let adaptive := decide (s.fld (STEP.CFG_CUR_MODE k) = 1)
    let scale := s.fld (STEP.FB_SCALE_SCALE k)
    let micro := min 8 (s.fld (STEP.CFG_MICRO_LOG2 k))
    let num : Int := (s.axPos a * scale - sext 64 (s.gauge (s.fld (STEP.FB_CFG_GAUGE k))).value * 65536) * 2 ^ micro
    let den := 65536 * scale
    let fb := s.on (STEP.FB_CFG_FB_EN k)
    let (dev, s1) : Int × State :=
      if den = 0 then
        let (f, t) := s.free
        ((f : Int), t)
      else if num % den = 0 then (num / den, s)
      else
        let (c, t) := s.choose
        (num / den + bit c, t)
    let s2 := if fb then s1.setFld (STEP.DEVIATION_DEV k) (wrap 32 dev) else s
    let beyond := if den = 0 then decide (s.fld (STEP.FB_CFG_DEV_WINDOW k) < dev.natAbs)
      else decide (s.fld (STEP.FB_CFG_DEV_WINDOW k) * den < num.natAbs)
    if adaptive then
      let lo : Int := s.fld (STEP.ADAPT_THETA_LO k)
      let hi : Int := s.fld (STEP.ADAPT_THETA_HI k)
      -- a range of no width gives no k
      let (top, t2) := if lo = hi then s2.choose else (if lo < hi then decide (hi ≤ theta) else decide (theta ≤ hi), s2)
      let full := decide (s.fld (STEP.CURRENT_RUN k) = s.fld (STEP.CURRENT_HOLD k)) || top
      let n := satAdd 24 (s.fld (STEP.LOAD_AT_MAX k)) 1
      -- I moves from HOLD to RUN by k (R494)
      let hold : Int := s.fld (STEP.CURRENT_HOLD k)
      let run : Int := s.fld (STEP.CURRENT_RUN k)
      let num : Int := if hi < lo then min (lo - hi) (max 0 (lo - theta)) else min (hi - lo) (max 0 (theta - lo))
      let (i, t3) := if full then (run, t2) else if lo = hi then (let (c, u) := t2.free; ((c % 65536 : Nat), u))
        else t2.divFreeInt (hold * (hi - lo).natAbs + (run - hold) * num) (hi - lo).natAbs
      let t4 := t3.setAxis a { t3.axis a with cur := i.toNat }
      let s3 := (t4.setFld (STEP.LOAD_LOAD_ANGLE k) (wrap 8 theta)).setFld (STEP.LOAD_AT_MAX k) (if full then n else 0)
      .next (if full && decide (n = max 1 (s.fld (STEP.ADAPT_MAX_STEPS k))) then s3.event (STEP.INT_STAT_MAX_CURRENT_EV k) else s3)
    else if fb && beyond then .next (s2.stall k false) else .next s2

end Sys2Proof.Machine
end

