-- ==== Sys2Proof/Machine/Engine.lean ====
section
/-!
DEFINITION. The requests to the engine object and READY (R18–R23, R251, R464, R481, R543).
-/

namespace Sys2Proof.Machine

/-- A bank, stop or shutdown request is pending. -/
def State.requestPending (s : State) : Bool := s.engine.bankPending || s.engine.stopPending || s.engine.shutdownPending

/-- RUN is refused (R19, R251). -/
def State.refuseRun (s : State) : State := { s with engine := { s.engine with runRefused := true, refused := true } }

/-- Is this device the lead of a cascade (R24, R464)? -/
def State.isLead (s : State) : Bool :=
  s.on THAIQ.CTRL_ENABLE && decide (2 ≤ s.fld THAIQ.CASCADE_CFG_DEVICES) && decide (s.fld THAIQ.CASCADE_CFG_POSITION = 0)

/-- A run request (R19): KINDLING from BANKED with no fault outstanding, the run group starts, and a lead pulls START_N; refused or
ignored elsewhere. -/
def State.runRequest (s : State) : State :=
  if s.warm then (if s.requestPending then s.refuseRun else s)
  else if s.eng = engBanked ∧ !s.faultOutstanding ∧ !s.requestPending then
    let s1 := State.enter { s with engine := { s.engine with runRefused := false, refused := false } } engKindling
    let s2 := s1.startAxes s1.runAxes .other
    if s2.isLead then { s2 with engine := { s2.engine with startN := true } } else s2
  else s.refuseRun

/-- A bank request (R19). -/
def State.bankRequest (s : State) : State :=
  if s.eng = engKindling ∨ s.eng = engReady then s.enterBanked
  else if s.eng = engRunning then { s with engine := { s.engine with bankPending := true } }
  else s

/-- A stop request (R251): admission stops while pages are under way. -/
def State.stopRequest (s : State) : State :=
  if s.eng = engRunning then { s with engine := { s.engine with stopPending := true } } else s

/-- A clear request (R19): out of SAFE once every fault is cleared and any thermal trip acknowledged. -/
def State.clearRequest (s : State) : State :=
  if s.eng = engSafe ∧ !s.faultOutstanding ∧ !s.on HEARTH.ACK_STATUS_LATCHED ∧ !s.journalTrip then s.enterBanked else s

/-- A write of the engine field REQUEST (R251): of a run and a bank request the bank request wins (R23). -/
def State.request (s : State) (v : Nat) : State :=
  let s1 := if v.testBit 1 then s.bankRequest else s
  let s2 := if v.testBit 2 then s1.stopRequest else s1
  let s3 := if v.testBit 3 then s2.clearRequest else s2
  if v.testBit 0 && !v.testBit 1 then s3.runRequest else s3

/-- RUN (R19). -/
def execRun (s : State) : Result := .next s.runRequest

/-- BANK (R19). -/
def execBank (s : State) : Result := .next s.bankRequest

/-- STOP (R251). -/
def execStop (s : State) : Result := .next s.stopRequest

/-- CLEAR (R19). -/
def execClear (s : State) : Result := .next s.clearRequest

/-- ENGINE_READY (R20): every condition holds in KINDLING. -/
def execEngineReady (s : State) : Result := if s.eng = engKindling ∧ s.readyNow then .next (s.enter engReady) else .next s

end Sys2Proof.Machine
end

