-- ==== Sys2Proof/Machine/Codec.lean ====
section
/-!
DEFINITION. Separations, the decoders' runs and blocks, and the encoders' jobs (R263, R308–R336).
-/

namespace Sys2Proof.Machine

/-! ## Separations and expansions (R263) -/

/-- An index entry: offset, first line, line count. -/
structure IndexEntry where
  offset : Nat
  first : Nat
  lines : Nat
deriving DecidableEq, Repr

/-- BLOCK_COUNT, LINES and index entry `n` of an object. -/
def Obj.blockCount (o : Obj) : Nat := o.nat 0 4
def Obj.sepLines (o : Obj) : Nat := o.nat 4 4
def Obj.entry (o : Obj) (n : Nat) : IndexEntry := ⟨o.nat (0x10 + 8 * n) 4, o.nat (0x14 + 8 * n) 3, o.nat (0x17 + 8 * n) 1⟩

/-- The kind of R325 that a read of `n` bytes at `off` meets: 6 POISON, 7 EVICTED, 0 none. -/
def Obj.readKind (o : Obj) (off n : Nat) : Nat := if o.evicted then 7 else if o.hits off n then 6 else 0

/-- Does the header `h` of block `n` agree with its index entry and the expected line (INDEX of R325)? -/
def Obj.indexed (o : Obj) (n : Nat) (h : Header) (next : Nat) : Bool :=
  let e := o.entry n
  decide (e.first = h.firstLine) && decide (e.lines = h.lines) && decide (h.firstLine = next) && decide (e.offset % 8 = 0)

/-- Where block `n` has to end: the next entry's offset, or SIZE. -/
def Obj.stop (o : Obj) (n : Nat) : Nat := if n + 1 < o.blockCount then min (o.entry (n + 1)).offset o.size else o.size

/-- The kind that reading the offset of the entry after `n` meets. -/
def Obj.stopKind (o : Obj) (n : Nat) : Nat := if n + 1 < o.blockCount then o.readKind (0x10 + 8 * (n + 1)) 4 else 0

/-- Does block `n`, whose header is `h`, keep its place: INDEX of R325? -/
def Obj.inPlace (o : Obj) (n : Nat) (h : Header) (next : Nat) : Bool :=
  o.indexed n h next && decide ((o.entry n).offset + 32 + h.compLen ≤ o.stop n)

/-- Block `n` of an object against a decoder's format and expected line: the checks of R325 in their order. -/
def Obj.block (o : Obj) (n dots bpd next : Nat) : BlockResult :=
  let e := o.entry n
  if o.readKind (0x10 + 8 * n) 8 ≠ 0 then .bad (o.readKind (0x10 + 8 * n) 8)
  else if o.size < e.offset + 32 then .bad 3
  else if o.readKind e.offset 32 ≠ 0 then .bad (o.readKind e.offset 32)
  else
    let h := parseHeader (o.read e.offset 32)
    let place := o.inPlace n h next && decide (o.stopKind n = 0)
    let k := o.readKind (e.offset + 32) h.compLen
    match checkBlock h (if place && decide (k = 0) then o.read (e.offset + 32) h.compLen else []) dots bpd place with
    | .bad 3 => .bad (if o.indexed n h next && decide (o.stopKind n ≠ 0) then o.stopKind n else 3)
    | .bad 4 => .bad (if k ≠ 0 then k else 4)
    | .bad 5 => .bad (if k ≠ 0 then k else 5)
    | .bad j => .bad j
    | .good h' x t => if k ≠ 0 then .bad k else .good h' x t

/-- Do the headers from entry `n` on pass kinds 1 to 3 of R325, each block beginning where the one before ends (R447)? -/
def Obj.headersOk (o : Obj) (dots bpd : Nat) : Nat → Nat → Nat → Bool
  | 0, _, _ => true
  | k + 1, n, next =>
    let e := o.entry n
    let h := parseHeader (o.read e.offset 32)
    decide (e.offset + 32 ≤ o.size) && h.ok && geometryOk h.dots h.bpd h.lines h.origLen && h.dots == dots && h.bpd == bpd &&
      o.inPlace n h next && o.headersOk dots bpd k (n + 1) (next + h.lines)

/-- Is the object a separation or expansion that a decoder can read? -/
def State.blocksObj (s : State) (h : Nat) : Option Obj :=
  if kindOf h = 9 ∨ kindOf h = 10 then s.dataObj h else none

/-! ## Decoders (R321–R330) -/

def State.decState (s : State) (k : Nat) : Nat := s.fld (CODEC.DEC_STATUS_STATE k)
def State.setDecState (s : State) (k v : Nat) : State := s.setFld (CODEC.DEC_STATUS_STATE k) v

/-- Is decoder `k` on: CODEC's CTRL.ENABLE and its own (R330, R336)? -/
def State.decOn (s : State) (k : Nat) : Bool := s.on CODEC.CTRL_ENABLE && s.on (CODEC.DEC_CTRL_ENABLE k)

/-- Queues a run, or refuses it (R321). -/
def State.pushRun (s : State) (k : Nat) (r : Run) : State :=
  let d := s.decoder k
  if 8 ≤ d.runs.length ∨ r.count = 0 then s.setFld (CODEC.DEC_STATUS_RUN_REFUSED k) 1
  else s.setDecoder k { d with runs := d.runs ++ [r] }

/-- RUN_PUSH (R321). -/
def execRunPush (k : Nat) (s : State) : Result :=
  if 6 ≤ k then .next s
  else .next (s.pushRun k {
    object := s.fld (CODEC.DEC_RUN_HANDLE_OBJECT k), page := s.fld (CODEC.DEC_RUN_HANDLE_PAGE k), first := s.fld (CODEC.DEC_RUN_FIRST_ENTRY k)
    count := s.fld (CODEC.DEC_RUN_COUNT_COUNT k), newPage := s.on (CODEC.DEC_RUN_COUNT_NEW_PAGE k), endPage := s.on (CODEC.DEC_RUN_COUNT_END_PAGE k) })

/-- A run ends (R322). -/
def State.endRun (s : State) (k : Nat) (r : Run) : State :=
  let s1 := s.setFld (CODEC.DEC_STATUS_RUNS_DONE k) ((s.fld (CODEC.DEC_STATUS_RUNS_DONE k) + 1) % 256)
  let s2 := s1.setDecoder k { s1.decoder k with cur := none, block := none, entry := 0 }
  let s3 := if (s2.decoder k).runs = [] ∨ !s2.decOn k then s2.setDecState k 0 else s2.setDecState k 2
  if r.endPage then s3.event CODEC.INT_STAT_RUN_DONE else s3

/-- A block fault: recorded, raised, and its page reported (R326). -/
def State.blockFault (s : State) (k : Nat) (r : Run) (entry kind : Nat) (forced : Bool) : State :=
  let s1 := ((s.setFld (CODEC.DEC_FAULT_INFO_HANDLE k) r.object).setFld (CODEC.DEC_FAULT_INFO_KIND k) kind).setFld (CODEC.DEC_FAULT_ENTRY_ENTRY k) entry
  let s2 := s1.raise 9 k k forced
  let code := if kind = 6 then 2 else if kind = 7 then 3 else 1
  s2.spoilPage (indexOf r.page) code (s2.engineIndex k) (if code = 1 then kind else 0)

/-- WB of station `k` (R368). -/
def State.wb (s : State) (k : Nat) : Int := sext 48 (s.pair (PLATE.WB_LO k) (PLATE.WB_HI k))

/-- The lines of a block become visible to the Graver, page line `first` on: those below WB are discarded (R323, R368, R369). -/
def State.releaseLines (s : State) (k page first : Nat) (l : List PlateLine) : State :=
  match (s.gv k).queue.find? (fun e => decide (e.page = page)) with
  | none => s
  | some e =>
    let wb := s.wb k
    let put := fun (m : Tbl (Option PlateLine)) (i : Nat) => match l[i]? with
      | none => m
      | some x =>
        let n := e.base + (first : Int) + i
        if n < wb then m else Tbl.put (fun _ => none) m (n % 384).toNat (some { x with line := n })
    let s1 := s.setGv k { s.gv k with lines := (List.range l.length).foldl put (s.gv k).lines }
    s1.bump (PLATE.RELEASED_LINES k) l.length

/-- The decoder goes on to the next entry of its run, or ends it. -/
def State.nextEntry (s : State) (k : Nat) (r : Run) : State :=
  let d := s.decoder k
  if r.count ≤ 1 then s.endRun k r
  else
    (s.setDecoder k { d with cur := some { r with count := r.count - 1, newPage := false }, entry := d.entry + 1, block := none }).setDecState k
      (if s.decOn k then 2 else 0)

/-- A fault ends what a FAULT_FORCE of the decoder was to end: the real kind is recorded, with one report (R329). -/
def State.unforce (s : State) (k : Nat) : State := s.setDecoder k { s.decoder k with forced := false }

/-- Do decoders and encoders run at all (R336)? -/
def State.codecOn (s : State) : Bool := s.on CODEC.CTRL_ENABLE && s.on (CLOCK.PLL_STATUS_LOCKED 1)

/-- DECODE_BLOCK_START (R321–R323, R325, R327, R328, R369): the next block of the run in progress, or of the next run, begins once its
page is in the Graver's queue and its lines have room. A run with a bad handle, or an entry beyond BLOCK_COUNT, ends here. -/
def execDecodeBlockStart (k : Nat) (s : State) : Result :=
  let d := s.decoder k
  if 6 ≤ k ∨ !s.codecOn ∨ !s.decOn k ∨ d.block.isSome then .next s
  else
    let s1 : State × Option Run := match d.cur, d.runs with
      | some r, _ => (s, some r)
      | none, r :: t => (s.setDecoder k { d with runs := t, cur := some r, entry := r.first }, some r)
      | none, [] => (s, none)
    match s1 with
    | (t, none) => .next t
    | (t, some r) =>
      match t.blocksObj r.object with
      | none => .next ((t.blockFault k r r.first 8 false).endRun k r)
      | some o =>
        let n := (t.decoder k).entry
        let e := o.entry n
        if o.readKind 0 16 ≠ 0 then .next (((t.unforce k).blockFault k r n (o.readKind 0 16) false).nextEntry k r)
        else if o.blockCount ≤ n then .next ((t.blockFault k r n 3 false).endRun k r)
        else if o.readKind (0x10 + 8 * n) 8 ≠ 0 then .next (((t.unforce k).blockFault k r n (o.readKind (0x10 + 8 * n) 8) false).nextEntry k r)
        else match (t.gv k).queue.find? (fun q => decide (q.page = indexOf r.page)) with
          | none => .next (t.setDecState k 3)
          | some q =>
            if t.wb k + 383 < q.base + (e.first : Int) + e.lines - 1 then .next (t.setDecState k 3)
            else
              let t1 := t.setDecoder k { t.decoder k with block := some (e.first, e.lines) }
              -- a run with NEW_PAGE takes its expected line from its first block (R322)
              let t2 := if r.newPage && decide (e.offset + 32 ≤ o.size) && decide (o.readKind e.offset 32 = 0) then
                  t1.setFld (CODEC.DEC_NEXT_LINE_LINE k) (parseHeader (o.read e.offset 32)).firstLine else t1
              .next (t2.setDecState k 1)

/-- DECODE_BLOCK_END (R319, R320, R322, R323, R325, R326, R329): the block's time has ended; its lines are released as decoded, or
blank where a check fails. A block in progress finishes with its decoder, or CODEC, disabled (R330, R550). -/
def execDecodeBlockEnd (k : Nat) (s : State) : Result :=
  let d := s.decoder k
  match d.cur, d.block with
  | some r, some (first, lines) =>
    if 6 ≤ k ∨ !s.on (CLOCK.PLL_STATUS_LOCKED 1) then .next s
    else
      let n := d.entry
      match s.blocksObj r.object with
      | none => .next ((s.blockFault k r n 8 false).endRun k r)
      | some o =>
        let dots := s.fld (CODEC.DEC_FORMAT_DOTS k)
        let bpd := s.fld (CODEC.DEC_FORMAT_BPD k)
        -- a run with NEW_PAGE takes its expected line from its first block (R322)
        let expect := if r.newPage then (parseHeader (o.read (o.entry n).offset 32)).firstLine else s.fld (CODEC.DEC_NEXT_LINE_LINE k)
        let s0 := s.unforce k
        let after := fun (t : State) => (t.bump (CODEC.DEC_BLOCKS_COUNT k) 1).nextEntry k r
        let bad := fun (kind : Nat) (forced : Bool) =>
          let s1 := s0.releaseLines k (indexOf r.page) first ((List.range lines).map (fun _ => { line := 0, bytes := [], blank := true }))
          let s2 := s1.setFld (CODEC.DEC_NEXT_LINE_LINE k) (first + lines)
          after (s2.blockFault k r n kind forced)
        match o.block n dots bpd expect with
        | .bad kind => .next (bad kind false)
        | .good h x time =>
          if d.forced then .next (bad 9 true)
          else
            let w := dots * bpd / 8
            let s1 := s0.releaseLines k (indexOf r.page) first ((List.range lines).map (fun i =>
              { line := 0, bytes := (x.drop (i * w)).take w, blank := false }))
            let s2 := s1.setFld (CODEC.DEC_NEXT_LINE_LINE k) (first + lines)
            let s3 := if h.cost * h.origLen < 16 * time then
                ((s2.bump (CODEC.DEC_COST_LOW_COUNT k) 1).event CODEC.INT_STAT_COST_LOW_EV).markPage (indexOf r.page) 4 (s2.engineIndex k)
              else s2
            .next (after s3)
  | _, _ => .next s

/-- STATE of a decoder after a write of its ENABLE or of CODEC's: a block in progress goes on, DISABLING where the decoder is off; with
none, a decoder that is off is IDLE (R330, R550). -/
def State.decGate (s : State) (k : Nat) : State :=
  if (s.decoder k).block.isSome then s.setDecState k (if s.decOn k then 1 else 4)
  else if s.decOn k then s else s.setDecState k 0

/-- A write of CODEC's CTRL: the block disables each decoder, and enables it again (R336, R550). -/
def State.codecGate (s : State) : State := s.each (List.range 6) State.decGate

/-- A write of a decoder's ENABLE (R330, R550). -/
def State.decEnable (s : State) (k : Nat) (v : Bool) : State :=
  (s.setFld (CODEC.DEC_CTRL_ENABLE k) (bit v)).decGate k

/-- FLUSH (R330). -/
def State.decFlush (s : State) (k : Nat) : State :=
  if !s.on (CODEC.DEC_CTRL_ENABLE k) && decide (s.decState k = 0) then s.setDecoder k { s.decoder k with runs := [], cur := none, entry := 0 }
  else s.setFld (CODEC.DEC_STATUS_RUN_REFUSED k) 1

/-- DECODER_DISABLE (R330). -/
def execDecoderDisable (k : Nat) (s : State) : Result := if k < 6 then .next (s.decEnable k false) else .next s

/-- DECODER_FLUSH (R330). -/
def execDecoderFlush (k : Nat) (s : State) : Result := if k < 6 then .next (s.decFlush k) else .next s

/-! ## Encoders (R331–R335) -/

/-- Bytes whose content nothing states: free values. -/
def State.freeBytes (s : State) (n : Nat) : List Nat × State :=
  ((List.range n).map (fun i => Config.freeByte (s.freeCtr + i) % 256), { s with freeCtr := s.freeCtr + n })

/-- SIZE a destination needs for `count` lines in blocks of `per` lines (R332). -/
def encNeed (count per dots bpd : Nat) : Nat := 16 + 40 * ceilDiv count per + count * dots * bpd / 8

/-- The job that encoder `k`'s registers describe. -/
def State.encRegs (s : State) (k : Nat) : EncJob := {
  src := s.fld (CODEC.ENC_HANDLES_SRC k), dst := s.fld (CODEC.ENC_HANDLES_DST k), offset := s.fld (CODEC.ENC_SRC_OFFSET_OFFSET k)
  first := s.fld (CODEC.ENC_FIRST_LINE k), count := s.fld (CODEC.ENC_COUNT_LINES k), dots := s.fld (CODEC.ENC_GEOM_DOTS k)
  bpd := s.fld (CODEC.ENC_GEOM_BPD k), per := s.fld (CODEC.ENC_CFG_BLOCK_LINES k), level := s.fld (CODEC.ENC_CFG_LEVEL k)
  station := s.fld (CODEC.ENC_CFG_STATION k), stored := s.on (CODEC.ENC_CFG_FORCE_STORED k), blocks := s.on (CODEC.ENC_CFG_SRC_KIND k) }

/-- The job encoder `k` was last started with. -/
def State.encJob (s : State) (k : Nat) : EncJob := Tbl.get (fun _ => ⟨0, 0, 0, 0, 0, 0, 0, 0, 0, 0, false, false⟩) s.encJobs k

/-- Starts job `j` on encoder `k`: its registers stand as its GO found them, and its objects are held (R331). -/
def State.encStart (s : State) (k : Nat) (j : EncJob) : State :=
  let s1 := { s with encJobs := Tbl.put (fun _ => ⟨0, 0, 0, 0, 0, 0, 0, 0, 0, 0, false, false⟩) s.encJobs k j }
  ((s1.setFld (CODEC.ENC_STATUS_STATE k) 1).hold j.src).hold j.dst

/-- Original bytes of a job, and the SIZE its destination needs. -/
def EncJob.bytes (j : EncJob) : Nat := j.count * j.dots * j.bpd / 8
def EncJob.need (j : EncJob) : Nat := encNeed j.count j.per j.dots j.bpd

/-- The content of a failed job's destination is undefined, all SIZE bytes of it (R335). -/
def State.encSpoil (s : State) (h : Nat) : State :=
  if s.objCheck h 0 0 true false = 0 then
    match s.dataObj h with
    | some o =>
      let (l, u) := s.freeBytes o.size
      u.objWrite h 0 l
    | none => s
  else s

/-- Job `j` ends FAULTED with `kind` (R335); one that ran lets its objects go. -/
def State.encFault (s : State) (k kind : Nat) (j : EncJob) (forced : Bool) : State :=
  let s0 := if s.fld (CODEC.ENC_STATUS_STATE k) = 1 then (s.encSpoil j.dst).drop j.src |>.drop j.dst else s.encSpoil j.dst
  let s2 := (s0.setFld (CODEC.ENC_STATUS_STATE k) 3).setFld (CODEC.ENC_STATUS_FAULT_KIND k) kind
  (s2.event CODEC.INT_STAT_ENC_DONE).raise 9 (8 + k) k forced

/-- The fault kind with which job `j` ends at its GO, 0 if none (R332, R335). -/
def State.encRefuse (s : State) (j : EncJob) : Nat :=
  let lines := max 1 (min j.per j.count)
  let src := if j.blocks then kindOf j.src == 9 || kindOf j.src == 10 else kindOf j.src == 12 || kindOf j.src == 13 || kindOf j.src == 14
  let dst := kindOf j.dst == 9 || kindOf j.dst == 10
  if !src || !dst || decide (s.objCheck j.src 0 0 false false = 1) || decide (s.objCheck j.dst 0 0 false false = 1) then 3
  else if s.objCheck j.src 0 0 false false = 8 ∨ s.objCheck j.dst 0 0 false false = 8 then 6
  else if decide (j.per = 0) || decide (32 < j.per) || !geometryOk j.dots j.bpd lines (lines * j.dots * j.bpd / 8) || decide (9 < j.level) then 1
  else if s.objCheck j.dst 0 j.need false false ≠ 0 then 2
  else if !j.blocks && decide (s.objCheck j.src j.offset j.bytes false false ≠ 0) then 2
  else 0

/-- ENCODER_GO (R331, R332, R335, R336): a job starts, is refused while one runs, or fails at once. With CODEC off nothing starts
(assumption 91). -/
def State.encGo (s : State) (k : Nat) : State :=
  if s.fld (CODEC.ENC_STATUS_STATE k) = 1 then s.setFld (CODEC.ENC_STATUS_REFUSED k) 1
  else if !s.on CODEC.CTRL_ENABLE then s
  else
    let j := s.encRegs k
    let s1 := ((s.setFld (CODEC.ENC_STATUS_BLOCKS k) 0).setFld (CODEC.ENC_STATUS_FAULT_KIND k) 0).setFld (CODEC.ENC_OUT_LEN_BYTES k) 0
    if s1.encRefuse j = 0 then s1.encStart k j else s1.encFault k (s1.encRefuse j) j false

/-- ENCODER_GO. -/
def execEncoderGo (k : Nat) (s : State) : Result := if k < 2 then .next (s.encGo k) else .next s

/-- The original lines of a transcoding job from entry `n` on, until `count` lines: or the fault kind of R335. -/
def Obj.sourceLines (o : Obj) (dots bpd : Nat) : Nat → Nat → Nat → Option Nat → Nat ⊕ (Nat × List Nat)
  | _, _, 0, next => .inr (next.getD 0, [])
  | 0, _, _, _ => .inl 4
  | fuel + 1, n, count, next =>
    if o.readKind 0 16 ≠ 0 then .inl (if o.evicted then 6 else 5)
    else if o.blockCount ≤ n then .inl 4
    else
      let expect := match next with
        | some x => x
        | none => (parseHeader (o.read (o.entry n).offset 32)).firstLine
      match o.block n dots bpd expect with
      | .bad 6 => .inl 5
      | .bad 7 => .inl 6
      | .bad _ => .inl 4
      | .good h x _ =>
        if count < h.lines then .inl 1
        else match o.sourceLines dots bpd fuel (n + 1) (count - h.lines) (some (expect + h.lines)) with
          | .inl e => .inl e
          | .inr (_, rest) => .inr (expect, x ++ rest)

/-- A stored block (R313, R333). -/
def storedBlock (o : List Nat) (first dots lines bpd : Nat) : List Nat :=
  headerBytes 0 o.length o.length first dots lines bpd (blockCost (blockTime (o.length / 8)) o.length) (crc32c o) ++ o

/-- One block of a job (R333, R334): stored, or as the token stream that stands for its original bytes, geometry and level gives it. A
stream that R316 does not allow for them is none an encoder writes: the block is then stored. -/
def encBlock (dots bpd level : Nat) (stored : Bool) (first lines : Nat) (o : List Nat) : List Nat :=
  if stored then storedBlock o first dots lines bpd
  else (encodeBlock o (Config.encTokens dots bpd level o) first dots lines bpd false).getD (storedBlock o first dots lines bpd)

/-- The blocks of a job: original bytes cut every `per` lines, each with its first line and line count. -/
def encBlocks (dots bpd per level : Nat) (stored : Bool) : Nat → Nat → Nat → List Nat → List (Nat × Nat × List Nat)
  | 0, _, _, _ => []
  | fuel + 1, first, count, orig =>
    if count = 0 then []
    else
      let n := min per count
      let w := n * (dots * bpd / 8)
      (first, n, encBlock dots bpd level stored first n (orig.take w)) :: encBlocks dots bpd per level stored fuel (first + n) (count - n) (orig.drop w)

/-- The token streams of a job's blocks, of original bytes `orig` (R334). -/
def encStreams (dots bpd per level : Nat) : Nat → Nat → List Nat → List (List Nat)
  | 0, _, _ => []
  | fuel + 1, count, orig =>
    if count = 0 then []
    else
      let w := min per count * (dots * bpd / 8)
      Config.encTokens dots bpd level (orig.take w) :: encStreams dots bpd per level fuel (count - min per count) (orig.drop w)

/-- The bytes of a whole object: header, index, blocks at 8-byte aligned offsets (R263, R331). -/
def sepImage (station : Nat) (l : List (Nat × Nat × List Nat)) : List Nat :=
  let head := leBytes 4 l.length ++ leBytes 4 (l.foldl (fun a x => a + x.2.1) 0) ++ [station, 0, 0, 0, 0, 0, 0, 0]
  let pad := fun (x : List Nat) => x ++ List.replicate ((8 - x.length % 8) % 8) 0
  let base := 16 + 8 * l.length
  let rec offsets : Nat → List (Nat × Nat × List Nat) → List Nat
    | _, [] => []
    | a, x :: t => (leBytes 4 a ++ leBytes 3 x.1 ++ [x.2.1]) ++ offsets (a + (x.2.2.length + 7) / 8 * 8) t
  let body := l.map (fun x => x.2.2)
  head ++ offsets base l ++ (body.dropLast.flatMap pad) ++ body.getLastD []

/-- The first line and the original bytes of job `j`, or the fault kind its source gives (R331, R335). -/
def State.encSource (s : State) (j : EncJob) : Nat ⊕ (Nat × List Nat) :=
  match s.dataObj j.src with
  | none => .inl 3
  | some o =>
    if j.blocks then o.sourceLines j.dots j.bpd (j.count + 1) j.offset j.count none
    else if o.evicted then .inl 6
    else if o.hits j.offset j.bytes then .inl 5
    else .inr (j.first, o.read j.offset j.bytes)

/-- Job `j` ends DONE: its destination holds the object of blocks `l` (R263, R331, R332). -/
def State.encDone (s : State) (k : Nat) (j : EncJob) (l : List (Nat × Nat × List Nat)) : State :=
  let image := sepImage j.station l
  let s1 := ((s.objWrite j.dst 0 image).drop j.src).drop j.dst
  let s2 := ((s1.setFld (CODEC.ENC_STATUS_STATE k) 2).setFld (CODEC.ENC_STATUS_BLOCKS k) (min 0xFFFF l.length)).setFld (CODEC.ENC_OUT_LEN_BYTES k) image.length
  s2.event CODEC.INT_STAT_ENC_DONE

/-- The token streams that encoder `k` finds for its job: none where it stores every block, or its source fails (R333, R334). -/
def State.encFinds (s : State) (k : Nat) : List (List Nat) :=
  let j := s.encJob k
  match s.encSource j with
  | .inl _ => []
  | .inr (_, orig) => if j.stored then [] else encStreams j.dots j.bpd j.per j.level j.count j.count orig

/-- A running job to its end (R331–R335): done, or faulted. -/
def State.encEnd (s : State) (k : Nat) : State :=
  let j := s.encJob k
  match s.encSource j with
  | .inl kind => s.encFault k kind j false
  | .inr (first, orig) =>
    if s.objCheck j.dst 0 0 true false ≠ 0 then s.encFault k 6 j false
    else s.encDone k j (encBlocks j.dots j.bpd j.per j.level j.stored j.count first j.count orig)

end Sys2Proof.Machine
end

