-- ==== Sys2Proof/Machine/CoreCtl.lean ====
section
/-!
DEFINITION. Starting, halting, re-initialising and inspecting a core, the asynchronous exception and the breakpoint
(R208, R211–R216).
-/

namespace Sys2Proof.Machine

/-- The lowest bit of `x` that is set. -/
def lowestBit (x : Nat) : Nat := ((List.range 64).find? (fun i => x.testBit i)).getD 0

/-- The GAUGE_FAULT exception entry: the wait is left, EPC is the next instruction or the wait instruction (R205, R207, R208). -/
def State.takeGaugeFault (s : State) (n : Nat) : State :=
  let s1 := s.leaveWait n
  s1.enterHandler n 7 (lowestBit (s.core n).gfault) (s1.core n).pc true

/-- GAUGE_FAULT_EXCEPTION (R208). -/
def execGaugeFaultException (core : Nat) (s : State) : Result :=
  .next (if s.coreRuns core && (s.core core).faultDue then s.takeGaugeFault core else s)

/-- BREAKPOINT_HIT (R213): the core halts before it executes the instruction at ADDR. -/
def execBreakpointHit (core : Nat) (s : State) : Result :=
  .next (if s.coreRuns core && decide ((s.core core).wait = .none) && !(s.core core).faultDue && s.atBreakpoint core then
    s.haltCore core 3 else s)

/-- A RUN request; ignored by a running core (R211). -/
def State.runCore (s : State) (n : Nat) : State :=
  if n < 34 ∧ s.fabric ∧ (s.core n).halted then
    s.setCore n { s.core n with halted := false, halting := false, firstInstr := true }
  else s

/-- CORE_RUN (R211). -/
def execCoreRun (core : Nat) (s : State) : Result := .next (s.runCore core)

/-- A halt request: a wait is abandoned at once, an instruction completes first (R212). -/
def State.haltRequest (s : State) (n : Nat) : State :=
  if s.coreRuns n then
    let s1 := s.leaveWait n
    s1.setCore n { s1.core n with halting := true }
  else s

/-- CORE_HALT_REQ (R212). -/
def execCoreHaltReq (core : Nat) (s : State) : Result := .next (s.haltRequest core)

/-- Removes every entry of core `n` and the requests the calendar has not accepted (R214, R225). -/
def State.clearCalendar (s : State) (n : Nat) : State :=
  { s with gc := { s.gc with
      entries := s.gc.entries.filter (fun p => match p.2 with
        | some e => decide (e.owner ≠ n)
        | none => false)
      reqs := s.gc.reqs.filter (fun r => match r with
        | .arm e => (match s.entry e with
          | some x => decide (x.owner ≠ n)
          | none => true)
        | .disarm o _ => decide (o ≠ n)
        | .hostArm .. => true) } }

/-- REINIT of a halted core (R210, R214): registers, control registers and pc at reset, entries removed, mailbox empty, wake flag
clear; the range, the memory and the posted object writes stay. -/
def State.reinitCore (s : State) (n : Nat) : State :=
  if n < 34 ∧ s.fabric ∧ (s.core n).halted then
    let c := s.core n
    let s1 := (s.clearCalendar n).setCore n { Core.reset with
      calBase := c.calBase, calCount := c.calCount, haltReason := c.haltReason, mem := c.mem, stale := c.stale,
      writes := c.writes }
    (s1.setFld (SCRIBER.CORE_CTRL_DISARM_ON_HALT n) 0).setFld (SCRIBER.CORE_CTRL_BREAK_HALT n) 0
  else s

/-- DEBUG_REGISTER_WRITE (R215, R216): a write of COREn_DBG_LO commits DBG_HI:DBG_LO to the selected register of a halted core;
elsewhere it is discarded and logged. -/
def execDebugRegisterWrite (core value : Nat) (s : State) : Result :=
  if 34 ≤ core ∨ !s.fabric then .next s
  else
    let r := s.fld (SCRIBER.CORE_DBG_SEL_REG core)
    let lost := s.logRo (SCRIBER.CORE_DBG_LO core)
    .next (if !(s.core core).halted then lost
      else if 0 < r ∧ r < 0x20 then s.setG core r (BitVec.ofNat 32 value)
      else if 0x20 ≤ r ∧ r < 0x28 then
        s.setP core (r - 0x20) (BitVec.ofNat 64 (value % 2 ^ 32 + (s.reg (SCRIBER.CORE_DBG_HI core)).toNat * 2 ^ 32))
      else if 0x100 ≤ r ∧ !crReadOnly (r - 0x100) then s.crPut core (r - 0x100) (value % 2 ^ 32)
      else lost)

/-- The register that DBG_SEL names, without side effects (R216). -/
def State.debugValue (s : State) (n : Nat) : Nat :=
  let r := s.fld (SCRIBER.CORE_DBG_SEL_REG n)
  if r < 0x20 then (s.gr n r).toNat
  else if r < 0x28 then (s.pr n (r - 0x20)).toNat
  else if 0x100 ≤ r then (s.crGet n (r - 0x100)).getD 0
  else 0

/-- DEBUG_REGISTER_READ (R215, R216): answers the low half and latches the high half; a running core's reads zero. -/
def execDebugRegisterRead (core : Nat) (s : State) : Result :=
  if 34 ≤ core ∨ !s.fabric then .next s
  else if !(s.core core).halted then .next (s.answer [0])
  else
    let v := s.debugValue core
    .next ((s.setReg (SCRIBER.CORE_DBG_HI core) (BitVec.ofNat 32 (v / 2 ^ 32))).answer [v % 2 ^ 32])

end Sys2Proof.Machine
end

