-- ==== Sys2Proof/Machine/Gauge.lean ====
section
/-!
DEFINITION. Gauges: position stamps, the edge side of the tracking loops, faults and held queues, virtual and remote gauges,
captures (R148–R170).
The rate and the error that an edge's arrival gives are measured and come with the edge; the loop that filters them is described only by
its bandwidth and its damping (R150). Assumption 12.
-/

namespace Sys2Proof.Machine

/-- Positions are 64-bit (R149). -/
def posMod : Nat := 2 ^ 64

/-- The signed difference V − P modulo 2^64 (R149). -/
def posDiff (v p : Nat) : Int := sext 64 (v + posMod - p % posMod)

/-- A position plus a signed amount, wrapped. -/
def posAdd (p : Nat) (d : Int) : Nat := wrap 64 ((p : Int) + d)

/-! ## Status of any gauge -/

/-- Is gauge `n`'s queue held? -/
def State.gaugeHeld (s : State) (n : Nat) : Bool := s.on (GAUGE.G_STATUS_HELD n)

/-- LOCKED of a gauge that is not virtual (R151, R162, R167). -/
def State.baseLocked (s : State) (n : Nat) : Bool :=
  s.gaugeOn n &&
  (if isBeam n then s.on (CLOCK.SYN_STATUS_LOCKED (n - 16))
   else if isRemote n then (s.gauge n).stamped && (s.gauge n).srcLocked
   else s.on (GAUGE.G_STATUS_LOCKED n))

/-- COASTING of a gauge that is not virtual (R154, R162). -/
def State.baseCoasting (s : State) (n : Nat) : Bool :=
  if isBeam n then s.on (CLOCK.SYN_STATUS_COASTING (n - 16)) else s.on (GAUGE.G_STATUS_COASTING n)

/-- The source gauges of a definition. -/
def VirtualDef.sources (d : VirtualDef) : List Nat := if d.bEn then [d.a, d.b] else [d.a]

/-- LOCKED of gauge `n`: a virtual gauge is locked while all of its sources are (R165). -/
def State.gaugeLocked (s : State) (n : Nat) : Bool :=
  if isVirtual n then
    s.gaugeOn n && (match s.virtual (n - 32) with
      | none => false
      | some d => d.sources.all s.baseLocked)
  else s.baseLocked n

/-- COASTING of gauge `n`: a virtual gauge coasts while any source does (R165). -/
def State.gaugeCoasting (s : State) (n : Nat) : Bool :=
  if isVirtual n then
    (match s.virtual (n - 32) with
      | none => false
      | some d => d.sources.any s.baseCoasting)
  else s.baseCoasting n

/-- The entries armed on gauge `n`, with their numbers. -/
def State.entriesOn (s : State) (n : Nat) : List (Nat × Entry) :=
  s.gc.entries.filterMap (fun p => match p.2 with
    | some e => if e.gauge = n ∧ !e.requested then some (p.1, e) else none
    | none => none)

/-! ## Crossings -/

/-- Is the entry in the forward group of its gauge (R176)? -/
def Entry.forward (e : Entry) : Bool := decide (e.dir = 1) || (decide (e.dir = 3) && e.below)

/-- Does a move of its gauge from `v0` to `v1` cross the entry in its direction (R174)? -/
def Entry.crosses (e : Entry) (v0 v1 : Nat) : Bool :=
  let d0 := posDiff v0 e.pos
  let d1 := posDiff v1 e.pos
  if e.dir = 1 ∨ (e.dir = 3 ∧ e.below) then decide (d0 < 0) && decide (0 ≤ d1)
  else if e.dir = 2 then decide (0 < d0) && decide (d1 ≤ 0)
  else decide (d1 < 0)

/-- Marks the entries of gauge `n` that a move crosses. -/
def State.markCrossed (s : State) (n v0 v1 : Nat) : State :=
  { s with gc := { s.gc with entries := s.gc.entries.map (fun p => match p.2 with
      | some e => if e.gauge = n ∧ !e.requested ∧ !e.inserting ∧ !e.crossed ∧ e.crosses v0 v1 then (p.1, some { e with crossed := true }) else p
      | none => p) } }

/-- Sets a gauge value without crossing anything (R158, R166, R154). -/
def State.jumpGauge (s : State) (n v : Nat) : State :=
  s.setGauge n { s.gauge n with value := v % posMod, edgeVal := v % posMod }

/-- The value of a definition (R165). -/
def State.virtualValue (s : State) (d : VirtualDef) : Nat :=
  wrap 64 (mulCoef (sext 64 (s.gauge d.a).value) d.c1 +
    (if d.bEn then mulCoef (sext 64 (s.gauge d.b).value) d.c2 else 0) + d.off)

/-- Gauge `n` alone moves to `v`; the entries crossed are marked. -/
def State.moveOne (s : State) (n v : Nat) : State :=
  let g := s.gauge n
  (s.markCrossed n g.value (v % posMod)).setGauge n { g with value := v % posMod }

/-- The virtual gauges with source `n` follow it (R165). -/
def State.followers (s : State) (n : Nat) : List Nat :=
  (pick 16 (fun k => s.gaugeOn (32 + k) && (match s.virtual k with
    | some d => d.sources.contains n
    | none => false)))

/-- Gauge `n` moves to `v`, and the virtual gauges over it with it; a disabled gauge holds its value (R148). -/
def State.moveGauge (s : State) (n v : Nat) : State :=
  if !s.gaugeOn n then s
  else
    let s1 := s.moveOne n v
    s1.each (s1.followers n) (fun t k => match t.virtual k with
      | some d => t.moveOne (32 + k) (t.virtualValue d)
      | none => t)

/-- A sync event moves a beam-detect gauge to the next whole count, which it counts from on (R162). -/
def State.syncGauge (s : State) (n : Nat) : State :=
  if !s.gaugeOn n then s
  else
    let v := wrap 64 (((sext 64 (s.gauge n).value) / 65536 + 1) * 65536)
    (s.setGauge n { s.gauge n with edgeVal := v, fwd := true }).moveGauge n v

/-- A preset or a homing sets gauge `n` to `v` in one jump; the virtual gauges over it move with it (R158, R165, R166). -/
def State.presetGauge (s : State) (n v : Nat) : State :=
  let s1 := s.jumpGauge n v
  s1.each (s1.followers n) (fun t k => match t.virtual k with
    | some d => t.moveOne (32 + k) (t.virtualValue d)
    | none => t)

/-! ## Faults and held queues (R159, R160) -/

/-- The bit of GAUGE FAULT that gauge `n` sets (R180); none for beam-detect and reserved gauges. -/
def gaugeFaultBit (n : Nat) : Option Nat :=
  if n < 16 then some 0
  else if n = 22 ∨ n = 23 then some 1
  else if 24 ≤ n ∧ n < 27 then some 2
  else if 32 ≤ n ∧ n < 48 then some 3
  else if 48 ≤ n ∧ n < 64 then some 4
  else none

/-- The queues of gauge `n` are held (R160). -/
def State.holdGauge (s : State) (n : Nat) : State := s.setFld (GAUGE.G_STATUS_HELD n) 1

/-- Every core that owns an entry on gauge `n` gets its GFAULT bit (R160, R192). -/
def State.faultOwners (s : State) (n : Nat) : State :=
  s.each ((s.entriesOn n).map (fun p => p.2.owner)) (fun t c =>
    if c < 34 then t.setCore c { t.core c with gfault := withBit (t.core c).gfault n true } else t)

/-- FAULT_KIND takes the newest kind where a fault already stands, which the spec does not say (assumption 99). The fault of one gauge with its
hold, exceptions and the FB_LOST of the axes that take their angle from it (R496), without the virtual gauges over it. -/
def State.faultOne (s : State) (n kind : Nat) (forced : Bool) : State :=
  match gaugeFaultBit n with
  | none => s
  | some b =>
    let s1 := ((s.setFld (GAUGE.G_STATUS_FAULT_KIND n) kind).holdGauge n).faultOwners n
    let s2 := (s1.raise 3 b n forced).feedbackLost n
    if 24 ≤ n ∧ n < 27 then s2.mainsLost (n - 24) else s2

/-- Gauge `n` faults (R159, R160, R165): FAULT_KIND, queues held, its owners' exceptions, the raise; every virtual gauge over it
faults with SOURCE_FAULT. -/
def State.gaugeFault (s : State) (n kind : Nat) (forced : Bool) : State :=
  let s1 := s.faultOne n kind forced
  s1.each (s1.followers n) (fun t k => t.faultOne (32 + k) 6 forced)

/-! ## Edges -/

/-- Gauges whose lock and coast are not kept by a tracking loop of their own (R162, R165, R167). -/
def looplessGauges : List Nat := (List.range 6).map (· + 16) ++ (List.range 32).map (· + 32)

/-- LOCK_EV, UNLOCK_EV and COAST_EV of the gauges without a loop, whose state follows their synthesizer, sources or stamps, after a
command that began in `was` (R180). -/
def State.gaugeEvents (s was : State) : State :=
  let up := looplessGauges.any (fun n => !was.gaugeLocked n && s.gaugeLocked n)
  let down := looplessGauges.any (fun n => was.gaugeLocked n && !s.gaugeLocked n)
  let coast := looplessGauges.any (fun n => !was.gaugeCoasting n && s.gaugeCoasting n)
  let s1 := if up then s.event GAUGE.INT_STAT_LOCK_EV else s
  let s2 := if down then s1.event GAUGE.INT_STAT_UNLOCK_EV else s1
  if coast then s2.event GAUGE.INT_STAT_COAST_EV else s2

/-- BW_SHIFT in force (R150, R180). -/
def State.bwShift (s : State) (n : Nat) : Nat := max 3 (min 12 (s.fld (GAUGE.G_TRACK_BW_SHIFT n)))

/-- The loop's rate after an edge, a 32-bit number (R150). -/
def State.loopRate (s : State) (n err rate : Nat) : Nat :=
  Config.loopRate (s.bwShift n) (s.fld (GAUGE.G_RATE_RATE n)) rate err % 2 ^ 32

/-- Below MIN_RATE in 1/16 count per ms (R153); RATE is 20.12 counts per ms. -/
def State.isStill (s : State) (n rate : Nat) : Bool :=
  decide ((sext 32 rate).natAbs < 256 * s.fld (GAUGE.G_LIMITS_MIN_RATE n))

/-- STILL of an enabled gauge with a loop follows its rate; a gauge that is still stands at its last edge (R153). -/
def State.stillNow (s : State) (n : Nat) : State :=
  if s.gaugeOn n && (isEncoder n || isAux n || isMains n) then
    let still := s.isStill n (s.fld (GAUGE.G_RATE_RATE n))
    let s1 := s.setFld (GAUGE.G_STATUS_STILL n) (bit still)
    if still then s1.moveGauge n (s1.gauge n).edgeVal else s1
  else s

/-- Counts an edge toward lock (R151). -/
def State.countEdge (s : State) (n : Nat) (good : Bool) : State :=
  if good then
    let k := min 256 (s.fld (GAUGE.G_STATUS_LOCK_COUNT n) + 1)
    let s1 := s.setFld (GAUGE.G_STATUS_LOCK_COUNT n) k
    if k = 256 ∧ !s.on (GAUGE.G_STATUS_LOCKED n) then (s1.setFld (GAUGE.G_STATUS_LOCKED n) 1).event GAUGE.INT_STAT_LOCK_EV else s1
  else
    let s1 := s.setFld (GAUGE.G_STATUS_LOCK_COUNT n) 0
    if s.on (GAUGE.G_STATUS_LOCKED n) then (s1.setFld (GAUGE.G_STATUS_LOCKED n) 0).event GAUGE.INT_STAT_UNLOCK_EV else s1

/-- The tracking loop takes an edge (R150–R154): `err` is its arrival error in 1/256 of the predicted interval, `rate` the rate its
arrival gives. An edge during a coast ends it from the frozen state; LOCK_COUNT then stays as it was, which the spec does not say
(assumption 99). -/
def State.loopEdge (s : State) (n err rate : Nat) : State :=
  let g := s.gauge n
  if s.on (GAUGE.G_STATUS_COASTING n) then s.setFld (GAUGE.G_STATUS_COASTING n) 0
  else
    let free := decide (g.edges < 2) || s.on (GAUGE.G_STATUS_STILL n)
    let s1 := s.setGauge n { g with edges := min 2 (g.edges + 1) }
    let s2 := s1.countEdge n (free || decide (err ≤ s.fld (GAUGE.G_TRACK_LOCK_TOL n)))
    let r := s.loopRate n err rate
    (s2.setFld (GAUGE.G_RATE_RATE n) r).setFld (GAUGE.G_STATUS_STILL n) (bit (s.isStill n r))

/-- The value steps by `d` from the last edge's value; the estimate is at the edge. -/
def State.stepGauge (s : State) (n : Nat) (d : Int) : State :=
  let g := s.gauge n
  let v := posAdd g.edgeVal d
  (s.setGauge n { g with edgeVal := v, fwd := decide (0 ≤ d) }).moveGauge n v

/-- Quadrature levels in forward order, A in bit 0 (R155). -/
def quadNext (ab : Nat) : Nat := if ab = 0 then 1 else if ab = 1 then 3 else if ab = 3 then 2 else 0

/-- The high-water mark of RAWn in the expected direction begins where RAWn stands (R157). -/
def State.markHigh (s : State) (n : Nat) : State := s.setGauge n { s.gauge n with high := s.sfld (GAUGE.RAW_RAW n) }

/-- DIR_EXPECT is written: a direction newly named begins a mark of its own (R157). -/
def State.dirExpect (s : State) (n v : Nat) : State :=
  let s1 := s.setFld (GAUGE.G_CFG_DIR_EXPECT n) v
  if s.fld (GAUGE.G_CFG_DIR_EXPECT n) = v then s1 else s1.markHigh n

/-- The high-water check of R157: how far RAWn, which wraps, stands beyond the mark or back from it. DIR_EXPECT 0b11 is reserved and taken
as no direction (assumption 99). -/
def State.checkReversal (s : State) (n : Nat) : State :=
  let dir := s.fld (GAUGE.G_CFG_DIR_EXPECT n)
  let lim := s.fld (GAUGE.G_LIMITS_REV_LIMIT n)
  let d := sext 32 (wrap 32 (s.sfld (GAUGE.RAW_RAW n) - (s.gauge n).high))
  let ahead := if dir = 1 then d else -d
  if ¬ (dir = 1 ∨ dir = 2) then s
  else if 0 ≤ ahead then s.markHigh n
  else if lim ≠ 0 ∧ (lim : Int) < -ahead then s.gaugeFault n 3 false
  else s

/-- ENCODER_EDGE (R150–R157): a sample of A and B of encoder gauge `n` in which they changed. A disabled gauge counts nothing and follows
the levels. -/
def execEncoderEdge (n : Nat) (a b : Bool) (err rate : Nat) (s : State) : Result :=
  if !isEncoder n || !s.fabric then .next s
  else
    let g := s.gauge n
    let ab := bit a + 2 * bit b
    let s0 := s.setGauge n { g with ab := ab }
    if !s.gaugeOn n then .next s0
    else if ab = g.ab then .next s
    else if ab + g.ab = 3 then .next (s0.gaugeFault n 1 false)
    else
      let ahead := decide (quadNext g.ab = ab)
      let fwd := if s.on (GAUGE.G_CFG_SWAP_AB n) then !ahead else ahead
      let s1 := s0.setFld (GAUGE.RAW_RAW n) (wrap 32 (s.sfld (GAUGE.RAW_RAW n) + (if fwd then 1 else -1)))
      let d : Int := s.fld (GAUGE.G_SCALE_SCALE n)
      let s2 := (s1.loopEdge n err rate).stepGauge n (if fwd then d else -d)
      .next (((s2.checkReversal n).recheckReady).gaugeEvents s)

/-- INDEX_EDGE (R158): a rising edge of ENCn_Z latches RAWn, checks the period and may home the gauge; a disabled gauge latches alone. -/
def execIndexEdge (n : Nat) (s : State) : Result :=
  if !isEncoder n || !s.fabric then .next s
  else if !s.gaugeOn n then .next (s.setFld (GAUGE.INDEX_LATCH_LATCH n) (s.fld (GAUGE.RAW_RAW n)))
  else
    let raw := s.fld (GAUGE.RAW_RAW n)
    let p : Int := s.fld (GAUGE.G_CFG_INDEX_PERIOD n)
    let d := sext 32 (raw + 2 ^ 32 - s.fld (GAUGE.INDEX_LATCH_LATCH n))
    let s1 := (s.setFld (GAUGE.INDEX_LATCH_LATCH n) raw).setGauge n { s.gauge n with indexSeen := true }
    let s2 := if p ≠ 0 ∧ (s.gauge n).indexSeen ∧ ¬ ((d.natAbs : Int) - p).natAbs ≤ 1 then s1.gaugeFault n 4 false else s1
    .next (if s.on (GAUGE.G_CFG_Z_HOME n) ∧ s.entriesOn n = [] then (s2.presetGauge n 0).setFld (GAUGE.G_CFG_Z_HOME n) 0 else s2)

/-- The board drives GPIO ball `p` to a level (R61). -/
def State.setBall (s : State) (p : Nat) (level : Bool) : State :=
  { s with engine := { s.engine with gpioBall := withBit s.engine.gpioBall p level } }

/-- AUX_EDGE (R61, R148, R150, R151): a rising edge on AUXG0 or AUXG1, the balls GPIO20 and GPIO21, adds SCALE to gauge 22 or 23. -/
def execAuxEdge (n err rate : Nat) (s : State) : Result :=
  if ¬ (n = 22 ∨ n = 23) then .next s
  else
    let s0 := s.setBall (n - 2) true
    if !s.gaugeOn n ∨ !s.fabric then .next s0
    else .next ((((s0.loopEdge n err rate).stepGauge n (s.fld (GAUGE.G_SCALE_SCALE n))).recheckReady).gaugeEvents s)

/-- ZC_EDGE (R164): an edge of a zero-crossing input keeps the whole count even after a rising edge and odd after a falling one. -/
def execZcEdge (n : Nat) (rising : Bool) (err rate : Nat) (s : State) : Result :=
  if !isMains n || !s.gaugeOn n || !s.fabric then .next s
  else
    let g := s.gauge n
    let w := g.edgeVal / 2 ^ 16
    let k : Nat := if ((w + 1) % 2 = 0) = (rising = true) then 1 else 2
    let s1 := (s.loopEdge n err rate).stepGauge n ((((w + k) * 2 ^ 16 : Nat) : Int) - (g.edgeVal : Int))
    let r := s1.sfld (GAUGE.G_RATE_RATE n)
    let bad := decide (r * 1000 < 88 * 4096) || decide (132 * 4096 < r * 1000)
    let c := if bad then min 16 (g.outOfRange + 1) else 0
    let s2 := s1.setGauge n { s1.gauge n with outOfRange := c }
    .next (((if c = 16 ∧ g.outOfRange < 16 then s2.gaugeFault n 5 false else s2).recheckReady).gaugeEvents s)

/-- GAUGE_COAST_START (R154): the next edge is overdue by GAP_TOL; the rate freezes and the bound is lifted. -/
def execGaugeCoastStart (n : Nat) (s : State) : Result :=
  if !(isEncoder n || decide (n = 22) || decide (n = 23) || isMains n) || !s.gaugeOn n || s.on (GAUGE.G_STATUS_STILL n)
      || s.on (GAUGE.G_STATUS_COASTING n) then .next s
  else .next (((s.setFld (GAUGE.G_STATUS_COASTING n) 1).event GAUGE.INT_STAT_COAST_EV).gaugeEvents s)

/-- SIGNAL_LOST (R154, R160): no edge within 2 ms of the coast's start: the value returns to the last edge's, rate and lock go to 0,
the gauge faults and acquires again. -/
def execSignalLost (n : Nat) (s : State) : Result :=
  if !s.gaugeOn n || !s.on (GAUGE.G_STATUS_COASTING n) then .next s
  else
    let s1 := ((s.setFld (GAUGE.G_STATUS_COASTING n) 0).setFld (GAUGE.G_RATE_RATE n) 0).countEdge n false
    let s2 := (s1.setGauge n { s1.gauge n with value := (s1.gauge n).edgeVal, edges := 0 }).stillNow n
    let s3 := s2.each (s2.followers n) (fun t k => match t.virtual k with
      | some d => t.jumpGauge (32 + k) (t.virtualValue d)
      | none => t)
    .next (((s3.gaugeFault n 2 false).recheckReady).gaugeEvents s)

/-- REMOTE_STAMP (R167): a stamp of position, rate and lock reaches remote gauge 48 + `k`, advanced by the path latency. -/
def execRemoteStamp (k pos rate : Nat) (locked : Bool) (s : State) : Result :=
  let n := 48 + k
  if 16 ≤ k ∨ !s.gaugeOn n ∨ !s.on (GAUGE.RG_SRC_EN k) ∨ !s.linkUp then .next s
  else
    let adv := roundDiv (sext 32 rate * 16 * (s.fld (GAUGE.RG_LAT_LAT k) : Int)) 1000000
    let v := posAdd pos adv
    let s1 := (s.setFld (GAUGE.G_RATE_RATE n) rate).setFld (GAUGE.G_STATUS_LOCKED n) (bit locked)
    let s2 := s1.setGauge n { s1.gauge n with edgeVal := v, srcLocked := locked, stamped := true }
    .next ((s2.moveGauge n v).gaugeEvents s)

/-- REMOTE_LOST (R167): an enabled remote gauge has had no stamp for 2 ms, or never had one. -/
def execRemoteLost (k : Nat) (s : State) : Result :=
  let n := 48 + k
  if 16 ≤ k ∨ !s.gaugeOn n then .next s
  else
    let s1 := (s.setGauge n { s.gauge n with stamped := false, srcLocked := false }).setFld (GAUGE.G_STATUS_LOCKED n) 0
    .next ((s1.gaugeFault n 7 false).gaugeEvents s)

/-- RG_SRC_WRITE (R167, R168): a write of RGk_SRC; `crossing` is how many stamp streams the busiest hop of the path would carry,
`lat` the path latency measured at link training, ns. More than 32 streams refuse it. -/
def execRgSrcWrite (k value crossing lat : Nat) (s : State) : Result :=
  if 16 ≤ k ∨ !s.fabric then .next s
  else if value.testBit 8 ∧ 32 < crossing then .next (s.setFld GAUGE.CMD_STATUS_REFUSED 1)
  else .next ((s.setReg (GAUGE.RG_SRC k) (BitVec.ofNat 32 (value &&& 0x1FF))).setFld (GAUGE.RG_LAT_LAT k)
    (if value.testBit 8 then lat else 0))

/-! ## Presets and definitions (R165, R166) -/

/-- PRESET (R166): the gauge value becomes PRESET_HI:PRESET_LO; refused while entries are armed on it. -/
def execPreset (n : Nat) (s : State) : Result :=
  if 64 ≤ n ∨ !s.fabric then .next s
  else
    let s0 := s.setFld GAUGE.CMD_GAUGE n
    if s.entriesOn n ≠ [] then .next (s0.setFld GAUGE.CMD_STATUS_REFUSED 1)
    else .next (s0.presetGauge n (s.pair GAUGE.PRESET_LO GAUGE.PRESET_HI))

/-- May gauge `a` be a source: G0–G26 or G48–G63, enabled (R165)? -/
def State.sourceOk (s : State) (a : Nat) : Bool := (decide (a < 27) || isRemote a) && s.gaugeOn a

/-- The staged definition of virtual gauge 32 + `k`. -/
def State.staged (s : State) (k : Nat) : VirtualDef := {
  a := s.fld (GAUGE.VG_SRC_A k), bEn := s.on (GAUGE.VG_SRC_B_EN k), b := s.fld (GAUGE.VG_SRC_B k) % 64
  c1 := s.sfld (GAUGE.VG_C1_COEF k), c2 := s.sfld (GAUGE.VG_C2_COEF k)
  off := sext 64 (s.pair (GAUGE.VG_OFF_LO k) (GAUGE.VG_OFF_HI k)) }

/-- Commits the staged fields of virtual gauge 32 + `k` (R165, R166); answers whether it was applied. -/
def State.commitVirtual (s : State) (k : Nat) : Bool × State :=
  let d := s.staged k
  if s.entriesOn (32 + k) ≠ [] ∨ !d.sources.all s.sourceOk then (false, s.setFld GAUGE.CMD_STATUS_REFUSED 1)
  else
    let s1 := { s with gc := { s.gc with virtuals := Tbl.put (fun _ => none) s.gc.virtuals k (some d) } }
    (true, s1.jumpGauge (32 + k) (s1.virtualValue d))

/-- A commit by a write, an instruction or the page engine, and what follows the gauge's new lock (R21, R166, R180): answers whether it was
applied. -/
def State.vgCommit (s : State) (k : Nat) : Bool × State :=
  let r := s.commitVirtual k
  (r.1, (r.2.recheckReady).gaugeEvents s)

/-- VG_COMMIT (R166). -/
def execVgCommit (k : Nat) (s : State) : Result := if 16 ≤ k ∨ !s.fabric then .next s else .next (s.vgCommit k).2

/-! ## Taking entries of the calendar (R171, R175, R220) -/

/-- Generation last given to entry `e`. -/
def State.generation (s : State) (e : Nat) : Nat := Tbl.get (fun _ => 0) s.gc.gens e

/-- Is entry `e` free? -/
def State.entryFree (s : State) (e : Nat) : Bool := decide (s.entry e = none)

/-- The lowest free entry of core `n`'s range (R220). -/
def State.freeInRange (s : State) (n : Nat) : Option Nat :=
  let c := s.core n
  ((List.range c.calCount).find? (fun i => s.entryFree (c.calBase + i))).map (fun i => c.calBase + i)

/-- Does entry `e` lie outside every core's range (R220)? -/
def State.outsideRanges (s : State) (e : Nat) : Bool :=
  (List.range 34).all (fun n =>
    decide (e < (s.core n).calBase) || decide ((s.core n).calBase + (s.core n).calCount ≤ e))

/-- The entry the host's arm takes: the lowest free one outside every range. -/
def State.freeForHost (s : State) : Option Nat :=
  (List.range 8192).find? (fun e => s.entryFree e && s.outsideRanges e)

/-- Takes entry `e` for a request: its generation advances (R171). -/
def State.takeEntry (s : State) (e owner action arg gauge dir pos : Nat) (discard requested : Bool) : State :=
  let g := (s.generation e + 1) % 8
  let s1 := { s with gc := { s.gc with gens := Tbl.put (fun _ => 0) s.gc.gens e g } }
  s1.setEntry e (some {
    owner := owner, action := action, arg := arg, dir := dir, gauge := gauge, pos := pos, discard := discard, gen := g,
    seq := 0, requested := requested, inserting := !requested, below := false, crossed := false, late := false,
    resumed := false, doomed := false, engine := false })

/-- An entry is accepted: it takes its place in the order of acceptance and is being inserted, counted on the side it now lies
(R175, R176). -/
def State.acceptEntry (s : State) (e : Nat) (x : Entry) : State :=
  let s1 := { s with gc := { s.gc with seq := s.gc.seq + 1 } }
  s1.setEntry e (some { x with
    requested := false, inserting := true, seq := s.gc.seq, below := decide (posDiff (s.gauge x.gauge).value x.pos < 0) })

/-! ## Enabling and capture -/

/-- A gauge that has just been enabled (R151, R157, R164, R165, R167): it acquires from where it stands, its mark begins there; a virtual
gauge takes its definition's value, which may cross entries held on it (assumption 99), a remote one has no stamp yet. -/
def State.gaugeStart (s : State) (n : Nat) : State :=
  let g := s.gauge n
  let s1 := s.setGauge n { g with
    edges := 0, indexSeen := false, outOfRange := 0, high := s.sfld (GAUGE.RAW_RAW n), stamped := false, srcLocked := false
    edgeVal := if isMains n then g.value else g.edgeVal }
  if isVirtual n then
    match s1.virtual (n - 32) with
    | some d => s1.moveOne n (s1.virtualValue d)
    | none => s1
  else s1.stillNow n

/-- ENABLE of gauge `n` is written (R21, R148, R160): enabling starts acquisition; disabling ends lock and coast and holds the queues of a
gauge that has entries. -/
def State.gaugeEnable (s : State) (n : Nat) (on : Bool) : State :=
  if isReserved n then s
  else
    let was := s.on (GAUGE.G_CFG_ENABLE n)
    let s1 := s.setFld (GAUGE.G_CFG_ENABLE n) (bit on)
    if on && !was then (s1.gaugeStart n).gaugeEvents s
    else if !on && was then
      let s2 := ((s1.setFld (GAUGE.G_STATUS_LOCKED n) 0).setFld (GAUGE.G_STATUS_LOCK_COUNT n) 0).setFld (GAUGE.G_STATUS_COASTING n) 0
      let s3 := if s.on (GAUGE.G_STATUS_LOCKED n) then s2.event GAUGE.INT_STAT_UNLOCK_EV else s2
      ((if s3.entriesOn n ≠ [] then s3.holdGauge n else s3).recheckReady).gaugeEvents s
    else s1

/-- The latched value of capture unit `k`. -/
def State.capVal (s : State) (k : Nat) : Nat := Tbl.get (fun _ => 0) s.gc.capVal k

/-- CAPTURE_EDGE (R61, R170, R236): the source edge of capture unit `k` latches its gauge's value, marks an unread one overrun, and may
post a message; an edge on a GPIO ball is that ball's new level. -/
def execCaptureEdge (k : Nat) (rising : Bool) (s : State) : Result :=
  let e := s.fld (GAUGE.CAP_CFG_EDGE k)
  let s0 := if s.fld (GAUGE.CAP_CFG_INPUT k) = 0 then s.setBall (s.fld (GAUGE.CAP_CFG_PIN k)) rising else s
  if 16 ≤ k then .next s
  else if !s.fabric ∨ !e.testBit (if rising then 0 else 1) ∨ 2 ≤ s.fld (GAUGE.CAP_CFG_INPUT k) ∨
      (s.fld (GAUGE.CAP_CFG_INPUT k) = 1 ∧ 16 ≤ s.fld (GAUGE.CAP_CFG_PIN k)) then .next s0
  else
    let v := (s.gauge (s.fld (GAUGE.CAP_CFG_GAUGE k))).value
    let s1 := if s.gc.capUnread.testBit k then s0.setFld (GAUGE.CAP_CFG_OVERRUN k) 1 else s0
    let s2 := { s1 with gc := { s1.gc with
      capVal := Tbl.put (fun _ => 0) s1.gc.capVal k v, capUnread := withBit s1.gc.capUnread k true } }
    let s3 := s2.event GAUGE.INT_STAT_CAPTURE_EV
    let c := s.fld (GAUGE.CAP_CFG_MSG_CORE k)
    .next (if s.on (GAUGE.CAP_CFG_MSG_EN k) ∧ c < 34 then (s3.deliver c v (0x3D + s.position * 64 + k * 256)).2 else s3)

/-- CAP_POS_HI_READ (R170, R180): a read of CAPk_POS_HI answers it and marks the capture read. -/
def execCapPosHiRead (k : Nat) (s : State) : Result :=
  if 16 ≤ k ∨ !s.fabric then .next (s.answer [0])
  else .next ({ s with gc := { s.gc with capUnread := withBit s.gc.capUnread k false } }.answer [(s.reg (GAUGE.CAP_POS_HI k)).toNat])

end Sys2Proof.Machine
end

