-- ==== Sys2Proof/Machine/Fid.lean ====
section
/-!
DEFINITION. Facet identification (R162, R163).
-/

namespace Sys2Proof.Machine

/-- Identification that has measured nothing. -/
def FacetId.reset : FacetId := { ints := [], start := 0, sums := [], revs := 0 }

/-- Identification of station `k`. -/
def State.fid (s : State) (k : Nat) : FacetId := Tbl.get (fun _ => FacetId.reset) s.gc.fid k
def State.setFid (s : State) (k : Nat) (x : FacetId) : State :=
  { s with gc := { s.gc with fid := Tbl.put (fun _ => FacetId.reset) s.gc.fid k x } }

/-- Signature of facet `f`, 0.1 ppm. -/
def State.fsig (s : State) (k f : Nat) : Int :=
  if f % 2 = 0 then s.sfld (GAUGE.FID_SIG_SIG0 k (f / 2)) else s.sfld (GAUGE.FID_SIG_SIG1 k (f / 2))

/-- Identification starts again: nothing known, no run counted (R162, R163). -/
def State.fidRestart (s : State) (k : Nat) : State :=
  ((s.setFid k FacetId.reset).setFld (GAUGE.FID_STATUS_FACET_VALID k) 0).setFld (GAUGE.FID_STATUS_RUNS k) 0

/-- Deviations of a revolution's intervals from their mean, 0.1 ppm, to the nearest. -/
def deviations (ints : List Nat) : List Int :=
  let total : Nat := ints.foldl (· + ·) 0
  if total = 0 then ints.map (fun _ => (0 : Int))
  else ints.map (fun i => roundDiv (((i * ints.length : Nat) : Int) * 10000000 - (total : Int) * 10000000) total)

/-- The squared differences of a revolution for rotation `h`. -/
def State.mismatch (s : State) (k facets start h : Nat) (devs : List Int) : Nat :=
  ((List.range facets).map (fun i =>
    let d := devs.getD i 0 - s.fsig k ((start + i + h) % facets)
    (d * d).toNat)).foldl (· + ·) 0

/-- The interval of scan `n` of station `k`; the last of a revolution adds its sums (R163). -/
def State.fidInterval (s : State) (k n dt : Nat) : State :=
  if s.on (GAUGE.FID_STATUS_FACET_VALID k) then s
  else
    let x := s.fid k
    if 64 ≤ x.revs then s
    else
      let f := s.facets k
      let start := if x.ints = [] then n else x.start
      let l := x.ints ++ [dt]
      if l.length < f then s.setFid k { x with ints := l, start := start }
      else
        let d := deviations l
        s.setFid k { ints := [], start := 0, revs := x.revs + 1
                     sums := (List.range f).map (fun h => x.sums.getD h 0 + s.mismatch k f start h d) }

/-- A facet interval that was not measured between two beam-detect edges drops the revolution being measured, which begins again with the
next interval: the spec does not say what a predicted sync event does to identification (assumption 99). -/
def State.fidBreak (s : State) (k : Nat) : State := s.setFid k { s.fid k with ints := [] }

/-- FACET_ID_RUN_END (R163): after 64 revolutions the two smallest sums decide; four runs without a result raise FACET_ID_FAIL and
end the search until a restart. -/
def execFacetIdRunEnd (k : Nat) (s : State) : Result :=
  let x := s.fid k
  if 6 ≤ k ∨ x.revs < 64 ∨ s.on (GAUGE.FID_STATUS_FACET_VALID k) then .next s
  else
    let hs := List.range (s.facets k)
    let best := hs.foldl (fun b h => if x.sums.getD h 0 < x.sums.getD b 0 then h else b) 0
    let second := (hs.filter (fun h => decide (h ≠ best))).foldl (fun m h => match m with
      | none => some (x.sums.getD h 0)
      | some v => some (min v (x.sums.getD h 0))) none
    let m := max 2 (s.fld (GAUGE.FID_CTRL_MARGIN k))
    let lo := x.sums.getD best 0
    let won := match second with
      | some v => decide (lo < v) && decide (m * lo ≤ v)
      | none => false
    if won then
      .next ((((s.setFid k FacetId.reset).setFld (GAUGE.FID_STATUS_FACET_OFFSET k) best).setFld (GAUGE.FID_STATUS_FACET_VALID k) 1).event
        GAUGE.INT_STAT_FACET_EV)
    else
      let runs := s.fld (GAUGE.FID_STATUS_RUNS k)
      if runs < 3 then .next ((s.setFid k FacetId.reset).setFld (GAUGE.FID_STATUS_RUNS k) (runs + 1))
      else .next (s.raise 3 5 k false)

/-- ASSUME (R163). -/
def execAssume (k : Nat) (s : State) : Result :=
  if 6 ≤ k ∨ !s.fabric then .next s
  else .next ((((s.setFid k FacetId.reset).setFld (GAUGE.FID_STATUS_FACET_OFFSET k) 0).setFld (GAUGE.FID_STATUS_FACET_VALID k) 1).event
    GAUGE.INT_STAT_FACET_EV)

/-- RESTART (R163). -/
def execRestart (k : Nat) (s : State) : Result :=
  if 6 ≤ k ∨ !s.fabric then .next s else .next (s.fidRestart k).recheckReady

end Sys2Proof.Machine
end

