-- ==== Sys2Proof/Machine/GraverOps.lean ====
section
/-!
DEFINITION. A Graver's geometry and tables, the pages and lines of a frame, dot selection, look-up-table sets, the CTRL stream and the
frame's words (R366–R371, R374, R388–R398, R400, R408–R416).
-/

namespace Sys2Proof.Machine

/-! ## Geometry and tables (R374, R381, R406) -/

def State.emitters (s : State) (k : Nat) : Nat := min 40 (max 8 (s.fld (GRAVER.GEOM_EMITTERS k)))
def State.window (s : State) (k : Nat) : Nat := min (min 32 (s.emitters k)) (max 4 (s.fld (GRAVER.GEOM_WINDOW k)))
def State.wTarget (s : State) (k : Nat) : Nat := min (s.emitters k - s.window k) (s.fld (GRAVER.GEOM_W_TARGET k))
def State.dots (s : State) (k : Nat) : Nat := s.fld (CODEC.DEC_FORMAT_DOTS k)
def State.bank (s : State) (k : Nat) : Nat := s.fld (GRAVER.BANK_ACTIVE k)

/-- Bits per dot as DECs_FORMAT holds them (R336). -/
def bpdOf (code : Nat) : Nat := code

/-- Whole-dot offset of emitter `e` in bank `b`. -/
def State.ofs (s : State) (k b e : Nat) : Nat := s.fld (GRAVER.EMIT_OFS k b e)

/-- SLOTS of a bank (R374). -/
def State.slots (s : State) (k b : Nat) : Nat := s.dots k + (List.range 40).foldl (fun m e => max m (s.ofs k b e)) 0

/-- BOW of segment `g`, held to −96 … +95 (R388, R406). -/
def State.bow (s : State) (k b g : Nat) : Int :=
  max (-96) (min 95 (sext 8 (bits (s.fld (GRAVER.BOW_BOW k b (g / 4))) (8 * (g % 4)) 8)))

/-- The distinct values of BOW in a bank. -/
def State.bows (s : State) (k b : Nat) : List Int := ((List.range 64).map (s.bow k b)).eraseDups

/-- The largest BOW, at least 0 (R453). -/
def State.bowMax (s : State) (k : Nat) : Nat := ((s.bows k (s.bank k)).foldl max 0).toNat

/-! ## Lines and pages of a frame (R367, R370, R389) -/

/-- Does a frame read a line from `base` to `base + lines − 1` (R388, R389)? -/
def State.reads (s : State) (k : Nat) (f : Frame) (base : Int) (lines : Nat) : Bool :=
  let i0 := max 0 (f.low - f.first)
  (s.bows k f.bank).any (fun b =>
    decide (f.first + i0 + b < base + lines) && decide (base ≤ f.first + (s.window k : Int) - 1 + b))

/-- Entries of the page queue with a line in the frame. -/
def State.framePages (s : State) (k : Nat) (f : Frame) : List QEntry :=
  (s.gv k).queue.filter (fun e => s.reads k f e.base e.lines)

/-- The released content of station line `l`: none where it is not in the Plate. -/
def State.plateLine (s : State) (k : Nat) (l : Int) : Option PlateLine :=
  match Tbl.get (fun _ => none) (s.gv k).lines (l % 384).toNat with
  | some x => if x.line = l then some x else none
  | none => none

/-- The lines of an entry that a frame reads, each once. -/
def State.linesRead (s : State) (k : Nat) (f : Frame) (e : QEntry) : List Int :=
  let i0 := (max 0 (f.low - f.first)).toNat
  (((s.bows k f.bank).flatMap (fun b => (List.range (s.window k)).filterMap (fun (i : Nat) =>
    let l := f.first + (i : Int) + b
    if i0 ≤ i ∧ e.base ≤ l ∧ l < e.base + e.lines then some l else none))).eraseDups)

/-- Lines of an entry that the frame reads and no decoder has released. -/
def State.linesMissing (s : State) (k : Nat) (f : Frame) (e : QEntry) : List Int :=
  (s.linesRead k f e).filter (fun l => decide (s.plateLine k l = none))

/-- The dot value stored for dot `d` of a line of `bpd` bits per dot, first dot in the low bits (R309). -/
def dotOf (bytes : List Nat) (bpd d : Nat) : Nat := bits (bytes.getD (d * bpd / 8) 0) (d * bpd % 8) bpd

/-- DOT_MAP (R388). -/
def State.dotMap (s : State) (k bpd v : Nat) : Nat :=
  if bpd = 4 then v
  else bits (s.reg (GRAVER.DOT_MAP k)).toNat (4 * (if bpd = 2 then v else if v = 0 then 0 else 3)) 4

/-- The value of window position `i` in slot `t` of a frame (R388, R370, R386, R391). -/
def State.nibble (s : State) (k : Nat) (f : Frame) (i t : Nat) : Nat :=
  let e := f.w + i
  let o := s.ofs k f.bank e
  let n := s.dots k
  if t < o ∨ n ≤ t - o then 0
  else
    let d := t - o
    let l := f.first + (i : Int) + s.bow k f.bank (d * 64 / n)
    if f.first + (i : Int) < f.low ∨ l ∈ f.holes then 0
    else if !(s.gv k).queue.any (fun q => f.pages.contains q.page && decide (q.base ≤ l) && decide (l < q.base + q.lines)) then 0
    else match s.plateLine k l with
      | none => 0
      | some p => if p.blank then s.dotMap k (bpdOf (s.fld (CODEC.DEC_FORMAT_BPD k))) 0
          else s.dotMap k (bpdOf (s.fld (CODEC.DEC_FORMAT_BPD k))) (dotOf p.bytes (bpdOf (s.fld (CODEC.DEC_FORMAT_BPD k))) d)

/-! ## Look-up-table sets (R408–R415) -/

/-- Health of emitter `e` of a frame: 0 GOOD, 1 DEAD, 2 DEAD_SUB, 3 CAPPED. -/
def Frame.healthOf (f : Frame) (e : Nat) : Nat := f.health.getD e 0

/-- Is emitter `e` substituted in this frame (R410)? -/
def State.substituted (s : State) (k : Nat) (f : Frame) (e : Nat) : Bool :=
  decide (f.healthOf e = 2) && decide (s.window k + 1 ≤ e) && s.on (GRAVER.EXPO_CFG_SUB_EN k) && decide (f.w ≤ e) &&
    decide (e < f.w + s.window k)

/-- Is it dead without a substitute? -/
def State.gapAt (s : State) (k : Nat) (f : Frame) (e : Nat) : Bool :=
  (decide (f.healthOf e = 1) || decide (f.healthOf e = 2)) && !s.substituted k f e

/-- Is emitter `e` clamped (R420)? -/
def State.clamped (s : State) (k e : Nat) : Bool :=
  if e < 32 then s.fbit (GRAVER.CLAMP_LO_CLAMPED k) e else s.fbit (GRAVER.CLAMP_HI_CLAMPED k) (e - 32)

/-- Is the whole array capped or clamped? -/
def State.arrayCapped (s : State) (k : Nat) : Bool :=
  s.on (GRAVER.GUARD_STATUS_T_CAPPED k) || s.on (GRAVER.GUARD_STATUS_ARRAY_CLAMPED k)

/-- Is emitter `e` beside a dead emitter of the window (R412)? -/
def State.boosted (s : State) (k : Nat) (f : Frame) (e : Nat) : Bool :=
  let inside := fun x => decide (f.w ≤ x) && decide (x < f.w + s.window k)
  s.on (GRAVER.EXPO_CFG_BOOST_EN k) && inside e && decide (f.healthOf e ≠ 1) && decide (f.healthOf e ≠ 2) &&
    ((decide (1 ≤ e) && inside (e - 1) && s.gapAt k f (e - 1)) || (inside (e + 1) && s.gapAt k f (e + 1)))

/-- The set of emitter `e` in a frame: 3 cap, 1 boost, 2 derate, 0 nominal (R414). -/
def State.setOf (s : State) (k : Nat) (f : Frame) (e : Nat) : Nat :=
  if f.healthOf e ≠ 0 ∨ s.arrayCapped k ∨ s.clamped k e then 3
  else if s.boosted k f e then 1
  else if s.on (GRAVER.GUARD_STATUS_TEMP_VALID k) && decide (s.fld (GRAVER.T_WARN_LIM_T_WARN k) ≤ s.fld (GRAVER.GUARD_STATUS_TEMP k)) &&
      s.on (GRAVER.EXPO_CFG_DERATE_EN k) then 2
  else 0

/-- Does the window hold two adjacent emitters with a gap (R413)? -/
def State.emitterGap (s : State) (k : Nat) (f : Frame) : Bool :=
  (List.range (s.window k - 1)).any (fun i => s.gapAt k f (f.w + i) && s.gapAt k f (f.w + i + 1))

/-- Driver address of a look-up-table entry (R401). -/
def lutAddr (band set e v : Nat) : Nat := 0x4000 + ((band * 4 + set) * 40 + e) * 16 + v

/-- WIDTH and LEVEL of an entry as the Graver's copy holds it; nothing for v = 0 (R415, R416). -/
def Grav.lut (g : Grav) (band set e v : Nat) : Nat × Nat :=
  if v = 0 then (0, 0)
  else
    let w := Tbl.get (fun _ => 0) g.luts (lutAddr band set e v)
    (min 256 (bits w 0 9), bits w 16 8)

/-- SETPOINT of emitter `e` (R411). -/
def Grav.setpoint (g : Grav) (e : Nat) : Nat := bits (Tbl.get (fun _ => 0) g.setpoints e) 0 12

/-! ## Control blocks (R400, R401) -/

/-- A control block goes out: counted, recorded, and the Graver's copies follow (R416). -/
def State.sendCtrl (s : State) (k : Nat) (x : Nat × Nat) : State :=
  let g := s.gv k
  let g1 := if 0x40 ≤ x.1 ∧ x.1 < 0x68 then { g with setpoints := Tbl.put (fun _ => 0) g.setpoints (x.1 - 0x40) x.2 }
    else if 0x4000 ≤ x.1 ∧ x.1 < 0x6800 then { g with luts := Tbl.put (fun _ => 0) g.luts x.1 x.2 } else g
  let s1 := (s.setGv k g1).send (.ctrl k x.1 x.2)
  s1.setFld (GRAVER.CTRL_STATUS_SENT k) ((s.fld (GRAVER.CTRL_STATUS_SENT k) + 1) % 2 ^ 16)

/-- Do the lanes of station `k` carry blocks at all (R396)? While PLL 2 is not locked they are in electrical idle (R131). -/
def State.lanesOn (s : State) (k : Nat) : Bool :=
  (s.station k).enabled && s.on (GRAVER.LANE_CFG_LANES_ON k) && s.on (CLOCK.PLL_STATUS_LOCKED 2)

/-- Control blocks that may go out now (R400): none on idle lanes (R396) or within a frame, at most 2,048 between two headers. -/
def State.ctrlRoom (s : State) (k : Nat) : Nat :=
  let g := s.gv k
  if !s.lanesOn k || g.frames.any (fun f => f.started && !f.complete) then 0
  else 2048 - (if g.frames = [] then 0 else g.ctrlSince)

/-- Sends the waiting blocks that may go, in the order of R400: switch writes, pushed writes, the stream. -/
def State.drainCtrl (s : State) (k : Nat) : State :=
  let g := s.gv k
  let n := s.ctrlRoom k
  if n = 0 then s else
  let a := g.switchQ.take n
  let b := g.ctrlQ.take (n - a.length)
  let c := g.stream.take (n - a.length - b.length)
  let s1 := s.setGv k { g with
    switchQ := g.switchQ.drop a.length, ctrlQ := g.ctrlQ.drop b.length, stream := g.stream.drop c.length
    ctrlSince := (if g.frames = [] then 0 else g.ctrlSince) + a.length + b.length + c.length }
  let s2 := (a ++ b ++ c).foldl (fun t x => t.sendCtrl k x) s1
  let s3 := s2.setFld (GRAVER.CTRL_STATUS_QUEUED k) (s2.gv k).ctrlQ.length
  if g.building then s3.setFld (GRAVER.LUT_STATUS_SENT k) ((s.fld (GRAVER.LUT_STATUS_SENT k) + c.length) % 2 ^ 16) else s3

/-! ## The words of a frame (R397, R398) -/

/-- The header blocks of a frame, 32 bytes. -/
def State.frameHeader (s : State) (k : Nat) (f : Frame) : List Nat :=
  let sets := fun lo => leBytes 5 ((List.range 20).foldl (fun x i => x + f.sets.getD (lo + i) 0 * 4 ^ i) 0)
  [0x78] ++ leBytes 4 f.scan ++ [f.facet + 16 * bit f.blank + 32 * bit f.coasted, s.window k, f.w]
    ++ [0x79] ++ leBytes 2 (s.slots k f.bank) ++ sets 0
    ++ [0x7A] ++ sets 20 ++ [f.band, 0]
    ++ [0x7B] ++ leBytes 2 f.ctrl ++ [0, 0, 0, 0, 0]

/-- The 64-bit data words of a frame, padded to a multiple of four (R398). -/
def State.frameWords (s : State) (k : Nat) (f : Frame) : List Nat :=
  if f.blank then []
  else
    let w := s.window k
    let n := ceilDiv (s.slots k f.bank * 4 * w) 64
    (List.range ((n + 3) / 4 * 4)).map (fun j => (List.range 16).foldl (fun x q =>
      let p := 16 * j + q
      x + (if p / w < s.slots k f.bank then s.nibble k f (p % w) (p / w) else 0) * 16 ^ q) 0)

/-- CRC-32C of each lane's data words in block order. -/
def laneCrcs (words : List Nat) : List Nat :=
  (List.range 4).map (fun lane =>
    let mine := (List.range (words.length / 4)).map (fun j => words.getD (4 * j + lane) 0)
    if words = [] then 0 else crc32c (mine.flatMap (leBytes 8)))

/-- The dots of window position `i` of a frame, counted by value 0–15. -/
def State.dotCounts (s : State) (k : Nat) (f : Frame) (i : Nat) : List Nat :=
  let l := (List.range (s.slots k f.bank)).map (s.nibble k f i)
  (List.range 16).map (fun v => l.count v)

/-- Changes the frames of a Graver. -/
def State.setFrames (s : State) (k : Nat) (l : List Frame) : State := s.setGv k { s.gv k with frames := l }

/-- The pages of a list carry mark `m`, the station named (R461). -/
def State.markAll (s : State) (k : Nat) (l : List Nat) (m : Nat) : State :=
  s.each l (fun t i => t.markPage i m (t.engineIndex k))

/-- The pages of a list are spoiled with reason `c` at station `k`. -/
def State.spoilAll (s : State) (k : Nat) (l : List Nat) (c detail : Nat) : State :=
  s.each l (fun t i => t.spoilPage i c (t.engineIndex k) detail)

end Sys2Proof.Machine
end

