-- ==== Sys2Proof/Machine/Graver.lean ====
section
/-!
DEFINITION. The Gravers' commands: sync events and window decisions, frames, scans, page queues and control blocks
(R133, R137, R143–R146, R366–R406).
-/

namespace Sys2Proof.Machine

/-! ## Window decision (R380–R387) -/

/-- Is the drum gauge of station `k` locked or coasting, and neither faulted nor held (R387, R392)? -/
def State.drumOk (s : State) (k : Nat) : Bool :=
  let n := (s.station k).drumGauge
  (s.gaugeLocked n || s.gaugeCoasting n) && !s.gaugeHeld n

/-- Do frames run on station `k`: enabled, its synthesizer locked or coasting, PLATE on, and the engine not at its safe or reset
levels (R18, R387, R392, R407)? -/
def State.framesRun (s : State) (k : Nat) : Bool :=
  (s.station k).enabled && (s.on (CLOCK.SYN_STATUS_LOCKED k) || s.on (CLOCK.SYN_STATUS_COASTING k)) && s.on PLATE.STATUS_ENABLED &&
    decide (s.eng ≠ engSafe) && !s.tinder.outputsHeld

/-- The pending bank switch takes effect; a changed FINE queues every emitter's fine delay ahead of the frame (R381, R382). -/
def State.switchBank (s : State) (k : Nat) : State :=
  if !s.on (GRAVER.BANK_PENDING k) then s
  else
    let a := s.bank k
    let b := s.fld (GRAVER.BANK_NEXT k)
    let s1 := ((s.setFld (GRAVER.BANK_ACTIVE k) b).setFld (GRAVER.BANK_PENDING k) 0).event (GRAVER.INT_STAT_BANK_EV k)
    let es := List.range (s.emitters k)
    if es.any (fun e => decide (s.fld (GRAVER.EMIT_FINE k a e) ≠ s.fld (GRAVER.EMIT_FINE k b e))) then
      s1.setGv k { s1.gv k with switchQ := (s1.gv k).switchQ ++ es.map (fun e => (e, s.fld (GRAVER.EMIT_FINE k b e))) }
    else s1

/-- Facet of scan `n` (R163). -/
def State.facetOf (s : State) (k n : Nat) : Nat := (n + s.fld (GAUGE.FID_STATUS_FACET_OFFSET k)) % s.facets k

/-- The frequency offset that the Graver supplies for segment `g` of scan `n` with bank `b`, in ppm: its facet's magnification and the
segment's linearity step (R136, R380). -/
def State.ppmOffset (s : State) (k b n g : Nat) : Int :=
  (if s.on (GAUGE.FID_STATUS_FACET_VALID k) then s.sfld (GRAVER.FACET_MAG k b (s.facetOf k n)) else 0) + s.sfld (GRAVER.LIN_STEP k b g)

/-- Scan `n` begins with the offsets of bank `b`, each clamped to ±10,000 ppm: a feed-forward term beside FCW, so neither FCW nor a phase
error takes any of it (R136). A Graver that does not scan supplies none. -/
def State.feedForward (s : State) (k b n : Nat) : State :=
  let l := if s.on (GRAVER.STATUS_SCANNING k) then (List.range 64).map (s.ppmOffset k b n) else []
  let s1 := s.setSyn k { s.syn k with offsets := l.map (fun x => max (-10000) (min 10000 x)) }
  if l.any (fun x => decide (10000 < x.natAbs)) then (s1.setFld (CLOCK.SYN_STATUS_STEP_CLAMP k) 1).event CLOCK.INT_STAT_STEP_CLAMP_EV else s1

/-- The start delay of scan `n` with bank `b`, in 1/64 dot (R373). -/
def State.startDelay (s : State) (k b n : Nat) : Int :=
  (s.fld (GRAVER.START_BASE_DELAY k) : Int) +
    (if s.on (GAUGE.FID_STATUS_FACET_VALID k) then s.sfld (GRAVER.FACET_DELAY k b (s.facetOf k n)) else 0)

/-- Slot 0 of a scan with bank `b` whose sync event is at `t`, in 1/16 ns, not before 24 ns after it (R137, R373). -/
def State.slot0 (s : State) (k b n t : Nat) : Nat :=
  let fcw := (s.syn k).fcw
  let d := if fcw = 0 then 0 else (roundDiv (max 0 (s.startDelay k b n) * 2 ^ 48) (4 * fcw)).toNat
  t + max (24 * 16) d

/-- The predicted time of the next sync event (R133, R144). -/
def State.nextSync (s : State) (k : Nat) : Nat :=
  let y := s.syn k
  let f := s.facets k
  if s.on (CLOCK.SYN_STATUS_COASTING k) then y.predictSync f
  else predictEdge y.fcw f (s.period k) (y.syncs.getD (f - 1) (y.syncs.headD 0))

/-- LINE_SLIP: counted, raised, and marked on the given pages (R385, R386). -/
def State.lineSlip (s : State) (k : Nat) (pages : List Nat) : State :=
  ((s.bump (GRAVER.SLIP_COUNT_COUNT k) 1).raise (0x10 + k) 3 k false).markAll k pages 0

/-- WSTAT after a decision with window start `w` (R406). -/
def State.windowStats (s : State) (k w : Nat) : State :=
  let l := (w :: (s.gv k).ws).take 4096
  let r := l.take 256
  let (m, s1) := s.divFree (256 * r.foldl (· + ·) 0) r.length
  let s2 := s1.setGv k { s1.gv k with ws := l }
  let s3 := (s2.setFld (GRAVER.WSTAT_W_MAX k) (l.foldl max 0)).setFld (GRAVER.WSTAT_W_MIN k) (l.foldl min w)
  s3.setFld (GRAVER.WSTAT_W_ERR k) (wrap 16 ((m : Int) - 256 * (s.wTarget k : Int)))

/-- The check of R410: each substituted emitter of the last decision needs an advance within one line of W and a good substitute. -/
def State.checkSubs (s : State) (k : Nat) (a : Int) : State :=
  let g := s.gv k
  match g.frames.getLast? with
  | none => s.setGv k { g with subs := [] }
  | some f =>
    let w : Int := s.window k
    let bad := g.subs.filter (fun (e : Nat) =>
      decide (a < w - 1) || decide (w + 1 < a) || decide ((e : Int) < a) || decide (s.fld (GRAVER.HEALTH_HEALTH k ((e : Int) - a).toNat) ≠ 0))
    let s1 := s.setGv k { g with subs := [] }
    if bad = [] then s1
    else
      let hit := bad.flatMap (fun e => (s.bows k f.bank).flatMap (fun b =>
        (g.queue.filter (fun (q : QEntry) => decide (q.base ≤ f.first + ((e - f.w : Nat) : Int) + b) && decide (f.first + ((e - f.w : Nat) : Int) + b < q.base + q.lines))).map (fun (q : QEntry) => q.page)))
      (s1.raise (0x10 + k) 12 k false).markAll k hit.eraseDups 6

/-- NEXT follows n_next. -/
def State.setNext (s : State) (k : Nat) (n : Int) : State :=
  (s.setGv k { s.gv k with next := n }).setPair (GRAVER.NEXT_LO k) (GRAVER.NEXT_HI k) (wrap 48 n)

/-- A drum gauge that is not in order stops scanning: frame n + 1 is BLANK, writes no line and leaves the window where it stands
(R387, R392). -/
def State.blankFrame (s : State) (k : Nat) : State :=
  let g := s.gv k
  let n := (g.scan + 1) % 2 ^ 32
  let f : Frame := {
    scan := n, facet := s.facetOf k n, w := g.lastW, first := g.nf, low := g.next, row := g.lastRow, bank := s.bank k
    coasted := s.on (CLOCK.SYN_STATUS_COASTING k), suppressed := false, blank := true, sets := [], band := 0
    pages := [], commits := [], holes := [], ctrl := 0, started := false, complete := false
    health := (List.range 40).map (fun i => s.fld (GRAVER.HEALTH_HEALTH k i)), capped := false, clamped := false }
  let s1 := (s.setGv k { g with frames := g.frames ++ [f], pred := none, subs := [] }).setFld (GRAVER.STATUS_SCANNING k) 0
  (s1.setFld (GRAVER.SCAN_STATUS_FACET k) f.facet).setFld (GRAVER.SCAN_COUNT_SCAN_NO k) n

/-- The decision for frame n + 1 at the sync event of scan n, `x` being the drum gauge's value at the event and `t` its time
(R366, R381–R387, R408, R410). -/
def State.decideWindow (s : State) (k x t : Nat) : State :=
  if !s.framesRun k then (if s.on (GRAVER.STATUS_SCANNING k) then s.stopScan k else s)
  else if !s.drumOk k then (s.switchBank k).blankFrame k
  else
    let s1 := s.switchBank k
    let g := s1.gv k
    let n := (g.scan + 1) % 2 ^ 32
    let y : Int := sext 64 x + s1.sfld (GRAVER.REG_OFFSET_OFFSET k)
    let drum := (s1.station k).drumGauge
    -- scaled by 65,536 × 10⁶
    let now : Int := y * 1000000
    let dt : Int := (s1.nextSync k : Int) - (t : Int)
    let pred : Int := now + s1.sfld (GAUGE.G_RATE_RATE drum) * dt
    let r : Int := (2 * pred + 65536000000) / (2 * 65536000000)
    let e : Int := s1.emitters k
    let w : Int := s1.window k
    let starting := !s1.on (GRAVER.STATUS_SCANNING k)
    -- measured against the prediction for this scan
    let s2 := match g.pred with
      | some p =>
        let (v, u) := s1.divFreeInt (now - p) 256000000
        let u1 := u.setFld (GRAVER.PRED_ERR_ERR k) (wrap 32 v)
        if !starting && decide (s1.fld (GRAVER.PRED_TOL_TOL k) * 256000000 < (now - p).natAbs) then
          (match g.frames.head? with
           | some f => u1.lineSlip k ((u1.framePages k f).map (fun (x : QEntry) => x.page))
           | none => u1.lineSlip k [])
        else u1
      | none => s1
    let a : Int := if starting then w else r - g.lastRow
    let s3 := if starting then s2.setFld (GRAVER.STATUS_SCANNING k) 1 else s2.checkSubs k a
    let next := if starting then r + (s1.wTarget k : Int) else g.next
    let w0 : Int := next - r
    let wUsed : Int := max 0 (min (e - w) w0)
    let first : Int := r + wUsed
    let f : Frame := {
      scan := n, facet := s1.facetOf k n, w := wUsed.toNat, first := first, low := next, row := r, bank := s1.bank k
      coasted := s1.on (CLOCK.SYN_STATUS_COASTING k) || s1.gaugeCoasting drum, suppressed := false, blank := false, sets := [], band := 0
      pages := [], commits := [], holes := [], ctrl := 0, started := false, complete := false
      health := (List.range 40).map (fun i => s1.fld (GRAVER.HEALTH_HEALTH k i)), capped := false, clamped := false }
    let newNext : Int := if w0 < 0 then r + w else if e - w < w0 then max next (r + e) else next + w
    let s4 := s3.setGv k { s3.gv k with
      frames := (s3.gv k).frames ++ [f], pred := some pred, lastRow := r, lastW := wUsed.toNat
      subs := (List.range 40).filter (fun i => s1.substituted k f i) }
    let s5 := s4.setNext k newNext
    let s6 := if w0 < 0 ∨ e - w < w0 then
        s5.lineSlip k (((s5.gv k).queue.filter (fun (q : QEntry) => s5.reads k f q.base q.lines ||
          (decide (w0 < 0) && decide (next < q.base + q.lines) && decide (q.base < r)))).map (fun (q : QEntry) => q.page))
      else s5
    let s7 := ((s6.setFld (GRAVER.SCAN_STATUS_WSTART k) wUsed.toNat).setFld (GRAVER.SCAN_STATUS_FACET k) f.facet).setFld (GRAVER.SCAN_COUNT_SCAN_NO k) n
    let s8 := if starting then s7 else s7.setFld (GRAVER.SCAN_STATUS_ADVANCE k) (wrap 8 a)
    s8.windowStats k wUsed.toNat

/-! ## Sync events -/

/-- A sync event of scan n + 1's predecessor is taken at time `t`: the beam-detect gauge advances (R162), facet intervals are
measured, the synthesizer is re-phased to the scan's slot 0 and takes its offsets (R136, R137), in RUN_OUT the scan is suppressed
(R394), the next frame is decided (R383). The scan runs with the bank its own frame was decided with (R381). -/
def State.takeSync (s : State) (k t x : Nat) (real : Bool) : State :=
  let g := s.gv k
  let n := (g.scan + 1) % 2 ^ 32
  let prev := (s.syn k).syncs.getD 1 0
  let s1 := if decide (1 < (s.syn k).syncs.length) then (if real && !g.coasted then s.fidInterval k g.scan (t - prev) else s.fidBreak k) else s
  let s2 := s1.setGv k { s1.gv k with scan := n, syncTime := t, coasted := !real }
  let s3 := s2.syncGauge (16 + k)
  let s4 := s3.setFld (GRAVER.STATUS_BD_GATE k) 0
  let s5 := if s4.eng = engRunOut then
      s4.setFrames k (match (s4.gv k).frames with
        | f :: l => { f with suppressed := true } :: l
        | [] => [])
    else s4
  let b := match (s5.gv k).frames with
    | f :: _ => if f.scan = n then f.bank else s5.bank k
    | [] => s5.bank k
  let s6 := s5.feedForward k b n
  (s6.setSyn k { s6.syn k with slot0 := s6.slot0 k b n t }).decideWindow k x t

/-- A synthesizer that lost lock without privilege: identification starts again, scanning stops at the end of the scan
(R143, R162). -/
def State.syncLost (s : State) (k : Nat) : State := ((s.fidRestart k).stopScan k).recheckReady

/-- A station that coasts and has lost its privilege acquires again at the end of the scan in progress, which the next edge or predicted
event finds ended (R143). -/
def State.coastEnds (s : State) (k : Nat) : State :=
  if s.on (CLOCK.SYN_STATUS_COASTING k) && !s.privileged k then (s.synReacquire k).syncLost k else s

/-- COAST_EXPIRED (R145): laser enable low, an engine fault; the station has no coast privilege under the pages it holds, and acquires
again. -/
def State.coastExpire (s : State) (k : Nat) (forced : Bool) : State :=
  let s1 := (s.raise 2 (16 + k) k forced).laserEval k
  let s2 := (s1.setGv k { s1.gv k with lapsed := (s1.gv k).queue.any (·.committed) }).setFld (GRAVER.STATUS_PRIVILEGED k) 0
  (s2.synReacquire k).syncLost k

/-- BD_EDGE (R133, R134, R137, R143, R144, R162, R383): a beam-detect edge of station `k` at time `t` in 1/16 ns; `x` is the drum
gauge's value in the cycle of the edge. -/
def execBdEdge (k t x : Nat) (s : State) : Result :=
  if 6 ≤ k ∨ !s.fabric then .next s
  else match (s.coastEnds k).synEdge k t with
    | (.ignored, s1) => .next s1
    | (.lost, s1) => .next ((s1.syncLost k).gaugeEvents s)
    | (.sync, s1) => .next (((s1.takeSync k t x true).recheckReady).gaugeEvents s)

/-- BD_WINDOW_MISSED (R135, R144): no edge within WINDOW of the prediction; the gate has closed. -/
def execBdWindowMissed (k : Nat) (s : State) : Result :=
  if 6 ≤ k ∨ !s.fabric then .next s
  else
    let (again, s1) := (s.coastEnds k).synMissed k
    let s2 := s1.setFld (GRAVER.STATUS_BD_GATE k) 0
    .next ((if again then s2.syncLost k else s2.recheckReady).gaugeEvents s)

/-- PREDICTED_SYNC_EVENT (R144, R145): a coasting synthesizer takes its predicted sync event, or its coast expires: laser enable low,
an engine fault, and it acquires again. -/
def execPredictedSyncEvent (k x : Nat) (s : State) : Result :=
  if 6 ≤ k ∨ !s.on (CLOCK.SYN_STATUS_COASTING k) then .next s
  else if !s.privileged k then .next (s.coastEnds k)
  else
    let (expired, s1) := s.synPredicted k
    if expired then .next ((s1.coastExpire k false).gaugeEvents s)
    else .next (s1.takeSync k ((s1.syn k).syncs.headD 0) x false)

/-- BD_GATE_OPEN (R376): BD_LEAD dots before the predicted sync event, or while no edge has been seen and LASER_EN_s is high. -/
def execBdGateOpen (k : Nat) (s : State) : Result :=
  if k < 6 ∧ s.on (CLOCK.SYN_CTRL_ENABLE k) ∧ (s.station k).enabled ∧ ((s.syn k).edges ≠ 0 ∨ s.on (GRAVER.LASER_CTRL_LEVEL k)) then
    .next (s.setFld (GRAVER.STATUS_BD_GATE k) 1)
  else .next s

/-! ## Frames (R368, R388–R399, R406) -/

/-- Does every enabled station's synthesizer allow a commit (R146)? -/
def State.synsLocked (s : State) : Bool :=
  (List.range 6).all (fun k => !(s.station k).enabled ||
    (s.on (CLOCK.SYN_STATUS_LOCKED k) && !s.on (CLOCK.SYN_STATUS_COASTING k) && !s.on (CLOCK.SYN_STATUS_GATED k)))

/-- May a page commit with this frame of station `k` (R390, R417)? -/
def State.mayCommit (s : State) (k : Nat) (f : Frame) (e : QEntry) : Bool :=
  decide (s.eng = engRunning) && s.synsLocked && s.on (GRAVER.STATUS_DRV_READY k) && s.on (GRAVER.STATUS_LANES_UP k) &&
    s.on (GRAVER.GUARD_STATUS_LUT_VALID k) && decide (s.linesMissing k f e = []) && !f.blank &&
    (match s.pg e.page with
     | some p => decide (p.state = pgAdmitted) && !p.withdrawn
     | none => false)

/-- A page misses its commit (R390): PAGE_MISSED_EV, and it ends ABANDONED. R146 has a page stay ADMITTED while a synthesizer is not
locked; where its first frame begins all the same, R390 is followed (assumption 98). -/
def State.pageMissed (s : State) (k i : Nat) : State :=
  (((s.event (GRAVER.INT_STAT_PAGE_MISSED_EV k)).pullPage i k).abandonPage i 0x11 false).pageSettle

/-- Frames of a blank drum spoil every committed page of the station (R392). -/
def State.gaugeLost (s : State) (k : Nat) : State :=
  let l := ((s.gv k).queue.filter (·.committed)).map (·.page)
  if l = [] then s else (s.raise (0x10 + k) 5 k false).spoilAll k l 7 0

/-- Underruns of the committed pages a frame carries (R391). -/
def State.underruns (s : State) (k : Nat) (f : Frame) (l : List QEntry) : State × List Int :=
  let bad := l.filter (fun e => decide (s.linesMissing k f e ≠ []))
  let holes := bad.flatMap (s.linesMissing k f)
  if bad = [] then (s, [])
  else ((((s.bump (GRAVER.UNDERRUN_COUNT_COUNT k) holes.length).raise (0x10 + k) 0 k false).spoilAll k (bad.map (·.page)) 4 0), holes)

/-- Faults forced on the next frame (R32, R406): UNDERRUN, FRAME_ERR, DRV_STAT_LOST, LINE_SLIP, CTRL_ERR, GAUGE_LOST and LANE_LATE,
with the page effect of their class on the pages of the frame of scan `scan`; a forced LANE_LATE suppresses that scan. -/
def State.forcedFaults (s : State) (k scan : Nat) (pages : List Nat) : State :=
  let m := (s.gv k).forced
  if m = 0 then s
  else
    let s0 := s.setGv k { s.gv k with forced := 0 }
    s0.each (pick 7 (fun b => m.testBit b)) (fun t b =>
      let u := t.raise (0x10 + k) b k true
      let v := if b = 0 then u.spoilAll k pages 4 0 else if b = 1 then u.spoilAll k pages 5 0
        else if b = 3 then u.markAll k pages 0 else if b = 4 then u.markAll k pages 5
        else if b = 5 then u.spoilAll k (((u.gv k).queue.filter (fun e => e.committed || pages.contains e.page)).map (·.page)) 7 0 else if b = 6 then
          State.setFrames (u.spoilAll k pages 6 0) k ((u.gv k).frames.map (fun x => if x.scan = scan then { x with suppressed := true } else x))
        else u
      v.laserEval k)

/-- Uncorrectable words of Plate in lines `met` of a frame (R371): the lines read 0, PLATE's fault bit of the station is raised, and the
pages that hold them are spoiled. -/
def State.plateErrors (s : State) (k scan : Nat) (met : List Int) (forced : Bool) : State :=
  if met = [] then s
  else
    let u := s.setFrames k ((s.gv k).frames.map (fun x => if x.scan = scan then { x with holes := met ++ x.holes } else x))
    (u.raise 0xB k k forced).spoilAll k (((u.gv k).queue.filter (fun e => met.any (fun l => decide (e.base ≤ l) && decide (l < e.base + e.lines)))).map (·.page)) 8 0

/-- FRAME_SEND_START (R368, R371, R388–R392, R397, R399, R400, R412–R414): the control blocks that wait go first, then the next frame
begins: the Plate window moves, commit conditions and underruns are judged, the header's sets and band are fixed. -/
def execFrameSendStart (k ce : Nat) (bad : List Int) (s : State) : Result :=
  if 6 ≤ k ∨ !s.lanesOn k ∨ !s.on PLATE.STATUS_ENABLED then .next s
  else match (s.gv k).frames.find? (fun f => !f.started) with
    | none => .next s
    | some f0 =>
      let s1 := s.drainCtrl k
      let f := { f0 with blank := f0.blank || !s1.drumOk k, ctrl := s1.fld (GRAVER.CTRL_STATUS_SENT k) }
      -- the first new line of a frame; a frame that writes none leaves N_f
      let nf := if f0.blank then f.first else max f.first f.low
      let wb := nf - 96
      let s2 := (s1.setGv k { s1.gv k with nf := nf, ctrlSince := 0 }).setPair (PLATE.WB_LO k) (PLATE.WB_HI k) (wrap 48 wb)
      let s3 := if f.blank then s2.gaugeLost k else s2
      let es := if f0.blank then [] else s3.framePages k f
      let first := es.filter (fun e => !e.committed && decide (s3.pgState e.page < pgCommitted))
      let commits := first.filter (s3.mayCommit k f)
      let missed := first.filter (fun e => !s3.mayCommit k f e)
      let carried := es.filter (fun e => e.committed || !decide (s3.pgState e.page < pgCommitted))
      let s4 := s3.each (missed.map (·.page)) (fun t i => t.pageMissed k i)
      let (s5, holes) := if f.blank then (s4, []) else s4.underruns k f carried
      let pages := if f.blank then [] else (carried ++ commits).map (·.page)
      let f1 := { f with
        started := true, pages := pages, commits := commits.map (·.page), holes := holes, band := s5.fld (GRAVER.GUARD_STATUS_BAND k)
        sets := (List.range 40).map (s5.setOf k f), capped := s5.on (GRAVER.GUARD_STATUS_T_CAPPED k)
        clamped := s5.on (GRAVER.GUARD_STATUS_ARRAY_CLAMPED k) || decide (s5.fld (GRAVER.GUARD_STATUS_CLAMPS k) ≠ 0) }
      let s6 := s5.setFrames k ((s5.gv k).frames.map (fun x => if x.scan = f.scan then f1 else x))
      let s7 := if f1.capped then s6.markAll k pages 1 else s6
      let s8 := if f1.clamped then s7.markAll k pages 2 else s7
      let s9 := if s8.emitterGap k f1 && !f1.blank then (s8.raise (0x10 + k) 13 k false).markAll k pages 7 else s8
      -- a forced Plate error makes the first line read 0 (R371, R407)
      let s10 := if (s9.gv k).plateForced && decide (pages ≠ []) then
          State.plateErrors (s9.setGv k { s9.gv k with plateForced := false }) k f.scan [f1.first] true
        else s9
      let met := if f.blank then [] else bad.filter (fun l => ((carried ++ commits).flatMap (s5.linesRead k f)).contains l)
      let s11 := (s10.plateErrors k f.scan met false).bump (PLATE.ECC_CE_COUNT k) ce
      .next (s11.forcedFaults k f.scan pages)

/-! ## Guards (R418–R420) -/

/-- Width sum of `counts` dots by value, in 1/256 dot. -/
def Grav.widths (g : Grav) (band set e : Nat) (counts : List Nat) : Nat :=
  (List.range 16).foldl (fun a v => a + counts.getD v 0 * (g.lut band set e v).1) 0

/-- Energy numerator of the same dots: WIDTH × LEVEL × SETPOINT. -/
def Grav.power (g : Grav) (band set e : Nat) (counts : List Nat) : Nat :=
  (List.range 16).foldl (fun a v => a + counts.getD v 0 * (g.lut band set e v).1 * (g.lut band set e v).2 * g.setpoint e) 0

/-- Duty sum of emitter `e` over the current bin and the 63 before. -/
def Grav.dutySum (g : Grav) (e : Nat) : Nat := (Tbl.get (fun _ => []) g.duty e).foldl (· + ·) 0

/-- Sets or releases the clamp of an emitter. -/
def State.setClamp (s : State) (k e : Nat) (b : Bool) : State :=
  let s1 := if e < 32 then s.setFbit (GRAVER.CLAMP_LO_CLAMPED k) e b else s.setFbit (GRAVER.CLAMP_HI_CLAMPED k) (e - 32) b
  s1.setFld (GRAVER.GUARD_STATUS_CLAMPS k) ((List.range 40).countP (s1.clamped k))

/-- A clamp begins: CLAMP and CLAMP_EV (R420). -/
def State.clampBegins (s : State) (k : Nat) : State := (s.event (GRAVER.INT_STAT_CLAMP_EV k)).raise (0x10 + k) 11 k false

/-- Duty judged for every emitter: DUTY_LIMIT / 65,536 against Σ WIDTH/256 over 4,096 × DOTS (R418, R420). -/
def State.judgeDuty (s : State) (k : Nat) (boundary : Bool) : State :=
  let g := s.gv k
  let lim := s.fld (GRAVER.DUTY_LIMIT_LIMIT k) * 256 * 4096 * s.dots k
  s.each (List.range (s.emitters k)) (fun t e =>
    let d := g.dutySum e * 65536
    if !t.clamped k e && decide (lim < d) then (t.setClamp k e true).clampBegins k
    else if t.clamped k e && boundary && decide (8 * d < 7 * lim) then (t.setClamp k e false).event (GRAVER.INT_STAT_RELEASE_EV k)
    else t)

/-- Array energy judged (R419, R420). -/
def State.judgeEnergy (s : State) (k : Nat) : State :=
  let total := (s.gv k).energy.foldl (fun a x => a + x.2.2) 0
  let unit := 256 * 255 * 4095
  let (v, s1) := s.divFree total unit
  let s2 := s1.setFld (GRAVER.ENERGY_NOW_ENERGY k) (min v 0xFFFFFFFF)
  let lim := s.fld (GRAVER.ARRAY_LIMIT_LIMIT k) * unit
  let was := s.on (GRAVER.GUARD_STATUS_ARRAY_CLAMPED k)
  if !was && decide (lim < total) then (s2.setFld (GRAVER.GUARD_STATUS_ARRAY_CLAMPED k) 1).clampBegins k
  else if was && decide (8 * total < 7 * lim) then (s2.setFld (GRAVER.GUARD_STATUS_ARRAY_CLAMPED k) 0).event (GRAVER.INT_STAT_RELEASE_EV k)
  else s2

/-- FRAME_COMPLETE (R397, R398, R410, R418–R420): the frame in progress has left the lanes; its dots, and those a substitute owes for
the frame before, count against duty and energy. -/
def execFrameComplete (k : Nat) (s : State) : Result :=
  if 6 ≤ k ∨ !s.lanesOn k then .next s
  else match (s.gv k).frames.find? (fun f => f.started && !f.complete) with
    | none => .next s
    | some f =>
      let g := s.gv k
      let words := s.frameWords k f
      let win := if f.blank then [] else (List.range (s.window k)).map (fun i => (f.w + i, s.dotCounts k f i))
      let lit := win.filter (fun x => decide (f.healthOf x.1 ≠ 1) && decide (f.healthOf x.1 ≠ 2))
      let adv : Int := f.row - ((g.fired.map (·.row)).getD f.row)
      -- the frame before this one, fired or still waiting, is the one whose dots are owed
      let prevRow := ((g.frames.filter (fun x => decide (x.scan + 1 = f.scan))).head?.map (·.row)).getD (f.row - adv)
      let a := f.row - prevRow
      let w : Int := s.window k
      let subs := if a < w - 1 ∨ w + 1 < a then [] else
        g.owed.filterMap (fun x => if (x.1 : Int) < a then none else
          let e' := ((x.1 : Int) - a).toNat
          if f.healthOf e' = 0 then some (e', x.2) else none)
      let all := lit ++ subs
      let add := fun (m : Tbl (List Nat)) (x : Nat × List Nat) =>
        let v := g.widths f.band (f.sets.getD x.1 0) x.1 x.2
        Tbl.put (fun _ => []) m x.1 (match Tbl.get (fun _ => []) m x.1 with
          | h :: t => (h + v) :: t
          | [] => if v = 0 then [] else [v])
      let duty := all.foldl add g.duty
      let power := all.foldl (fun p x => p + g.power f.band (f.sets.getD x.1 0) x.1 x.2) 0
      let at' := s.slot0 k f.bank f.scan (s.nextSync k)
      let energy := ((at', f.scan, power) :: g.energy).filter (fun x => decide (at' ≤ x.1 + 16000000))
      let boundary := decide (g.binFrames + 1 = 64)
      let owed := win.filter (fun x => s.substituted k f x.1)
      let s1 := s.setGv k { g with
        frames := g.frames.map (fun x => if x.scan = f.scan then { x with complete := true } else x)
        duty := duty, energy := energy, owed := owed, binFrames := if boundary then 0 else g.binFrames + 1 }
      let s2 := s1.send (.frame k (s.frameHeader k f) words (laneCrcs words))
      let s3 := (s2.judgeDuty k boundary).judgeEnergy k
      .next (if boundary then
          s3.setGv k { s3.gv k with duty := (s3.gv k).duty.filterMap (fun x =>
            let l := (0 :: x.2).take 64
            if l.all (· == 0) then none else some (x.1, l)) }
        else s3)

/-! ## Scans (R13, R14, R375, R390, R393, R399) -/

/-- A page commits (R13, R390): COMMITTED, COMMIT_EV, and its entry on every station stands committed. -/
def State.commitPage (s : State) (k i : Nat) : State :=
  if s.pgState i = pgAdmitted then
    let n := ((List.range 6).filter (fun j => (s.gv j).queue.any (fun e => decide (e.page = i)))).length
    let s1 := (s.mapPg i (fun p => { p with state := pgCommitted, imaging := n })).event (GRAVER.INT_STAT_COMMIT_EV k)
    (s1.each (List.range 6) (fun t j =>
      if (t.gv j).queue.any (fun e => decide (e.page = i)) then
        t.setQueue j ((t.gv j).queue.map (fun e => if e.page = i then { e with committed := true } else e))
      else t)).holdP1
  else s

/-- The entry of page `i` leaves station `k` (R393): PAGE_DONE_EV; the last station makes the page IMAGED. -/
def State.pageDone (s : State) (k i : Nat) : State :=
  let s1 := (s.setQueue k ((s.gv k).queue.filter (fun e => decide (e.page ≠ i)))).event (GRAVER.INT_STAT_PAGE_DONE_EV k)
  s1.mapPg i (fun p => { p with imaging := p.imaging - 1, state := if p.imaging ≤ 1 ∧ p.state = pgCommitted then pgImaged else p.state })

/-- SCAN_START (R132, R375, R390, R393, R394, R399, R403): slot 0 of the scan in progress. Its frame fires unless it is suppressed, has
not left the lanes, or the outputs are gated. A scan counts as coasted, for the page mark, where its sync event was predicted: R144 does
not say whether one with a real edge within a coast does (assumption 98). Pages commit at the strobe; entries whose last line it carries leave. -/
def execScanStart (k : Nat) (s : State) : Result :=
  if 6 ≤ k then .next s
  else match (s.gv k).frames with
    | [] => .next s
    | f :: rest =>
      if f.scan ≠ (s.gv k).scan then .next s
      else
        let late := !f.complete
        let s0 := s.setGv k { s.gv k with
          frames := rest
          energy := (s.gv k).energy.map (fun x => if x.2.1 = f.scan then (s.slot0 k f.bank f.scan (s.gv k).syncTime, x.2) else x) }
        let s1 := if late then (s0.raise (0x10 + k) 6 k false).spoilAll k f.pages 6 0 else s0
        let fires := !late && !f.suppressed && s.on PLATE.STATUS_ENABLED && !s.on (CLOCK.SYN_STATUS_GATED k)
        let s2 := if fires then
            ((s1.send (.sos k f.scan)).each f.commits (fun t i => t.commitPage k i))
          else s1.each f.commits (fun t i => if t.pgState i = pgAdmitted then t.pageMissed k i else t)
        let coasted := (s2.gv k).coasted || s2.gaugeCoasting (s2.station k).drumGauge
        let s3 := if coasted then s2.markAll k f.pages 3 else s2
        let s5 := s3.setGv k { s3.gv k with fired := some { f with suppressed := f.suppressed || late } }
        let low := (s.bows k f.bank).foldl min ((s.bows k f.bank).headD 0)
        let gone := ((s5.gv k).queue.filter (fun e => decide (s5.pgState e.page ≠ pgAdmitted) &&
          decide (e.base + (e.lines : Int) - 1 ≤ f.first + (s.window k : Int) - 1 + low))).map (·.page)
        let s6 := s5.each gone (fun t i => t.pageDone k i)
        .next s6

/-! ## Lanes and control blocks (R396, R400) -/

/-- ALIGN_BLOCKS (R396). -/
def execAlignBlocks (k : Nat) (s : State) : Result :=
  if k < 6 ∧ s.lanesOn k then
    let n := ((s.gv k).aligns + 1) % 2 ^ 16
    .next ((s.setGv k { s.gv k with aligns := n }).send (.align k n))
  else .next s

/-- Blocks that need not wait for a gap between frames, because none is sent, go at once. -/
def State.ctrlIdle (s : State) (k : Nat) : State :=
  if (s.gv k).frames = [] then s.drainCtrl k else s

/-- CTRL_PUSH (R400): a driver write is queued, or the full queue sets FULL. -/
def execCtrlPush (k : Nat) (s : State) : Result :=
  if 6 ≤ k then .next s
  else
    let g := s.gv k
    if 64 ≤ g.ctrlQ.length then .next (s.setFld (GRAVER.CTRL_STATUS_FULL k) 1)
    else
      let s1 := s.setGv k { g with ctrlQ := g.ctrlQ ++ [(s.fld (GRAVER.CTRL_ADDR_ADDR k), s.fld (GRAVER.CTRL_DATA_DATA k))] }
      .next ((s1.setFld (GRAVER.CTRL_STATUS_QUEUED k) (g.ctrlQ.length + 1)).ctrlIdle k)

/-- CTRL_DMA_GO (R400, R406): a stream of `PAIRS` pairs from the TABLE object begins; GO while one runs sets DMA_ERR.
Pairs before the first that cannot be read are sent. -/
def execCtrlDmaGo (k : Nat) (s : State) : Result :=
  if 6 ≤ k then .next s
  else if s.on (GRAVER.CTRL_STATUS_DMA_BUSY k) || s.on (GRAVER.LUT_STATUS_BUSY k) then .next (s.setFld (GRAVER.CTRL_STATUS_DMA_ERR k) 1)
  else
    let h := s.fld (GRAVER.CTRL_DMA_HANDLE_HANDLE k)
    let o := s.fld (GRAVER.CTRL_DMA_OFFSET_OFFSET k)
    let n := s.fld (GRAVER.CTRL_DMA_COUNT_PAIRS k)
    if kindOf h ≠ 12 ∨ o % 8 ≠ 0 then .next (s.setFld (GRAVER.CTRL_STATUS_DMA_ERR k) 1)
    else
      let good := ((List.range n).takeWhile (fun i => decide (s.objCheck h (o + 8 * i) 8 false true = 0)))
      let g := s.gv k
      let s1 := s.setGv k { g with
        stream := good.map (fun i => (s.objNat h (o + 8 * i) 2, s.objNat h (o + 8 * i + 4) 4)), streamErr := decide (good.length < n),
        streamFrom := some h }
      .next ((s1.hold h).setFld (GRAVER.CTRL_STATUS_DMA_BUSY k) 1)

/-- A stream ends: the object it held is let go. -/
def State.dropStream (s : State) (k : Nat) : State :=
  match (s.gv k).streamFrom with
  | some h => let t := s.drop h; t.setGv k { t.gv k with streamFrom := none }
  | none => s

/-- CTRL_DMA_DONE (R400): the gap between two frames takes what it may of the waiting blocks; once the stream has been sent, CTRL_DONE, or
DMA_ERR where the table ended in an error. -/
def execCtrlDmaDone (k : Nat) (s : State) : Result :=
  if k < 6 ∧ s.on (GRAVER.CTRL_STATUS_DMA_BUSY k) ∧ s.lanesOn k then
    let g := s.gv k
    let s1 := s.drainCtrl k
    if (s1.gv k).stream ≠ [] then .next s1 else
    let s2 := (s1.dropStream k).setFld (GRAVER.CTRL_STATUS_DMA_BUSY k) 0
    let s3 := s2.setGv k { s2.gv k with streamErr := false }
    .next (if g.streamErr then s3.setFld (GRAVER.CTRL_STATUS_DMA_ERR k) 1 else s3.event (GRAVER.INT_STAT_CTRL_DONE k))
  else .next s

/-! ## Banks and page queues (R369, R381, R390) -/

/-- A BANK.NEXT write (R381, R404). -/
def State.bankNext (s : State) (k v : Nat) : State := (s.setFld (GRAVER.BANK_NEXT k) v).setFld (GRAVER.BANK_PENDING k) 1

/-- BANK_NEXT (R381). -/
def execBankNext (k v : Nat) (s : State) : Result := if k < 6 then .next (s.bankNext k v) else .next s

/-- A push of a page (R369): the queue takes it, or refuses it. -/
def State.pushPage (s : State) (k h : Nat) (base : Int) (lines : Nat) : Bool × State :=
  let q := (s.gv k).queue
  let after := match q.getLast? with
    | some e => decide (e.base + e.lines ≤ base)
    | none => true
  if q.length < 4 ∧ (s.gv k).next + 287 ≤ base ∧ after = true ∧ lines ≠ 0 then
    let e : QEntry := { page := indexOf h, base := base, lines := lines, committed := isCommitted (s.pgState (indexOf h)) }
    (true, (s.setQueue k (q ++ [e])).setFld (GRAVER.PAGEQ_STATUS_REFUSED k) 0)
  else (false, s.setFld (GRAVER.PAGEQ_STATUS_REFUSED k) 1)

/-- PAGEQ_PUSH (R369). -/
def execPageqPush (k : Nat) (s : State) : Result :=
  if 6 ≤ k then .next s
  else .next (s.pushPage k (s.fld (GRAVER.PAGEQ_HANDLE_HANDLE k)) (sext 48 (s.pair (GRAVER.PAGEQ_BASE_LO k) (GRAVER.PAGEQ_BASE_HI k)))
    (s.fld (GRAVER.PAGEQ_LINES_LINES k))).2

/-- PAGEQ_WITHDRAW (R390): removes the uncommitted entry of the page, else it is refused. -/
def execPageqWithdraw (k : Nat) (s : State) : Result :=
  if 6 ≤ k then .next s
  else
    let i := indexOf (s.fld (GRAVER.PAGEQ_HANDLE_HANDLE k))
    let q := (s.gv k).queue
    if q.any (fun e => decide (e.page = i) && !e.committed) then
      .next ((s.setQueue k (q.filter (fun e => decide (e.page ≠ i) || e.committed))).setFld (GRAVER.PAGEQ_STATUS_REFUSED k) 0)
    else .next (s.setFld (GRAVER.PAGEQ_STATUS_REFUSED k) 1)

end Sys2Proof.Machine
end

