-- ==== Sys2Proof/Machine/Exposure.lean ====
section
/-!
DEFINITION. The drivers' status words, temperature and trips, look-up-table builds, the interlock, the mark sensors and the calibration
write ports (R378, R379, R403, R411–R441).
-/

namespace Sys2Proof.Machine

/-! ## Status words (R378, R379, R403, R417, R421–R426) -/

/-- One bit step of CRC-8 with polynomial 0x07. -/
def crc8Bit (c : Nat) : Nat := if 128 ≤ c then ((2 * c) % 256) ^^^ 0x07 else 2 * c

/-- CRC-8 of bytes, initial value 0, without reflection (R378). -/
def crc8 (l : List Nat) : Nat :=
  l.foldl (fun c b => crc8Bit (crc8Bit (crc8Bit (crc8Bit (crc8Bit (crc8Bit (crc8Bit (crc8Bit (c ^^^ (b % 256)))))))))) 0

/-- Is a 40-bit status word valid (R379)? -/
def wordValid (w : Nat) : Bool :=
  w.testBit 0 && decide (bits w 6 2 = 0) && decide (bits w 20 12 = 0) &&
    decide (bits w 32 8 = crc8 [bits w 0 8, bits w 8 8, bits w 16 8, bits w 24 8])

/-- The band of temperature `t`: up at an edge, down once HYST below it (R421). -/
def State.bandOf (s : State) (k t : Nat) : Nat :=
  let edge := fun b => if b = 1 then s.fld (GRAVER.BAND_EDGES_A_EDGE1 k) else if b = 2 then s.fld (GRAVER.BAND_EDGES_A_EDGE2 k)
    else s.fld (GRAVER.BAND_EDGES_B_EDGE3 k)
  let up := [1, 2, 3].countP (fun b => decide (edge b ≤ t))
  let old := s.fld (GRAVER.GUARD_STATUS_BAND k)
  let hyst := s.fld (GRAVER.T_TRIP_HYST_HYST k)
  let hold := fun b => decide (edge b < t + hyst)
  if old ≤ up then up
  else if old = 3 ∧ hold 3 then 3
  else if 2 ≤ old ∧ up ≤ 2 ∧ (up = 2 ∨ hold 2) then 2
  else if up ≤ 1 ∧ (up = 1 ∨ hold 1) then 1
  else up

/-- T_TRIP (R424, R425). -/
def State.tripTemp (s : State) (k : Nat) : State := (s.raise (0x10 + k) 8 k false).laserEval k

/-- A valid TEMP is applied (R421–R424, R431). -/
def State.applyTemp (s : State) (k t : Nat) : State :=
  let s1 := (s.setFld (GRAVER.GUARD_STATUS_TEMP k) t).setFld (GRAVER.GUARD_STATUS_TEMP_VALID k) 1
  let b := s1.bandOf k t
  let s2 := if b = s1.fld (GRAVER.GUARD_STATUS_BAND k) then s1
    else (s1.setFld (GRAVER.GUARD_STATUS_BAND k) b).event (GRAVER.INT_STAT_BAND_EV k)
  let warn := decide (s2.fld (GRAVER.T_WARN_LIM_T_WARN k) ≤ t)
  let s3 := if warn && !s2.on (GRAVER.GUARD_STATUS_WARN k) then s2.event (GRAVER.INT_STAT_WARN_EV k) else s2
  let s4 := s3.setFld (GRAVER.GUARD_STATUS_WARN k) (bit warn)
  let lim := s4.fld (GRAVER.T_WARN_LIM_T_LIM k)
  let capped := s4.on (GRAVER.GUARD_STATUS_T_CAPPED k)
  if s4.fld (GRAVER.T_TRIP_HYST_T_TRIP k) ≤ t then s4.tripTemp k
  else if lim ≤ t then
    (if capped then s4
     else ((s4.setFld (GRAVER.GUARD_STATUS_T_CAPPED k) 1).event (GRAVER.INT_STAT_CAP_EV k)).raise (0x10 + k) 10 k false)
  else if capped ∧ t + s4.fld (GRAVER.T_TRIP_HYST_HYST k) < lim then
    (s4.setFld (GRAVER.GUARD_STATUS_T_CAPPED k) 0).event (GRAVER.INT_STAT_RELEASE_EV k)
  else s4

/-- An invalid word is counted; the fourth in a row takes LASER_EN_s low (R379). -/
def State.wordMissed (s : State) (k : Nat) : State :=
  let s1 := (s.bump (GRAVER.DRV_MISS_TOTAL k) 1).bump (GRAVER.DRV_MISS_RUN k) 1
  if 4 ≤ s1.fld (GRAVER.DRV_MISS_RUN k) then (s1.raise (0x10 + k) 2 k false).laserEval k else s1

/-- CTRL_ERR of a status word: the pages of the scan it reports on are marked, and a look-up-table build that has sent a block, or has
just ended, fails (R403, R417). -/
def State.ctrlError (s : State) (k : Nat) : State :=
  let s1 := s.raise (0x10 + k) 4 k false
  let s2 := match (s1.gv k).fired with
    | some f => s1.markAll k f.pages 5
    | none => s1
  let g := s2.gv k
  let mine := g.building && decide (s2.fld (GRAVER.LUT_STATUS_SENT k) ≠ 0)
  let s3 := s2.setGv k { g with buildErr := g.buildErr || mine }
  if mine || g.buildEnd then (s3.setFld (GRAVER.GUARD_STATUS_LUT_VALID k) 0).raise (0x10 + k) 15 k false else s3

/-- FRAME_ERR of a status word: the pages of the newest complete frame are spoiled (R403). -/
def State.frameError (s : State) (k : Nat) : State :=
  let g := s.gv k
  let last := match (g.frames.filter (·.complete)).getLast? with
    | some f => some f
    | none => g.fired
  let s1 := (s.bump (GRAVER.FRAME_ERR_COUNT_COUNT k) 1).raise (0x10 + k) 1 k false
  match last with
  | some f => s1.spoilAll k f.pages 5 0
  | none => s1

/-- A valid word (R378, R403, R406, R421–R427). -/
def State.wordTaken (s : State) (k w : Nat) : State :=
  let s1 := ((s.setReg (GRAVER.DRV_STATUS k) (BitVec.ofNat 32 w)).setFld (GRAVER.DRV_MISS_RUN k) 0)
  let s2 := (s1.setFld (GRAVER.STATUS_DRV_READY k) (bit (w.testBit 1))).setFld (GRAVER.STATUS_LANES_UP k) (bit (w.testBit 2))
  let s3 := if w.testBit 1 && w.testBit 2 && !(s2.gv k).lockSeen then
      (s2.setGv k { s2.gv k with lockSeen := true }).event (GRAVER.INT_STAT_LOCK_EV k)
    else s2
  let s4 := if w.testBit 3 then s3.frameError k else s3
  let s5 := if w.testBit 4 then s4.ctrlError k else s4
  let s6 := s5.setGv k { s5.gv k with buildEnd := false, drvTrip := w.testBit 5 }
  let s7 := if w.testBit 5 then (s6.raise (0x10 + k) 9 k false).laserEval k else s6
  s7.applyTemp k (bits w 8 12)

/-- DRV_STATUS_WORD (R378, R379): the 40 bits sampled after a scan. -/
def execDrvStatusWord (k w : Nat) (s : State) : Result :=
  if 6 ≤ k ∨ !(s.station k).enabled then .next s
  else if wordValid w then .next (s.wordTaken k (bits w 0 32)) else .next (s.wordMissed k)

/-- A new reading of TH input `n` in the code of R421, for the Gravers that watch it (R425). -/
def State.thTrips (s : State) (n code : Nat) : State :=
  s.each (pick 6 (fun k => s.on (GRAVER.TH_TRIP_EN k) && decide (s.fld (GRAVER.TH_TRIP_INPUT k) = n) &&
    decide (s.fld (GRAVER.T_TRIP_HYST_T_TRIP k) ≤ code))) State.tripTemp

/-! ## Look-up-table builds (R411, R415–R417) -/

/-- Bytes of the station section that LUT_SRC names: the calibration partition, or a TABLE object; none where it cannot be read. -/
def State.lutSection (s : State) (k : Nat) : Option (List Nat) :=
  let o := s.fld (GRAVER.LUT_SRC_OFFSET k)
  if s.on (GRAVER.LUT_SRC_FROM_MRAM k) then
    if 0x20000 < o + 0x800 then none else some ((List.range 0x800).map (fun i => s.mramByte (0x10000 + o + i)))
  else
    let h := s.fld (GRAVER.LUT_CMD_HANDLE k)
    if kindOf h = 12 ∧ s.objCheck h o 0x800 false true = 0 then some (s.objRead h o 0x800) else none

/-- The entry of emitter `e` for dot value `v` (R416). -/
def lutEntry (sec : List Nat) (band set e v : Nat) : Nat :=
  if v = 0 then 0
  else
    let c := fieldAt sec (0x400 + 4 * ((band * 4 + set) * 16 + v)) 4
    let trim : Int := sext 8 (sec.getD (0x2A0 + band * 40 + e) 0)
    let level := min 255 ((((bits c 16 8 : Nat) : Int) * (256 + trim) + 128) / 256).toNat
    bits c 0 9 + level * 2 ^ 16

/-- The blocks of a build: the setpoint words, then the entries, each in ascending address (R416). -/
def lutBlocks (sec : List Nat) (emitters : Nat) : List (Nat × Nat) :=
  (List.range 40).map (fun e => (0x40 + e, fieldAt sec (0x200 + 4 * e) 4)) ++
    (List.range 16).flatMap (fun bs => (List.range emitters).flatMap (fun e => (List.range 16).map (fun v =>
      (lutAddr (bs / 4) (bs % 4) e v, lutEntry sec (bs / 4) (bs % 4) e v))))

/-- LUT_BUILD_GO (R416, R417): a build starts, or is refused with LUT_ERR. -/
def execLutBuildGo (k : Nat) (s : State) : Result :=
  if 6 ≤ k then .next s
  else
    let no := s.raise (0x10 + k) 15 k false
    if (s.gv k).queue.any (·.committed) || s.on (GRAVER.CTRL_STATUS_DMA_BUSY k) || s.on (GRAVER.LUT_STATUS_BUSY k) then .next no
    else match s.lutSection k with
      | none => .next no
      | some sec =>
        if !(sec.getD 8 0).testBit 0 then .next no
        else
          let src := if s.on (GRAVER.LUT_SRC_FROM_MRAM k) then none else some (s.fld (GRAVER.LUT_CMD_HANDLE k))
          let s1 := s.setGv k { s.gv k with
            stream := lutBlocks sec (s.emitters k), building := true, buildErr := false, buildEnd := false, streamFrom := src }
          let s2 := (s1.setFld (GRAVER.LUT_STATUS_BUSY k) 1).setFld (GRAVER.LUT_STATUS_SENT k) 0
          .next (if s.on (GRAVER.LUT_SRC_FROM_MRAM k) then s2 else s2.hold (s.fld (GRAVER.LUT_CMD_HANDLE k)))

/-- LUT_BUILD_DONE (R400, R417): the gap between two frames takes what it may of the waiting blocks; the build ends when its last block
has been sent. -/
def execLutBuildDone (k : Nat) (s : State) : Result :=
  if k < 6 ∧ s.on (GRAVER.LUT_STATUS_BUSY k) ∧ s.lanesOn k then
    let g := s.gv k
    let s1 := s.drainCtrl k
    if (s1.gv k).stream ≠ [] then .next s1 else
    let s2 := s1.dropStream k
    let s3 := s2.setGv k { s2.gv k with building := false, buildErr := false, buildEnd := !g.buildErr }
    let s4 := (s3.setFld (GRAVER.LUT_STATUS_BUSY k) 0).setFld (GRAVER.GUARD_STATUS_LUT_VALID k) (bit (!g.buildErr))
    let s5 := if g.buildErr then s4.raise (0x10 + k) 15 k false else s4
    .next (s5.event (GRAVER.INT_STAT_LUT_DONE k))
  else .next s

/-! ## Alignment sets (R435, R437) -/

/-- `n` bytes of alignment-set slot `j` from `off`, as a number. -/
def State.alignNat (s : State) (j off n : Nat) : Nat := leNat ((List.range n).map (fun i => s.mramByte (0x10000 + 0x4000 * j + off + i)))

/-- Is slot `j` valid: MAGIC, VERSION and CHECK right? -/
def State.alignValid (s : State) (j : Nat) : Bool :=
  decide (s.alignNat j 0 2 = 0xA1C5) && decide (s.alignNat j 2 1 = 1) &&
    decide (s.alignNat j 8 4 = crc32c ((List.range 0x3FF4).map (fun i => s.mramByte (0x10000 + 0x4000 * j + 0xC + i))))

/-- The current set: the valid slot with the highest GENERATION, compared serially. The calibration service, which the words of a new set
reach through CAL_WORD_WRITE, reads it; no command of the table starts that service. -/
def State.alignCurrent (s : State) : Option Nat :=
  let l := pick 8 s.alignValid
  l.find? (fun j => l.all (fun i => decide (0 ≤ sext 32 (s.alignNat j 4 4 + 2 ^ 32 - s.alignNat i 4 4))))

/-! ## The interlock (R428, R429) -/

/-- INTERLOCK_ASSERT (R429): INTERLOCK_N has been low for its minimum pulse width. -/
def execInterlockAssert (s : State) : Result :=
  let s1 := State.laserAll { s with engine := { s.engine with interlock := false, interlockOk := false } }
  .next (if s1.fabric then s1.each (List.range 6) (fun t k => t.raise (0x10 + k) 14 k false) else s1)

/-- INTERLOCK_QUALIFIED (R428): INTERLOCK_N has been high for 10 ms without a break. -/
def execInterlockQualified (s : State) : Result :=
  .next (State.laserAll { s with engine := { s.engine with interlock := true, interlockOk := true } })

/-! ## Mark sensors (R432–R434) -/

/-- A mark sensor after reset. -/
def Mark.reset : Mark := { prev := none, armRise := false, armFall := false, sum := 0, count := 0, held := none }

/-- Mark sensor `m`. -/
def State.mark (s : State) (m : Nat) : Mark := Tbl.get (fun _ => Mark.reset) s.marks m

/-- Stores it. -/
def State.setMark (s : State) (m : Nat) (x : Mark) : State := { s with marks := Tbl.put (fun _ => Mark.reset) s.marks m x }

/-- One record of mark sensor `m`, or LOST where the object is full (R434). -/
def State.markRecord (s : State) (m : Nat) (rising : Bool) (pos : Int) (sum count : Nat) : State :=
  match (s.mark m).held with
  | none => s
  | some h =>
    let n := s.objNat h 0 4
    let o := 0x20 + 16 * n
    if s.objCheck h o 16 true false = 0 then
      let (mean, s1) := s.divFree sum count
      let flags := m + 8 * bit rising + 16 * bit (s.gaugeCoasting (s.fld (GAUGE.MK_DEST_GAUGE m)))
      let rec' := leBytes 8 (wrap 64 pos) ++ leBytes 2 (mean % 4096) ++ [flags, 0] ++ leBytes 4 count
      (s1.objWrite h o rec').objWrite h 0 (leBytes 4 (n + 1))
    else
      let lost := satAdd 32 (s.objNat h 4 4) 1
      let s1 := if s.objCheck h 4 4 true false = 0 then s.objWrite h 4 (leBytes 4 lost) else s
      s1.setReg (GAUGE.MK_STATUS m) (BitVec.ofNat 32 lost)

/-- MARK_SAMPLE (R83, R432, R433): sensor `m` sampled `v`, 12 bits, when its gauge stood at `p`. A sample outside the gate is not recorded and
ends the arming of edges (assumption 101). -/
def execMarkSample (m v p : Nat) (s : State) : Result :=
  if 8 ≤ m then .next s
  else
    let x := s.mark m
    let v := v % 4096
    if !s.on (GAUGE.MK_CTRL_GATE m) then .next (s.setMark m { x with prev := none, armRise := false, armFall := false })
    else
      let thresh := s.fld (GAUGE.MK_CFG_THRESH m)
      let hyst := s.fld (GAUGE.MK_CFG_HYST m)
      let rise := x.armRise && decide (thresh ≤ v)
      let fall := x.armFall && decide (v < thresh)
      let at' : Int := match x.prev with
        | some (v0, p0) =>
          if v0 < v then sext 64 p0 + roundDiv ((sext 64 p - sext 64 p0) * ((thresh : Int) - v0)) (v - v0)
          else if v < v0 then sext 64 p0 + roundDiv ((sext 64 p - sext 64 p0) * ((v0 : Int) - thresh)) (v0 - v)
          else sext 64 p
        | none => sext 64 p
      let record := (rise && s.on (GAUGE.MK_DEST_RISE_EN m)) || (fall && s.on (GAUGE.MK_DEST_FALL_EN m))
      let sum := x.sum + v
      let count := x.count + 1
      let y := { x with
        prev := some (v, p)
        armRise := decide (v + hyst < thresh) || (x.armRise && !rise)
        armFall := decide (thresh + hyst ≤ v) || (x.armFall && !fall)
        sum := if record then 0 else sum, count := if record then 0 else count }
      let s1 := s.setMark m y
      .next (if record then s1.markRecord m rise at' sum count else s1)

/-- A write of MKm_DEST (R434): EN 0 to 1 holds the CAPTURE object and clears COUNT and LOST, EN 1 to 0 drops it. -/
def State.markDest (s : State) (m v : Nat) : State :=
  let was := s.on (GAUGE.MK_DEST_EN m)
  let s1 := (((((s.setFld (GAUGE.MK_DEST_HANDLE m) v).setFld (GAUGE.MK_DEST_GAUGE m) (bits v 16 6)).setFld (GAUGE.MK_DEST_EN m) (bits v 24 1)).setFld
    (GAUGE.MK_DEST_RISE_EN m) (bits v 25 1)).setFld (GAUGE.MK_DEST_FALL_EN m) (bits v 26 1))
  let h := bits v 0 16
  let held := (s.mark m).held
  if v.testBit 24 then
    if was && decide (held = some h) then s1
    else
      let s2 := match held with
        | some o => s1.drop o
        | none => s1
      if kindOf h = 13 ∧ s2.objCheck h 0 0x20 false false = 0 then
        let s3 := (s2.hold h).setMark m { s2.mark m with held := some h, sum := 0, count := 0 }
        if was then s3
        else (s3.objWrite h 0 (leBytes 8 0 ++ [bits v 16 6])).setReg (GAUGE.MK_STATUS m) 0
      else s2.setMark m { s2.mark m with held := none }
  else match held with
    | some o => (s1.drop o).setMark m { s1.mark m with held := none }
    | none => s1

/-- MARK_DEST_ENABLE (R434): MKm_DEST is written with `v`. -/
def execMarkDestEnable (m v : Nat) (s : State) : Result := if m < 8 then .next (s.markDest m v) else .next s

/-! ## Calibration write ports (R438, R124) -/

/-- A port after reset. -/
def CalPort.reset : CalPort := { addr := 0, data := 0, busy := false, status := 0 }

/-- The port of laser array `k`. -/
def State.calPort (s : State) (k : Nat) : CalPort := Tbl.get (fun _ => CalPort.reset) s.calPorts k

/-- Stores it. -/
def State.setCalPort (s : State) (k : Nat) (x : CalPort) : State :=
  { s with calPorts := Tbl.put (fun _ => CalPort.reset) s.calPorts k x }

/-- A write of CAL_WCMD of array `k`: a wrong KEY, no GO or a busy port writes nothing. -/
def State.calCmd (s : State) (k v : Nat) : State :=
  if k < 6 ∧ bits v 20 12 = 0x7A5 ∧ v.testBit 0 ∧ (s.calPort k).busy = false then s.setCalPort k { s.calPort k with busy := true } else s

/-- CAL_WORD_WRITE (R438, R124). -/
def execCalWordWrite (k v : Nat) (s : State) : Result := .next (s.calCmd k v)

/-- CAL_WRITE_DONE (R438, R124): the word and its verify; a failed verify leaves bytes that nothing states. -/
def execCalWriteDone (k : Nat) (ok : Bool) (s : State) : Result :=
  let x := s.calPort k
  if k < 6 ∧ x.busy = true then
    let (f, s1) := s.free
    let data := if ok then x.data else f % 2 ^ 32
    .next ((s1.setMram (0x10000 + 4 * (bits x.addr 2 15)) (leBytes 4 data)).setCalPort k
      { x with busy := false, status := if ok then withBit x.status 1 true else withBit x.status 2 true })
  else .next s

end Sys2Proof.Machine
end

