-- ==== Sys2Proof/Machine/Hearth.lean ====
section
/-!
DEFINITION. Hearth: readings, rate limits, the thermal trip, the journal writer and the acknowledgement, zones and lamp gates
(R502–R521).
-/

namespace Sys2Proof.Machine

/-! ## Readings (R507, R508) -/

/-- One in the logarithm's fixed-point format. -/
def lnOne : Nat := 2 ^ 48

/-- The series 2 (y + y³/3 + y⁵/5 + …) for y in `lnOne`ths, `n` terms from the term numbered `k` on, `t` being y to the power 2k + 1. -/
def lnSeries (y2 : Int) : Nat → Nat → Int → Int
  | 0, _, _ => 0
  | n + 1, k, t => 2 * t / (2 * (k : Int) + 1) + lnSeries y2 n (k + 1) (t * y2 / lnOne)

/-- ln 2 in `lnOne`ths. -/
def lnTwo : Int := lnSeries (((lnOne / 3) * (lnOne / 3) / lnOne : Nat) : Int) 20 0 ((lnOne / 3 : Nat) : Int)

/-- ln (p / q) in `lnOne`ths, for positive p and q. -/
def lnRatio (p q : Nat) : Int :=
  let k : Int := (Nat.log2 p : Int) - (Nat.log2 q : Int)
  -- p / q = m · 2^k with 1/2 < m < 2
  let a := if 0 ≤ k then p else p * 2 ^ (-k).toNat
  let b := if 0 ≤ k then q * 2 ^ k.toNat else q
  let y : Int := ((a : Int) - b) * lnOne / ((a : Int) + b)
  lnSeries (y * y / lnOne) 24 0 y + k * lnTwo

/-- The code of an NTC ratio `num / den` with R0 in 10 Ω and B in K: either neighbour of the exact value, which R507 does not say how
to round; a free value where the formula has none. -/
def State.ntcCode (s : State) (num den r0 b : Nat) : Nat × State :=
  if r0 = 0 ∨ b = 0 ∨ num = 0 ∨ den ≤ num then
    let (f, s1) := s.free
    (f % 0xFFF, s1)
  else
    let inv : Int := (lnOne : Int) * 100 / 29815 + lnRatio (1000 * num) ((den - num) * r0) / b
    if inv ≤ 0 then
      let (f, s1) := s.free
      (f % 0xFFF, s1)
    else
      let (c, s1) := s.choose
      let q : Int := (160 * (lnOne : Int) - 37304 * inv) / (10 * inv) + bit c
      ((min 0xFFE (max 0 q)).toNat, s1)

/-- A conversion of input `n`: the code of an NTC ratio `num / den`, or of a diode temperature of `num / den` °C above −40 °C; none where
the input is broken: a ratio above 0.98 or below 0.02, or no junction, which a `den` of 0 says (R507, R508). `rs` is the series resistance
of a diode (R556). -/
def State.convert (s : State) (n num den rs : Nat) : Option Nat × State :=
  if den = 0 then (none, s)
  else if s.on (HEARTH.TH_CFG_MODE n) then
    -- on A1 each ohm above 60 adds 0.03 °C
    let (q, s1) := s.divFree (16 * (100 * num + 3 * (rs - 60) * den)) (100 * den)
    (some (min 0xFFE q), s1)
  else
    -- the converter gives the ratio in 16 bits (R83)
    let (q, s0) := s.divFree (65536 * num) den
    let rho := min 65535 q
    if 98 * 65536 < 100 * rho ∨ 100 * rho < 2 * 65536 then (none, s0)
    else
      let (c, s1) := s0.ntcCode rho 65536 (s.fld (HEARTH.TH_NTC_R0 n)) (s.fld (HEARTH.TH_NTC_B n))
      (some c, s1)

/-- The lowest configured zone with input `n` as CTRL, or as GUARD in use; none for a monitor input (R514). -/
def State.guardedBy (s : State) (n : Nat) : Option Nat :=
  (List.range 8).find? (fun z => s.zoneUsed z && (decide (s.fld (HEARTH.Z_CFG_CTRL z) = n) ||
    (s.on (HEARTH.Z_CFG_GUARD_EN z) && decide (s.fld (HEARTH.Z_CFG_GUARD z) = n))))

/-- The reading of input `n`. -/
def State.reading (s : State) (n : Nat) : Nat := s.fld (HEARTH.TH_VALUE_TEMP n)

/-- Is input `n` the control sensor of a configured zone that heats at half demand or more below its ready band (R509)? -/
def State.heats (s : State) (n : Nat) : Bool :=
  (List.range 8).any (fun z => s.zoneUsed z && decide (s.fld (HEARTH.Z_CFG_CTRL z) = n) && decide (0x8000 ≤ s.fld (HEARTH.Z_STATUS_U z)) &&
    decide (s.reading n + s.fld (HEARTH.Z_BAND_READY_BAND z) < s.fld (HEARTH.Z_SP_RUN_SP z)))

/-- Every input that has been heating since its window began, and no longer is, stops counting (R509). -/
def State.heatsFollow (s : State) : State :=
  s.each (pick 16 (fun n => (s.therm n).heating && !s.heats n)) (fun t n => t.setTherm n { t.therm n with heating := false })

/-! ## Thermal trip (R514, R515, R547) -/

/-- A trip of `kind` at input `n` of zone `z` with reading `temp`. -/
def State.thermalTrip (s : State) (kind n z temp : Nat) (forced : Bool) : State :=
  let s1 := s.gatesOff.setFld HEARTH.ACK_STATUS_LATCHED 1
  let s2 := { s1 with tinder := { s1.tinder with trip := true } }
  let s3 := (((s2.setFld HEARTH.TRIP_INFO_TEMP temp).setFld HEARTH.TRIP_INFO_ZONE z).setFld HEARTH.TRIP_INFO_INPUT n).setFld HEARTH.TRIP_INFO_KIND kind
  let s4 := s3.journalEntry 2 0xD 0 forced (kind + 16 * n + 256 * z) temp
  s4.raiseQuiet .engineSafe 0xD 0

/-- The reading of input `n` becomes `v`, broken or not: trips and SENSOR on entering their conditions. -/
def State.setReading (s : State) (n v : Nat) (broken : Bool) : State :=
  let was := s.on (HEARTH.TH_VALUE_BROKEN n)
  let s1 := (s.setFld (HEARTH.TH_VALUE_TEMP n) v).setFld (HEARTH.TH_VALUE_BROKEN n) (bit broken)
  let s2 := match s1.guardedBy n with
    | some z =>
      let bad := broken || decide (s1.fld (HEARTH.TH_CFG_TRIP n) ≤ v)
      let t := s1.setTherm n { s1.therm n with bad := bad }
      if bad && !(s1.therm n).bad then t.thermalTrip (if broken then 2 else 1) n z v false else t
    | none =>
      let t := s1.setTherm n { s1.therm n with bad := false }
      if broken && !was then t.raise 0xD 1 0 false else t
  (s2.heatsFollow.zonesFollow).recheckReady

/-- A sample of input `n` (R507, R508, R514). -/
def State.sample (s : State) (n num den rs : Nat) : State :=
  let (c, s1) := s.convert n num den rs
  match c with
  | none => (s1.setTherm n { s1.therm n with samples := [], windowStart := none, rises := [], heating := false }).setReading n 0xFFF true
  | some x =>
    let l := (x :: (s1.therm n).samples).take (if s.on (HEARTH.TH_CFG_MODE n) then 1 else 10)
    let (mean, s2) := s1.divFree (l.foldl (· + ·) 0) l.length
    (s2.setTherm n { s2.therm n with samples := l }).setReading n (min 0xFFE mean) false

/-- RATE_WINDOW (R509, R514): a window of 100 ms ends; of the inputs that fail, the lowest is recorded. -/
def execRateWindow (s : State) : Result :=
  let live := fun n => s.on (HEARTH.TH_CFG_EN n) && !s.on (HEARTH.TH_VALUE_BROKEN n)
  let fast := fun n => match (s.therm n).windowStart with
    | some v => decide (v + s.fld (HEARTH.TH_RATE_RISE_MAX n) < s.reading n)
    | none => false
  let rises := fun n => match (s.therm n).windowStart with
    | some v => if (s.therm n).heating && s.heats n then (v :: (s.therm n).rises).take (s.fld (HEARTH.TH_RATE_NORISE_N n)) else []
    | none => []
  let flat := fun n => decide (s.fld (HEARTH.TH_RATE_NORISE_N n) ≠ 0) && decide ((rises n).length = s.fld (HEARTH.TH_RATE_NORISE_N n)) &&
    decide (s.reading n < (rises n).getLastD 0 + s.fld (HEARTH.TH_RATE_NORISE_MIN n))
  let s1 := s.each (List.range 16) (fun t n => t.setTherm n { t.therm n with
    windowStart := if live n then some (s.reading n) else none, heating := live n && s.heats n
    rises := if live n then (if flat n then [] else rises n) else [] })
  match (List.range 16).find? (fun n => live n && (s.guardedBy n).isSome && (fast n || flat n)) with
  | some n => .next (s1.thermalTrip (if fast n then 3 else 4) n ((s.guardedBy n).getD 0) (s.reading n) false)
  | none => .next s1

/-- DIE_SAMPLE (R521): on-die sensor `k` reads `code`. -/
def execDieSample (k code : Nat) (s : State) : Result :=
  if 4 ≤ k then .next s
  else
    let f := if k % 2 = 0 then HEARTH.DIE_TEMP_LO (k / 2) else HEARTH.DIE_TEMP_HI (k / 2)
    let warn := s.fld HEARTH.DIE_CFG_DIE_WARN
    let s1 := s.setFld f code
    let s2 := if s.fld f < warn ∧ warn ≤ code % 4096 then s1.event HEARTH.INT_STAT_DIE_WARN_EV else s1
    .next (if s.fld HEARTH.DIE_CFG_DIE_HOT ≤ code % 4096 then s2.raise 0xD 2 0 false else s2)

/-! ## The journal (R516–R519) -/

/-- JOURNAL_ENTRY_WRITTEN (R517–R519): the entry goes into slot HEAD, the header into the copy not current; an ACK clears TRIP_SEQ, the
latch and the Ember flag, unless a later trip waits. -/
def execJournalEntryWritten (s : State) : Result :=
  match s.journal.writing with
  | none => .next s
  | some e =>
    let h := match s.header with
      | some x => x
      | none => ⟨1, 0, 0, 1, 0, 0⟩
    let seq := h.nextSeq
    let next := if seq + 1 = 2 ^ 32 then 1 else seq + 1
    let trip := if e.kind = 2 then seq else if e.kind = 3 ∧ h.trip = e.detail then 0 else h.trip
    let lost := satAdd 32 h.lost s.journal.lost
    let s1 := s.setMram (0x40 + 32 * h.head) (e.image seq)
    let s2 := s1.setMram (0x20 * (1 - h.copy)) (headerImage ((h.gen + 1) % 2 ^ 32) ((h.head + 1) % 2046) next trip lost)
    let s3 := (s2.setFld HEARTH.JNL_SEQ_SEQ seq).setFld HEARTH.TRIP_SEQ_SEQ trip
    let s4 := { s3 with journal := { s3.journal with writing := none, lost := 0 } }
    let s5 := if e.kind = 3 then
        let more := decide (trip ≠ 0) || (s4.journal.queue ++ s4.journal.held).any (fun x => decide (x.kind = 2))
        let t := if more then s4 else { (s4.setFld HEARTH.ACK_STATUS_LATCHED 0) with tinder := { s4.tinder with trip := false } }
        (t.setFld HEARTH.ACK_STATUS_RESULT 2).event HEARTH.INT_STAT_ACK_DONE
      else s4
    .next s5.journalPump

/-- TRIP_ACK (R519): ACK_CMD is written with `v`. -/
def State.tripAck (s : State) (v : Nat) : State :=
  let trip := s.fld HEARTH.TRIP_SEQ_SEQ
  let hot := (List.range 8).any (fun z => s.zoneUsed z && decide (s.fld (HEARTH.Z_BAND_REARM z) ≤ s.zoneTemp z))
  let refuse := fun (c : Nat) => (s.setFld HEARTH.ACK_STATUS_RESULT c).event HEARTH.INT_STAT_ACK_DONE
  if !v.testBit 0 || decide (s.fld HEARTH.ACK_STATUS_RESULT = 1) then s
  else if bits v 20 12 ≠ 0xAC5 then refuse 6
  else if !s.on HEARTH.ACK_STATUS_LATCHED then refuse 5
  else if s.fld HEARTH.ACK_SEQ_SEQ ≠ trip then refuse 3
  else if hot then refuse 4
  else (s.setFld HEARTH.ACK_STATUS_RESULT 1).journalEntry 3 0xD 0 false 0 trip

/-- TRIP_ACK. -/
def execTripAck (v : Nat) (s : State) : Result := .next (s.tripAck v)

/-! ## Zones (R504, R510–R513, R520, R550) -/

/-- Table index of heater zone `z` (R247). -/
def zoneIndex (z : Nat) : Nat := 0x38 + z

/-- Lamps of zone `z`. -/
def State.zoneLamps (s : State) (z : Nat) : List Nat := pick 8 (fun n => s.fbit (HEARTH.Z_CFG_LAMPS z) n)

/-- A write of a zone's ENABLE (R504, R510, R520, R550): refused while the latch is set, or where another enabled zone has one of its
lamps; a zone that turns on starts its lamps' accumulators, one that turns off drops their gates. -/
def State.zoneWrite (s : State) (z : Nat) (v : Bool) : State :=
  if v then
    if s.on HEARTH.ACK_STATUS_LATCHED then s.setRefused (zoneIndex z) true
    else if s.zoneOn z then s.setRefused (zoneIndex z) false
    else if (s.zoneLamps z).any (fun n => (List.range 8).any (fun y => decide (y ≠ z) && s.zoneOn y && s.fbit (HEARTH.Z_CFG_LAMPS y) n)) then
      (s.setFld (HEARTH.Z_CFG_CFG_ERR z) 1).setRefused (zoneIndex z) true
    else
      let s1 := (s.setFld (HEARTH.Z_CFG_ENABLE z) 1).setRefused (zoneIndex z) false
      let s2 := s1.each (s.zoneLamps z) (fun t n => t.setLamp n { t.lamp n with acc := 8192 * n })
      ((s2.setZone z { s2.zone z with integ := 0, prev := s2.zoneTemp z }).zonesFollow).recheckReady
  else
    let s1 := ((s.setFld (HEARTH.Z_CFG_ENABLE z) 0).setFld (HEARTH.Z_STATUS_U z) 0).setRefused (zoneIndex z) false
    ((s1.each (s.zoneLamps z) State.htrLow).heatsFollow.zonesFollow).recheckReady

/-- ZONE_ENABLE (R510, R520). -/
def execZoneEnable (z : Nat) (v : Bool) (s : State) : Result := if z < 8 then .next (s.zoneWrite z v) else .next s

/-- The PID of zone `z` (R511, R512); with no set-point U is 0. -/
def State.zonePid (s : State) (z : Nat) : State :=
  let sp := s.setPoint z
  let t : Int := s.zoneTemp z
  let x := s.zone z
  if sp = 0 then (s.setZone z { x with prev := s.zoneTemp z }).setFld (HEARTH.Z_STATUS_U z) 0
  else
    let e : Int := (sp : Int) - t
    let p := (s.fld (HEARTH.Z_GAIN1_KP z) : Int) * e
    let ki := (s.fld (HEARTH.Z_GAIN1_KI z) : Int) * e
    let d := (s.fld (HEARTH.Z_GAIN2_KD z) : Int) * (t - x.prev)
    let m : Int := s.fld (HEARTH.Z_GAIN2_U_MAX z)
    let raw := p + x.integ + ki - d
    let integ := if 0 ≤ raw ∧ raw ≤ m then x.integ + ki else x.integ
    (s.setZone z { x with integ := integ, prev := s.zoneTemp z }).setFld (HEARTH.Z_STATUS_U z) (max 0 (min m (p + integ - d))).toNat

/-- ZONE_PID_UPDATE (R503 step 3, R512). -/
def execZonePidUpdate (p : Nat) (s : State) : Result :=
  .next (((s.each (pick 8 (fun z => s.zoneOn z && decide (s.fld (HEARTH.Z_CFG_REF_PHASE z) = p))) State.zonePid).heatsFollow).zonesFollow).recheckReady

/-! ## Gates (R503, R505, R506) -/

/-- May lamps of phase `p` fire (R506, R511, R520)? -/
def State.phaseOk (s : State) (p : Nat) : Bool :=
  decide (p < 3) && s.gaugeOn (24 + p) && s.gaugeLocked (24 + p) && !s.gaugeHeld (24 + p) && !s.on HEARTH.ACK_STATUS_LATCHED &&
    decide (s.eng ≠ engSafe) && decide (s.eng ≠ engTinder) && !s.tinder.outputsHeld

/-- Lamps assigned to phase `p`. -/
def State.phaseLamps (s : State) (p : Nat) : List Nat := pick 8 (fun n => decide (s.fld (HEARTH.H_CFG_PHASE n) = p))

/-- A half-cycle begins for lamp `n`: conduction, the dark count and soft start follow the grant (R505). -/
def State.halfCycle (s : State) (n : Nat) : State :=
  let x := s.lamp n
  let on := x.granted && s.phaseOk (s.fld (HEARTH.H_CFG_PHASE n))
  let was := s.on (HEARTH.H_STATUS_ON n)
  let soft := if !on then 0
    else if 1 ≤ x.soft ∧ x.soft ≤ 7 then x.soft + 1
    else if x.soft = 0 ∧ was = false ∧ s.fld (HEARTH.H_CFG_SOFT_GAP n) ≤ x.gap then 1
    else 0
  let s1 := s.setLamp n { x with granted := false, soft := soft, gap := if on then 0 else min 255 (x.gap + 1), htr := on && decide (soft = 0) }
  (s1.setFld (HEARTH.H_STATUS_ON n) (bit on)).setFld (HEARTH.H_STATUS_SOFT n) (bit (decide (soft ≠ 0)))

/-- HEARTH_GATE_ON (R503 step 2, R505): on phase `p` the point c + GATE_DELAY where `i` is 0, else the point of soft-start half-cycle
`i`. -/
def execHearthGateOn (p i : Nat) (s : State) : Result :=
  if 3 ≤ p then .next s
  else if i = 0 then .next ((s.each (s.phaseLamps p) State.halfCycle).countLamps p)
  else .next (s.each ((s.phaseLamps p).filter (fun n => decide ((s.lamp n).soft = i) && s.on (HEARTH.H_STATUS_ON n) && s.phaseOk p))
    (fun t n => t.setLamp n { t.lamp n with htr := true }))

/-- HEARTH_GATE_OFF (R503 step 5): every HTR of the phase goes low; the lamps conduct on to the crossing. -/
def execHearthGateOff (p : Nat) (s : State) : Result :=
  if p < 3 then .next (s.each (s.phaseLamps p) (fun t n => t.setLamp n { t.lamp n with htr := false })) else .next s

end Sys2Proof.Machine
end

