-- ==== Sys2Proof/Machine/Dram.lean ====
section
/-!
DEFINITION. The DDR5 controller (R337–R365): training, temperature bands, refresh debts, page predictors, ECC, and what happens when a
rank fails; and the sample of a TH input, which DRAMC and the Gravers follow (R351, R425, R507).
Ranks are numbered 4 × channel + rank, bank sets (2 × rank + subchannel) × 4 + set, banks (2 × rank + subchannel) × 32 + bank.
-/

namespace Sys2Proof.Machine

/-! ## Configuration (R337, R365) -/

/-- Is channel `c` configured? -/
def State.chanFitted (s : State) (c : Nat) : Bool := decide (c = 0) || (decide (c = 1) && s.on DRAMC.CFG_CHB_EN)

/-- Ranks of channel `c`: at most 2 on a UDIMM. -/
def State.chanRanks (s : State) (c : Nat) : Nat :=
  if !s.chanFitted c then 0
  else min ((if c = 0 then s.fld DRAMC.CFG_RANKS_A else s.fld DRAMC.CFG_RANKS_B) + 1) (if s.on DRAMC.CFG_DIMM then 2 else 4)

/-- The field SPARE_c. -/
def spareFld (c : Nat) : Fld := if c = 0 then DRAMC.CFG_SPARE_A else DRAMC.CFG_SPARE_B

/-- Is rank `q` the configured spare of its channel? -/
def State.isSpare (s : State) (q : Nat) : Bool :=
  s.on (spareFld (q / 4)) && decide (2 ≤ s.chanRanks (q / 4)) && decide (q % 4 + 1 = s.chanRanks (q / 4))

/-- Does rank `q` carry data or stand by for it: IN_SERVICE, SPARE or migrating? -/
def State.rankLive (s : State) (q : Nat) : Bool := decide (1 ≤ s.rankState q) && decide (s.rankState q ≤ 4)

/-- May training be commanded in this engine state (R339)? -/
def State.trainAllowed (s : State) : Bool :=
  decide (s.eng = engTinder) || decide (s.eng = engBanked) || decide (s.eng = engSafe)

/-- Reserved codes of RATE give no data rate: their NINT is free. -/
def State.trainNint (s : State) : Nat × State :=
  if s.fld DRAMC.CFG_RATE ≤ 4 then (96 + 8 * s.fld DRAMC.CFG_RATE, s) else s.free

/-- Does refresh run: the arrays hold data, through a full retrain too (R355)? -/
def State.dramRuns (s : State) : Bool := s.dramUp || decide (s.fld DRAMC.TRAIN_STATE = 5)

/-- TRAIN_GO (R339): PLL 1 is set to the data rate / 50 and acquires; STATE 1. -/
def execTrainGo (s : State) : Result :=
  if !s.fabric then .next (s.logAccess SYS.ACCESS_LOG_HELD_BLOCK DRAMC.TRAIN)
  else if s.trainAllowed && (decide (s.fld DRAMC.TRAIN_STATE = 0) || decide (s.fld DRAMC.TRAIN_STATE = 4)) then
    let (n, s1) := s.trainNint
    let s2 := (s1.setReg (CLOCK.PLL_CFG 1) 0).setFld (CLOCK.PLL_CFG_NINT 1) n
    .next ((s2.pllRestart 1).setFld DRAMC.TRAIN_STATE 1)
  else .next (s.logRo DRAMC.TRAIN)

/-- FULL_RETRAIN (R355): steps 3 to 9 again on every trained rank, under the condition of R339: its engine states, and STATE IDLE or FAILED
(assumption 69). -/
def execFullRetrain (s : State) : Result :=
  if !s.fabric then .next (s.logAccess SYS.ACCESS_LOG_HELD_BLOCK DRAMC.TRAIN)
  else if s.trainAllowed && (decide (s.fld DRAMC.TRAIN_STATE = 0) || decide (s.fld DRAMC.TRAIN_STATE = 4)) then
    .next (s.setFld DRAMC.TRAIN_STATE 5)
  else .next (s.logRo DRAMC.TRAIN)

/-! ## Temperature (R351–R354), in the code of R507: 16 × (T + 40 °C) -/

/-- The code of a temperature in °C. -/
def degC (t : Nat) : Nat := 16 * (t + 40)

/-- Codes of the enabled sources of channel `c`; a broken input gives 127 °C. -/
def State.thSource (s : State) (c : Nat) : Option Nat :=
  let en := if c = 0 then s.on DRAMC.TEMP_CFG_SRC_A_EN else s.on DRAMC.TEMP_CFG_SRC_B_EN
  let n := if c = 0 then s.fld DRAMC.TEMP_CFG_SRC_A else s.fld DRAMC.TEMP_CFG_SRC_B
  if en then some (if s.on (HEARTH.TH_VALUE_BROKEN n) then degC 127 else s.reading n) else none

/-- The temperature of channel `c` (R351): the highest of its sources. A nominal MR4 indication says only that 85 °C is not
exceeded: where it is the only source the temperature is free below that. -/
def State.chanTemp (s : State) (c : Nat) : Nat × State :=
  let th := s.thSource c
  if s.on DRAMC.TEMP_CFG_MR4_EN then
    if s.dram.mr4.testBit c then (max (degC 86) (th.getD 0), s)
    else match th with
      | some x => (x, s)
      | none =>
        let (v, s1) := s.free
        (v % (degC 85 + 1), s1)
  else (th.getD (degC 127), s)

/-- The band that follows band `old` at code `x` (R352). -/
def nextBand (old x : Nat) : Nat :=
  if degC 95 < x then 2
  else if old = 2 ∧ degC 93 < x then 2
  else if degC 85 < x then 1
  else if 1 ≤ old ∧ degC 83 < x then 1
  else 0

def bandFld (c : Nat) : Fld := if c = 0 then DRAMC.TEMP_STATUS_BAND_A else DRAMC.TEMP_STATUS_BAND_B
def tempFld (c : Nat) : Fld := if c = 0 then DRAMC.TEMP_STATUS_TEMP_A else DRAMC.TEMP_STATUS_TEMP_B
def driftFld (c : Nat) : Fld := if c = 0 then DRAMC.TRAIN_DRIFT_A else DRAMC.TRAIN_DRIFT_B

/-- TEMP_c in whole °C; its rounding, and what it reads above 127 °C, are free. -/
def State.tempField (s : State) (x : Nat) : Nat × State :=
  if degC 127 < x then s.free
  else
    let (q, s1) := s.divFree x 16
    (wrap 8 ((q : Int) - 40), s1)

/-- Rank-subchannels of channel `c` to retrain: two per trained rank. -/
def State.sliceCount (s : State) (c : Nat) : Nat :=
  2 * ((List.range 4).filter (fun r => s.rankLive (4 * c + r))).length

/-- The temperature of channel `c` is evaluated: band, ADMIT_HOLD and drift follow (R351–R354). -/
def State.tempUpdate (s : State) (c : Nat) : State :=
  let (x, s1) := s.chanTemp c
  let (f, s2) := s1.tempField x
  let s3 := ({ s2 with dram := { s2.dram with temp := Tbl.put (fun _ => 0) s2.dram.temp c x } }).setFld (tempFld c) f
  let b := nextBand (s.fld (bandFld c)) x
  let s4 := s3.setFld (bandFld c) b
  let s5 := if b = s.fld (bandFld c) then s4 else s4.event DRAMC.INT_STAT_BAND_EV
  let s6 := s5.setFld DRAMC.TEMP_STATUS_ADMIT_HOLD (bit (decide (s5.fld DRAMC.TEMP_STATUS_BAND_A = 2) || decide (s5.fld DRAMC.TEMP_STATUS_BAND_B = 2)))
  let ref := Tbl.get (fun _ => 0) s6.dram.refTemp c
  if s6.fld DRAMC.TRAIN_STATE = 3 ∧ !s6.on (driftFld c) ∧ (ref + 160 < x ∨ x + 160 < ref) then
    let s7 := { s6 with dram := { s6.dram with slices := Tbl.put (fun _ => 0) s6.dram.slices c (s6.sliceCount c) } }
    (s7.setFld (driftFld c) 1).recheckReady
  else s6

/-- The current temperature of channel `c` becomes its training reference. -/
def State.tempRef (s : State) (c : Nat) : State :=
  { s with dram := { s.dram with
    refTemp := Tbl.put (fun _ => 0) s.dram.refTemp c (Tbl.get (fun _ => 0) s.dram.temp c)
    slices := Tbl.put (fun _ => 0) s.dram.slices c 0 } }

/-- The fitted channels. -/
def State.chans (s : State) : List Nat := pick 2 s.chanFitted

/-- MR4_POLL (R337, R351): every 16 ms; `hotA` and `hotB` say that some device of the channel asks for more than the nominal refresh
rate. Devices that are not trained answer nothing. -/
def execMr4Poll (hotA hotB : Bool) (s : State) : Result :=
  if s.dramRuns && s.domain 1 then
    .next (State.each { s with dram := { s.dram with mr4 := bit hotA + 2 * bit hotB } } s.chans State.tempUpdate)
  else .next s

/-- TH_SAMPLE (R351, R425, R507, R556): input `n` is converted from the ratio or temperature `x`. -/
def execThSample (n : Nat) (x : Ratio) (rs : Nat) (s : State) : Result :=
  if 16 ≤ n ∨ !s.fabric ∨ !s.on (HEARTH.TH_CFG_EN n) then .next s
  else
    let s1 := s.sample n x.num x.den rs
    let s2 := s1.thTrips n (s1.reading n)
    .next (s2.each (s2.chans.filter (fun c => if c = 0 then s2.on DRAMC.TEMP_CFG_SRC_A_EN && decide (s2.fld DRAMC.TEMP_CFG_SRC_A = n)
      else s2.on DRAMC.TEMP_CFG_SRC_B_EN && decide (s2.fld DRAMC.TEMP_CFG_SRC_B = n))) State.tempUpdate)

/-- A live retrain slice of channel `c` (R354): after the last the reference becomes the current temperature. -/
def State.slice (s : State) (c : Nat) : State :=
  if s.on (driftFld c) then
    let n := Tbl.get (fun _ => 0) s.dram.slices c
    if n ≤ 1 then ((s.tempRef c).setFld (driftFld c) 0).event DRAMC.INT_STAT_RETRAIN_DONE
    else { s with dram := { s.dram with slices := Tbl.put (fun _ => 0) s.dram.slices c (n - 1) } }
  else s

/-- RETRAIN_SLICE (R354): none goes while a real-time port is in panic. -/
def execRetrainSlice (c : Nat) (s : State) : Result :=
  if c < 2 ∧ s.domain 1 ∧ (List.range 7).all (fun q => !s.on (DRAMC.RT_STATUS_IN_PANIC q)) then .next (s.slice c) else .next s

/-- RETRAIN_SLICE_FORCED (R343, R354): a slice that has waited 10 ms. -/
def execRetrainSliceForced (c : Nat) (s : State) : Result := if c < 2 ∧ s.domain 1 then .next (s.slice c) else .next s

/-! ## Poison, eviction, ranks out of service (R270, R271, R356–R363, R457) -/

/-- A word of an object has proved uncorrectable (R270). -/
def State.wordBad (s : State) (h off : Nat) : State :=
  if (s.dataObj h).isSome then (s.poisonWord h off).raise 6 0 0 false else s

/-- QUEUED and ADMITTED pages that hold object `j` end ABANDONED (R457). -/
def State.evictHolders (s : State) (j : Nat) : State :=
  let h := s.handleAt j
  s.each (s.pagesIn (fun st => st == pgQueued || st == pgAdmitted)) (fun t i => match t.pg i with
    | some p => if (t.heldBy i p).contains h then t.abandonPage i 3 true else t
    | none => t)

/-- Evicts objects (R271). -/
def State.evictObjects (s : State) (l : List Nat) : State :=
  if l = [] then s
  else ((s.each l (fun t j => if (match t.object j with
      | some o => !o.evicted
      | none => false) then (t.evictHolders j).evictIndex j else t)).raise 6 1 0 false).pageSettle

/-- Forgets the predictors of rank `q` (R347). -/
def State.freshRank (s : State) (q : Nat) : State :=
  ({ s with dram := { s.dram with banks := s.dram.banks.filter (fun x => decide (x.1 / 64 ≠ q)) } }).setFld
    (DRAMC.RANK_STATUS_LEARNED (q / 4) (q % 4)) 0

/-- The last granule of channel `c`'s migration is copied (R361 step 6). -/
def State.migrationEnd (s : State) (c : Nat) : State :=
  let from' := 4 * c + s.fld (DRAMC.MIG_STATUS_FROM c)
  let spare := 4 * c + s.fld (DRAMC.MIG_STATUS_TO c)
  let s1 := ((s.setRankState from' 5).setRankState spare 1).freshRank spare
  let s2 := ((s1.setFld (DRAMC.MIG_STATUS_ACTIVE c) 0).setFld (DRAMC.MIG_STATUS_LEFT c) 0).setFld (spareFld c) 0
  s2.event DRAMC.INT_STAT_MIG_DONE

/-- Rank `q` starts to migrate to `spare` (R361 step 1). -/
def State.migrationStart (s : State) (q spare : Nat) : State :=
  let c := q / 4
  let mine := (s.objects.filter (fun p => decide (0 < p.2.onRank q))).map (fun p => (⟨p.1, 1, q, p.2.onRank q⟩ : Move))
  let s1 := (s.setRankState q 3).setRankState spare 4
  let s2 := ((s1.setFld (DRAMC.MIG_STATUS_ACTIVE c) 1).setFld (DRAMC.MIG_STATUS_FROM c) (q % 4)).setFld (DRAMC.MIG_STATUS_TO c) (spare % 4)
  let s3 := s2.setFld (DRAMC.MIG_STATUS_LEFT c) (min (mine.foldl (fun a m => a + m.left) 0) 0xFFFFFF)
  if mine = [] then s3.migrationEnd c else s3.setMoves (s3.obj.moves ++ mine)

/-- Channel `c`'s migration stops: both ranks are retired, what lay on them is evicted (R363). -/
def State.migrationStop (s : State) (c : Nat) : State :=
  let from' := 4 * c + s.fld (DRAMC.MIG_STATUS_FROM c)
  let spare := 4 * c + s.fld (DRAMC.MIG_STATUS_TO c)
  let l := (s.objects.filter (fun p => decide (0 < p.2.onRank from') || decide (0 < p.2.onRank spare))).map Prod.fst
  let s1 := (s.setRankState from' 5).setRankState spare 5
  let s2 := s1.evictObjects l
  (s2.setFld (DRAMC.MIG_STATUS_ACTIVE c) 0).setFld (DRAMC.MIG_STATUS_LEFT c) 0

/-- Rank `q` is retired with nowhere to go (R362). -/
def State.retireRank (s : State) (q : Nat) : State := (s.setRankState q 5).evictObjects (s.onRank q)

/-- Rank `q` goes out of service (R360–R363). -/
def State.rankOut (s : State) (q : Nat) : State :=
  let c := q / 4
  if s.rankState q = 1 then
    match (List.range 4).find? (fun r => decide (s.rankState (4 * c + r) = 2)) with
    | some r => if s.on (DRAMC.MIG_STATUS_ACTIVE c) then s.retireRank q else s.migrationStart q (4 * c + r)
    | none => s.retireRank q
  else if s.rankState q = 2 then ((s.setRankState q 5).setFld (spareFld c) 0).raise 0xA 4 0 false
  else if s.rankState q = 4 then (s.migrationStop c).raise 0xA 3 0 false
  else s

/-- ERR_LOG latches the first event after UE and CA_ERR were both 0 (R365). -/
def State.errLog (s : State) (kind q sub device : Nat) : State :=
  if s.on DRAMC.FAULT_UE || s.on DRAMC.FAULT_CA_ERR then s
  else ((((s.setFld DRAMC.ERR_LOG_KIND kind).setFld DRAMC.ERR_LOG_CHANNEL (q / 4)).setFld DRAMC.ERR_LOG_RANK (q % 4)).setFld
    DRAMC.ERR_LOG_SUBCH sub).setFld DRAMC.ERR_LOG_DEVICE device

/-- The times of the corrected errors of rank `q` within the hour that ends at `time`, in seconds, with one at `time` (R359). -/
def State.ceWithin (s : State) (q time : Nat) : List Nat :=
  (Tbl.get (fun _ => []) s.dram.ceTimes q).filter (fun t => decide (time < t + 3600)) ++ [time]

/-- A corrected error on rank `q` at `time` (R357, R359). -/
def State.corrected (s : State) (q time : Nat) : State :=
  let l := s.ceWithin q time
  let s1 := s.bump (DRAMC.RANK_CE_COUNT_COUNT (q / 4) (q % 4)) 1
  let s2 := { s1 with dram := { s1.dram with ceTimes := Tbl.put (fun _ => []) s1.dram.ceTimes q l } }
  if s2.fld DRAMC.SCRUB_CFG_CE_LIMIT < l.length then
    let s3 := s2.event DRAMC.INT_STAT_CE_STORM_EV
    if s3.on DRAMC.MIG_CFG_CE_RETIRE then s3.rankOut q else s3
  else s2

/-- An uncorrectable error on rank `q` (R357, R360): `kind` 1 in a read, 2 in scrub. -/
def State.uncorrectable (s : State) (kind q sub device h off : Nat) : State :=
  let s1 := (s.errLog kind q sub device).bump (DRAMC.RANK_UE_COUNT_COUNT (q / 4) (q % 4)) 1
  let s2 := (s1.raise 0xA 0 0 false).wordBad h off
  s2.rankOut q

/-! ## Reads (R343–R347, R356–R360) -/

/-- The buffer of real-time port `p` stands at `level` bytes (R345). -/
def State.portLevel (s : State) (p level : Nat) : State :=
  let w := 256 * s.fld (DRAMC.RT_CFG_WATERMARK p)
  let h := 256 * s.fld (DRAMC.RT_CFG_HYST p)
  if s.on (DRAMC.RT_STATUS_IN_PANIC p) then (if w + h ≤ level then s.setFld (DRAMC.RT_STATUS_IN_PANIC p) 0 else s)
  else if level < w then
    ((s.setFld (DRAMC.RT_STATUS_IN_PANIC p) 1).bump (DRAMC.RT_STATUS_PANIC_COUNT p) 1).event DRAMC.INT_STAT_PANIC_EV
  else s

/-- The next of the ports `l` after port `t`, round and round. -/
def nextPort (t : Nat) (l : List Nat) : Option Nat :=
  match l.find? (fun p => decide (t < p)) with
  | some p => some p
  | none => l.head?

/-- May `port` be served at a command slot of subchannel `u` (2 × channel + subchannel) where the ports in the bit set `ready` have a request
(R343)? Real-time ports in panic come first, in turn, then the other real-time ports in turn, then ports 7 to 9 in an order that their
ages and row hits decide, then the Placer's, then the scrub, which also goes where MIG_SHARE holds the Placer back. -/
def State.dramServes (s : State) (u ready port : Nat) : Bool :=
  let real := pick 7 ready.testBit
  let panic := real.filter (fun p => s.on (DRAMC.RT_STATUS_IN_PANIC p))
  if panic ≠ [] then decide (nextPort (Tbl.get (fun _ => 6) s.dram.turnPanic u) panic = some port)
  else if real ≠ [] then decide (nextPort (Tbl.get (fun _ => 6) s.dram.turnReal u) real = some port)
  else if [7, 8, 9].any ready.testBit then [7, 8, 9].contains port && ready.testBit port
  else [10, 11].contains port && ready.testBit port

/-- Real-time port `port` of subchannel `u` has had its turn. -/
def State.dramServed (s : State) (u port : Nat) : State :=
  if 7 ≤ port then s
  else if s.on (DRAMC.RT_STATUS_IN_PANIC port) then
    { s with dram := { s.dram with turnPanic := Tbl.put (fun _ => 6) s.dram.turnPanic u port } }
  else { s with dram := { s.dram with turnReal := Tbl.put (fun _ => 6) s.dram.turnReal u port } }

/-- What the ECC makes of a burst with errors in the nibbles of the bit set `nibbles`, two of each device (R356): 0 good, 1 corrected,
2 uncorrectable with its device, 3 miscorrected. Errors in several devices may be miscorrected, a free choice. -/
def State.ecc (s : State) (nibbles : Nat) : Nat × Nat × State :=
  match pick 5 (fun d => decide (bits nibbles (2 * d) 2 ≠ 0)) with
  | [] => (0, 0xF, s)
  | [d] => if bits nibbles (2 * d) 2 = 3 then (2, d, s) else (1, d, s)
  | _ =>
    let (mis, s1) := s.choose
    (if mis then 3 else 2, 0xF, s1)

/-- DRAM_READ (R343–R347, R356–R360): a burst of `port` (R342), with its buffer at `level` bytes, reads a row of a bank on rank `q`,
subchannel `sub`, where the ports in `ready` have a request; `nibbles` holds errors at the word `offset` of object `handle`; `time` is
in seconds. In a full retrain requests wait (R355). -/
def execDramRead (port ready level handle offset q sub bank row nibbles time : Nat) (s : State) : Result :=
  let u := q / 4 * 2 + sub
  let s1 := if port < 7 then s.portLevel port level else s
  if 12 ≤ port ∨ 8 ≤ q ∨ 2 ≤ sub ∨ 32 ≤ bank ∨ !s.domain 1 then .next s
  else if !s.rankLive q ∨ s.fld DRAMC.TRAIN_STATE = 5 ∨ !s1.dramServes u ready port then .next s1
  else
    let s2 := (s1.dramServed u port).bankAccess ((2 * q + sub) * 32 + bank) row
    match s2.ecc nibbles with
    | (1, _, s3) => .next (s3.corrected q time)
    | (2, device, s3) => .next (s3.uncorrectable 1 q sub device handle offset)
    | (3, _, s3) => .next (s3.corrected q time)
    | (_, _, s3) => .next s3

/-- May patrol scrub read rank `q` (R359)? -/
def State.scrubs (s : State) (q : Nat) : Bool := decide (q < 8) && (decide (s.rankState q = 1) || decide (s.rankState q = 2))

/-- Granules of rank `q` that one pass of the scrub visits: every one, but on A1 half of those of a spare rank of 32 Gb devices, whose
address counter is a bit short (R359, R557). -/
def State.scrubSpan (s : State) (q : Nat) : Nat :=
  if s.on DRAMC.CFG_DENSITY && decide (s.rankState q = 2) then s.rankSize / 2 else s.rankSize

/-- The first granule of rank `q` in this pass: the two halves of a rank that takes two passes go by turns. -/
def State.scrubFirst (s : State) (q : Nat) : Nat := if s.scrubSpan q < s.rankSize ∧ s.dram.scrubOdd.testBit q then s.scrubSpan q else 0

/-- Rank and granule the scrub reads next, none where no rank is in service or spare: the granules of each rank in turn (R359). -/
def State.scrubNext (s : State) : Option (Nat × Nat) :=
  let q := s.dram.scrubAt / 2 ^ 23
  if s.scrubs q then some (q, s.scrubFirst q + s.dram.scrubAt % 2 ^ 23)
  else match (List.range 8).find? (fun r => decide (q < r) && s.scrubs r) with
    | some r => some (r, s.scrubFirst r)
    | none => ((List.range 8).find? s.scrubs).map (fun r => (r, s.scrubFirst r))

/-- The scrub has read granule `g` of rank `q`. -/
def State.scrubbed (s : State) (q g : Nat) : State :=
  let n := g - s.scrubFirst q + 1
  { s with dram := if n < s.scrubSpan q then { s.dram with scrubAt := q * 2 ^ 23 + n }
    else { s.dram with scrubAt := (q + 1) * 2 ^ 23, scrubOdd := withBit s.dram.scrubOdd q (!s.dram.scrubOdd.testBit q) } }

/-- A miscorrected word is written back: its bytes are not the object's any more (R356, R357). -/
def State.scrambleWord (s : State) (h off : Nat) : State :=
  match s.dataObj h with
  | some o =>
    let a := off / 64 * 64
    let n := min 64 (o.size - a)
    { s.setObject (indexOf h) (some (o.write a ((List.range n).map (fun i => Config.freeByte (s.freeCtr + i) % 256)))) with
      freeCtr := s.freeCtr + n }
  | none => s

/-- PATROL_SCRUB_READ (R357, R359): port 11 reads granule `granule` of rank `q`, which comes next, on row `row` of a bank of subchannel
`sub`; where `nibbles` holds errors they are at the word `offset` of object `handle`, and a corrected word is written back. -/
def execPatrolScrubRead (handle offset q granule sub bank row nibbles time : Nat) (s : State) : Result :=
  if s.scrubNext ≠ some (q, granule) ∨ 2 ≤ sub ∨ 32 ≤ bank ∨ !s.domain 1 ∨ s.fld DRAMC.SCRUB_CFG_SCRUB_HOURS = 0 ∨
      s.fld DRAMC.TRAIN_STATE = 5 then .next s
  else
    let s2 := (s.scrubbed q granule).bankAccess ((2 * q + sub) * 32 + bank) row
    match s2.ecc nibbles with
    | (1, _, s3) => .next (s3.corrected q time)
    | (2, device, s3) => .next (s3.uncorrectable 2 q sub device handle offset)
    | (3, _, s3) => .next ((s3.scrambleWord handle offset).corrected q time)
    | (_, _, s3) => .next s3

/-- A command/address error on rank `q` (R360). -/
def State.caError (s : State) (q sub : Nat) (forced : Bool) : State :=
  ((s.errLog 3 q sub 0xF).raise 0xA 1 0 forced).rankOut q

/-- DDR_ALERT (R360): ALERT_N reports a write CRC error on rank `q`; the write is replayed, and `again` says that the replay met a
second one. -/
def execDdrAlert (q sub : Nat) (again : Bool) (s : State) : Result :=
  if 8 ≤ q ∨ 2 ≤ sub ∨ !s.domain 1 ∨ !s.rankLive q then .next s
  else if again then .next (s.caError q sub false) else .next s

/-- A granule of rank `q` is copied to the same position on rank `r` (R347, R361): an access to each. -/
def State.copyAccess (s : State) (q r : Nat) : State :=
  let (x, s1) := s.free
  (s1.bankAccess (64 * q + x % 64) (x / 64)).bankAccess (64 * r + x % 64) (x / 64)

/-- MIGRATION_COPY (R361, R363): a live granule of channel `c`'s failing rank is copied; the last ends the migration. Copying pauses while
PLL 1 is out of lock or the domain is stopped. -/
def execMigrationCopy (c : Nat) (s : State) : Result :=
  if 2 ≤ c ∨ !s.domain 1 ∨ !s.on (CLOCK.PLL_STATUS_LOCKED 1) ∨ !s.on (DRAMC.MIG_STATUS_ACTIVE c) then .next s
  else
    let mine := s.obj.moves.filter (fun m => decide (m.reason = 1) && decide (m.rank / 4 = c))
    match mine with
    | [] => .next (s.migrationEnd c)
    | m :: rest =>
      let s1 := (s.migLess c 1).copyAccess m.rank (4 * c + s.fld (DRAMC.MIG_STATUS_TO c))
      if 1 < m.left then
        .next { s1 with obj := { s1.obj with moves := s1.obj.moves.map (fun x => if x = m then { x with left := x.left - 1 } else x) } }
      else
        let spare := 4 * c + s.fld (DRAMC.MIG_STATUS_TO c)
        let s2 := s1.mapObject m.index (fun o => { o with spread := o.spread.map (fun p => if p.1 = m.rank then (spare, p.2) else p) })
        let s3 := s2.setMoves (s2.obj.moves.filter (fun x => decide (x ≠ m)))
        .next (if rest = [] then s3.migrationEnd c else s3)

/-! ## Refresh (R349, R350) -/

/-- Debt of a bank set. -/
def State.debt (s : State) (i : Nat) : Nat := Tbl.get (fun _ => 0) s.dram.debt i

/-- Bank set `i` is refreshed: its open rows are closed (R347). -/
def State.closeSet (s : State) (i : Nat) : State :=
  { s with dram := { s.dram with banks := s.dram.banks.map (fun x =>
    if x.1 / 32 = i / 4 ∧ x.1 % 4 = i % 4 then (x.1, { x.2 with isOpen := false }) else x) } }

/-- Refresh management of bank set `i` (R337, R350): with idle time a bank gets its RFM at RAAIMT, a busy one only where it would pass
RAAMMT. -/
def State.manageSet (s : State) (i : Nat) (busy : Bool) : State :=
  let q := i / 8
  let limit := if busy then Config.raammt q else Config.raaimt q
  { s with dram := { s.dram with raa := s.dram.raa.map (fun x =>
    if x.1 / 32 = i / 4 ∧ x.1 % 4 = i % 4 ∧ limit ≤ x.2 then (x.1, x.2 - Config.raaimt q) else x) } }

/-- Rank-subchannel `u`, not accessed since the last boundary and wanted by no request, is in precharge power-down (R337). -/
def State.idleRank (s : State) (u busy : Nat) : State :=
  { s with dram := { s.dram with
    powerDown := if s.dram.touched.testBit u || decide (bits busy (4 * (u % 8)) 4 ≠ 0) then s.dram.powerDown else withBit s.dram.powerDown u true
    touched := withBit s.dram.touched u false } }

/-- REFRESH_INTERVAL (R349, R350): an interval boundary of channel `c`. Each bank set's debt increments; a set that requests keep busy
(bit i of `busy` for bank set i of the channel) is refreshed only at a debt of 3, a set with idle time has every debt paid. -/
def execRefreshInterval (c busy : Nat) (s : State) : Result :=
  if 2 ≤ c ∨ !s.domain 1 ∨ !s.dramRuns then .next s
  else
    let s1 := s.each ((List.range 8).filter (fun j => s.rankLive (4 * c + j / 2))) (fun t j => t.idleRank (8 * c + j) busy)
    .next (s1.each ((List.range 32).filter (fun j => s.rankLive (4 * c + j / 8))) (fun t0 j =>
      let i := 32 * c + j
      let keep := busy.testBit j
      let t := t0.manageSet i keep
      let d := t.debt i + 1
      let d1 := if !keep then 0 else if 3 ≤ d then d - 1 else d
      let t1 := { t with dram := { t.dram with debt := Tbl.put (fun _ => 0) t.dram.debt i d1 } }
      if d1 < d then t1.closeSet i else t1))

/-! ## The end of training (R340, R341, R355) -/

/-- The state of rank `q` after training, where the ranks in the bit set `failed` failed a step. -/
def State.trainedState (s : State) (failed q : Nat) : Nat :=
  let first := decide (s.fld DRAMC.TRAIN_STATE = 2)
  if s.chanRanks (q / 4) ≤ q % 4 then 0
  else if first then (if failed.testBit q then 6 else if s.isSpare q then 2 else 1)
  else if s.rankLive q && failed.testBit q then 6
  else s.rankState q

/-- TRAIN_COMPLETE (R340, R341, R355): training ends; `failed` is the set of the ranks that failed a step. A rank that fails carries no data:
what lay on it is lost. -/
def execTrainComplete (failed : Nat) (s : State) : Result :=
  if !s.domain 1 ∨ (s.fld DRAMC.TRAIN_STATE ≠ 2 ∧ s.fld DRAMC.TRAIN_STATE ≠ 5) then .next s
  else
    let again := decide (s.fld DRAMC.TRAIN_STATE = 5)
    let lost := pick 8 (fun q => decide (s.trainedState failed q = 6))
    let s1 := s.each (pick 2 (fun c => s.on (DRAMC.MIG_STATUS_ACTIVE c) && lost.any (fun q => decide (q / 4 = c) && decide (3 ≤ s.rankState q))))
      State.migrationStop
    let s2 := s1.each lost (fun t q => t.evictObjects (t.onRank q))
    let s3 := s2.each (List.range 8) (fun t q => (t.setRankState q (s.trainedState failed q)).setFld (DRAMC.RANK_STATUS_LEARNED (q / 4) (q % 4)) 0)
    let s4 := { s3 with dram := { s3.dram with banks := [], debt := [] } }
    let good := s4.chans.all (fun c => (List.range 4).any (fun r => decide (s4.rankState (4 * c + r) = 1) || decide (s4.rankState (4 * c + r) = 3)))
    let s5 := s4.each s4.chans (fun t c => ((t.tempUpdate c).tempRef c).setFld (driftFld c) 0)
    if good then
      let s6 := (s5.setFld DRAMC.TRAIN_STATE 3).event DRAMC.INT_STAT_TRAIN_DONE
      .next (if again then s6.event DRAMC.INT_STAT_RETRAIN_DONE else s6)
    else .next ((s5.setFld DRAMC.TRAIN_STATE 4).raise 0xA 2 0 false)

end Sys2Proof.Machine
end

