-- ==== Sys2Proof/Machine/Hv.lean ====
section
/-!
DEFINITION. The HV channels: windows, the PI, arcs, over-voltage and the reference's waveform (R522–R526).
-/

namespace Sys2Proof.Machine

/-! ## The reference (R522, R525) -/

/-- The duty of PWM period `i` of the AC cycle; a level between the two that is not exact is rounded either way (R525). -/
def State.acDuty (s : State) (n i : Nat) : Nat × State :=
  let lo := s.fld (HV.V_AC_LEVELS_LEVEL_LO n)
  let hi := s.fld (HV.V_AC_LEVELS_LEVEL_HI n)
  let r := s.fld (HV.V_AC_TIMING_RAMP n)
  let h := s.fld (HV.V_AC_TIMING_HIGH n)
  let at' := fun (k : Nat) =>
    if lo ≤ hi then
      let (q, t) := s.divFree ((hi - lo) * k) r
      (lo + q, t)
    else
      let (q, t) := s.divFree ((lo - hi) * k) r
      (lo - q, t)
  if i < r then at' (i + 1)
  else if i < r + h then (hi, s)
  else if i < 2 * r + h then at' (2 * r + h - i - 1)
  else (lo, s)

/-- One PWM period of channel `n`: whole fabric cycles, the remainder carried on (R522). -/
def State.hvPeriod (s : State) (n : Nat) : State :=
  let ac := s.on (HV.V_CFG_AC_EN n)
  let (d, s1) := if ac then s.acDuty n (s.hvc n).step else (s.fld (HV.V_DUTY_DUTY n), s)
  let x := s1.hvc n
  s1.setHvc n { x with rem := (x.rem + d * 10000) % 65536, step := if ac then (x.step + 1) % max 1 (s.fld (HV.V_AC_TIMING_PERIOD n)) else 0 }

/-- A clock phase reset restarts the AC cycles of channels with AC_SYNC (R525). -/
def State.acRestart (s : State) : State :=
  s.each (pick 32 (fun n => s.on (HV.V_CFG_AC_SYNC n) && s.on (HV.V_CFG_AC_EN n))) (fun t n => t.setHvc n { t.hvc n with step := 0 })

/-! ## Faults (R526) -/

/-- ARC (`bitNo` 0) or OVERVOLT (1) of channel `n`: HVENn low until the fault is cleared and ENABLE written again. -/
def State.hvFault (s : State) (n bitNo : Nat) (forced : Bool) : State :=
  let s1 := s.setFld (if bitNo = 0 then HV.V_STATUS_ARC_FLT n else HV.V_STATUS_OV_FLT n) 1
  let s2 := (s1.setFbit HV.FAULT_CH_FAULTED n true).setHvc n { s1.hvc n with armed := false, pulses := [] }
  ((s2.hvFollow n).raise 0xE bitNo n forced).recheckReady

/-! ## Windows (R524, R526) -/

/-- The PI of a looped channel (R524). -/
def State.hvLoop (s : State) (n mean : Nat) : State :=
  let e : Int := (s.fld (HV.V_SP_SETPOINT n) : Int) - mean
  let integ : Int := max 0 (min (65535 * 256) (((s.hvc n).integ : Int) + (s.fld (HV.V_PI_KI n) : Int) * e))
  let raw : Int := max 0 (min (65535 * 256) ((s.fld (HV.V_PI_KP n) : Int) * e + integ))
  let (d, s1) := s.divFree raw.toNat 256
  (s1.setHvc n { s1.hvc n with integ := integ.toNat }).setFld (HV.V_DUTY_DUTY n) (min 65535 d)

/-- AT_SP at the end of a window (R524). -/
def State.hvSettle (s : State) (n mean : Nat) : State :=
  let looped := s.on (HV.V_CFG_LOOP_EN n)
  let near := decide (((s.fld (HV.V_SP_SETPOINT n) : Int) - mean).natAbs ≤ s.fld (HV.V_SP_SP_TOL n))
  let x := s.hvc n
  let k := if !s.on (HV.V_STATUS_OUTPUT n) then 0 else if looped && !near then 0 else min 255 (x.settled + 1)
  let now := s.on (HV.V_STATUS_OUTPUT n) && (if looped then decide (10 ≤ k) else decide (s.fld (HV.V_CFG_SETTLE n) ≤ k))
  let was := s.on (HV.V_STATUS_AT_SP n)
  let s1 := (s.setHvc n { x with settled := k }).setFld (HV.V_STATUS_AT_SP n) (bit now)
  if now && !was then s1.event HV.INT_STAT_AT_SP_EV else s1

/-- The pulses that the spike comparator of channel `n` counts among `spikes`: 250 ns or longer, above ARC_THRESH (R83, R526). -/
def State.arcPulses (s : State) (n : Nat) (spikes : List (Nat × Nat)) : Nat :=
  spikes.countP (fun x => decide (s.fld (HV.V_ARC_THRESH n) < x.1) && decide (250 ≤ x.2))

/-- HV_WINDOW (R522, R524–R526, R562): a window of channel `n` ends with the sum of its 20 samples and the pulses at its monitor input.
While HV is off it does none of this. -/
def execHvWindow (n sum : Nat) (spikes : List (Nat × Nat)) (s : State) : Result :=
  if 32 ≤ n ∨ !s.fabric ∨ !s.on HV.STATUS_ENABLED then .next s
  else
    let pulses := s.arcPulses n spikes
    let (m, s1) := s.divFree sum 20
    let mean := m % 4096
    let s2 := (s1.setFld (HV.V_STATUS_MONITOR n) mean).bump (HV.V_STATUS_ARCS n) pulses
    let l := (pulses :: (s2.hvc n).pulses).take (max 1 (s.fld (HV.V_ARC_WINDOW n)))
    let s3 := s2.setHvc n { s2.hvc n with pulses := l }
    let s4 := (List.range 10).foldl (fun t _ => t.hvPeriod n) s3
    let s5 := if s4.on (HV.V_CFG_LOOP_EN n) then s4.hvLoop n mean else s4
    let s6 := s5.hvSettle n mean
    let s7 := if s.fld (HV.V_ARC_LIMIT n) < l.foldl (· + ·) 0 then s6.hvFault n 0 false else s6
    let s8 := if 20 * s.fld (HV.V_CFG_MON_MAX n) < sum then s7.hvFault n 1 false else s7
    .next s8.recheckReady

/-- HV_ENABLE (R523, R525, R526). -/
def execHvEnable (n : Nat) (v : Bool) (s : State) : Result := if n < 32 then .next ((s.hvWrite n v).recheckReady) else .next s

end Sys2Proof.Machine
end

