-- ==== Sys2Proof/Machine/PageAdmit.lean ====
section
/-!
DEFINITION. The page engine's intake, planning and admission (R446–R457, R464–R467) and the records it serves (R288–R291).
-/

namespace Sys2Proof.Machine

/-! ## Records and completions (R288–R293) -/

/-- Records being served from queue `q`, oldest first. -/
def State.servingOf (s : State) (q : Nat) : List Serving := Tbl.get (fun _ => []) s.serving q

/-- Stores them. -/
def State.setServing (s : State) (q : Nat) (l : List Serving) : State := { s with serving := Tbl.put (fun _ => []) s.serving q l }

/-- The completion record the services push (R291); the intake fills in SQ_HEAD and PHASE. -/
def Serving.image (x : Serving) (status : Nat) (body : List Nat) : Record :=
  [x.opcode, status] ++ leBytes 2 x.sqIndex ++ [x.chain, 0, 0, 0] ++ leBytes 4 x.tag ++ [0, 0, 0, 0] ++
    ((List.range 3).flatMap (fun i => leBytes 4 (body.getD i 0))) ++ List.replicate 36 0

/-- Pushes completions in the order of submission, as far as the oldest is done and the device queue has room (R292, R293). -/
def State.flushServing (s : State) (q : Nat) : Nat → State
  | 0 => s
  | n + 1 =>
    match s.servingOf q with
    | [] => s
    | x :: t =>
      match x.result with
      | none => s
      | some (st, body) =>
        if (s.dq (16 + q)).length < queueDepth (16 + q) then
          State.flushServing ((s.setServing q t).setDq (16 + q) (s.dq (16 + q) ++ [x.image st body])) q n
        else s

/-- The services take the record `r` of queue `q`, with its result where it has one. -/
def State.serve (s : State) (q : Nat) (r : Record) (page : Nat) (result : Option (Nat × List Nat)) : State :=
  let x : Serving := { opcode := fieldAt r 0 1, sqIndex := fieldAt r 2 2, chain := fieldAt r 4 1, tag := fieldAt r 0x10 4, result := result, page := page }
  (s.setServing q (s.servingOf q ++ [x])).flushServing q 256

/-- A record completed REFUSED, its cause in BODY at 0x10: no rule gives the causes numbers. -/
def State.refuse (s : State) (q : Nat) (r : Record) : State :=
  let (c, s1) := s.free
  s1.serve q r 0 (some (0x10, [c]))

/-- A record completed DONE. -/
def State.done (s : State) (q : Nat) (r : Record) : State := s.serve q r 0 (some (0, []))

/-- The record at the head of submission queue `q`, where its opcode is wanted, and the state without it. -/
def State.takeRecord (s : State) (q : Nat) (want : Nat → Bool) : Option (Record × State) :=
  if 16 ≤ q then none
  else match s.dq q with
    | r :: t => if want (fieldAt r 0 1) then some (r, s.setDq q t) else none
    | [] => none

/-- SQ_NOP (R290): a NOP is completed DONE after every earlier record of its queue; a reserved opcode is completed REFUSED. -/
def execSqNop (q : Nat) (s : State) : Result :=
  match s.takeRecord q (fun op => decide (op = 0) || (decide (6 ≤ op) && decide (op < 0x80))) with
  | none => .next s
  | some (r, t) => .next (if fieldAt r 0 1 = 0 ∧ fieldAt r 4 1 ≠ 3 then t.done q r else t.refuse q r)

/-- REQUEST (R464): the request bits are written to the engine field REQUEST; a record whose reserved request bits (R251) are not 0 is
refused (R290). -/
def execRequest (q : Nat) (s : State) : Result :=
  match s.takeRecord q (fun op => decide (op = 4)) with
  | none => .next s
  | some (r, t) => .next (if fieldAt r 4 1 = 3 ∨ 16 ≤ fieldAt r 0x14 1 then t.refuse q r else ((t.request (fieldAt r 0x14 1)).done q r))

/-! ## The configuration table (R465, R466) -/

/-- Are the bytes of an object from `a` to `a + n − 1` all 0? -/
def zeroBytes (l : List Nat) (a n : Nat) : Bool := ((l.drop a).take n).all (fun b => decide (b = 0))

/-- A sensor of the table. -/
def parseSensor (l : List Nat) (a : Nat) : Sensor := {
  gpio := fieldAt l a 1, cap := fieldAt l (a + 1) 1, role := fieldAt l (a + 2) 1 % 4, high := (fieldAt l (a + 2) 1).testBit 2
  simplex := (fieldAt l (a + 2) 1).testBit 3, front := (fieldAt l (a + 2) 1).testBit 4, zone := fieldAt l (a + 3) 1
  pos := sext 32 (fieldAt l (a + 4) 4), early := fieldAt l (a + 8) 2, late := fieldAt l (a + 10) 2 }

/-- The table of R465 as the page engine holds it. -/
def parseCfg (table status : Nat) (l : List Nat) : PageCfg := {
  table := table, status := status
  pageRing := fieldAt l 4 1, returns := fieldAt l 5 1, slack := fieldAt l 6 1, reprintLevel := fieldAt l 7 1
  pitchGauge := fieldAt l 8 1, pathCore := fieldAt l 9 1, sheetVg := fieldAt l 0xA 2, pitchLines := fieldAt l 0xC 4
  pitch0 := fieldAt l 0x10 8, admitLead := fieldAt l 0x18 4, sheetLead := fieldAt l 0x1C 4, fuserNip := fieldAt l 0x20 4
  purgeLines := fieldAt l 0x24 4, lineRate := fieldAt l 0x28 4, minGap := fieldAt l 0x2C 4
  zoneAxes := (List.range 8).map (fun z => fieldAt l (0x40 + 2 * z) 2)
  sensors := (List.range (fieldAt l 3 1)).map (fun j => parseSensor l (0x50 + 16 * j))
  origins := (List.range 24).map (fun i => sext 64 (fieldAt l (0x110 + 8 * i) 8)) }

/-- No value of the table is reserved (R465). -/
def cfgValues (l : List Nat) : Bool :=
  let n := fieldAt l 3 1
  decide (fieldAt l 0 2 = 0xC5A7) && decide (fieldAt l 2 1 = 1) && decide (1 ≤ n) && decide (n ≤ 12) && decide (fieldAt l 4 1 ≤ 15)
    && decide (fieldAt l 5 1 ≠ 1) && decide (fieldAt l 5 1 ≤ 16) && decide (fieldAt l 6 1 ≤ 64) && decide (fieldAt l 7 1 ≤ 9)
    && decide (fieldAt l 8 1 ≤ 15) && decide (fieldAt l 9 1 ≤ 31) && zeroBytes l 0x30 16
    && (List.range n).all (fun j => decide (fieldAt l (0x52 + 16 * j) 1 < 32) && zeroBytes l (0x5C + 16 * j) 4)

/-- Does the table pass R466? -/
def State.cfgOk (s : State) (l : List Nat) : Bool :=
  let c := parseCfg 0 0 l
  cfgValues l && s.gaugeOn c.pitchGauge && decide (c.sheetLead ≤ c.admitLead) && c.sensors.any (fun x => decide (x.role = 2))
    && (decide (c.returns = 0) || c.sensors.any (fun x => decide (x.role = 3)))
    && (List.range 16).all (fun i => !c.sheetVg.testBit i || decide (s.entriesOn (32 + i) = []))

/-- P_k (R447): the position of pitch `k`. -/
def PageCfg.pitchPos (c : PageCfg) (k : Nat) : Nat := posAdd c.pitch0 (k * c.pitchLines * 65536)

/-- The first pitch whose admission deadline lies ahead of the pitch gauge. -/
def State.firstPitch (s : State) (c : PageCfg) : Nat :=
  let d := posDiff (s.gauge c.pitchGauge).value c.pitch0 + c.admitLead * 65536
  if d < 0 ∨ c.pitchLines = 0 then 0 else (d / (c.pitchLines * 65536)).toNat + 1

/-- CONFIGURE (R464–R466): the page engine takes a configuration table, and holds it and the status table (R269). -/
def execConfigure (q : Nat) (s : State) : Result :=
  match s.takeRecord q (fun op => decide (op = 2)) with
  | none => .next s
  | some (r, t) =>
    let h := fieldAt r 0x14 2
    let st := fieldAt r 0x16 2
    let l := t.objRead h 0 0x1D0
    if fieldAt r 4 1 ≠ 3 ∧ (t.eng = engTinder ∨ t.eng = engBanked ∨ t.eng = engSafe) ∧ kindOf h = 12 ∧ kindOf st = 12 ∧
        t.objCheck h 0 0x1D0 false true = 0 ∧ t.objCheck st 0 128 false false = 0 ∧ t.cfgOk l = true then
      let c := parseCfg h st l
      let t1 := match t.page.cfg with
        | some o => (t.drop o.table).drop o.status
        | none => t
      let t2 := (t1.hold h).hold st
      .next (State.done { t2 with page := { t2.page with cfg := some c, pitches := [], nextPitch := t2.firstPitch c } } q r)
    else .next (t.refuse q r)

/-! ## Intake of PAGE records (R446, R447) -/

/-- The page of a page object (R262, R445), QUEUED. -/
def parsePage (o : Obj) (q : Nat) (r : Record) (mate : Option Nat) : Page := {
  state := pgQueued, marks := 0, reason := 0, pitch := none, gauge := 0, attempt := 0, withdrawn := false
  id := o.nat 0 4, flags := o.nat 4 4, lines := o.nat 8 4, sheetLines := o.nat 0x10 4, offset := sext 32 (o.nat 0x14 4)
  side := o.nat 0x18 1, source := o.nat 0x19 1, output := o.nat 0x1A 1, media := o.nat 0x1B 1, sheetId := o.nat 0x1C 4
  pitches := o.nat 0x20 1, seps := (List.range 24).map (fun i => o.nat (0x50 + 4 * i) 4)
  queue := q, sqIndex := fieldAt r 2 2, chain := fieldAt r 4 1, tag := fieldAt r 0x10 4
  imaging := 0, started := false, gone := false, mate := mate, holding := false, expansions := [] }

/-- No value of the page object is reserved. -/
def Obj.pageValues (o : Obj) : Bool :=
  let l := o.read 0 256
  zeroBytes l 0xC 4 && decide (fieldAt l 4 4 < 8) && decide (fieldAt l 0x18 1 ≤ 2) && decide (fieldAt l 0x19 1 ≤ 15)
    && decide (fieldAt l 0x1A 1 ≤ 15) && decide (1 ≤ fieldAt l 0x20 1) && decide (fieldAt l 0x20 1 ≤ 4) && zeroBytes l 0x21 47
    && (List.range 24).all (fun i => decide (fieldAt l (0x50 + 4 * i) 4 < 2 ^ 18)) && zeroBytes l 0xB0 80

/-- Bits per dot of station `k`. -/
def State.bpd (s : State) (k : Nat) : Nat := bpdOf (s.fld (CODEC.DEC_FORMAT_BPD k))

/-- Does a separation pass the checks of R447 at station `k` for a page of `lines` lines? -/
def State.sepFits (s : State) (k h lines : Nat) : Bool :=
  match s.dataObj h with
  | none => false
  | some o =>
    decide (kindOf h = 9) && decide (s.objCheck h 0 16 false false = 0) && decide (1 ≤ o.blockCount) && decide (16 + 8 * o.blockCount ≤ o.size)
      && decide (o.sepLines = lines) && o.headersOk (s.dots k) (s.bpd k) o.blockCount 0 0

/-- Is entry `i` of SEP good: blank, or a separation on the device of its engine station, which fits if the station is here? -/
def State.sepOk (s : State) (p : Page) (i : Nat) : Bool :=
  let w := p.seps.getD i 0
  if w = 0 then true
  else match s.engineStations[i]? with
    | none => false
    | some e => decide (bits e 16 2 = bits w 16 2) && (match s.localStation i with
        | some k => s.sepFits k (w % 65536) p.lines
        | none => !s.isOwn e)

/-- The front page that a back page's record directly follows in the ring (R447). -/
def State.frontOf (s : State) (q : Nat) (p : Page) : Option Nat :=
  match (s.servingOf q).getLast? with
  | none => none
  | some x =>
    match s.pg x.page with
    | some f =>
      if x.opcode = 1 ∧ x.result = none ∧ f.state = pgQueued ∧ f.side = 1 ∧ f.mate = none ∧ f.sheetId = p.sheetId ∧ f.pitches = p.pitches then some x.page
      else none
    | none => none

/-- Does the page object of handle `h`, submitted by record `r` of queue `q`, become a page (R446, R447, R290)? -/
def State.pageAccepts (s : State) (c : PageCfg) (q : Nat) (r : Record) (h : Nat) : Option (Page × Option Nat) :=
  match s.dataObj h with
  | none => none
  | some o =>
    let p := parsePage o q r none
    let front := s.frontOf q p
    if decide (c.pageRing = q) && decide (kindOf h = 8) && decide (s.objCheck h 0 256 false true = 0) && zeroBytes r 0x16 42 && o.pageValues
        && !s.page.order.contains (indexOf h) && p.seps.any (fun w => decide (w ≠ 0)) && (List.range 24).all (s.sepOk p)
        && decide (p.sheetLines + c.minGap ≤ p.pitches * c.pitchLines) && (decide (p.side = 0) || decide (c.returns ≠ 0))
        && (decide (p.side ≠ 2) || front.isSome) then
      some (p, if p.side = 2 then front else none)
    else none

/-- PAGE (R290, R446, R447): the page becomes QUEUED and holds its objects, or its record is completed. -/
def execPage (q : Nat) (s : State) : Result :=
  match s.takeRecord q (fun op => decide (op = 1)) with
  | none => .next s
  | some (r, t) =>
    let h := fieldAt r 0x14 2
    let chain := fieldAt r 4 1
    let readable := decide (kindOf h = 8) && decide (t.objCheck h 0 4 false true = 0)
    let (f, t1) := if readable then (t.objNat h 0 4, t) else t.free
    let finish := fun (st : Nat) => t1.serve q r 0 (some (st, [f, 0, 0]))
    if chain = 1 then .next (finish 0x11)
    else if chain = 2 then .next (finish 0x12)
    else match t.page.cfg with
      | none => .next (finish 0x10)
      | some c =>
        match (if chain = 3 then none else t.pageAccepts c q r h) with
        | none => .next (finish 0x10)
        | some (p, front) =>
          let i := indexOf h
          let t2 := (t.setPg i (some { p with mate := front })).holdPage i
          let t3 := match front with
            | some j => t2.mapPg j (fun x => { x with mate := some i })
            | none => t2
          .next (State.serve { t3 with page := { t3.page with order := t3.page.order ++ [i] } } q r i none)

/-! ## Pitches (R448, R449) -/

/-- The pitches a pass of `n` pitches covers from `k`, with those of its return pass. -/
def pitchCells (k n ret : Nat) (front : Bool) : List Nat :=
  (List.range n).map (fun j => k + j) ++ (if front then (List.range n).map (fun j => k + ret + j) else [])

/-- The lowest pitch from `k` whose cells are all free. -/
def lowestPitch (used : List Nat) (n ret : Nat) (front : Bool) : Nat → Nat → Option Nat
  | 0, _ => none
  | fuel + 1, k =>
    let l := pitchCells k n ret front
    if l.eraseDups.length = l.length ∧ l.all (fun j => !used.contains j) then some k else lowestPitch used n ret front fuel (k + 1)

/-- Assigns pitches from `k` upward to pages in ring order (R449). -/
def planFrom (k ret : Nat) : List Nat → List (Nat × Page) → List (Nat × Nat)
  | _, [] => []
  | used, (i, p) :: t =>
    let front := decide (p.side = 1)
    match lowestPitch used p.pitches ret front (64 + 8 * used.length) k with
    | some x => (i, x) :: planFrom k ret (used ++ pitchCells x p.pitches ret front) t
    | none => planFrom k ret used t

/-- QUEUED simplex pages, and front pages whose back is QUEUED too, in ring order: but for a reprint whose separations are still being
recompressed. -/
def State.plannable (s : State) : List (Nat × Page) :=
  s.page.order.filterMap (fun i => match s.pg i with
    | some p =>
      if p.state = pgQueued ∧ p.side ≠ 2 ∧ (p.side = 0 ∨ p.mate.any (fun j => s.pgState j = pgQueued)) ∧
          p.expansions.all (fun e => !e.reprint || e.ready) then some (i, p) else none
    | none => none)

/-- Pitches in use by admitted pages. -/
def State.pitchesUsed (s : State) : List Nat := s.page.pitches.filterMap (fun x => x.2.map (fun _ => x.1))

/-- The plan from pitch `k` on. -/
def State.plan (s : State) (c : PageCfg) (k : Nat) : List (Nat × Nat) := planFrom k c.returns s.pitchesUsed s.plannable

/-- BASE_i of a page admitted to pitch `k` (R448). -/
def PageCfg.base (c : PageCfg) (p : Page) (i k : Nat) : Int := c.origins.getD i 0 + (k * c.pitchLines : Nat) + p.offset

/-! ## The decode check (R453, R454) -/

/-- A block as the check sees it: first line, line count, cost, original length. -/
structure PlanBlock where
  first : Nat
  lines : Nat
  cost : Nat
  len : Nat
deriving DecidableEq, Repr

/-- The blocks of a separation. -/
def Obj.planBlocks (o : Obj) : List PlanBlock :=
  (List.range o.blockCount).map (fun n =>
    let e := o.entry n
    let h := parseHeader (o.read e.offset 32)
    ⟨e.first, e.lines, h.cost, h.origLen⟩)

/-- What the check needs to know of a station, times in fabric cycles × 1,024. -/
structure PlanCtx where
  now : Int
  tau : Int
  nf : Int
  base : Int
  w : Int
  bow : Int
  slack : Nat

/-- The time at which N_f reaches station line `x`. -/
def PlanCtx.time (c : PlanCtx) (x : Int) : Int := c.now + (x - c.nf) * c.tau

/-- The check over blocks from number `n`: the numbers that fail, and the finish. -/
def PlanCtx.check (c : PlanCtx) (stored : Nat → Bool) : Nat → Int → List PlanBlock → List Nat × Int
  | _, f, [] => ([], f)
  | n, f, b :: t =>
    let first := c.base + b.first
    let last := first + b.lines - 1
    let room := c.time (last - 287 + c.w)
    let need := c.time (first - (2 * c.w + c.bow))
    let g := max f room + ((if stored n then 2 else b.cost) * b.len * (64 + c.slack) : Nat)
    let r := c.check stored (n + 1) g t
    (if need < g then n :: r.1 else r.1, r.2)

/-- The stretch to expand (R454), grown until no block fails; none where it cannot grow. -/
def PlanCtx.stretch (c : PlanCtx) (f : Int) (l : List PlanBlock) : Nat → Nat → Nat → Option (Nat × Nat)
  | 0, _, _ => none
  | fuel + 1, k, last =>
    let fails := (c.check (fun n => decide (k ≤ n) && decide (n ≤ last)) 0 f l).1
    if fails = [] then some (k, last)
    else match (if fails.contains k then none else fails.find? (fun x => decide (last < x))) with
      | some x => c.stretch f l fuel k x
      | none => if k = 0 then none else c.stretch f l fuel (k - 1) last

/-- τ of R453; a LINE_RATE of 0 gives no value. -/
def State.lineTime (s : State) (c : PageCfg) : Nat × State := if c.lineRate = 0 then s.free else (1000000000 / c.lineRate, s)

/-- What the check needs at station `k` for engine station `i` and pitch `x`. -/
def State.planCtx (s : State) (c : PageCfg) (p : Page) (i k x now tau : Nat) : PlanCtx := {
  now := (now * 1024 : Nat), tau := (tau * 1024 : Nat), nf := (s.gv k).nf, base := c.base p i x, w := (s.window k : Nat)
  bow := (s.bowMax k : Nat), slack := c.slack }

/-- Planned finish of the page before at station `k`, not before now (R453). -/
def State.finishFrom (s : State) (now k : Nat) : Int := max ((now * 1024 : Nat) : Int) (Tbl.get (fun _ => 0) s.page.finish k)

/-- Its actual finish (R455): a decoder with no run left has finished. -/
def State.finishNow (s : State) (now k : Nat) : Int :=
  if (s.decoder k).runs = [] ∧ (s.decoder k).cur = none then ((now * 1024 : Nat) : Int) else s.finishFrom now k

/-- The expansion of a page at engine station `i`. -/
def Page.expansion (p : Page) (i : Nat) : Option Expansion := p.expansions.find? (fun e => !e.reprint && decide (e.station = i))

/-- How a page may pass at a station: plainly, with its expansion, or not; and the planned finish. -/
inductive Pass where
  | plain (finish : Int)
  | expanded (e : Expansion) (finish : Int)
  | fails
deriving DecidableEq, Repr

/-- The check of R453 at one station with its decoder free at `f`: `h` is the separation, `e` the expansion used. -/
def State.checkAt (s : State) (c : PageCfg) (p : Page) (i k h x now tau : Nat) (f : Int) (e : Option Expansion) : List Nat × Int :=
  match s.dataObj h with
  | none => ([0], f)
  | some o => (s.planCtx c p i k x now tau).check (fun n => match e with
      | some y => decide (y.first ≤ n) && decide (n ≤ y.last)
      | none => false) 0 f o.planBlocks

/-- The check of R453 and R455 at one station. -/
def State.passAt (s : State) (c : PageCfg) (p : Page) (i k h x now tau : Nat) (f : Int) : Pass :=
  let r := s.checkAt c p i k h x now tau f none
  if r.1 = [] then .plain r.2
  else match p.expansion i with
    | none => .fails
    | some e =>
      let r2 := s.checkAt c p i k h x now tau f (some e)
      if r2.1 = [] ∧ e.ready then .expanded e r2.2 else .fails

/-- The passes of a page at its stations, whose decoders are free from `start` on: engine station, station, separation, pass. -/
def State.pagePasses (s : State) (c : PageCfg) (p : Page) (x now tau : Nat) (start : Nat → Int) : List (Nat × Nat × Nat × Pass) :=
  (s.localSeps p).map (fun y => (y.1, y.2.1, y.2.2, s.passAt c p y.1 y.2.1 y.2.2 x now tau (start y.2.1)))

/-- The finish of a pass. -/
def Pass.finish? : Pass → Option Int
  | .plain f => some f
  | .expanded _ f => some f
  | .fails => none

/-- When the decoder of station `k` is free of a page with the passes `l`. -/
def freeAfter (start : Nat → Int) (l : List (Nat × Nat × Nat × Pass)) (k : Nat) : Int :=
  match (l.find? (fun y => decide (y.2.1 = k))).bind (fun y => y.2.2.2.finish?) with
  | some f => max f (start k)
  | none => start k

/-- The planned finish of a page whose runs are posted. -/
def State.planFinish (s : State) (l : List (Nat × Nat × Nat × Pass)) : State :=
  l.foldl (fun t y => match y.2.2.2.finish? with
    | some f => { t with page := { t.page with finish := Tbl.put (fun _ => 0) t.page.finish y.2.1 f } }
    | none => t) s

/-! ## Encoder jobs of the page engine (R454, R462) -/

/-- Objects that wait for a job: page, what is to be made. -/
def State.jobsWaiting (s : State) : List (Nat × Expansion) :=
  s.page.order.flatMap (fun i => match s.pg i with
    | some p => (p.expansions.filter (fun e => !e.ready && !(List.range 2).any (fun k =>
        decide (Tbl.get (fun _ => none) s.encFor k = some e.object)))).map (fun e => (i, e))
    | none => [])

/-- Takes an object that was to be made off its page and frees it. -/
def State.dropExpansion (s : State) (i obj : Nat) : State :=
  let s1 := s.mapPg i (fun p => { p with expansions := p.expansions.filter (fun e => decide (e.object ≠ obj)) })
  (s1.drop (s1.handleAt obj)).freeOrDefer obj

/-- A job failed: the expansion is given up, to be planned again; a page whose reprint cannot be made ends SPOILED with
REPRINT_FAILED (R462). -/
def State.jobFailed (s : State) (i : Nat) (e : Expansion) : State :=
  let s1 := s.dropExpansion i e.object
  if e.reprint then ((s1.mapPg i (fun p => { p with reason := reasonWord 0x14 0xFF 0 })).endPage i pgSpoiled) else s1

/-- Sets up encoder `k` for a job and starts it. -/
def State.startJob (s : State) (k i : Nat) (e : Expansion) : State :=
  match s.pg i, s.localStation e.station with
  | some p, some st =>
    let src := p.seps.getD e.station 0 % 65536
    let l := match s.dataObj src with
      | some o => (o.planBlocks.drop e.first).take (e.last + 1 - e.first)
      | none => []
    let level := match s.page.cfg with
      | some c => if e.reprint then c.reprintLevel else 0
      | none => 0
    let s1 := ((s.setFld (CODEC.ENC_HANDLES_SRC k) src).setFld (CODEC.ENC_HANDLES_DST k) (s.handleAt e.object)).setFld (CODEC.ENC_SRC_OFFSET_OFFSET k) e.first
    let s2 := ((s1.setFld (CODEC.ENC_GEOM_DOTS k) (s.dots st)).setFld (CODEC.ENC_GEOM_BPD k) (s.bpd st)).setFld (CODEC.ENC_COUNT_LINES k)
      (l.foldl (fun a b => a + b.lines) 0)
    let s3 := (((s2.setFld (CODEC.ENC_CFG_SRC_KIND k) 1).setFld (CODEC.ENC_CFG_FORCE_STORED k) (bit (!e.reprint))).setFld
      (CODEC.ENC_CFG_LEVEL k) level).setFld (CODEC.ENC_CFG_STATION k) e.station
    let s4 := (s3.setFld (CODEC.ENC_CFG_BLOCK_LINES k) (match l with
      | b :: _ => b.lines
      | [] => 0)).encGo k
    if s4.fld (CODEC.ENC_STATUS_STATE k) = 1 then { s4 with encFor := Tbl.put (fun _ => none) s4.encFor k (some e.object) }
    else s4.jobFailed i e
  | _, _ => s

/-- Idle encoders take the waiting jobs. -/
def State.startJobs (s : State) : State :=
  s.each [0, 1] (fun t k =>
    if t.on CODEC.CTRL_ENABLE ∧ t.fld (CODEC.ENC_STATUS_STATE k) ≠ 1 ∧ Tbl.get (fun _ => none) t.encFor k = none then
      match t.jobsWaiting with
      | (i, e) :: _ => t.startJob k i e
      | [] => t
    else t)

/-- Creates the object a job is to fill, of the size R332 requires; the page holds it. Answers whether it could be created. -/
def State.makeExpansion (s : State) (i station st first last kind : Nat) (reprint : Bool) (l : List PlanBlock) : Bool × State :=
  let lines := l.foldl (fun a b => a + b.lines) 0
  let per := match l with
    | b :: _ => b.lines
    | [] => 1
  let r := s.createData kind 1 false (encNeed lines (max 1 per) (s.dots st) (s.bpd st))
  if r.1 ≠ 0 then (false, s)
  else
    let e : Expansion := { reprint := reprint, station := station, first := first, last := last, object := indexOf r.2.1, ready := false }
    let s1 := r.2.2.mapPg i (fun p => { p with expansions := p.expansions ++ [e] })
    (true, if (s1.pg i).any (·.holding) then s1.hold r.2.1 else s1)

/-- The check of R453 when a page is planned, and the expansions it then needs (R454, R455). Answers whether one could not be
created. -/
def State.planPage (s : State) (c : PageCfg) (i x now tau : Nat) (start : Nat → Int) : Bool × State :=
  match s.pg i with
  | none => (false, s)
  | some p =>
    if p.flags.testBit 1 then (false, s)
    else (s.localSeps p).foldl (fun acc y =>
      match acc.2.dataObj y.2.2, p.expansion y.1 with
      | some o, none =>
        let ctx := acc.2.planCtx c p y.1 y.2.1 x now tau
        let l := o.planBlocks
        let f := start y.2.1
        match (ctx.check (fun _ => false) 0 f l).1 with
        | [] => acc
        | b :: _ =>
          match ctx.stretch f l (2 * l.length + 2) b b with
          | none => acc
          | some (k, last) =>
            let r := acc.2.makeExpansion i y.1 y.2.1 k last 10 false ((l.drop k).take (last + 1 - k))
            (acc.1 || !r.1, r.2)
      | _, _ => acc) (false, s)

/-- A page and its back, which comes after it at every station, are planned at pitch `x`. -/
def State.planSheet (s : State) (c : PageCfg) (i x now tau : Nat) : Bool × State :=
  let r := s.planPage c i x now tau (s.finishFrom now)
  match s.pg i with
  | some p => match p.mate with
    | some j =>
      let r2 := r.2.planPage c j (x + c.returns) now tau (freeAfter (s.finishFrom now) (s.pagePasses c p x now tau (s.finishFrom now)))
      (r.1 || r2.1, r2.2.startJobs)
    | none => (r.1, r.2.startJobs)
  | none => (r.1, r.2.startJobs)

/-- A spoiled page returns to QUEUED for its reprint (R462); after an UNDERRUN every separation is first recompressed. -/
def State.reprint (s : State) (i : Nat) : State :=
  match s.pg i with
  | none => s
  | some p =>
    let s1 := (s.setPg i (some { p with state := pgQueued, marks := withBit p.marks 9 true, reason := 0, pitch := none, gauge := 0, attempt := 1
                                        started := false, gone := false, imaging := 0 })).countPage 13
    if p.reason % 256 ≠ 4 then s1
    else
      let r := (s1.localSeps p).foldl (fun acc y =>
        match acc.2.dataObj y.2.2 with
        | some o =>
          let l := o.planBlocks
          let m := acc.2.makeExpansion i y.1 y.2.1 0 (l.length - 1) 9 true l
          (acc.1 && m.1, m.2)
        | none => (false, acc.2)) (true, s1)
      if r.1 then r.2.startJobs
      else (r.2.mapPg i (fun x => { x with reason := reasonWord 0x14 0xFF 0 })).endPage i pgSpoiled

/-- Every page that is to be reprinted and whose sheet has left the path returns to QUEUED (R462). -/
def State.reprints (s : State) : State :=
  s.each (s.page.order.filter (fun i => (s.pg i).any (fun p => decide (p.state = pgSpoiled) && p.mayReprint && p.clear))) State.reprint

/-- PAGE_PLAN (R455): the next page to plan is checked at its pitch, and its expansions are started; `now` is the fabric cycle. -/
def execPagePlan (now : Nat) (s : State) : Result :=
  match s.page.cfg with
  | none => .next s
  | some c =>
    let s0 := s.reprints
    match s0.plan c s0.page.nextPitch with
    | (i, x) :: _ =>
      let (tau, s1) := s0.lineTime c
      .next (s1.planSheet c i x now tau).2
    | [] => .next s0

/-! ## Admission (R450–R452, R455) -/

/-- Free sheet gauges, lowest first (R458). -/
def State.freeSheetGauges (s : State) (c : PageCfg) : List Nat :=
  ((List.range 16).filter (fun i => c.sheetVg.testBit i && !s.page.sheets.any (fun x => decide (x.gauge = 32 + i)))).map (32 + ·)

/-- The runs of a page at a station (R454): the separation, or its parts around the expansion. -/
def State.runsOf (s : State) (page h : Nat) (pass : Pass) : List Run :=
  let n := match s.dataObj h with
    | some o => o.blockCount
    | none => 0
  let mk := fun (obj first count : Nat) => ({ object := obj, page := page, first := first, count := count, newPage := false, endPage := false } : Run)
  let l := match pass with
    | .expanded e _ =>
      let eh := s.handleAt e.object
      let m := match s.dataObj eh with
        | some o => o.blockCount
        | none => 0
      [mk h 0 e.first, mk eh 0 m, mk h (e.last + 1) (n - (e.last + 1))]
    | _ => [mk h 0 n]
  let l1 := l.filter (fun r => decide (r.count ≠ 0))
  match l1 with
  | [] => []
  | r :: t =>
    let l2 := { r with newPage := true } :: t
    l2.dropLast ++ [{ l2.getLastD r with endPage := true }]

/-- The page is pushed onto the Graver queues of its stations and its runs are posted (R448, R454); where one refuses, it is taken off
all of them again. -/
def State.pushSheet (s : State) (c : PageCfg) (i x : Nat) (l : List (Nat × Nat × Nat × Pass)) : Bool × State :=
  match s.pg i with
  | none => (false, s)
  | some p =>
    let h := s.handleAt i
    let r := l.foldl (fun acc y =>
      if !acc.1 then acc
      else
        let runs := acc.2.runsOf h y.2.2.1 y.2.2.2
        if 8 < (acc.2.decoder y.2.1).runs.length + runs.length then (false, acc.2)
        else
          let r1 := acc.2.pushPage y.2.1 h (c.base p y.1 x) p.lines
          if r1.1 then (true, runs.foldl (fun (t : State) (x : Run) => t.pushRun y.2.1 x) r1.2) else (false, r1.2)) (true, s)
    if r.1 then r else (false, r.2.each (l.map (fun y => y.2.1)) (fun t k => t.pullPage i k))

/-- A page becomes ADMITTED at pitch `x` (R443, R450, R461). -/
def State.admitPage (s : State) (i x : Nat) (isReturn : Bool) (l : List (Nat × Nat × Nat × Pass)) : State :=
  match s.pg i with
  | none => s
  | some p =>
    let s1 := (s.setPg i (some { p with state := pgAdmitted, pitch := some x })).countPage 8
    let s2 := s1.each (List.range p.pitches) (fun t j =>
      { t with page := { t.page with pitches := Tbl.put (fun _ => none) t.page.pitches (x + j) (some ⟨i, isReturn, false⟩) } })
    if l.any (fun y => match y.2.2.2 with
      | .expanded _ _ => true
      | _ => false) then (s2.countPage 12).markPage i 8 0xFF
    else s2

/-- A skipped pitch with its reason (R451). -/
def State.skip (s : State) (reason : Nat) : State :=
  State.countPage { s with page := { s.page with skips := satAdd 32 s.page.skips 1 } } reason

/-- Is every condition of R20 and R450 on the engine met? -/
def State.admissionOpen (s : State) : Bool :=
  (decide (s.eng = engReady) || decide (s.eng = engRunning)) && !s.requestPending && !s.page.jammed && s.readyNow
    && (List.range 6).all (fun k => !(s.station k).enabled || s.on (GRAVER.GUARD_STATUS_LUT_VALID k))

/-- The first reason of R451 that stands before any page is looked at: HOLD, NOT_READY, SHEET. -/
def State.closedFor (s : State) (c : PageCfg) : Option Nat :=
  if s.on DRAMC.TEMP_STATUS_ADMIT_HOLD then some 0
  else if !s.admissionOpen then some 1
  else if s.freeSheetGauges c = [] then some 2
  else none

/-- Does every block pass? -/
def allPass (l : List (Nat × Nat × Nat × Pass)) : Bool := l.all (fun y => y.2.2.2 != .fails)

/-- The deadline of a pitch that no admitted page uses (R450, R451, R455). -/
def State.deadline (s : State) (c : PageCfg) (x now : Nat) : State :=
  match s.closedFor c with
  | some reason => s.skip reason
  | none =>
    match (s.plan c x).find? (fun y => decide (y.2 = x)) with
    | none => s.skip 6
    | some (i, _) =>
      match s.pg i with
      | none => s.skip 6
      | some p =>
        let (tau, s1) := s.lineTime c
        let l := s1.pagePasses c p x now tau (s1.finishNow now)
        let back := p.mate.bind (fun j => (s1.pg j).map (fun b =>
          (j, s1.pagePasses c b (x + c.returns) now tau (freeAfter (s1.finishNow now) l))))
        let lb := match back with
          | some (_, m) => m
          | none => []
        if !allPass l || !allPass lb then
          let r := s1.planSheet c i x now tau
          r.2.skip (if r.1 then 3 else 4)
        else
          let r := s1.pushSheet c i x l
          if !r.1 then r.2.skip 1
          else
            let s2 := (r.2.admitPage i x false l).planFinish l
            let s3 := match back with
              | some (j, m) => s2.admitPage j (x + c.returns) true m
              | none => s2
            if s3.eng = engReady then s3.enter engRunning else s3

/-- The runs an admitted back page is fed, with its expansions if it was admitted with them (R454). -/
def State.backPasses (s : State) (c : PageCfg) (p : Page) (x now tau : Nat) : List (Nat × Nat × Nat × Pass) :=
  (s.localSeps p).map (fun y =>
    let e := if p.marks.testBit 8 then (p.expansion y.1).filter (·.ready) else none
    let f := (s.checkAt c p y.1 y.2.1 y.2.2 x now tau (s.finishNow now y.2.1) e).2
    (y.1, y.2.1, y.2.2, match e with
      | some z => .expanded z f
      | none => .plain f))

/-- The deadline of a pitch reserved for the return pass of page `i` (R449, R451): an ADMITTED back page goes onto its stations' queues;
a pitch whose front was abandoned before feed is skipped. -/
def State.returnDeadline (s : State) (c : PageCfg) (x i now : Nat) : State :=
  match s.pg i with
  | none => s
  | some p =>
    let unfed := (p.mate.bind s.pg).any (fun f => decide (f.state = pgAbandoned) && !f.started)
    if unfed then s.skip ((s.closedFor c).getD 5)
    else if p.state = pgAdmitted ∧ p.pitch = some x then
      let (tau, s1) := s.lineTime c
      let l := s1.backPasses c p x now tau
      let r := s1.pushSheet c i x l
      if r.1 then r.2.planFinish l else r.2.abandonPage i 0x11 false
    else s

/-- The status table (R467). -/
def State.statusImage (s : State) (x : Nat) : List Nat :=
  leBytes 8 x ++ leBytes 4 s.page.skips ++ ((List.range 14).flatMap (fun n => leBytes 4 (Tbl.get (fun _ => 0) s.page.counts n))) ++
    leBytes 4 s.page.lastJam ++ List.replicate 56 0

/-- The page engine updates the status table after a deadline. -/
def State.writeStatus (s : State) (c : PageCfg) (x : Nat) : State :=
  if s.objCheck c.status 0 128 true false = 0 then s.objWrite c.status 0 (s.statusImage x) else s

/-- ADMISSION_DEADLINE (R450–R455, R467): PITCH_GAUGE crosses the deadline of the next pitch in fabric cycle `now`. -/
def execAdmissionDeadline (now : Nat) (s : State) : Result :=
  match s.page.cfg with
  | none => .next s
  | some c =>
    let x := s.page.nextPitch
    let s0 := s.reprints
    let s1 := { s0 with page := { s0.page with nextPitch := x + 1, lastPitch := x } }
    let s2 := match Tbl.get (fun _ => none) s1.page.pitches x with
      | none => s1.deadline c x now
      | some e => if e.isReturn then s1.returnDeadline c x e.page now else s1
    .next (s2.writeStatus c x).pageSettle

/-- WITHDRAW (R456, R464): a QUEUED page, or on a single device an ADMITTED one, ends ABANDONED with WITHDRAWN. -/
def execWithdraw (q : Nat) (s : State) : Result :=
  match s.takeRecord q (fun op => decide (op = 3)) with
  | none => .next s
  | some (r, t) =>
    let h := fieldAt r 0x14 2
    let i := indexOf h
    let ok := decide (kindOf h = 8) && (t.dataObj h).isSome &&
      (decide (t.pgState i = pgQueued) || (decide (t.pgState i = pgAdmitted) && !(t.on THAIQ.CTRL_ENABLE && decide (2 ≤ t.fld THAIQ.CASCADE_CFG_DEVICES))))
    if fieldAt r 4 1 ≠ 3 ∧ ok = true then .next (((t.abandonPage i 0x10 true).pageSettle).done q r) else .next (t.refuse q r)

end Sys2Proof.Machine
end

