-- ==== Sys2Proof/Machine/PagePath.lean ====
section
/-!
DEFINITION. Sheets on the path, jams, the path program's reports, encoder jobs that end, and page reports (R458–R463, R467, R468).
-/

namespace Sys2Proof.Machine

/-! ## Sheets (R458) -/

/-- A message of the page engine, which runs on Steward 0, to the path program. -/
def State.toPath (s : State) (c : PageCfg) (payload : Nat) : State := (s.deliver c.pathCore payload (32 + s.position * 64)).2

/-- The SHEET message (R458). -/
def sheetMessage (h gauge kind x : Nat) (p : Page) : Nat :=
  h % 65536 + gauge % 64 * 2 ^ 16 + kind % 4 * 2 ^ 22 + p.source % 16 * 2 ^ 24 + p.output % 16 * 2 ^ 28 + x % 65536 * 2 ^ 32
    + p.media % 256 * 2 ^ 48 + p.pitches % 256 * 2 ^ 56

/-- Commits sheet gauge `g` for pitch `x`: the pitch gauge less P_k (R230, R458). -/
def State.commitSheet (s : State) (c : PageCfg) (g x : Nat) : State :=
  let k := g - 32
  let s1 := (s.setReg (GAUGE.VG_SRC k) 0).setFld (GAUGE.VG_SRC_A k) c.pitchGauge
  let s2 := s1.setReg (GAUGE.VG_C1 k) 0x10000
  ((s2.setPair (GAUGE.VG_OFF_LO k) (GAUGE.VG_OFF_HI k) (wrap 64 (-(c.pitchPos x : Int)))).vgCommit k).2

/-- May the pass of page `p` at its pitch start a sheet: its own sheet, or the return of one that was fed (R458, R449)? -/
def State.mayStart (s : State) (p : Page) (isReturn : Bool) : Bool :=
  !p.started && (if isReturn then (p.mate.bind s.pg).any (fun f => f.started && !f.gone) else isActive p.state)

/-- Does a sensor watch a pass of page `p` (R465)? -/
def Sensor.watches (x : Sensor) (p : Page) (isReturn : Bool) : Bool := if isReturn || decide (p.side = 0) then x.simplex else x.front

/-- The positions on its sheet gauge, in lines, at which a pass has entries: the four window edges of each sensor that watches it, then its
transfer and its fuser post (R458, R459). -/
def PageCfg.passPositions (c : PageCfg) (p : Page) (isReturn : Bool) : List Int :=
  (c.sensors.filter (fun x => x.watches p isReturn)).flatMap (fun x =>
    let tail : Int := x.pos + p.sheetLines
    [x.pos - (x.early : Int), x.pos + (x.late : Int), tail - x.early, tail + x.late])
    ++ [p.offset + (p.lines : Int), ((p.sheetLines + c.fuserNip : Nat) : Int)]

/-- Arms an entry of the page engine on sheet gauge `g`: a POST to Steward 0, which runs it. The entry is the lowest free one of that core's
range, or past it of those outside every range; with none free nothing is armed (assumption 59). -/
def State.armPost (s : State) (g : Nat) (pos : Int) : State :=
  if !s.gaugeOn g then s
  else match (s.freeInRange 32).or s.freeForHost with
    | none => s
    | some e =>
      let (f, s1) := s.free
      let s2 := s1.takeEntry e 32 6 (32 + f % 65536 * 65536) g 1 (wrap 64 (pos * 65536)) false false
      match s2.entry e with
      | some x => s2.acceptEntry e { x with engine := true }
      | none => s2

/-- SHEET_START (R458): the pitch gauge crosses P_k − SHEET_LEAD of pitch `x`. -/
def execSheetStart (x : Nat) (s : State) : Result :=
  match s.page.cfg, Tbl.get (fun _ => none) s.page.pitches x with
  | some c, some e =>
    match s.pg e.page, s.freeSheetGauges c with
    | some p, g :: _ =>
      if p.pitch = some x ∧ s.mayStart p e.isReturn then
        let s1 := s.commitSheet c g x
        let s2 := s1.setPg e.page (some { p with started := true, gauge := g })
        let sh : Sheet := { page := e.page, pitch := x, isReturn := e.isReturn, gauge := g, seen := [], stopped := false }
        let s3 := { s2 with page := { s2.page with sheets := s2.page.sheets ++ [sh] } }
        .next (((c.passPositions p e.isReturn).foldl (fun t x => t.armPost g x) s3).toPath c (sheetMessage (s.handleAt e.page) g (bit e.isReturn) x p))
      else .next s
    | _, _ => .next s
  | _, _ => .next s

/-- The moving sheet on gauge `g`. -/
def State.sheetOn (s : State) (g : Nat) : Option Sheet := s.page.sheets.find? (fun x => decide (x.gauge = g) && !x.stopped)

/-- TRANSFER_POST (R458): the sheet gauge has passed IMAGE_OFFSET + LINES. -/
def execTransferPost (g : Nat) (s : State) : Result :=
  match s.sheetOn g with
  | none => .next s
  | some x => .next (s.mapPg x.page (fun p =>
      if p.state = pgCommitted ∨ p.state = pgImaged then { p with state := pgTransferred } else p)).pageSettle

/-- FUSER_POST (R458): the sheet gauge has passed SHEET_LINES + FUSER_NIP. -/
def execFuserPost (g : Nat) (s : State) : Result :=
  match s.sheetOn g with
  | none => .next s
  | some x => .next (s.mapPg x.page (fun p => if p.state = pgTransferred then { p with state := pgFused } else p)).pageSettle

/-! ## Jams (R459, R460) -/

/-- Is a sensor covered? -/
def State.covered (s : State) (x : Sensor) : Bool := s.engine.gpioBall.testBit x.gpio == x.high

/-- Does a sensor watch this pass? -/
def State.watches (s : State) (x : Sensor) (sh : Sheet) : Bool :=
  (s.pg sh.page).any (fun p => x.watches p sh.isReturn)

/-- What sensor `j` has seen of a sheet, as bits. -/
def Sheet.seenAt (sh : Sheet) (j : Nat) : Nat := Tbl.get (fun _ => 0) sh.seen j

/-- Notes bit `b` of sensor `j` for the pass on gauge `g`. -/
def State.note (s : State) (g j b : Nat) : State :=
  { s with page := { s.page with sheets := s.page.sheets.map (fun x =>
    if x.gauge = g then { x with seen := Tbl.put (fun _ => 0) x.seen j (withBit (x.seenAt j) b true) } else x) } }

/-- The zone a sheet is in: that of the last sensor its leading edge has passed, the most upstream one before that. -/
def PageCfg.zoneOf (c : PageCfg) (sh : Sheet) : Nat :=
  ((List.range c.sensors.length).foldl (fun (a : Int × Nat) j =>
    match c.sensors[j]? with
    | some x => if (sh.seenAt j).testBit 1 && decide (a.1 ≤ x.pos) then (x.pos, x.zone) else a
    | none => a) (-(2 : Int) ^ 40, 0)).2

/-- The zone of a sheet that waits in the duplex loop: that of the handoff sensor. -/
def PageCfg.loopZone (c : PageCfg) : Nat :=
  match c.sensors.find? (fun x => decide (x.role = 3)) with
  | some x => x.zone
  | none => 0

/-- A jam of `kind` at sensor `j` in zone `z` (R459, R460). -/
def State.jam (s : State) (c : PageCfg) (kind j z : Nat) : State :=
  let s1 := { s with page := { s.page with jammed := true, lastJam := kind + 256 * j } }
  let s2 := s1.each (s1.pagesIn (fun st => st == pgAdmitted)) (fun t i => t.abandonPage i 0x12 true)
  let (f, s3) := s2.free
  let s4 := s3.toPath c (2 * 2 ^ 22 + f % 2 ^ 40 * 2 ^ 24)
  let axes := ((List.range (z + 1)).flatMap (fun i => s4.flat (c.zoneAxes.getD i 0))).filterMap s4.axisOf
  let s5 := s4.each axes (fun t a => t.axisEnable a false)
  let stopped := s5.page.sheets.filter (fun x => decide (c.zoneOf x ≤ z))
  let inLoop := (s5.pagesIn isActive).filter (fun i => (s5.pg i).any (fun p => decide (p.side = 1) && p.started && !p.gone) &&
    !s5.page.sheets.any (fun x => decide (x.page = i)) && decide (c.loopZone ≤ z))
  let fronts := stopped.filterMap (fun x => if x.isReturn then (s5.pg x.page).bind (·.mate) else none)
  let s6 := { s5 with page := { s5.page with sheets := s5.page.sheets.map (fun x => if c.zoneOf x ≤ z then { x with stopped := true } else x) } }
  let s7 := s6.each (fronts ++ stopped.map (·.page) ++ inLoop) (fun t i => t.spoilNow i 0xB (kind + 256 * j))
  let s8 := s7.each ((s7.pagesIn isCommitted).filter (fun i => (s7.pg i).any (fun p => !p.started))) (fun t i => t.spoilNow i 9 0)
  let s9 := if s8.eng = engRunning then { s8 with engine := { s8.engine with bankPending := true } } else s8
  s9.pageSettle

/-- A page's sheet has left at the exit: it ends, and its gauge is free. -/
def State.leaves (s : State) (i : Nat) : State := (s.dropSheets i).finishPage i

/-- A trailing edge inside its window at the exit ends the pass: of a duplex sheet both pages end, front first (R459). -/
def State.exits (s : State) (sh : Sheet) : State :=
  let s1 := match (s.pg sh.page).bind (·.mate) with
    | some f => if sh.isReturn then s.leaves f else s
    | none => s
  s1.leaves sh.page

/-- The front pass ends at the duplex handoff: its gauge is free. -/
def State.handoff (s : State) (sh : Sheet) : State :=
  State.mapPg (s.freeSheets (fun x => decide (x.gauge = sh.gauge))) sh.page
    (fun p => { p with gauge := 0 })

/-- The lines of a pass's sheet. -/
def State.sheetLines (s : State) (sh : Sheet) : Int :=
  match s.pg sh.page with
  | some p => p.sheetLines
  | none => 0

/-- The position of a sheet, 1/65,536 line. -/
def State.sheetPos (s : State) (sh : Sheet) : Int := sext 64 (s.gauge sh.gauge).value

/-- SENSOR_EDGE_CAPTURE (R459): sensor `j` of the configuration sees an edge of its GPIO. -/
def execSensorEdgeCapture (j : Nat) (rising : Bool) (s : State) : Result :=
  match s.page.cfg with
  | none => .next s
  | some c =>
    match c.sensors[j]? with
    | none => .next s
    | some x =>
      let s1 := { s with engine := { s.engine with gpioBall := withBit s.engine.gpioBall x.gpio rising } }
      let stray := if s1.page.jammed then s1 else s1.jam c 4 j x.zone
      if rising == x.high then
        match s1.page.sheets.find? (fun sh => s1.watches x sh && !sh.stopped && !(sh.seenAt j).testBit 1 && !(sh.seenAt j).testBit 2) with
        | none => .next stray
        | some sh =>
          if s1.sheetPos sh < (x.pos - x.early) * 65536 then .next (if s1.page.jammed then s1 else s1.jam c 1 j x.zone)
          else .next (s1.note sh.gauge j 1)
      else
        match s1.page.sheets.find? (fun sh => s1.watches x sh && !sh.stopped && (sh.seenAt j).testBit 1 && !(sh.seenAt j).testBit 4 && !(sh.seenAt j).testBit 5) with
        | none => .next stray
        | some sh =>
          let tail := x.pos + s1.sheetLines sh
          let s2 := s1.note sh.gauge j 4
          if (tail - x.early) * 65536 ≤ s1.sheetPos sh ∧ s1.sheetPos sh ≤ (tail + x.late) * 65536 then
            if x.role = 2 then .next (s2.exits sh).pageSettle
            else if x.role = 3 ∧ !sh.isReturn then .next (s2.handoff sh)
            else .next s2
          else .next s2

/-- JAM_WINDOW_CLOSE (R459): a window of the pass on gauge `g` at sensor `j` closes. -/
def execJamWindowClose (g j : Nat) (leading : Bool) (s : State) : Result :=
  match s.page.cfg, s.sheetOn g with
  | some c, some sh =>
    match c.sensors[j]? with
    | none => .next s
    | some x =>
      if !s.watches x sh then .next s
      else if leading then
        let s1 := s.note g j 2
        .next (if (sh.seenAt j).testBit 1 || (sh.seenAt j).testBit 2 then s1 else s1.jam c 2 j x.zone)
      else
        let s1 := s.note g j 5
        .next (if (sh.seenAt j).testBit 5 || !s.covered x then s1 else s1.jam c 3 j x.zone)
  | _, _ => .next s

/-! ## Reports of the path program, and purge (R458, R460) -/

/-- The record of `kind` at the head of service queue 32. -/
def State.takeReport (s : State) (kind : Nat) : Option (Record × State) :=
  match s.dq 32 with
  | r :: t => if fieldAt r 0 1 = kind then some (r, s.setDq 32 t) else none
  | [] => none

/-- A sheet that could not be fed: its page ends, and with it a back that was to come on the same sheet. -/
def State.unfed (s : State) (i : Nat) : State :=
  let s1 := State.mapPg (s.freeSheets (fun x => decide (x.page = i))) i
    (fun p => { p with started := false, gauge := 0 })
  if isCommitted (s1.pgState i) then s1.spoilNow i 0xC 0 else s1.abandonPage i 0xC false

/-- FEED_FAIL (R458, R460): the page of the pass is abandoned or spoiled with FEED, and its pitch counts as a SHEET skip. -/
def execFeedFail (s : State) : Result :=
  match s.takeReport 1 with
  | none => .next s
  | some (r, t) =>
    match t.page.sheets.find? (fun x => decide (x.gauge = fieldAt r 1 1)) with
    | none => .next t
    | some sh =>
      let t1 := t.unfed sh.page
      let t2 := match (t1.pg sh.page).bind (·.mate) with
        | some j => if sh.isReturn then t1 else t1.unfed j
        | none => t1
      let t3 := match Tbl.get (fun _ => none) t2.page.pitches sh.pitch with
        | some e => if e.counted then t2
            else State.skip { t2 with page := { t2.page with pitches := Tbl.put (fun _ => none) t2.page.pitches sh.pitch (some { e with counted := true }) } } 2
        | none => t2
      .next t3.pageSettle

/-- PATH_FAULT (R458, R459): a jam of kind PATH in the zone the record names; no rule gives it a sensor. -/
def execPathFault (s : State) : Result :=
  match s.takeReport 2 with
  | none => .next s
  | some (r, t) =>
    match t.page.cfg with
    | some c =>
      let (f, t1) := t.free
      .next (t1.jam c 5 (f % 16) (fieldAt r 2 1))
    | none => .next t

/-- PURGE (R460, R464): in BANKED after a jam, with every sensor uncovered. -/
def execPurge (q : Nat) (s : State) : Result :=
  match s.takeRecord q (fun op => decide (op = 5)) with
  | none => .next s
  | some (r, t) =>
    match t.page.cfg with
    | some c =>
      if fieldAt r 4 1 ≠ 3 ∧ t.eng = engBanked ∧ t.page.jammed = true ∧ c.sensors.all (fun x => !t.covered x) then
        let (f, t1) := t.free
        let t2 := t1.toPath c (2 * 2 ^ 22 + f % 2 ^ 40 * 2 ^ 24)
        .next (State.done { t2 with page := { t2.page with purging := true } } q r)
      else .next (t.refuse q r)
    | none => .next (t.refuse q r)

/-- PURGE_DONE (R459, R460): the sheets of ended pages are off the path; a sensor still covered is a PURGE_FAIL. -/
def execPurgeDone (s : State) : Result :=
  match s.takeReport 3 with
  | none => .next s
  | some (_, t) =>
    match t.page.cfg with
    | some c =>
      if t.page.purging then
        let t1 := t.each ((t.pagesIn isEnded).filter (fun i => (t.pg i).any (fun p => !p.clear))) State.dropSheets
        let t2 := State.freeSheets { t1 with page := { t1.page with purging := false } } (·.stopped)
        match (List.range c.sensors.length).find? (fun j => (c.sensors[j]?).any t2.covered) with
        | some j => .next { t2 with page := { t2.page with lastJam := 6 + 256 * j } }
        | none => .next (State.reprints { t2 with page := { t2.page with jammed := false } })
      else .next t
    | none => .next t

/-! ## Encoder jobs and reports (R335, R454, R462, R463) -/

/-- The object a job filled is ready: an expansion becomes resident, a recompressed separation takes the old one's place. -/
def State.jobDone (s : State) (i : Nat) (e : Expansion) : State :=
  let s1 := s.mapPg i (fun p => { p with expansions := p.expansions.map (fun x => if x.object = e.object then { x with ready := true } else x) })
  if e.reprint then
    match s1.pg i with
    | none => s1
    | some p =>
      let new := s1.ownWord (s1.handleAt e.object)
      let old := p.seps.getD e.station 0
      let s2 := if p.holding then (s1.hold (new % 65536)).drop (old % 65536) else s1
      s2.setPg i (some { p with seps := p.seps.set e.station new })
  else s1

/-- What the end of encoder `k`'s job means to the page it was made for, if any; the encoder then takes the next (R454, R462). -/
def State.jobEnd (t : State) (k : Nat) : State :=
  match Tbl.get (fun _ => none) t.encFor k with
  | none => t.startJobs
  | some obj =>
    let t1 := { t with encFor := Tbl.put (fun _ => none) t.encFor k none }
    let mine := t1.page.order.findSome? (fun i => (t1.pg i).bind (fun p => (p.expansions.find? (fun e => decide (e.object = obj))).map (fun e => (i, e))))
    match mine with
    | none => t1.startJobs
    | some (i, e) => (if t1.fld (CODEC.ENC_STATUS_STATE k) = 2 then t1.jobDone i e else t1.jobFailed i e).startJobs

/-- ENCODER_JOB_END (R331–R335, R454, R462): encoder `k` ends its job, with the token streams it has found; for one input, geometry and
level these are always the same. While CODEC is off a running job waits (R550). -/
def execEncoderJobEnd (k : Nat) (streams : List (List Nat)) (s : State) : Result :=
  if 2 ≤ k ∨ !s.codecOn ∨ s.fld (CODEC.ENC_STATUS_STATE k) ≠ 1 ∨ streams ≠ s.encFinds k then .next s else .next ((s.encEnd k).jobEnd k)

/-- STATUS of a page's completion (R291). -/
def reportStatus (st : Nat) : Nat := if st = pgDelivered then 1 else if st = pgSpoiled then 2 else 3

/-- PAGE_REPORT (R462, R463): the next page in the order of the ring has ended and its sheet has left the path: it is reported once. -/
def execPageReport (s : State) : Result :=
  let s0 := s.reprints
  match s0.page.order with
  | [] => .next s0
  | i :: t =>
    match s0.pg i with
    | none => .next { s0 with page := { s0.page with order := t } }
    | some p =>
      if isEnded p.state ∧ p.clear ∧ !(p.state = pgSpoiled ∧ p.mayReprint) then
        let l := (s0.servingOf p.queue).map (fun x => if x.opcode = 1 ∧ x.page = i ∧ x.result = none ∧ x.sqIndex = p.sqIndex
          then { x with result := some (reportStatus p.state, [p.id, p.marks, p.reason]) } else x)
        let s1 := s0.setServing p.queue l
        .next (State.flushServing { s1 with page := { s1.page with order := t } } p.queue 256)
      else .next s0

end Sys2Proof.Machine
end

