-- ==== Sys2Proof/Machine/Icx.lean ====
section
/-!
DEFINITION. ICX images: header, program table, section table, and the checks of a loader (R241–R245), over bytes from wherever the
image lies: a program object, or the flash at boot.
-/

namespace Sys2Proof.Machine

/-- A section of a program (R243). -/
structure IcxSection where
  kind : Nat
  load : Nat
  file : Nat
  fileSize : Nat
  memSize : Nat
  check : Nat
deriving DecidableEq, Repr

/-- A program of an image (R242) with its sections. -/
structure IcxProgram where
  id : Nat
  target : Nat
  affinity : Nat
  entry : Nat
  vbase : Nat
  cal : Nat
  flags : Nat
  sections : List IcxSection
deriving DecidableEq, Repr

/-- The little-endian value of `n` bytes of an image at `a`. -/
def icxNat (rd : Nat → Nat) (a n : Nat) : Nat := leNat ((List.range n).map (fun i => rd (a + i)))

/-- Are the `n` bytes at `a` zero? -/
def icxZero (rd : Nat → Nat) (a n : Nat) : Bool := (List.range n).all (fun i => decide (rd (a + i) % 256 = 0))

/-- The CRC-32C of `n` bytes at `a`. -/
def icxCrc (rd : Nat → Nat) (a n : Nat) : Nat := crc32c ((List.range n).map (fun i => rd (a + i)))

/-- Local memory of a TARGET (R182, R242). -/
def targetMem (t : Nat) : Nat := if t < 32 ∨ t = 0xF0 then 0x10000 else 0x80000

/-- Section `i` of the table at `t`. -/
def icxSection (rd : Nat → Nat) (t i : Nat) : IcxSection :=
  let a := t + 24 * i
  { kind := icxNat rd a 1, load := icxNat rd (a + 4) 4, file := icxNat rd (a + 8) 4, fileSize := icxNat rd (a + 12) 4
    memSize := icxNat rd (a + 16) 4, check := icxNat rd (a + 20) 4 }

/-- Is a section of the table well formed in an image of `len` bytes (R243, R244)? Every section of the table is held to this,
whether or not a program names it. -/
def sectionOk (rd : Nat → Nat) (len a : Nat) (x : IcxSection) : Bool :=
  decide (1 ≤ x.kind) && decide (x.kind ≤ 3) && icxZero rd (a + 1) 1
  && decide (x.load % 8 = 0) && decide (x.file % 8 = 0) && decide (x.fileSize ≤ x.memSize)
  && (if x.kind = 3 then decide (x.file = 0) && decide (x.fileSize = 0) && decide (x.check = 0)
      else decide (x.file + x.fileSize ≤ len) && decide (icxCrc rd x.file x.fileSize = x.check))

/-- Does a section lie in the local memory of a program of `target` (R244)? -/
def sectionFits (target : Nat) (x : IcxSection) : Bool := decide (x.load + x.memSize ≤ targetMem target)

/-- Do two sections overlap in local memory? -/
def overlap (x y : IcxSection) : Bool := decide (x.load < y.load + y.memSize) && decide (y.load < x.load + x.memSize)

/-- No two sections of a list overlap. -/
def apart : List IcxSection → Bool
  | [] => true
  | x :: t => t.all (fun y => !overlap x y) && apart t

/-- Program `j` of an image with section table at `st` of `ns` entries, none where it breaks a rule (R242, R244). -/
def icxProgram (rd : Nat → Nat) (st ns pt j : Nat) : Option IcxProgram :=
  let a := pt + 32 * j
  let target := icxNat rd (a + 2) 1
  let first := icxNat rd (a + 16) 2
  let count := icxNat rd (a + 18) 2
  let secs := (List.range count).map (fun i => icxSection rd st (first + i))
  let p : IcxProgram := {
    id := icxNat rd a 2, target := target, affinity := icxNat rd (a + 3) 1, entry := icxNat rd (a + 4) 4
    vbase := icxNat rd (a + 8) 4, cal := icxNat rd (a + 12) 2, flags := icxNat rd (a + 14) 2, sections := secs }
  if (decide (target < 34) || decide (target = 0xF0) || decide (target = 0xF1)) && decide (first + count ≤ ns) && decide (p.cal ≤ 8192)
      && decide (p.flags < 16) && icxZero rd (a + 24) 8 && decide (p.vbase % 256 = 0) && decide (p.entry % 4 = 0)
      && secs.any (fun x => decide (x.kind = 1) && decide (x.load ≤ p.entry) && decide (p.entry < x.load + x.memSize))
      && secs.all (sectionFits target) && apart secs then some p else none

/-- Every program of the list, none where one breaks a rule. -/
def allSome {α : Type} : List (Option α) → Option (List α)
  | [] => some []
  | none :: _ => none
  | some x :: t => (allSome t).map (fun l => x :: l)

/-- The programs of an image whose bytes are `rd` and which may be `size` bytes long, none where a loader refuses it (R241–R244);
`calFree` is the number of calendar entries free outside existing ranges. -/
def icxImage (rd : Nat → Nat) (size calFree : Nat) : Option (List IcxProgram) :=
  let len := icxNat rd 8 4
  let ns := icxNat rd 0x10 2
  let np := icxNat rd 0x12 2
  let st := icxNat rd 0x14 4
  let pt := icxNat rd 0x18 4
  if decide (icxNat rd 0 4 = 0x01584349) && decide (icxNat rd 4 2 = 1) && icxZero rd 6 2 && decide (len % 8 = 0) && decide (0x40 ≤ len)
      && decide (len ≤ size) && decide (icxNat rd 12 4 = icxCrc rd 0x10 (len - 0x10)) && decide (1 ≤ ns) && decide (ns ≤ 1024)
      && decide (1 ≤ np) && decide (np ≤ 34) && icxZero rd 0x28 24 && decide (st + 24 * ns ≤ len) && decide (pt + 32 * np ≤ len)
      && (List.range ns).all (fun i => sectionOk rd len (st + 24 * i) (icxSection rd st i)) then
    match allSome ((List.range np).map (icxProgram rd st ns pt)) with
    | some l => if l.foldl (fun a p => a + p.cal) 0 ≤ calFree then some l else none
    | none => none
  else none

/-- The bytes a section leaves in local memory: those of the image, then zeros (R243). -/
def IcxSection.content (rd : Nat → Nat) (x : IcxSection) : List Nat :=
  (List.range x.memSize).map (fun i => if i < x.fileSize then rd (x.file + i) else 0)

end Sys2Proof.Machine
end

