-- ==== Sys2Proof/Machine/Placer.lean ====
section
/-!
DEFINITION. The Placer: its ports, CREATE, FREE, GROUP, program placement and removal, affinity, moves out of Plate, deferred frees
(R246, R247, R253–R256, R267, R268, R272–R279).
-/

namespace Sys2Proof.Machine

/-! ## Handles (R246, R247) -/

/-- Kind of the fixed object at index `i`, 0 where the index is reserved or not fixed. -/
def fixedKind (i : Nat) : Nat :=
  if i = 0 then 4
  else if 0x008 ≤ i ∧ i < 0x00E then 3
  else if (0x010 ≤ i ∧ i < 0x016) ∨ (0x020 ≤ i ∧ i < 0x02C) ∨ (0x030 ≤ i ∧ i < 0x068) then 2
  else if (0x080 ≤ i ∧ i < 0x0A4) ∨ (0x0A8 ≤ i ∧ i < 0x0E0) ∨ (0x100 ≤ i ∧ i < 0x1F0) then 1
  else if 0x1F0 ≤ i ∧ i < 0x1F6 then 5
  else 0

/-- Does a handle name an object of this device? -/
def State.validHandle (s : State) (h : Nat) : Bool :=
  let i := indexOf h
  decide (h < 0x10000) && decide (kindOf h ≠ 0) &&
    (if i < 0x200 then decide (fixedKind i = kindOf h)
     else match s.object i with
       | some o => decide (o.kind = kindOf h)
       | none => false)

/-- The level of an object or group: 1 element, 2 channel, 3 station, 4 engine, 0 data (R250). -/
def State.levelOf (s : State) (h : Nat) : Nat :=
  if kindOf h = 5 then
    (if indexOf h < 0x200 then 2 else match s.object (indexOf h) with
      | some o => o.level
      | none => 0)
  else if kindOf h ≤ 4 then kindOf h else 0

/-- Depth of an object or group (R254). -/
def State.depthOf (s : State) (h : Nat) : Nat :=
  if kindOf h ≠ 5 then 0
  else if indexOf h < 0x200 then 1
  else match s.object (indexOf h) with
    | some o => o.depth
    | none => 0

/-- Flattened member count, 1 for an object that is not a group (R250). -/
def State.flatOf (s : State) (h : Nat) : Nat :=
  if kindOf h ≠ 5 then 1
  else if indexOf h < 0x200 then 4
  else match s.object (indexOf h) with
    | some o => o.flat
    | none => 0

/-! ## Plate regions (R267) -/

/-- Does station `k`'s Plate region hold objects? -/
def State.plateHeld (s : State) (k : Nat) : List Nat :=
  (s.objects.filter (fun p => decide (p.2.place = 3) && decide (p.2.plateStation = k))).map Prod.fst

/-- A station that waits for its region turns on once it is empty. -/
def State.plateSettle (s : State) : State :=
  s.each (pick 6 (fun k => (s.station k).plateBusy)) (fun t k => if t.plateHeld k = [] then t.stationOn k else t)

/-- The moves out of a station's region are given up; what has not moved stays. -/
def State.plateCancel (s : State) (k : Nat) : State :=
  let mine := s.plateHeld k
  s.setMoves (s.obj.moves.filter (fun m => !(decide (m.reason = 2) && mine.contains m.index)))

/-- A station's region begins to be emptied. -/
def State.plateEmpty (s : State) (k : Nat) : State :=
  let add := (s.plateHeld k).filterMap (fun i => (s.object i).map (fun o => (⟨i, 2, 0, granules o.size⟩ : Move)))
  s.setMoves (s.obj.moves ++ add)

/-! ## Compaction (R268, R274) -/

/-- May compaction move object `i` (R268)? Not one in Plate, nor what a page ADMITTED or later, a placed program or a mark sensor unit
uses. -/
def State.movable (s : State) (i : Nat) (o : Obj) : Bool :=
  let h := s.handleAt i
  !o.spread.isEmpty && s.obj.moves.all (fun m => decide (m.index ≠ i)) &&
    !((o.kind == 9 || o.kind == 10) && (s.pagesIn isActive).any (fun j => match s.pg j with
      | some p => (s.heldBy j p).contains h
      | none => false)) &&
    !(o.kind == 11 && decide (0 < o.use)) &&
    !(o.kind == 13 && s.marks.any (fun x => s.on (GAUGE.MK_DEST_EN x.1) && decide (x.2.held = some h)))

/-- Is rank `r` on channel `c`? -/
def onChannel (c r : Nat) : Bool := decide (r / 4 = c)

/-- The first moves of a list that take `need` granules away. -/
def takeMoves (need : Nat) : List Move → List Move
  | [] => []
  | m :: t => if need = 0 then [] else m :: takeMoves (need - m.left) t

/-- Free granules of channel `c`. -/
def State.channelFree (s : State) (c : Nat) : Nat := ((List.range 4).map (fun r => s.rankFree (4 * c + r))).foldl (· + ·) 0

/-- The moves that make room for `g` granules on channel `c`: movable objects that may lie on either channel give up their granules there, in
table order; none where that is not enough or the other channel cannot take them (assumption 31). -/
def State.compactPlan (s : State) (g c : Nat) : Option (List Move) :=
  let l := takeMoves (g - s.channelFree c) (s.objects.filterMap (fun p =>
    if p.2.cls ≠ 2 ∧ s.movable p.1 p.2 ∧ 0 < p.2.onRanks (onChannel c) then some ⟨p.1, 3, c, p.2.onRanks (onChannel c)⟩ else none))
  let total := l.foldl (fun a m => a + m.left) 0
  if l ≠ [] ∧ g ≤ s.channelFree c + total ∧ total ≤ s.channelFree (1 - c) then some l else none

/-- Two spreads of one object joined, rank by rank. -/
def joinSpread (a : List (Nat × Nat)) : List (Nat × Nat) → List (Nat × Nat)
  | [] => a
  | p :: t => joinSpread (if a.any (fun x => decide (x.1 = p.1)) then a.map (fun x => if x.1 = p.1 then (x.1, x.2 + p.2) else x) else a ++ [p]) t

/-- Object `o` with its granules on channel `c` moved to the other channel; as it is where that has no room. -/
def State.moved (s : State) (o : Obj) (c : Nat) : Obj :=
  match s.spreadOver (o.onRanks (onChannel c)) o.cls (s.inService (some (1 - c))) with
  | some l =>
    let sp := joinSpread (o.spread.filter (fun p => !onChannel c p.1)) l
    { o with spread := sp, place := whereOf sp }
  | none => o

/-- MOVE_STATUS (R278): the object being moved, why, and how many others wait to move. -/
def State.moveStatus (s : State) : Nat :=
  match s.obj.moves with
  | [] => 0
  | m :: t =>
    let waiting := (t.filter (fun x => decide (x.index ≠ m.index))).map (·.index)
    min waiting.eraseDups.length 0xFFF + m.reason * 2 ^ 12 + s.handleAt m.index * 2 ^ 16

/-- The move at the head of the list, out of a Plate region or for a compaction, has ended; where DRAM has no room for a Plate region's
object the enable is refused (R267, R268). -/
def State.moveDone (s : State) (m : Move) (rest : List Move) : State :=
    match s.object m.index with
    | none => s
    | some o =>
      if m.reason = 3 then State.setMoves (s.setObject m.index (some (s.moved { o with moving := false } m.rank))) rest
      else if m.reason ≠ 2 then s
      else match s.placeDram (granules o.size) o.cls with
        | (none, _) =>
          let k := o.plateStation
          let s1 := s.plateCancel k
          (s1.putStation k { s1.station k with enable := false, plateBusy := false, refused := true })
        | (some l, nx) =>
          let s1 := s.setObject m.index (some { o with place := whereOf l, plateStation := 0, spread := l, moving := false })
          let s2 := State.setMoves { s1 with obj := { s1.obj with localNext := nx } } rest
          s2.plateSettle

/-! ## FREE (R248, R269, R274, R275) -/

/-- Is group index `i` a member of a group, or named by STATION_SET or RUN_GROUP? -/
def State.groupInUse (s : State) (i : Nat) : Bool :=
  let w := s.ownWord (0x5000 + i)
  decide (s.engine.stationSet = 0x5000 + i) || decide (s.engine.runGroup = 0x5000 + i)
    || s.objects.any (fun p => decide (p.2.kind = 5) && p.2.members.contains w)

/-- FREE: a code and the state. -/
def State.freeObject (s : State) (h : Nat) : Nat × State :=
  let i := indexOf h
  if !s.validHandle h then (4, s)
  else if i < 0x200 then (6, s)
  else match s.object i with
    | none => (4, s)
    | some o =>
      if o.kind = 5 then (if s.groupInUse i then (6, s) else (0, s.release i))
      else if o.freePending then (5, s)
      else if 0 < o.use then (5, s.setObject i (some { o with freePending := true }))
      else (0, (s.release i).plateSettle)

/-! ## GROUP (R253, R254, R256, R273) -/

/-- The member words of a GROUP command, none where its object cannot be read. -/
def State.groupWords (s : State) (n h off : Nat) : Option (List Nat) :=
  if h = 0 then some ((List.range n).map (fun i => (s.reg (PLACER.STAGE i)).toNat))
  else if kindOf h = 14 ∧ s.objCheck h off (4 * n) false true = 0 then
    some ((List.range n).map (fun i => s.objNat h (off + 4 * i) 4))
  else none

/-- A member word's depth and flattened count, none where it is invalid or not of the level; what only another device's table holds is a
free value (R256). -/
def State.memberInfo (s : State) (level w : Nat) : Option (Nat × Nat) × State :=
  let h := w % 65536
  let pos := w / 65536
  if 4 ≤ pos ∨ (pos ≠ s.position ∧ (!s.linkUp ∨ s.fld THAIQ.CASCADE_CFG_DEVICES ≤ pos)) then (none, s)
  else if pos = s.position then
    (if s.validHandle h && decide (s.levelOf h = level) then some (s.depthOf h, s.flatOf h) else none, s)
  else if indexOf h < 0x200 then
    (if decide (fixedKind (indexOf h) = kindOf h) && decide (kindOf h ≠ 0) && decide (s.levelOf h = level) then some (s.depthOf h, s.flatOf h) else none, s)
  else if kindOf h ≠ 5 then (none, s)
  else
    let (ok, s1) := s.choose
    let (d, s2) := s1.free
    let (f, s3) := s2.free
    (if ok then some (1 + d % 8, 1 + f % 1024) else none, s3)

/-- The greatest depth and the flattened count of a list of members, none where one is refused. -/
def State.membersInfo (s : State) (level : Nat) : List Nat → Option (Nat × Nat) × State
  | [] => (some (0, 0), s)
  | w :: t =>
    match s.memberInfo level w with
    | (none, s1) => (none, s1)
    | (some (d, f), s1) =>
      match s1.membersInfo level t with
      | (none, s2) => (none, s2)
      | (some (d', f'), s2) => (some (max d d', f + f'), s2)

/-- GROUP: a code, the handle and the state. -/
def State.makeGroup (s : State) (arg0 arg1 arg2 : Nat) : Nat × Nat × State :=
  let level := bits arg0 0 3
  let n := bits arg0 8 8
  if level = 0 ∨ 3 < level ∨ n = 0 then (4, 0, s)
  else match s.groupWords n (arg1 % 65536) arg2 with
    | none => (4, 0, s)
    | some l =>
      match s.membersInfo level l with
      | (none, s1) => (4, 0, s1)
      | (some (d, f), s1) =>
        if 8 < d + 1 ∨ 1024 < f then (7, 0, s1)
        else match s1.takeIndex with
          | none => (2, 0, s1)
          | some (i, s2) =>
            (0, 0x5000 + i, s2.setObject i (some { Obj.empty 5 with level := level, members := l, depth := d + 1, flat := f }))

/-! ## Programs (R244, R268, R276, R277) -/

/-- Takes a block into a list sorted by its start. -/
def insertBlock (x : Nat × Nat) : List (Nat × Nat) → List (Nat × Nat)
  | [] => [x]
  | y :: t => if x.1 ≤ y.1 then x :: y :: t else y :: insertBlock x t

/-- What divides the calendar: the cores' ranges and the host's entries, as start and length, sorted. -/
def State.calBlocks (s : State) : List (Nat × Nat) :=
  let ranges := (List.range 34).filterMap (fun n => if (s.core n).calCount = 0 then none else some ((s.core n).calBase, (s.core n).calCount))
  let host := s.gc.entries.filterMap (fun p => match p.2 with
    | some e => if 34 ≤ e.owner then some (p.1, 1) else none
    | none => none)
  (ranges ++ host).foldr insertBlock []

/-- The longest run between blocks from `at'` on, the highest-numbered of equals: base and length. -/
def longestRun (at' : Nat) (best : Nat × Nat) : List (Nat × Nat) → Nat × Nat
  | [] => if best.2 ≤ 8192 - at' then (at', 8192 - at') else best
  | x :: t => longestRun (max at' (x.1 + x.2)) (if best.2 ≤ x.1 - at' then (at', x.1 - at') else best) t

/-- The run that ranges are placed in; its length is CAL_FREE. -/
def State.calRun (s : State) : Nat × Nat := longestRun 0 (0, 0) s.calBlocks

/-- Is core `n` halted and without a placed program? -/
def State.coreFree (s : State) (n : Nat) : Bool :=
  (s.core n).halted && s.obj.placed.all (fun p => decide (p.device ≠ s.position) || decide (p.core ≠ n))

/-- The core of this device that a program takes. -/
def State.coreFor (s : State) (target : Nat) : Option Nat :=
  if target < 34 then (if s.coreFree target then some target else none)
  else if target = 0xF0 then (List.range 32).find? s.coreFree
  else [32, 33].find? s.coreFree

/-- Loads a program into core `n` with the calendar range from `base` (R244 steps 2 to 5). -/
def State.loadProgram (s : State) (rd : Nat → Nat) (n base : Nat) (p : IcxProgram) : State :=
  let c := p.sections.foldl (fun c x => c.poke x.load (x.content rd)) (s.core n)
  let s1 := (s.setCore n { c with calBase := base, calCount := p.cal }).reinitCore n
  let s2 := s1.setCore n { s1.core n with pc := BitVec.ofNat 32 p.entry, vbase := BitVec.ofNat 32 p.vbase }
  let s3 := ((s2.setFld (SCRIBER.CORE_CTRL_CRITICAL n) (bits p.flags 0 1)).setFld (SCRIBER.CORE_CTRL_DISARM_ON_HALT n) (bits p.flags 1 1)).setFld
    (SCRIBER.CORE_CTRL_BREAK_HALT n) (bits p.flags 2 1)
  if p.flags.testBit 3 then s3.runCore n else s3

/-- The device an affinity group requires. -/
def State.deviceFor (s : State) (affinity : Nat) : Nat :=
  if affinity = 0 then s.position
  else match Tbl.get (fun _ => 0) s.obj.affinity affinity with
    | 0 => s.position
    | w => w / 65536

/-- Entry `j` of the placement report (R278). -/
def State.report (s : State) (j device core id : Nat) : State :=
  s.setReg (PLACER.PLACE_REPORT j) (BitVec.ofNat 32 (id + core % 64 * 2 ^ 16 + device * 2 ^ 22 + 2 ^ 31))

/-- Places programs `j` onward of the image in object `h`; the number of the first refused one, or none. What another device's Placer
answers is a free value. -/
def State.placeFrom (s : State) (rd : Nat → Nat) (h j base : Nat) : List IcxProgram → Option Nat × State
  | [] => (none, s)
  | p :: t =>
    let d := s.deviceFor p.affinity
    let (core, s1) : Option Nat × State :=
      if d = s.position then (s.coreFor p.target, s)
      else
        let (ok, u) := s.choose
        let (n, v) := u.free
        (if ok && s.linkUp then some (if p.target < 34 then p.target else if p.target = 0xF0 then n % 32 else 32 + n % 2) else none, v)
    match core with
    | none => (some j, s1)
    | some n =>
      let s2 := if d = s.position then s1.loadProgram rd n base p else s1
      let s3 := { s2 with obj := { s2.obj with placed := s2.obj.placed ++ [(⟨p.id, d, n, indexOf h⟩ : Placed)] } }
      State.placeFrom ((s3.hold h).report j d n p.id) rd h (j + 1) (base + p.cal) t

/-- PLACE_PROGRAM: a code, VALUE and the state; the placement report is that of this command from here on (R276). -/
def State.placeProgram (s : State) (h : Nat) : Nat × Nat × State :=
  let s1 := s.each (List.range 34) (fun t j => t.setReg (PLACER.PLACE_REPORT j) 0)
  match s.dataObj h with
  | none => (4, 0, s1)
  | some o =>
    if o.kind ≠ 11 ∨ o.freePending ∨ o.evicted then (4, 0, s1)
    else
      let run := s1.calRun
      match if o.poisoned.isEmpty then icxImage o.byte o.size run.2 else none with
      | none => (8, 0, s1)
      | some l =>
        let total := l.foldl (fun a p => a + p.cal) 0
        match s1.placeFrom o.byte h 0 (run.1 + run.2 - total) l with
        | (none, s2) => (0, 0, s2)
        | (some j, s2) => (9, j, s2)

/-- REMOVE_PROGRAM: a code and the state, none while the core's halt is awaited (R273). -/
def State.removeProgram (s : State) (id : Nat) : Option Nat × State :=
  match s.obj.placed.find? (fun p => decide (p.programId = id)) with
  | none => (some 4, s)
  | some p =>
    let here := decide (p.device = s.position)
    if here && !(s.core p.core).halted then (none, if (s.core p.core).halting then s else s.haltRequest p.core)
    else
      let s1 := if here then
          let t := s.reinitCore p.core
          t.setCore p.core { t.core p.core with calBase := 0, calCount := 0 }
        else s
      let s2 := { s1 with obj := { s1.obj with placed := s1.obj.placed.erase p } }
      (some 0, s2.drop (s.handleAt p.object))

/-- BIND_AFFINITY: a code and the state. -/
def State.bindAffinity (s : State) (g w : Nat) : Nat × State :=
  let h := w % 65536
  let pos := w / 65536
  let ok := decide (w = 0) || (decide (0x3008 ≤ h) && decide (h < 0x300E) &&
    (decide (pos = s.position) || (s.linkUp && decide (pos < min 4 (s.fld THAIQ.CASCADE_CFG_DEVICES)))))
  if g = 0 ∨ !ok then (4, s)
  else (0, { s with obj := { s.obj with affinity := Tbl.put (fun _ => 0) s.obj.affinity g w } })

/-! ## Ports (R272, R274) -/

/-- A port of a Steward after reset. -/
def PlcPort.reset : PlcPort := { arg0 := 0, arg1 := 0, arg2 := 0, code := 0, value := 0 }

/-- The port of Steward `p` − 1. -/
def State.plcPort (s : State) (p : Nat) : PlcPort := Tbl.get (fun _ => PlcPort.reset) s.obj.ports p

/-- Stores it. -/
def State.setPlcPort (s : State) (p : Nat) (x : PlcPort) : State :=
  { s with obj := { s.obj with ports := Tbl.put (fun _ => PlcPort.reset) s.obj.ports p x } }

/-- Sets the result of a port; the host's command that leaves BUSY sets CMD_DONE. -/
def State.setResult (s : State) (port code value : Nat) : State :=
  if port = 0 then
    let s1 := (s.setFld PLACER.RESULT_CODE code).setFld PLACER.RESULT_VALUE value
    if code = 1 then s1 else s1.event PLACER.INT_STAT_CMD_DONE
  else s.setPlcPort port { s.plcPort port with code := code, value := value }

/-- CODE of a port. -/
def State.plcCode (s : State) (port : Nat) : Nat := if port = 0 then s.fld PLACER.RESULT_CODE else (s.plcPort port).code

/-- Carries out a command: its code and value once it is done. -/
def State.plcDo (s : State) (c : PlcCmd) : Option (Nat × Nat) × State :=
  match c.cmd with
  | 1 =>
    let (code, v, s1) := s.createData (bits c.arg0 0 4) (bits c.arg0 4 4) (c.arg0.testBit 8) c.arg1
    if code = 3 ∧ bits c.arg0 4 4 = 2 ∧ ¬ (bits c.arg0 0 4 = 9 ∨ bits c.arg0 0 4 = 10) then
      if s1.obj.moves.any (fun m => decide (m.reason = 3)) then (none, s1)
      else match (s1.compactPlan (granules c.arg1) s1.obj.localNext).orElse (fun _ => s1.compactPlan (granules c.arg1) (1 - s1.obj.localNext)) with
        | some l => (none, s1.setMoves (s1.obj.moves ++ l))
        | none => (some (code, v), s1)
    else (some (code, v), s1)
  | 2 =>
    let (code, s1) := s.freeObject (c.arg0 % 65536)
    (some (code, 0), s1)
  | 3 =>
    let (code, v, s1) := s.makeGroup c.arg0 c.arg1 c.arg2
    (some (code, v), s1)
  | 4 =>
    let (code, v, s1) := s.placeProgram (c.arg0 % 65536)
    (some (code, v), s1)
  | 5 =>
    let (code, s1) := s.removeProgram (c.arg0 % 65536)
    (code.map (fun x => (x, 0)), s1)
  | 6 =>
    let (code, s1) := s.bindAffinity (bits c.arg0 0 8) c.arg1
    (some (code, 0), s1)
  | _ => (some (4, 0), s)

/-- Carries out the commands of the queue in order, up to one that has to wait. -/
def State.plcRun (s : State) : Nat → State
  | 0 => s
  | fuel + 1 =>
    match s.obj.cmds with
    | [] => s
    | c :: t =>
      match s.plcDo c with
      | (none, s1) => s1
      | (some (code, v), s1) => State.plcRun (State.setResult { s1 with obj := { s1.obj with cmds := t } } c.port code v) fuel

/-- PLACER_MOVE_DONE (R267, R268, R274): the move at the head of the list ends; a CREATE that waits for room goes on. -/
def execPlacerMoveDone (s : State) : Result :=
  if !s.fabric then .next s
  else match s.obj.moves with
  | [] => .next (s.plcRun 4)
  | m :: rest => .next ((s.moveDone m rest).plcRun 4)

/-- DEFERRED_FREE_DONE (R275): the last holder has dropped object `index`. -/
def execDeferredFreeDone (index : Nat) (s : State) : Result :=
  match s.object index with
  | none => .next s
  | some o => .next (if o.freePending ∧ o.use = 0 then (((s.release index).plateSettle).event PLACER.INT_STAT_FREE_DONE).plcRun 4 else s)

/-- A write of CMD at a port: discarded while its RESULT reads BUSY. -/
def State.plcIssue (s : State) (port cmd : Nat) : State :=
  if 2 < port ∨ !s.fabric ∨ s.plcCode port = 1 then s
  else
    let c : PlcCmd := if port = 0 then ⟨0, cmd, (s.reg (PLACER.ARG 0)).toNat, (s.reg (PLACER.ARG 1)).toNat, (s.reg (PLACER.ARG 2)).toNat⟩
      else ⟨port, cmd, (s.plcPort port).arg0, (s.plcPort port).arg1, (s.plcPort port).arg2⟩
    let s1 := s.setResult port 1 0
    State.plcRun { s1 with obj := { s1.obj with cmds := s1.obj.cmds ++ [c] } } 4

/-- CREATE (R265, R266, R273) at a port: 0 the host's, 1 and 2 the Stewards'. -/
def execCreate (port : Nat) (s : State) : Result := .next (s.plcIssue port 1)

/-- FREE (R273, R275). -/
def execFree (port : Nat) (s : State) : Result := .next (s.plcIssue port 2)

/-- GROUP (R253, R254, R256, R273). -/
def execGroup (port : Nat) (s : State) : Result := .next (s.plcIssue port 3)

/-- PLACE_PROGRAM (R244, R276, R277). -/
def execPlaceProgram (port : Nat) (s : State) : Result := .next (s.plcIssue port 4)

/-- REMOVE_PROGRAM (R273). -/
def execRemoveProgram (port : Nat) (s : State) : Result := .next (s.plcIssue port 5)

/-- BIND_AFFINITY (R273, R276). -/
def execBindAffinity (port : Nat) (s : State) : Result := .next (s.plcIssue port 6)

/-- A halt of core `n` completes; a command that waits for it goes on (R212, R273). -/
def State.haltDone (s : State) (n reason : Nat) : State := (s.haltCore n reason).plcRun 4

/-- HALT_COMPLETE (R212, R273). -/
def execHaltComplete (core : Nat) (s : State) : Result :=
  .next (if core < 34 ∧ (s.core core).halting then s.haltDone core 1 else s)

/-! ## The logs (R279) -/

/-- EVICT_LOG_READ (R279): answers COUNT and HANDLE, and removes the oldest entry. -/
def execEvictLogRead (s : State) : Result :=
  if !s.fabric then .next s
  else match s.obj.evictLog with
    | [] => .next (s.answer [0])
    | h :: t => .next (State.answer { s with obj := { s.obj with evictLog := t } } [h + (t.length + 1) * 2 ^ 16])

/-- A read of POISON_LOG shows its oldest entry and latches that entry's offset (R279). -/
def State.poisonLogRead (s : State) : State :=
  let hd := s.obj.poisonLog.headD (0, 0)
  (State.setReg { s with obj := { s.obj with poisonShown := !s.obj.poisonLog.isEmpty } } PLACER.POISON_OFFSET (BitVec.ofNat 32 hd.2)).answer
    [hd.1 + s.obj.poisonLog.length * 2 ^ 16]

/-- POISON_OFFSET_READ (R279): answers the offset of the oldest entry and removes it, if POISON_LOG has shown it. -/
def execPoisonOffsetRead (s : State) : Result :=
  if !s.fabric then .next s
  else
    let off := if s.obj.poisonShown then (s.reg PLACER.POISON_OFFSET).toNat else (s.obj.poisonLog.headD (0, 0)).2
    if s.obj.poisonShown then
      .next ((State.setReg { s with obj := { s.obj with poisonLog := s.obj.poisonLog.drop 1, poisonShown := false } } PLACER.POISON_OFFSET 0).answer [off])
    else .next (s.answer [off])

end Sys2Proof.Machine
end

