-- ==== Sys2Proof/Machine/Thaiq.lean ====
section
/-!
DEFINITION. The Thaiq ring: the upstream hop's training and lock, and fault broadcasts (R24, R544, R545, R552).
-/

namespace Sys2Proof.Machine

/-- DEVICES as it acts: 0 acts as 1, above 4 as 4 (R545). -/
def State.ringSize (s : State) : Nat := max 1 (min 4 (s.fld THAIQ.CASCADE_CFG_DEVICES))

/-- A receive lane gains or loses lock: LINK_EV at a change (R544). -/
def State.laneLock (s : State) (lane : Nat) (b : Bool) : State :=
  let f := if lane = 0 then THAIQ.LINK_STATUS_RX0_LOCK else THAIQ.LINK_STATUS_RX1_LOCK
  if s.on f = b then s else (s.setFld f (bit b)).event THAIQ.INT_STAT_LINK_EV

/-- Are both receive lanes in lock? -/
def State.lanesLocked (s : State) : Bool := s.on THAIQ.LINK_STATUS_RX0_LOCK && s.on THAIQ.LINK_STATUS_RX1_LOCK

/-- ENABLE of THAIQ becomes `b`: training of the upstream hop begins, or the hop is left (R545, R562). -/
def State.thaiqSet (s : State) (b : Bool) : State :=
  if s.on THAIQ.CTRL_ENABLE = b then s
  else
    let s1 := (s.setFld THAIQ.CTRL_ENABLE (bit b)).setFld THAIQ.STATUS_ENABLED (bit b)
    let s2 := ({ s1 with host := { s1.host with hopTrained := false } }).setFld THAIQ.LINK_STATUS_LINK_UP 0
    if b then s2 else (s2.setFld THAIQ.LINK_STATUS_RX0_LOCK 0).setFld THAIQ.LINK_STATUS_RX1_LOCK 0

/-- THAIQ_ENABLE (R545): ENABLE goes from 0 to 1. -/
def execThaiqEnable (s : State) : Result := .next (if s.fabric then s.thaiqSet true else s)

/-- HOP_DOWN is raised with the class of R544; `forced` leaves the link alone. -/
def State.hopDown (s : State) (forced : Bool) : State := s.raise 0xC 0 0 forced

/-- LINK_TRAINED (R545): both lanes lock, and the upstream neighbour's training words bring its POSITION and DEVICES; `lat` is the
measured hop latency, ns. -/
def execLinkTrained (pos devices lat : Nat) (s : State) : Result :=
  if !s.on THAIQ.CTRL_ENABLE ∨ s.host.hopTrained then .next s
  else
    let s1 := (s.laneLock 0 true).laneLock 1 true
    let n := s1.ringSize
    if max 1 (min 4 devices) = n ∧ pos = (s1.position + n - 1) % n then
      let s2 := { s1 with host := { s1.host with hopTrained := true } }
      .next ((s2.setFld THAIQ.LINK_STATUS_HOP_LAT lat).setFld THAIQ.LINK_STATUS_LINK_UP 1)
    else .next ((s1.setFld THAIQ.LINK_STATUS_MISMATCH 1).hopDown false)

/-- HOP_DOWN (R544): receive lane `lane` has had no valid code group for 1 µs. -/
def execHopDown (lane : Nat) (s : State) : Result :=
  .next (if lane < 2 ∧ s.on THAIQ.CTRL_ENABLE then ((s.laneLock lane false).setFld THAIQ.LINK_STATUS_LINK_UP 0).hopDown false else s)

/-- RECEIVE_LANE_LOCK (R541, R544, R545): a lane regains block lock; a trained hop is up again once both are in lock. -/
def execReceiveLaneLock (lane : Nat) (s : State) : Result :=
  if lane < 2 ∧ s.on THAIQ.CTRL_ENABLE then
    let s1 := s.laneLock lane true
    .next (if s1.lanesLocked && s1.host.hopTrained then s1.setFld THAIQ.LINK_STATUS_LINK_UP 1 else s1)
  else .next s

/-- REMOTE_FAULT: a broadcast of class `cls` from the device at `pos`, which reports fault bit `bitNo` of block `block`; the class is
applied here (R24, R544). -/
def State.remoteFault (s : State) (pos cls bitNo block : Nat) (forced : Bool) : State :=
  let c := if cls = 3 then FaultClass.safety else FaultClass.engine
  let s1 := if s.faultBit 0xC 1 then s
    else
      let t := (((s.setFld THAIQ.REMOTE_INFO_DEVICE pos).setFld THAIQ.REMOTE_INFO_CLASS cls).setFld THAIQ.REMOTE_INFO_BIT bitNo).setFld
        THAIQ.REMOTE_INFO_BLOCK block
      t.raiseAs .none 1 0xC 1 0 forced
  let held := Tbl.get (fun _ => FaultClass.none) s1.classes (32 * 0xC + 1)
  let s2 := { s1 with classes := Tbl.put (fun _ => FaultClass.none) s1.classes (32 * 0xC + 1) (if held = FaultClass.safety then FaultClass.safety else c) }
  if cls = 3 then s2.safetyFault else s2.engineFault false

/-- BROADCAST_ARRIVAL (R24, R544, R552): one that this device sent itself ends here; every other is passed on. -/
def execBroadcastArrival (pos cls bitNo block : Nat) (s : State) : Result :=
  if !s.linkUp ∨ 3 < pos ∨ (cls ≠ 2 ∧ cls ≠ 3) ∨ pos = s.position then .next s
  else .next ((s.send (.forwarded pos cls bitNo block)).remoteFault pos cls bitNo block false)

end Sys2Proof.Machine
end

