-- ==== Sys2Proof/Machine/Faults.lean ====
section
/-!
DEFINITION. Clearing and forcing FAULT bits (R31, R32, R427, R491, R521, R526, R532, R541, R549 and the force rules of each chapter).
-/

namespace Sys2Proof.Machine

/-- Interrupt source of the block with this code (R294). -/
def sourceOf (code : Nat) : Nat :=
  if code < 0x10 then 16 + code else if code < 0x16 then 32 + (code - 0x10) else if code < 0x210 then 38 + (code - 0x200) else 50 + (code - 0x210)

/-! ## Source conditions (R31, R541) -/

/-- Does some configured zone's CTRL or GUARD input stand at its TRIP, or broken (R541)? -/
def State.tripStands (s : State) : Bool :=
  (List.range 16).any (fun n => s.on (HEARTH.TH_CFG_EN n) && (s.guardedBy n).isSome &&
    (s.on (HEARTH.TH_VALUE_BROKEN n) || decide (s.fld (HEARTH.TH_CFG_TRIP n) ≤ s.reading n)))

/-- Is some die sensor less than 2 °C below DIE_HOT (R521)? -/
def State.dieStands (s : State) : Bool :=
  (List.range 4).any (fun i => decide (s.fld HEARTH.DIE_CFG_DIE_HOT <
    s.fld (if i % 2 = 0 then HEARTH.DIE_TEMP_LO (i / 2) else HEARTH.DIE_TEMP_HI (i / 2)) + 32))

/-- Is the temperature of array `k` at or above T_WARN by its own word or by its TH input (R427)? -/
def State.arrayHot (s : State) (k : Nat) : Bool :=
  let warn := s.fld (GRAVER.T_WARN_LIM_T_WARN k)
  let n := s.fld (GRAVER.TH_TRIP_INPUT k)
  (s.on (GRAVER.GUARD_STATUS_TEMP_VALID k) && decide (warn ≤ s.fld (GRAVER.GUARD_STATUS_TEMP k)))
    || (s.on (GRAVER.TH_TRIP_EN k) && (decide (warn ≤ s.reading n) || s.on (HEARTH.TH_VALUE_BROKEN n)))

/-- Does the source condition of fault bit `b` of block `code` hold? A source without one is momentary. -/
def State.sourceHolds (s : State) (code b : Nat) : Bool :=
  if code = 1 then decide (b < 16) && decide (s.rail b = railFailed)
  else if code = 0xC then decide (b = 0) && s.on THAIQ.CTRL_ENABLE && !s.lanesLocked
  else if code = 0xD then (decide (b = 0) && s.tripStands) || (decide (b = 2) && s.dieStands)
  else if code = 0xF then decide (b = 0) && (List.range 3).any (fun p => s.on (CORD.P_OVER_OVERDRAWN p))
  else if 0x10 ≤ code ∧ code < 0x16 then
    (decide (b = 8) && s.arrayHot (code - 0x10)) || (decide (b = 9) && (s.gv (code - 0x10)).drvTrip)
  else false

/-! ## Clearing -/

/-- What follows fault bit `b` of block `code` once it reads 0 (R126, R180, R428, R491, R526). -/
def State.afterClear (s : State) (code b : Nat) : State :=
  if code = 2 then (if 16 ≤ b ∧ b < 22 then s.laserEval (b - 16) else s)
  else if code = 3 then
    s.each (pick 64 (fun n => decide (gaugeFaultBit n = some b))) (fun t n => t.setFld (GAUGE.G_STATUS_FAULT_KIND n) 0)
  else if code = 0xE then
    let f := if b = 0 then HV.V_STATUS_ARC_FLT else HV.V_STATUS_OV_FLT
    let other := if b = 0 then HV.V_STATUS_OV_FLT else HV.V_STATUS_ARC_FLT
    if b < 2 then s.each (pick 32 (fun n => s.on (f n))) (fun t n => (t.setFld (f n) 0).setFbit HV.FAULT_CH_FAULTED n (t.on (other n))) else s
  else if 0x10 ≤ code ∧ code < 0x16 then s.laserEval (code - 0x10)
  else if 0x200 ≤ code ∧ code < 0x208 ∧ b = 4 then
    let s1 := s.setFld (FOC.BUS_STATUS_CHOP_FAILED (code - 0x200)) 0
    s1.each (s1.groupAxes (code - 0x200)) State.regen
  else s

/-- A written 1 clears bit `b`; it sets again, and is not newly raised, while its source condition holds (R31). -/
def State.clearBit (s : State) (code b : Nat) : State :=
  if !s.faultBit code b || s.sourceHolds code b then s
  else
    let s1 := s.setReg (faultReg code) (BitVec.ofNat 32 (withBit (s.reg (faultReg code)).toNat b false))
    State.afterClear { s1 with classes := Tbl.put (fun _ => FaultClass.none) s1.classes (32 * code + b) .none } code b

/-- A write of `mask` to the FAULT register of block `code`. -/
def State.faultWrite (s : State) (code mask : Nat) : State :=
  (s.each (pick 32 mask.testBit) (fun t b => t.clearBit code b)).irqAgain (sourceOf code)

/-- FAULT_CLEAR (R31, R541, R542). -/
def execFaultClear (code mask : Nat) (s : State) : Result :=
  .next (if faultCodes.contains code && (s.fabric || decide (code = 1)) then s.faultWrite code mask else s)

/-! ## Forcing (R32) -/

/-- Marks the committed pages of station `k`. -/
def State.markCommitted (s : State) (k m : Nat) : State := s.markAll k (((s.gv k).queue.filter (·.committed)).map (·.page)) m

/-- Bits 0–6 of a Graver wait for its next frame; bit 2 takes the laser enable at once. -/
def State.forceGraver (s : State) (k b : Nat) : State :=
  if b = 2 then (s.raise (0x10 + k) 2 k true).laserEval k
  else if b < 7 then s.setGv k { s.gv k with forced := withBit (s.gv k).forced b true }
  else if b = 8 ∨ b = 9 then (s.raise (0x10 + k) b k true).laserEval k
  else if b = 10 then
    let s1 := if s.on (GRAVER.GUARD_STATUS_T_CAPPED k) then s
      else (s.setFld (GRAVER.GUARD_STATUS_T_CAPPED k) 1).event (GRAVER.INT_STAT_CAP_EV k)
    (s1.raise (0x10 + k) 10 k true).markCommitted k 1
  else if b = 11 then ((s.event (GRAVER.INT_STAT_CLAMP_EV k)).raise (0x10 + k) 11 k true).markCommitted k 2
  else if b = 12 then (s.raise (0x10 + k) 12 k true).markCommitted k 6
  else if b = 13 then (s.raise (0x10 + k) 13 k true).markCommitted k 7
  else if b = 14 then (State.laserAll { s with engine := { s.engine with interlockOk := false } }).raise (0x10 + k) 14 k true
  else if b = 15 then s.raise (0x10 + k) 15 k true
  else s

/-- A forced COAST_EXPIRED (R145, R549). -/
def State.forceCoast (s : State) (k : Nat) : State := s.coastExpire k true

/-- A forced gauge fault or FACET_ID_FAIL (R180). -/
def State.forceGauge (s : State) (b : Nat) : State :=
  let n := s.fld GAUGE.FORCE_SEL_GAUGE
  let kind := s.fld GAUGE.FORCE_SEL_KIND
  let k := s.fld GAUGE.FORCE_SEL_STATION
  if b = 5 then (if k < 6 then s.raise 3 5 k true else s)
  else if kind ≠ 0 ∧ gaugeFaultBit n = some b then s.gaugeFault n kind true
  else s

/-- A forced double fault halts the core; its exception registers stay (R216). -/
def State.forceDouble (s : State) : State :=
  let n := s.fld SCRIBER.FORCE_SEL_CORE
  if 34 ≤ n then s
  else (if (s.core n).halted then s else s.haltDone n 5).raise 5 0 n true

/-- A forced Mover fault (R307). -/
def State.forceMover (s : State) (b : Nat) : State :=
  let c := s.fld MOVER.FORCE_SEL_CHANNEL
  if b = 0 then s.busErrorFree 6 true
  else if b = 1 ∧ s.chState c = chRunning then s.descFault c 2 true
  else s

/-- A forced codec fault: the block in progress, or the decoder's next, ends FORCED; an encoder's job ends FORCED (R336). -/
def State.forceCodec (s : State) (b : Nat) : State :=
  if b < 6 then s.setDecoder b { s.decoder b with forced := true }
  else if b = 8 ∨ b = 9 then
    (if s.fld (CODEC.ENC_STATUS_STATE (b - 8)) = 1 then (s.encFault (b - 8) 7 (s.encJob (b - 8)) true).jobEnd (b - 8) else s.raise 9 b (b - 8) true)
  else s

/-- A forced DRAMC fault (R365): a forced UE or CA_ERR is latched in ERR_LOG as an error whose place is not known (assumption 53). -/
def State.forceDram (s : State) (b : Nat) : State :=
  let q := 4 * s.fld DRAMC.FORCE_SEL_CHANNEL + s.fld DRAMC.FORCE_SEL_RANK
  if b < 2 then
    let (x, s1) := s.free
    ((s1.errLog (if b = 0 then 1 else 3) q (x % 2) 0xF).raise 0xA b 0 true).rankOut q
  else if b < 5 then s.raise 0xA b 0 true else s

/-- A forced input loss: an input entry, where the board has one, has to be good again before the restart (R105, R549). -/
def State.forceInputLost (s : State) : State :=
  s.inputLost (((List.range 16).find? (fun n => s.railEn n && s.railInput n)).getD 16) true

/-- One FAULT_FORCE bit of block `code`. -/
def State.forceBit (s : State) (code b : Nat) : State :=
  if code = 1 then
    (if b < 16 then s.failRail b true else if b = 17 then s.forceInputLost else if b < 19 then s.raise 1 b 0 true else s)
  else if code = 2 then
    (if b < 5 then (s.raise 2 b 0 true).pllLossEffects b
     else if b = 8 then (s.raise 2 8 0 true).gateGclk
     else if 16 ≤ b ∧ b < 22 then s.forceCoast (b - 16) else s)
  else if code = 3 then (if b < 6 then s.forceGauge b else s)
  else if code = 4 then (if b = 0 then s.raise 4 0 0 true else s)
  else if code = 5 then (if b = 0 then s.forceDouble else s)
  else if code = 6 then
    (if b = 0 then
       let (x, s1) := s.free
       (s1.logPoison 0 (x % 2 ^ 32 / 4096 * 4096)).raise 6 0 0 true
     else if b = 1 then (s.logEvict 0).raise 6 1 0 true else s)
  else if code = 7 then (if b = 0 then s.sqFail 0 true else if b = 1 then s.raise 7 1 0 true else s)
  else if code = 8 then s.forceMover b
  else if code = 9 then s.forceCodec b
  else if code = 0xA then s.forceDram b
  else if code = 0xB then (if b < 6 then s.setGv b { s.gv b with plateForced := true } else s)
  else if code = 0xC then
    (if b = 0 then s.hopDown true
     else if b = 1 then
       let (x, s1) := s.free
       let (y, s2) := s1.free
       s2.remoteFault s2.position 2 (x % 256) (y % 65536) true
     else s)
  else if code = 0xD then
    (if b = 0 then
       let (x, s1) := s.free
       let (y, s2) := s1.free
       let (z, s3) := s2.free
       s3.thermalTrip 5 (x % 16) (y % 8) (z % 4096) true
     else if b < 4 then s.raise 0xD b 0 true else s)
  else if code = 0xE then (if b < 2 then s.hvFault (s.fld HV.FORCE_SEL_CHANNEL) b true else s)
  else if code = 0xF then (if b = 0 then s.raise 0xF 0 0 true else s)
  else if 0x10 ≤ code ∧ code < 0x16 then s.forceGraver (code - 0x10) b
  else if 0x200 ≤ code ∧ code < 0x20C then
    (if b < 3 then s.axisFault (code - 0x200) b true
     else if code < 0x208 ∧ b = 4 then (s.chopFail (code - 0x200) true).axisSettle
     else if code < 0x208 ∧ b = 5 then s.busTrip (code - 0x200) true else s)
  else if 0x210 ≤ code ∧ code < 0x218 then
    (if b = 0 then s.axisFault (12 + (code - 0x210)) 0 true else if b = 1 then s.stall (code - 0x210) true else s)
  else s

/-- A write of `mask` to FAULT_FORCE of block `code`: it acts only while that block's FORCE_ARM is 1. -/
def State.forceWrite (s : State) (code mask : Nat) : State :=
  if (s.reg (faultReg code - 8)).toNat.testBit 1 then s.each (pick 32 mask.testBit) (fun t b => t.forceBit code b) else s

/-- FAULT_FORCE (R32, R549). -/
def execFaultForce (code mask : Nat) (s : State) : Result :=
  .next (if faultCodes.contains code && (s.fabric || decide (code = 1)) then s.forceWrite code mask else s)

end Sys2Proof.Machine
end

