-- ==== Sys2Proof/Machine/MemPos.lean ====
section
/-!
DEFINITION. Loads and stores, branches and jumps, and the position register instructions (R199–R202).
-/

namespace Sys2Proof.Machine

/-- LB (R199): rd := sext(mem8). -/
def effLb (n rd rs1 imm : Nat) (s : State) : Effect := let a := s.address n rs1 imm; checked n a 1 (toG s n rd (signed 8 ((s.core n).load a 1)) 2)
def execLb (n rd rs1 imm : Nat) (s : State) : Result :=
  s.instr n (encodeScriber (.lb n rd rs1 imm)) (effLb n rd rs1 imm)

/-- LBU (R199): rd := zext(mem8). -/
def effLbu (n rd rs1 imm : Nat) (s : State) : Effect := let a := s.address n rs1 imm; checked n a 1 (toG s n rd (BitVec.ofNat 32 ((s.core n).load a 1)) 2)
def execLbu (n rd rs1 imm : Nat) (s : State) : Result :=
  s.instr n (encodeScriber (.lbu n rd rs1 imm)) (effLbu n rd rs1 imm)

/-- LH (R199): rd := sext(mem16). -/
def effLh (n rd rs1 imm : Nat) (s : State) : Effect := let a := s.address n rs1 imm; checked n a 2 (toG s n rd (signed 16 ((s.core n).load a 2)) 2)
def execLh (n rd rs1 imm : Nat) (s : State) : Result :=
  s.instr n (encodeScriber (.lh n rd rs1 imm)) (effLh n rd rs1 imm)

/-- LHU (R199): rd := zext(mem16). -/
def effLhu (n rd rs1 imm : Nat) (s : State) : Effect := let a := s.address n rs1 imm; checked n a 2 (toG s n rd (BitVec.ofNat 32 ((s.core n).load a 2)) 2)
def execLhu (n rd rs1 imm : Nat) (s : State) : Result :=
  s.instr n (encodeScriber (.lhu n rd rs1 imm)) (effLhu n rd rs1 imm)

/-- LW (R199): rd := mem32. -/
def effLw (n rd rs1 imm : Nat) (s : State) : Effect := let a := s.address n rs1 imm; checked n a 4 (toG s n rd (BitVec.ofNat 32 ((s.core n).load a 4)) 2)
def execLw (n rd rs1 imm : Nat) (s : State) : Result :=
  s.instr n (encodeScriber (.lw n rd rs1 imm)) (effLw n rd rs1 imm)

/-- PLD (R199): pd := mem64. -/
def effPld (n pd rs1 imm : Nat) (s : State) : Effect := let a := s.address n rs1 imm; checked n a 8 (toP s n pd (BitVec.ofNat 64 ((s.core n).load a 8)) 2)
def execPld (n pd rs1 imm : Nat) (s : State) : Result :=
  s.instr n (encodeScriber (.pld n pd rs1 imm)) (effPld n pd rs1 imm)

/-- SB (R199): mem8 := rt[7:0]. -/
def effSb (n rt rs1 imm : Nat) (s : State) : Effect := let a := s.address n rs1 imm; checked n a 1 (.done (s.setCore n ((s.core n).store a 1 (s.gr n rt).toNat)) 1)
def execSb (n rt rs1 imm : Nat) (s : State) : Result :=
  s.instr n (encodeScriber (.sb n rt rs1 imm)) (effSb n rt rs1 imm)

/-- SH (R199): mem16 := rt[15:0]. -/
def effSh (n rt rs1 imm : Nat) (s : State) : Effect := let a := s.address n rs1 imm; checked n a 2 (.done (s.setCore n ((s.core n).store a 2 (s.gr n rt).toNat)) 1)
def execSh (n rt rs1 imm : Nat) (s : State) : Result :=
  s.instr n (encodeScriber (.sh n rt rs1 imm)) (effSh n rt rs1 imm)

/-- SW (R199): mem32 := rt. -/
def effSw (n rt rs1 imm : Nat) (s : State) : Effect := let a := s.address n rs1 imm; checked n a 4 (.done (s.setCore n ((s.core n).store a 4 (s.gr n rt).toNat)) 1)
def execSw (n rt rs1 imm : Nat) (s : State) : Result :=
  s.instr n (encodeScriber (.sw n rt rs1 imm)) (effSw n rt rs1 imm)

/-- PST (R199): mem64 := ps. -/
def effPst (n ps rs1 imm : Nat) (s : State) : Effect := let a := s.address n rs1 imm; checked n a 8 (.done (s.setCore n ((s.core n).store a 8 (s.pr n ps).toNat)) 1)
def execPst (n ps rs1 imm : Nat) (s : State) : Result :=
  s.instr n (encodeScriber (.pst n ps rs1 imm)) (effPst n ps rs1 imm)


/-- A branch: 2 cycles taken, 1 not taken (R200). -/
def branch (s : State) (n imm : Nat) (taken : Bool) : Effect := if taken then .jump s (s.target n imm) 2 else .done s 1

/-- BEQ (R200): taken where rt = rs1. -/
def effBeq (n rt rs1 imm : Nat) (s : State) : Effect := branch s n imm (s.gr n rt == s.gr n rs1)
def execBeq (n rt rs1 imm : Nat) (s : State) : Result :=
  s.instr n (encodeScriber (.beq n rt rs1 imm)) (effBeq n rt rs1 imm)

/-- BNE (R200): taken where rt ≠ rs1. -/
def effBne (n rt rs1 imm : Nat) (s : State) : Effect := branch s n imm (s.gr n rt != s.gr n rs1)
def execBne (n rt rs1 imm : Nat) (s : State) : Result :=
  s.instr n (encodeScriber (.bne n rt rs1 imm)) (effBne n rt rs1 imm)

/-- BLT (R200): taken where rt < rs1, signed. -/
def effBlt (n rt rs1 imm : Nat) (s : State) : Effect := branch s n imm ((s.gr n rt).slt (s.gr n rs1))
def execBlt (n rt rs1 imm : Nat) (s : State) : Result :=
  s.instr n (encodeScriber (.blt n rt rs1 imm)) (effBlt n rt rs1 imm)

/-- BGE (R200): taken where rt ≥ rs1, signed. -/
def effBge (n rt rs1 imm : Nat) (s : State) : Effect := branch s n imm ((s.gr n rs1).sle (s.gr n rt))
def execBge (n rt rs1 imm : Nat) (s : State) : Result :=
  s.instr n (encodeScriber (.bge n rt rs1 imm)) (effBge n rt rs1 imm)

/-- BLTU (R200): taken where rt < rs1, unsigned. -/
def effBltu (n rt rs1 imm : Nat) (s : State) : Effect := branch s n imm ((s.gr n rt).ult (s.gr n rs1))
def execBltu (n rt rs1 imm : Nat) (s : State) : Result :=
  s.instr n (encodeScriber (.bltu n rt rs1 imm)) (effBltu n rt rs1 imm)

/-- BGEU (R200): taken where rt ≥ rs1, unsigned. -/
def effBgeu (n rt rs1 imm : Nat) (s : State) : Effect := branch s n imm ((s.gr n rs1).ule (s.gr n rt))
def execBgeu (n rt rs1 imm : Nat) (s : State) : Result :=
  s.instr n (encodeScriber (.bgeu n rt rs1 imm)) (effBgeu n rt rs1 imm)

/-- JAL (R200): rd := pc + 4, then the jump. -/
def effJal (n rd imm : Nat) (s : State) : Effect := .jump (s.setG n rd ((s.core n).pc + 4)) (s.target n imm) 2
def execJal (n rd imm : Nat) (s : State) : Result :=
  s.instr n (encodeScriber (.jal n rd imm)) (effJal n rd imm)

/-- JALR (R200): MISALIGN where the target is not word-aligned; else rd := pc + 4, then the jump. -/
def effJalr (n rd rs1 imm : Nat) (s : State) : Effect := let t := s.gr n rs1 + sextImm imm; if t.toNat % 4 ≠ 0 then .trap 4 t.toNat else .jump (s.setG n rd ((s.core n).pc + 4)) t 3
def execJalr (n rd rs1 imm : Nat) (s : State) : Result :=
  s.instr n (encodeScriber (.jalr n rd rs1 imm)) (effJalr n rd rs1 imm)


/-! ## Position registers (R202) -/

/-- PADD (R202): pd := pa + pb. -/
def effPadd (n pd pa pb : Nat) (s : State) : Effect := toP s n pd (s.pr n pa + s.pr n pb) 1
def execPadd (n pd pa pb : Nat) (s : State) : Result :=
  s.instr n (encodeScriber (.padd n pd pa pb)) (effPadd n pd pa pb)

/-- PSUB (R202): pd := pa − pb. -/
def effPsub (n pd pa pb : Nat) (s : State) : Effect := toP s n pd (s.pr n pa - s.pr n pb) 1
def execPsub (n pd pa pb : Nat) (s : State) : Result :=
  s.instr n (encodeScriber (.psub n pd pa pb)) (effPsub n pd pa pb)

/-- PADDC (R202): adds whole counts. -/
def effPaddc (n pd pa gb : Nat) (s : State) : Effect := toP s n pd (s.pr n pa + (sextP (s.gr n gb)) <<< 16) 1
def execPaddc (n pd pa gb : Nat) (s : State) : Result :=
  s.instr n (encodeScriber (.paddc n pd pa gb)) (effPaddc n pd pa gb)

/-- PADDF (R202): adds in 1/65,536 count. -/
def effPaddf (n pd pa gb : Nat) (s : State) : Effect := toP s n pd (s.pr n pa + sextP (s.gr n gb)) 1
def execPaddf (n pd pa gb : Nat) (s : State) : Result :=
  s.instr n (encodeScriber (.paddf n pd pa gb)) (effPaddf n pd pa gb)

/-- PMOV (R202): pd := pa. -/
def effPmov (n pd pa : Nat) (s : State) : Effect := toP s n pd (s.pr n pa) 1
def execPmov (n pd pa : Nat) (s : State) : Result :=
  s.instr n (encodeScriber (.pmov n pd pa)) (effPmov n pd pa)

/-- PSETC (R202): pd := sext(ga) << 16. -/
def effPsetc (n pd ga : Nat) (s : State) : Effect := toP s n pd ((sextP (s.gr n ga)) <<< 16) 1
def execPsetc (n pd ga : Nat) (s : State) : Result :=
  s.instr n (encodeScriber (.psetc n pd ga)) (effPsetc n pd ga)

/-- PLO (R202): gd := pa[31:0]. -/
def effPlo (n gd pa : Nat) (s : State) : Effect := toG s n gd ((s.pr n pa).extractLsb' 0 32) 1
def execPlo (n gd pa : Nat) (s : State) : Result :=
  s.instr n (encodeScriber (.plo n gd pa)) (effPlo n gd pa)

/-- PHI (R202): gd := pa[63:32]. -/
def effPhi (n gd pa : Nat) (s : State) : Effect := toG s n gd ((s.pr n pa).extractLsb' 32 32) 1
def execPhi (n gd pa : Nat) (s : State) : Result :=
  s.instr n (encodeScriber (.phi n gd pa)) (effPhi n gd pa)

/-- PSETLO (R202): pd[31:0] := ga. -/
def effPsetlo (n pd ga : Nat) (s : State) : Effect := toP s n pd ((s.pr n pd).extractLsb' 32 32 ++ s.gr n ga) 1
def execPsetlo (n pd ga : Nat) (s : State) : Result :=
  s.instr n (encodeScriber (.psetlo n pd ga)) (effPsetlo n pd ga)

/-- PSETHI (R202): pd[63:32] := ga. -/
def effPsethi (n pd ga : Nat) (s : State) : Effect := toP s n pd (s.gr n ga ++ (s.pr n pd).extractLsb' 0 32) 1
def execPsethi (n pd ga : Nat) (s : State) : Result :=
  s.instr n (encodeScriber (.psethi n pd ga)) (effPsethi n pd ga)

/-- PCMP (R202): the sign of pa − pb. -/
def effPcmp (n gd pa pb : Nat) (s : State) : Effect := let d := (s.pr n pa - s.pr n pb).toInt; toG s n gd (if d < 0 then 0xFFFFFFFF else if d = 0 then 0 else 1) 1
def execPcmp (n gd pa pb : Nat) (s : State) : Result :=
  s.instr n (encodeScriber (.pcmp n gd pa pb)) (effPcmp n gd pa pb)

/-- PMULC (R202): pa times the signed 16.16 gb, to the nearest 1/65,536, ties away from zero. -/
def effPmulc (n pd pa gb : Nat) (s : State) : Effect := toP s n pd (BitVec.ofInt 64 (mulCoef (s.pr n pa).toInt (s.gr n gb).toInt)) 4
def execPmulc (n pd pa gb : Nat) (s : State) : Result :=
  s.instr n (encodeScriber (.pmulc n pd pa gb)) (effPmulc n pd pa gb)


end Sys2Proof.Machine
end

