-- ==== Sys2Proof/Machine/Objects.lean ====
section
/-!
DEFINITION. Object fields: the fields of every kind, reads and writes of objects and groups, and what a calendar action drives
(R172, R173, R231–R235, R248–R259, R405, R438, R440, R444, R498, R535).
-/

namespace Sys2Proof.Machine

/-! ## The objects of the table (R246, R247) -/

/-- What a handle of this device names. -/
inductive ObjClass where
  | engine
  | station (k : Nat)
  | array (k : Nat)
  | axis (a : Nat)
  | zone (z : Nat)
  | hv (n : Nat)
  | bus (b : Nat)
  | bridge
  | coil
  | lamp (n : Nat)
  | hvOut (n : Nat)
  | emitter (k e : Nat)
  | group
  | page
  | data
deriving DecidableEq, Repr

/-- The fixed object at index `i` that is not a group. -/
def fixedClass (i : Nat) : ObjClass :=
  if i = 0 then .engine
  else if i < 0x10 then .station (i - 8)
  else if i < 0x20 then .array (i - 0x10)
  else if i < 0x30 then .axis (i - 0x20)
  else if i < 0x38 then .axis (i - 0x24)
  else if i < 0x40 then .zone (i - 0x38)
  else if i < 0x60 then .hv (i - 0x40)
  else if i < 0x80 then .bus (i - 0x60)
  else if i < 0xA8 then .bridge
  else if i < 0xB8 then .coil
  else if i < 0xC0 then .lamp (i - 0xB8)
  else if i < 0x100 then .hvOut (i - 0xC0)
  else .emitter ((i - 0x100) / 40) ((i - 0x100) % 40)

/-- What a handle names, none where no object holds it or its FREE is deferred (R275). -/
def State.classOf (s : State) (h : Nat) : Option ObjClass :=
  if !s.validHandle h then none
  else if kindOf h = 5 then some .group
  else if kindOf h < 5 then some (fixedClass (indexOf h))
  else match s.dataObj h with
    | some o => if o.freePending then none else if kindOf h = 8 then some .page else some .data
    | none => none

/-! ## Field tables (R249–R252, R405, R440, R444, R498, R535) -/

/-- Who may write a field: nobody, all, with the 1s clearing or acting, the Stewards alone, and the fields whose every access is the
Stewards' (R438). -/
inductive Access where
  | r | rw | w1c | w1p | steward | stewardOnly
deriving DecidableEq, Repr

/-- The common fields: width and access (R250). -/
def commonSpec (f : Nat) : Option (Nat × Access) :=
  match f with
  | 0 => some (16, .r)
  | 1 => some (32, .r)
  | 2 => some (1, .rw)
  | 3 => some (32, .r)
  | 4 => some (32, .w1c)
  | 5 => some (64, .r)
  | 6 => some (32, .r)
  | _ => none

/-- Width and access of the engine's fields (R251). -/
def engineSpec (f : Nat) : Option (Nat × Access) :=
  match f with
  | 0x10 => some (4, .r)
  | 0x11 => some (8, .w1p)
  | 0x12 => some (16, .rw)
  | 0x13 => some (16, .rw)
  | 0x18 => some (32, .rw)
  | 0x19 => some (32, .rw)
  | 0x1A => some (32, .w1p)
  | 0x1B => some (32, .w1p)
  | 0x1C => some (32, .r)
  | 0x20 => some (32, .steward)
  | 0x21 => some (32, .steward)
  | 0x22 => some (32, .steward)
  | 0x23 => some (32, .steward)
  | 0x24 => some (32, .r)
  | _ => none

/-- Of the stations' (R252). -/
def stationSpec (f : Nat) : Option (Nat × Access) :=
  match f with
  | 0x30 => some (8, .r)
  | 0x31 => some (16, .r)
  | 0x32 => some (16, .rw)
  | 0x33 => some (8, .rw)
  | 0x34 => some (16, .r)
  | 0x35 => some (16, .r)
  | _ => none

/-- Of the laser arrays' (R405, R438, R440). -/
def arraySpec (f : Nat) : Option (Nat × Access) :=
  match f with
  | 0x100 => some (6, .r)
  | 0x101 => some (8, .r)
  | 0x102 => some (1, .rw)
  | 0x103 => some (32, .rw)
  | 0x104 => some (64, .r)
  | 0x105 => some (12, .r)
  | 0x106 => some (2, .r)
  | 0x107 => some (2, .r)
  | 0x108 => some (1, .rw)
  | 0x110 => some (32, .stewardOnly)
  | 0x111 => some (32, .stewardOnly)
  | 0x112 => some (32, .stewardOnly)
  | 0x113 => some (32, .stewardOnly)
  | _ => none

/-- Of the emitters' (R405, R440). -/
def emitterSpec (f : Nat) : Option (Nat × Access) :=
  match f with
  | 0x140 => some (10, .rw)
  | 0x141 => some (6, .rw)
  | 0x142 => some (2, .rw)
  | 0x143 => some (16, .r)
  | _ => none

/-- Of the axes' (R498); the last two are the steppers'. -/
def axisSpec (f : Nat) (stepper : Bool) : Option (Nat × Access) :=
  match f with
  | 0x200 => some (32, .rw)
  | 0x201 => some (64, .rw)
  | 0x202 => some (1, .w1p)
  | 0x203 => some (1, .w1p)
  | 0x204 => some (32, .r)
  | 0x205 => some (64, .r)
  | 0x206 => some (4, .r)
  | 0x207 => some (32, .rw)
  | 0x208 => some (32, .rw)
  | 0x209 => some (64, .rw)
  | 0x20A => some (64, .rw)
  | 0x20B => some (1, .r)
  | 0x210 => if stepper then some (32, .r) else none
  | 0x211 => if stepper then some (8, .r) else none
  | _ => none

/-- Of bus groups, bridges, zones, lamps and HV channels (R498, R535). -/
def powerSpec (c : ObjClass) (f : Nat) : Option (Nat × Access) :=
  match c, f with
  | .bus _, 0x220 => some (16, .r)
  | .bus _, 0x221 => some (1, .rw)
  | .bridge, 0x280 => some (16, .r)
  | .coil, 0x280 => some (16, .r)
  | .zone _, 0x300 => some (12, .rw)
  | .zone _, 0x301 => some (12, .rw)
  | .zone _, 0x302 => some (12, .r)
  | .zone _, 0x303 => some (16, .r)
  | .zone _, 0x304 => some (1, .r)
  | .zone _, 0x305 => some (1, .rw)
  | .lamp _, 0x310 => some (16, .rw)
  | .lamp _, 0x311 => some (1, .r)
  | .hv _, 0x400 => some (12, .rw)
  | .hv _, 0x401 => some (12, .r)
  | .hv _, 0x402 => some (16, .rw)
  | .hv _, 0x403 => some (1, .r)
  | .hv _, 0x404 => some (32, .rw)
  | _, _ => none

/-- Of the pages' (R444). -/
def pageSpec (f : Nat) : Option (Nat × Access) :=
  match f with
  | 0x100 => some (4, .r)
  | 0x101 => some (32, .r)
  | 0x102 => some (32, .r)
  | 0x103 => some (32, .r)
  | 0x104 => some (8, .r)
  | 0x105 => some (2, .r)
  | 0x106 => some (1, .steward)
  | _ => none

/-- Width and access of a field of the object's own, beside the common ones. -/
def ownSpec (c : ObjClass) (f : Nat) : Option (Nat × Access) :=
  match c with
  | .engine => engineSpec f
  | .station _ => stationSpec f
  | .array _ => arraySpec f
  | .emitter _ _ => emitterSpec f
  | .axis a => axisSpec f (decide (12 ≤ a))
  | .page => pageSpec f
  | .group => none
  | .data => none
  | c => powerSpec c f

/-- Width and access of a field of some object of a level: a group answers to it (R253). -/
def levelSpec (l f : Nat) : Option (Nat × Access) :=
  (if l = 1 then [.bridge, .coil, .lamp 0, .hvOut 0, .emitter 0 0]
   else if l = 2 then [.array 0, .axis 12, .zone 0, .hv 0, .bus 0]
   else [ObjClass.station 0]).findSome? (fun c => ownSpec c f)

/-- Width and access of field `f` of an object, none where its kind does not define it (R249). -/
def State.fieldSpec (s : State) (h : Nat) (c : ObjClass) (f : Nat) : Option (Nat × Access) :=
  match commonSpec f with
  | some x => some x
  | none => if c = .group then levelSpec (s.levelOf h) f else ownSpec c f

/-! ## Reads of one object (R233, R250) -/

/-- ENABLE. -/
def State.enableOf (s : State) (h : Nat) (c : ObjClass) : Bool :=
  match c with
  | .engine => s.engine.enable
  | .station k => (s.station k).enable
  | .axis a => s.axEnable a
  | .zone z => s.zoneOn z
  | .hv n => s.on (HV.V_CFG_ENABLE n)
  | .hvOut n => s.on (HV.V_CFG_ENABLE n)
  | .bridge => false
  | .coil => false
  | .group => false
  | .page => (s.object (indexOf h)).any (·.enable)
  | .data => (s.object (indexOf h)).any (·.enable)
  | _ => Tbl.get (fun _ => false) s.obj.keptEnable (indexOf h)

/-- STATUS.ENABLED. -/
def State.enabledOf (s : State) (h : Nat) (c : ObjClass) : Bool :=
  match c with
  | .station k => (s.station k).enabled
  | .axis a => s.axEnabled a
  | .hv n => s.on (HV.V_STATUS_OUTPUT n)
  | .hvOut n => s.on (HV.V_STATUS_OUTPUT n)
  | c => s.enableOf h c

/-- FAULT: the bits of the block that are this object's. -/
def State.faultOf (s : State) (c : ObjClass) : Nat :=
  match c with
  | .station k => (s.reg (GRAVER.FAULT k)).toNat
  | .array k => (s.reg (GRAVER.FAULT k)).toNat
  | .axis a => setBits (s.reg (faultReg (axCode a))).toNat 4 2 0
  | .bus b => (s.reg (FOC.FAULT b)).toNat &&& 0x30
  | .hv n => s.fld (HV.V_STATUS_ARC_FLT n) + 2 * s.fld (HV.V_STATUS_OV_FLT n)
  | .hvOut n => s.fld (HV.V_STATUS_ARC_FLT n) + 2 * s.fld (HV.V_STATUS_OV_FLT n)
  | _ => 0

/-- STATUS. -/
def State.statusOf (s : State) (h : Nat) (c : ObjClass) : Nat :=
  let pending := match c with
    | .station k => (s.station k).busyCommitted
    | .axis a => s.on (axf FOC.STATUS_DISABLE_PENDING STEP.STATUS_DISABLE_PENDING a)
    | _ => false
  let refused := match c with
    | .engine => s.engine.refused
    | .station k => (s.station k).refused
    | .hvOut n => Tbl.get (fun _ => false) s.obj.refusals (0x40 + n)
    | .group => false
    | .page => false
    | .data => false
    | _ => Tbl.get (fun _ => false) s.obj.refusals (indexOf h)
  let own := match c with
    | .engine => 2 ^ 8 * bit s.engine.runRefused
    | .station k => 2 ^ 8 * bit (s.station k).busyCommitted + 2 ^ 9 * bit (s.station k).plateBusy
    | _ => 0
  bit (s.enabledOf h c) + 2 * bit pending + 4 * bit (decide (s.faultOf c ≠ 0)) + 8 * bit refused + own

/-- INFO. -/
def State.infoOf (s : State) (h : Nat) : Nat :=
  kindOf h + s.levelOf h * 2 ^ 4 + bit (decide (kindOf h = 5)) * 2 ^ 7 + s.depthOf h * 2 ^ 8 + s.position * 2 ^ 16 + s.flatOf h * 2 ^ 20

/-- Does the device drive GPIO ball `n`, and with which level: by the alternate function that owns it, else as an output (R60, R61)? None
while the outputs are at their reset levels or VDDIO33 is off (R54, R57). -/
def State.gpioDriven (s : State) (n : Nat) : Option Bool :=
  if s.tinder.inReset || s.tinder.outputsHeld || s.railDown 2 then none
  else if n < 8 ∧ s.on (FOC.BUS_CFG_CHOP_EN n) then some (s.on (FOC.BUS_STATUS_BRAKE n))
  else if 8 ≤ n ∧ n < 20 ∧ s.on (CLOCK.GCLK_CTRL_ENABLE (n + 4)) then some (s.gclk (n + 4)).high
  else if s.engine.gpioDir.testBit n && !((n == 20 || n == 21) && s.gaugeOn (n + 2)) then some (s.engine.gpioOut.testBit n)
  else none

/-- The level at GPIO ball `n`: the device's, or the board's (R61). -/
def State.gpioLevel (s : State) (n : Nat) : Bool := (s.gpioDriven n).getD (s.engine.gpioBall.testBit n)

/-- GPIO_IN. -/
def State.gpioIn (s : State) : Nat := (List.range 32).foldl (fun x n => x + bit (s.gpioLevel n) * 2 ^ n) 0

/-- Is this device a follower of a cascade (R24)? -/
def State.follower (s : State) : Bool :=
  s.on THAIQ.CTRL_ENABLE && decide (2 ≤ s.fld THAIQ.CASCADE_CFG_DEVICES) && decide (s.position ≠ 0)

/-- The engine state that software reads: a follower's is its lead's, which only the lead knows (R18, R24, assumption 81). -/
def State.engReported (s : State) : Nat × State :=
  if s.follower then
    let (x, s1) := s.free
    (1 + x % 7, s1)
  else (s.eng, s)

/-- A field of the engine; a Scriber's read of a Placer port is a free value (R272). -/
def State.engineRead (s : State) (f who : Nat) : Nat × State :=
  let port := s.plcPort (who - 31)
  match f with
  | 0x10 => s.engReported
  | 0x12 => (s.engine.stationSet, s)
  | 0x13 => (s.engine.runGroup, s)
  | 0x18 => (s.engine.gpioDir, s)
  | 0x19 => (s.engine.gpioOut, s)
  | 0x1C => (s.gpioIn, s)
  | 0x20 => if isSteward who then (port.arg0, s) else s.free
  | 0x21 => if isSteward who then (port.arg1, s) else s.free
  | 0x22 => if isSteward who then (port.arg2, s) else s.free
  | 0x23 => (0, s)
  | 0x24 => if isSteward who then (port.value % 2 ^ 16 + port.code * 2 ^ 16, s) else s.free
  | _ => (0, s)

/-- A field of station `k`. -/
def State.stationRead (s : State) (k f : Nat) : Nat :=
  match f with
  | 0x30 => k + s.position * 2 ^ 4
  | 0x31 => 0x2010 + k
  | 0x32 => (s.station k).drumAxis
  | 0x33 => (s.station k).drumGauge
  | 0x34 => 0x51F0 + k
  | 0x35 => if s.on (GRAVER.PAGEQ_STATUS_HEAD_COMMITTED k) then s.fld (GRAVER.PAGEQ_STATUS_HEAD k) else 0
  | _ => 0

/-- A field of laser array `k`. -/
def State.arrayRead (s : State) (k f : Nat) : Nat :=
  match f with
  | 0x100 => s.fld (GRAVER.SCAN_STATUS_WSTART k)
  | 0x101 => s.fld (GRAVER.SCAN_STATUS_ADVANCE k)
  | 0x102 => s.fld (GRAVER.BANK_NEXT k)
  | 0x103 => (s.reg (GRAVER.REG_OFFSET k)).toNat
  | 0x104 => wrap 64 (s.gv k).next
  | 0x105 => s.fld (GRAVER.GUARD_STATUS_TEMP k)
  | 0x106 => s.fld (GRAVER.GUARD_STATUS_BAND k)
  | 0x107 => s.fld (GRAVER.GUARD_STATUS_T_CAPPED k) + 2 * s.fld (GRAVER.GUARD_STATUS_ARRAY_CLAMPED k)
  | 0x108 => s.fld (GRAVER.LASER_CTRL_LASER_REQ k)
  | 0x110 => (s.calPort k).addr
  | 0x111 => (s.calPort k).data
  | 0x113 => bit (s.calPort k).busy + (s.calPort k).status
  | _ => 0

/-- A field of emitter `e` of station `k`: the active bank's (R405), and the duty of R418. -/
def State.emitterRead (s : State) (k e f : Nat) : Nat × State :=
  match f with
  | 0x140 => (s.fld (GRAVER.EMIT_OFS k (s.bank k) e), s)
  | 0x141 => (s.fld (GRAVER.EMIT_FINE k (s.bank k) e), s)
  | 0x142 => (s.fld (GRAVER.HEALTH_HEALTH k e), s)
  | 0x143 => s.divFree ((s.gv k).dutySum e * 65536) (256 * 4096 * s.dots k)
  | _ => (0, s)

/-- A field of axis `a`. -/
def State.axisRead (s : State) (a f : Nat) : Nat :=
  let r := fun (g h : Nat → Nat) => (s.reg (axr g h a)).toNat
  let two := fun (g h g' h' : Nat → Nat) => s.pair (axr g h a) (axr g' h' a)
  match f with
  | 0x200 => r FOC.TARGET_SPEED STEP.TARGET_SPEED
  | 0x201 => two FOC.TARGET_POS_LO STEP.TARGET_POS_LO FOC.TARGET_POS_HI STEP.TARGET_POS_HI
  | 0x204 => r FOC.SPEED STEP.SPEED
  | 0x205 => two FOC.POS_LO STEP.POS_LO FOC.POS_HI STEP.POS_HI
  | 0x206 => s.axPhase a
  | 0x207 => r FOC.ACCEL STEP.ACCEL
  | 0x208 => r FOC.DECEL STEP.DECEL
  | 0x209 => two FOC.LIM_MIN_LO STEP.LIM_MIN_LO FOC.LIM_MIN_HI STEP.LIM_MIN_HI
  | 0x20A => two FOC.LIM_MAX_LO STEP.LIM_MAX_LO FOC.LIM_MAX_HI STEP.LIM_MAX_HI
  | 0x20B => bit (s.atSpeed a)
  | 0x210 => (s.reg (STEP.DEVIATION (a - 12))).toNat
  | 0x211 => s.fld (STEP.LOAD_LOAD_ANGLE (a - 12))
  | _ => 0

/-- A field of a bus group, bridge, zone, lamp or HV channel; the current of a bridge is measured, a free value. -/
def State.powerRead (s : State) (c : ObjClass) (f : Nat) : Nat × State :=
  match c, f with
  | .bus b, 0x220 => (s.fld (FOC.BUS_STATUS_VOLTAGE b), s)
  | .bus b, 0x221 => (s.fld (FOC.BUS_CFG_CHOP_EN b), s)
  | .bridge, _ => s.free
  | .coil, _ => s.free
  | .zone z, 0x300 => (s.fld (HEARTH.Z_SP_RUN_SP z), s)
  | .zone z, 0x301 => (s.fld (HEARTH.Z_SP_BANK_SP z), s)
  | .zone z, 0x302 => (s.zoneTemp z, s)
  | .zone z, 0x303 => (s.fld (HEARTH.Z_STATUS_U z), s)
  | .zone z, 0x304 => (bit (s.zoneReady z), s)
  | .zone z, 0x305 => (bit (s.zone z).holdP1, s)
  | .lamp n, 0x310 => (s.fld (HEARTH.H_CFG_WATTS n), s)
  | .lamp n, 0x311 => (s.fld (HEARTH.H_STATUS_ON n), s)
  | .hv n, 0x400 => (s.fld (HV.V_SP_SETPOINT n), s)
  | .hv n, 0x401 => (s.fld (HV.V_STATUS_MONITOR n), s)
  | .hv n, 0x402 => (s.fld (HV.V_DUTY_DUTY n), s)
  | .hv n, 0x403 => (s.fld (HV.V_STATUS_AT_SP n), s)
  | .hv n, 0x404 => ((s.reg (HV.V_AC_LEVELS n)).toNat, s)
  | _, _ => (0, s)

/-- A field of page `i` (R444). -/
def State.pageRead (s : State) (i f : Nat) : Nat :=
  match s.pg i with
  | none => if f = 0x103 then 0xFFFFFFFF else 0
  | some p =>
    (match f with
     | 0x100 => p.state
     | 0x101 => p.marks
     | 0x102 => p.reason
     | 0x103 => (match p.pitch with
       | some x => x % 2 ^ 32
       | none => 0xFFFFFFFF)
     | 0x104 => p.gauge
     | 0x105 => p.attempt
     | 0x106 => bit p.withdrawn
     | _ => 0)

/-- A field of one object that is not a group, as core `who` reads it. -/
def State.readOne (s : State) (h : Nat) (c : ObjClass) (f who : Nat) : Nat × State :=
  match f with
  | 0 => (h, s)
  | 1 => (s.infoOf h, s)
  | 2 => (bit (s.enableOf h c), s)
  | 3 => (s.statusOf h c, s)
  | 4 => (s.faultOf c, s)
  | 5 => (((s.dataObj h).map (·.size)).getD 0, s)
  | 6 => (((s.dataObj h).map Obj.placeWord).getD 0, s)
  | f =>
    (match c with
     | .engine => s.engineRead f who
     | .station k => (s.stationRead k f, s)
     | .array k => (s.arrayRead k f, s)
     | .emitter k e => s.emitterRead k e f
     | .axis a => (s.axisRead a f, s)
     | .page => (s.pageRead (indexOf h) f, s)
     | .group => (0, s)
     | .data => (0, s)
     | c => s.powerRead c f)

/-! ## Writes of one object (R30, R250–R252) -/

/-- A write of a station's ENABLE, one storage with CTRL.ENABLE of its Graver (R252, R267, R404, R550). -/
def State.stationWrite (s : State) (k : Nat) (v : Bool) : State :=
  let t := s.station k
  if v then
    if t.enabled then s.putStation k { t with enable := true, busyCommitted := false, refused := false }
    else if s.plateHeld k = [] then (s.stationOn k).recheckReady
    else if t.plateBusy then s
    else (s.putStation k { t with enable := true, plateBusy := true, refused := false }).plateEmpty k
  else if t.plateBusy then (s.plateCancel k).putStation k { t with enable := false, plateBusy := false, refused := false }
  else if t.enabled && (s.gv k).queue.any (·.committed) then
    s.putStation k { t with enable := false, busyCommitted := true, refused := false }
  else (s.stationOff k).recheckReady

/-- Clears HV fault flags of channel `n` alone; the block's bit follows its last channel (R526). -/
def State.hvClear (s : State) (n v : Nat) : State :=
  let s1 := if v.testBit 0 then s.setFld (HV.V_STATUS_ARC_FLT n) 0 else s
  let s2 := if v.testBit 1 then s1.setFld (HV.V_STATUS_OV_FLT n) 0 else s1
  let s3 := s2.setFbit HV.FAULT_CH_FAULTED n (s2.on (HV.V_STATUS_ARC_FLT n) || s2.on (HV.V_STATUS_OV_FLT n))
  let none' := fun (t : State) (g : Nat → Fld) => (List.range 32).all (fun m => !t.on (g m))
  let s4 := if v.testBit 0 && none' s3 HV.V_STATUS_ARC_FLT then s3.clearBit 0xE 0 else s3
  (if v.testBit 1 && none' s4 HV.V_STATUS_OV_FLT then s4.clearBit 0xE 1 else s4).irqAgain (sourceOf 0xE)

/-- A write of ENABLE. -/
def State.enableWrite (s : State) (h : Nat) (c : ObjClass) (v : Bool) : State :=
  match c with
  | .engine => { s with engine := { s.engine with enable := v } }
  | .station k => s.stationWrite k v
  | .axis a => (s.axisEnable a v).axisSettle
  | .zone z => s.zoneWrite z v
  | .hv n => (s.hvWrite n v).recheckReady
  | .hvOut n => (s.hvWrite n v).recheckReady
  | .bridge => s.setRefused (indexOf h) true
  | .coil => s.setRefused (indexOf h) true
  | .group => s
  | .page => s.mapObject (indexOf h) (fun o => { o with enable := v })
  | .data => s.mapObject (indexOf h) (fun o => { o with enable := v })
  | _ => { s with obj := { s.obj with keptEnable := Tbl.put (fun _ => false) s.obj.keptEnable (indexOf h) v } }

/-- A write of FAULT. -/
def State.faultField (s : State) (c : ObjClass) (v : Nat) : State :=
  match c with
  | .station k => s.faultWrite (0x10 + k) v
  | .array k => s.faultWrite (0x10 + k) v
  | .axis a => s.faultWrite (axCode a) (setBits v 4 2 0)
  | .bus b => s.faultWrite (0x200 + b) (v &&& 0x30)
  | .hv n => s.hvClear n v
  | .hvOut n => s.hvClear n v
  | _ => s

/-- A write of the engine's STATION_SET or RUN_GROUP, refused outside TINDER, BANKED and SAFE. -/
def State.engineSet (s : State) (e : Engine) : State :=
  if s.eng = engTinder ∨ s.eng = engBanked ∨ s.eng = engSafe then { s with engine := { e with refused := false } }
  else { s with engine := { s.engine with refused := true } }

/-- GPIO_SET and GPIO_CLR. -/
def State.gpioSet (s : State) (v : Nat) : State := { s with engine := { s.engine with gpioOut := s.engine.gpioOut ||| (v % 2 ^ 32) } }
def State.gpioClr (s : State) (v : Nat) : State :=
  { s with engine := { s.engine with gpioOut := s.engine.gpioOut - (s.engine.gpioOut &&& (v % 2 ^ 32)) } }

/-- A write of a field of the engine. -/
def State.engineWrite (s : State) (f v who : Nat) : State :=
  let port := s.plcPort (who - 31)
  match f with
  | 0x11 => s.request v
  | 0x12 => s.engineSet { s.engine with stationSet := v }
  | 0x13 => s.engineSet { s.engine with runGroup := v }
  | 0x18 => { s with engine := { s.engine with gpioDir := v } }
  | 0x19 => { s with engine := { s.engine with gpioOut := v } }
  | 0x1A => s.gpioSet v
  | 0x1B => s.gpioClr v
  | 0x20 => s.setPlcPort (who - 31) { port with arg0 := v }
  | 0x21 => s.setPlcPort (who - 31) { port with arg1 := v }
  | 0x22 => s.setPlcPort (who - 31) { port with arg2 := v }
  | 0x23 => s.plcIssue (who - 31) v
  | _ => s

/-- A write of a field of station `k`: DRUM_AXIS and DRUM_GAUGE only while it is not enabled. -/
def State.stationField (s : State) (k f v : Nat) : State :=
  let t := s.station k
  if t.enabled then s.setStation k { t with refused := true }
  else if f = 0x32 then s.setStation k { t with drumAxis := v, refused := false }
  else s.setStation k { t with drumGauge := v, refused := false }

/-- A write of a field of laser array `k`. -/
def State.arrayWrite (s : State) (k f v : Nat) : State :=
  let p := s.calPort k
  match f with
  | 0x102 => s.bankNext k v
  | 0x103 => s.setReg (GRAVER.REG_OFFSET k) (BitVec.ofNat 32 v)
  | 0x108 => (s.setFld (GRAVER.LASER_CTRL_LASER_REQ k) v).laserEval k
  | 0x110 => s.setCalPort k { p with addr := bits v 2 15 * 4 }
  | 0x111 => s.setCalPort k { p with data := v }
  | 0x112 => s.calCmd k v
  | 0x113 => s.setCalPort k { p with status := p.status - (p.status &&& (v &&& 6)) }
  | _ => s

/-- A write of a field of emitter `e` of station `k`: OFS and FINE reach the inactive bank, unless a pending switch is about to make it
active (R381, R405). -/
def State.emitterWrite (s : State) (k e f v : Nat) : State :=
  let b := 1 - s.bank k
  if f = 0x142 then s.setFld (GRAVER.HEALTH_HEALTH k e) v
  else if s.on (GRAVER.BANK_PENDING k) && decide (s.fld (GRAVER.BANK_NEXT k) = b) then s.logRo (GRAVER.EMIT k b e)
  else s.setFld (if f = 0x140 then GRAVER.EMIT_OFS k b e else GRAVER.EMIT_FINE k b e) v

/-- A write of a field of axis `a`. -/
def State.axisWrite (s : State) (a f v : Nat) : State :=
  let w := fun (g h : Nat → Nat) => s.setReg (axr g h a) (BitVec.ofNat 32 v)
  let two := fun (g h g' h' : Nat → Nat) => s.setPair (axr g h a) (axr g' h' a) v
  match f with
  | 0x200 => w FOC.TARGET_SPEED STEP.TARGET_SPEED
  | 0x201 => two FOC.TARGET_POS_LO STEP.TARGET_POS_LO FOC.TARGET_POS_HI STEP.TARGET_POS_HI
  | 0x202 => if v % 2 = 1 then (s.startAxis a .other).axisSettle else s
  | 0x203 => if v % 2 = 1 then (s.stopAxis a).axisSettle else s
  | 0x207 => w FOC.ACCEL STEP.ACCEL
  | 0x208 => w FOC.DECEL STEP.DECEL
  | 0x209 => two FOC.LIM_MIN_LO STEP.LIM_MIN_LO FOC.LIM_MIN_HI STEP.LIM_MIN_HI
  | 0x20A => two FOC.LIM_MAX_LO STEP.LIM_MAX_LO FOC.LIM_MAX_HI STEP.LIM_MAX_HI
  | _ => s

/-- A write of a field of a bus group, zone, lamp or HV channel. -/
def State.powerWrite (s : State) (c : ObjClass) (f v : Nat) : State :=
  match c, f with
  | .bus b, 0x221 => (s.setFld (FOC.BUS_CFG_CHOP_EN b) v).brakeEval b
  | .zone z, 0x300 => ((s.setFld (HEARTH.Z_SP_RUN_SP z) v).zonesFollow).recheckReady
  | .zone z, 0x301 => ((s.setFld (HEARTH.Z_SP_BANK_SP z) v).zonesFollow).recheckReady
  | .zone z, 0x305 => (s.setZone z { s.zone z with holdP1 := decide (v % 2 = 1) }).zonesFollow
  | .lamp n, 0x310 => s.setFld (HEARTH.H_CFG_WATTS n) v
  | .hv n, 0x400 => s.setFld (HV.V_SP_SETPOINT n) v
  | .hv n, 0x402 => s.setFld (HV.V_DUTY_DUTY n) v
  | .hv n, 0x404 => s.setReg (HV.V_AC_LEVELS n) (BitVec.ofNat 32 v)
  | _, _ => s

/-- A write of `v`, already of the field's width, to one object that is not a group. -/
def State.writeOne (s : State) (h : Nat) (c : ObjClass) (f v who : Nat) : State :=
  match f with
  | 2 => s.enableWrite h c (decide (v % 2 = 1))
  | 4 => s.faultField c v
  | f =>
    (match c with
     | .engine => s.engineWrite f v who
     | .station k => s.stationField k f v
     | .array k => s.arrayWrite k f v
     | .emitter k e => s.emitterWrite k e f v
     | .axis a => s.axisWrite a f v
     | .page => if f = 0x106 ∧ v % 2 = 1 then s.mapPg (indexOf h) (fun p => { p with withdrawn := true }) else s
     | .group => s
     | .data => s
     | c => s.powerWrite c f v)

/-! ## Objects and groups (R233, R234, R250, R256, R257) -/

/-- One member's field, as core `who` reads it; none where its device does not answer (R256). What a member of a type without the field
gives is a free value. -/
def State.readMember (s : State) (w f width who : Nat) : Option Nat × State :=
  if s.isOwn w then
    match s.classOf (w % 2 ^ 16) with
    | some c =>
      if (s.fieldSpec (w % 2 ^ 16) c f).isSome then let r := s.readOne (w % 2 ^ 16) c f who; (some r.1, r.2)
      else let (v, s1) := s.free; (some (v % 2 ^ width), s1)
    | none => (none, s)
  else if !s.linkUp then (none, s)
  else
    let (ok, s1) := s.choose
    let (v, s2) := s1.free
    (if ok then some (v % 2 ^ width) else none, s2)

/-- The members' fields in order, none at the first that does not answer. -/
def State.readMembers (s : State) (f width who : Nat) : List Nat → Option (List Nat) × State
  | [] => (some [], s)
  | w :: t =>
    match s.readMember w f width who with
    | (none, s1) => (none, s1)
    | (some v, s1) =>
      match s1.readMembers f width who t with
      | (none, s2) => (none, s2)
      | (some l, s2) => (some (v :: l), s2)

/-- A field of an object or group, none at a timeout. -/
def State.readField (s : State) (h : Nat) (c : ObjClass) (f width who : Nat) : Option Nat × State :=
  if c ≠ .group then let r := s.readOne h c f who; (some r.1, r.2)
  else match f with
    | 0 => (some h, s)
    | 1 => (some (s.infoOf h), s)
    | 2 => let r := s.readMembers 2 width who (s.flat h); (r.1.map (fun l => bit (l.all (· == 1))), r.2)
    | 3 => let r := s.readMembers 3 width who (s.flat h); (r.1.map (fun l => l.foldl (· ||| ·) 0), r.2)
    | 4 => let r := s.readMembers 4 width who (s.flat h); (r.1.map (fun l => l.foldl (· ||| ·) 0), r.2)
    | 5 => (some 0, s)
    | 6 => (some 0, s)
    | f => match s.flat h with
      | [] => (some 0, s)
      | w :: _ => s.readMember w f width who

/-- One member is written; answers whether it could be. Whether another device takes the write is a free value, and what is sent to it is
recorded. -/
def State.writeMember (s : State) (w f v who : Nat) : Bool × State :=
  if s.isOwn w then
    match s.classOf (w % 2 ^ 16) with
    | some c => if (s.fieldSpec (w % 2 ^ 16) c f).isSome then (true, s.writeOne (w % 2 ^ 16) c f v who) else (false, s)
    | none => (false, s)
  else if !s.linkUp then (false, s)
  else
    let (ok, s1) := s.choose
    (ok, s1.send (.remoteWrite (bits w 16 2) (w % 2 ^ 16) f v))

/-- A write of `v`, already of the field's width, to an object or each member of a group in order; answers whether every write was
delivered. -/
def State.writeField (s : State) (h : Nat) (c : ObjClass) (f v who : Nat) : Bool × State :=
  if c = .group then (s.flat h).foldl (fun p w => let r := p.2.writeMember w f v who; (p.1 && r.1, r.2)) (true, s)
  else (true, s.writeOne h c f v who)

/-- The reason of R219 for which an object instruction of core `who` raises OBJECT, 0 none (R231, R438, R444). -/
def State.fieldCheck (s : State) (h f who : Nat) (write wide : Bool) : Nat :=
  match s.classOf h with
  | none => 1
  | some c =>
    match s.fieldSpec h c f with
    | none => 2
    | some (width, a) =>
      if (a == .stewardOnly && !isSteward who) || (write && (a == .r || (a == .steward && !isSteward who))) then 3
      else if width = 64 ∧ wide = false then 4
      else 0

/-! ## The calendar's writes and outputs (R172, R173, R235) -/

/-- A FIELD_WRITE; false where it is dropped. -/
def State.fieldWrite (s : State) (handle field value : Nat) : Bool × State :=
  match s.classOf handle with
  | none => (false, s)
  | some c =>
    match s.fieldSpec handle c field with
    | none => (false, s)
    | some (width, a) =>
      if a = .r ∨ a = .steward ∨ a = .stewardOnly then (false, s)
      else (true, (s.writeField handle c field (value % 2 ^ width) 62).2)

/-- The Thaiq start event is sent (R169). -/
def State.startEvent (s : State) : State := if s.linkUp then s.send .startEvent else s

/-- What SET (1), CLEAR (2) or TOGGLE (3) leaves of a level. -/
def levelAfter (kind : Nat) (was : Bool) : Bool := if kind = 1 then true else if kind = 2 then false else !was

/-- A calendar action on an output (R172). -/
def State.driveOutput (s : State) (o kind : Nat) : State :=
  if o < 0x20 then
    { s with engine := { s.engine with gpioOut := withBit s.engine.gpioOut o (levelAfter kind (s.engine.gpioOut.testBit o)) } }
  else if o < 0x40 then (s.hvWrite (o - 0x20) (levelAfter kind (s.on (HV.V_CFG_ENABLE (o - 0x20))))).recheckReady
  else if o = 0x40 then { s with engine := { s.engine with startN := levelAfter kind s.engine.startN } }
  else if o = 0x41 then (if kind = 2 then s else s.calPhaseReset.acRestart)
  else if o = 0x42 then (if kind = 2 then s else s.startEvent)
  else if 0x50 ≤ o ∧ o < 0x5C then (if kind = 2 then s else (s.startAxis (o - 0x50) .other).axisSettle)
  else if 0x60 ≤ o ∧ o < 0x68 then (if kind = 2 then s else (s.startAxis (o - 0x60 + 12) .other).axisSettle)
  else if 0x70 ≤ o ∧ o < 0x78 then
    s.setFld (GAUGE.MK_CTRL_GATE (o - 0x70)) (bit (levelAfter kind (s.on (GAUGE.MK_CTRL_GATE (o - 0x70)))))
  else s

/-! ## The commands -/

/-- STATION_ENABLE (R252, R267, R404, R417): ENABLE of station `k` is written. -/
def execStationEnable (k : Nat) (on : Bool) (s : State) : Result := .next (if k < 6 ∧ s.fabric then s.stationWrite k on else s)

/-- GPIO_SET (R251): each 1 sets its GPIO_OUT bit. -/
def execGpioSet (value : Nat) (s : State) : Result := .next (if s.fabric then s.gpioSet value else s)

/-- GPIO_CLR (R251): each 1 clears its GPIO_OUT bit. -/
def execGpioClr (value : Nat) (s : State) : Result := .next (if s.fabric then s.gpioClr value else s)

end Sys2Proof.Machine
end

