-- ==== Sys2Proof/Machine/Calendar.lean ====
section
/-!
DEFINITION. The position calendar: arming, acceptance, insertion, crossings, firing and removal (R171–R181, R220–R223, R226).
-/

namespace Sys2Proof.Machine

/-! ## Entries -/

/-- The 16-bit ticket of entry `e` with generation `gen` (R171). -/
def ticketOf (e gen : Nat) : Nat := e + gen * 2 ^ 13

/-- An entry as its 128 bits (R171). -/
def Entry.word (x : Entry) : Nat :=
  x.pos + x.gauge * 2 ^ 64 + x.dir * 2 ^ 70 + bit x.discard * 2 ^ 72 + x.action * 2 ^ 76 + x.owner * 2 ^ 80 + x.arg * 2 ^ 96

/-- The outputs that are not reserved (R172). -/
def validOutput (o : Nat) : Bool :=
  decide (o ≤ 0x042) || (decide (0x050 ≤ o) && decide (o < 0x05C)) || (decide (0x060 ≤ o) && decide (o < 0x068))
    || (decide (0x070 ≤ o) && decide (o < 0x078))

/-- The checks of an arm request (R172, R175, R222). -/
def State.armValid (s : State) (gauge dir action arg : Nat) : Bool :=
  decide (dir ≠ 0) && s.gaugeOn gauge &&
  (if action = 0 then true
   else if action ≤ 3 then validOutput (arg % 2 ^ 12)
   else if action = 4 then true
   else if action ≤ 6 then decide (arg % 64 < 34)
   else false)

/-! ## Firing -/

/-- The number of entries that stand in the calendar: OCCUPANCY (R181). -/
def State.occupancy (s : State) : Nat :=
  s.gc.entries.countP (fun p => match p.2 with
    | some e => !e.requested
    | none => false)

/-- Adds to LATE_COUNT and sets LATE_EV (R174). -/
def State.countLate (s : State) : State := (s.bump (CALENDAR.LATE_COUNT_COUNT) 1).event CALENDAR.INT_STAT_LATE_EV

/-- An action that cannot be delivered (R173). -/
def State.dropAction (s : State) : State := (s.bump CALENDAR.DROP_COUNT_COUNT 1).raise 4 0 0 false

/-- The 64-bit payload of a posted message (R172). -/
def State.postPayload (s : State) (e : Nat) (x : Entry) (tag : Nat) : Nat :=
  tag + e * 2 ^ 16 + bit x.late * 2 ^ 29 + bit x.resumed * 2 ^ 30 + (s.gauge x.gauge).value / 2 ^ 32 * 2 ^ 32

/-- A message of the calendar to core `n` (R172, R173, R236). -/
def State.calendarPost (s : State) (n payload : Nat) : State :=
  let r := s.deliver n payload (0x3E + s.position * 64)
  if r.1 then r.2 else r.2.dropAction

/-- The owner of a removed late entry is told; the host has no mailbox (R174). -/
def State.tellOwner (s : State) (e : Nat) (x : Entry) : State :=
  if x.owner < 34 then s.calendarPost x.owner (s.postPayload e x (if x.action = 6 then x.arg / 2 ^ 16 else 0)) else s

/-- Word `i` of preload slot `k`: 16 bytes a slot (R172). -/
def State.slotWord (s : State) (k i : Nat) : Nat := (s.reg (CALENDAR.SLOT (4 * k + i))).toNat

/-- The effect of an entry's action (R172, R173, R226); the page engine takes its own posts as its commands (R458, assumption 59). -/
def State.fireAction (s : State) (e : Nat) (x : Entry) : State :=
  if x.engine then s else
  match x.action with
  | 1 => s.driveOutput (x.arg % 2 ^ 12) 1
  | 2 => s.driveOutput (x.arg % 2 ^ 12) 2
  | 3 => s.driveOutput (x.arg % 2 ^ 12) 3
  | 4 =>
    let k := x.arg % 1024
    let w := s.slotWord k 0
    let r := s.fieldWrite (w % 2 ^ 16) (w / 2 ^ 16) (s.slotWord k 2 + s.slotWord k 3 * 2 ^ 32)
    if r.1 then r.2 else r.2.dropAction
  | 5 =>
    let n := x.arg % 64
    if (s.core n).halted then s.dropAction else s.wakeCore n
  | 6 => s.calendarPost (x.arg % 64) (s.postPayload e x (x.arg / 2 ^ 16))
  | _ => s

/-- Entry `e` fires once and is gone. The firing of a WAITP's entry ends its wait with rd 0, or 1 where it was late (R226). -/
def State.fireEntry (s : State) (e : Nat) (x : Entry) : State :=
  let s1 := s.setEntry e none
  match (s1.core x.owner).wait with
  | .position rd w _ =>
    if w = e ∧ x.owner < 34 then
      if (s1.core x.owner).faultDue then s1 else (s1.setG x.owner rd (if x.late then 1 else 0)).waitDone x.owner
    else s1.fireAction e x
  | _ => s1.fireAction e x

/-- Entry `e` is removed as late: its owner is told and LATE_COUNT counts it (R161, R174). -/
def State.discardEntry (s : State) (e : Nat) (x : Entry) : State := ((s.setEntry e none).countLate).tellOwner e x

/-- Inserts `x` before the first element that it does not follow. -/
def insertBy {α : Type} (le : α → α → Bool) (x : α) : List α → List α
  | [] => [x]
  | y :: t => if le x y then x :: y :: t else y :: insertBy le x t

/-- The crossed entries of gauge `n` that may fire, one direction's group, in firing order (R175, R176). -/
def State.fireable (s : State) (n : Nat) (fwd : Bool) : List (Nat × Entry) :=
  let v := (s.gauge n).value
  let l := (s.entriesOn n).filter (fun p => p.2.crossed && !p.2.inserting && !p.2.doomed && (p.2.forward == fwd))
  l.foldr (fun p rest => insertBy (fun a b =>
    let da := posDiff a.2.pos v
    let db := posDiff b.2.pos v
    if da = db then decide (a.2.seq ≤ b.2.seq) else if fwd then decide (da < db) else decide (db < da)) p rest) []

/-- Is a crossed entry due to fire: inserted, live and on a gauge whose queues are not held (R176, R177)? -/
def State.dueToFire (s : State) (x : Entry) : Bool :=
  x.crossed && !x.requested && !x.inserting && !x.doomed && !s.gaugeHeld x.gauge

/-- One fabric cycle's firing on gauge `n`: at most four per direction, none while its queues are held (R160, R176). -/
def State.fireGauge (s : State) (n : Nat) : State :=
  if s.gaugeHeld n then s
  else
    let l := (s.fireable n true).take 4 ++ (s.fireable n false).take 4
    l.foldl (fun t p => match t.entry p.1 with
      | some x =>
        if x = p.2 then
          (let t1 := if x.late then t.countLate else t
           t1.fireEntry p.1 x)
        else t
      | none => t) s

/-- One fabric cycle's firing on gauge `n` and the virtual gauges over it, which move with it: in ascending gauge number, so that the last
applied sets an output that they share (R165, R176). -/
def State.fireWith (s : State) (n : Nat) : State :=
  let l := (s.followers n).map (· + 32)
  (if n < 32 then n :: l else l ++ [n]).foldl (fun t m => t.fireGauge m) s

/-- The value a loop may interpolate to (R152, R153, R162): between the last edge and one edge further while it is locked and not coasting,
the last edge's value while still, and never past the whole count on a beam-detect gauge. -/
def State.confine (s : State) (n v : Nat) : Nat :=
  let g := s.gauge n
  if isVirtual n then g.value
  else if isRemote n then v % posMod
  else if !isBeam n && s.on (GAUGE.G_STATUS_STILL n) then g.edgeVal
  else if !isBeam n && (s.gaugeCoasting n || !s.gaugeLocked n) then v % posMod
  else
    let step : Int := if isBeam n then 0xFFFF else if isMains n then 0x10000 else s.fld (GAUGE.G_SCALE_SCALE n)
    let d := posDiff v g.edgeVal
    if g.fwd then posAdd g.edgeVal (max 0 (min d step)) else posAdd g.edgeVal (min 0 (max d (-step)))

/-- ENTRY_CROSSING (R174–R176): the value of gauge `gauge` has come to `value`; the entries crossed fire. -/
def execEntryCrossing (gauge value : Nat) (s : State) : Result :=
  .next (if s.fabric ∧ s.gaugeOn gauge then (s.moveGauge gauge (s.confine gauge value)).fireWith gauge else s)

/-- CALENDAR_FIRE_DEFERRED (R176): the next four of each direction fire, on the gauge and the virtual gauges over it. -/
def execCalendarFireDeferred (gauge : Nat) (s : State) : Result := .next (if s.fabric then s.fireWith gauge else s)

/-! ## Requests (R175, R221–R223) -/

/-- The host's request completes with a result (R181). -/
def State.hostDone (s : State) (result ticket : Nat) : State :=
  ((s.setFld CALENDAR.ARM_RESULT_RESULT result).setFld CALENDAR.ARM_RESULT_TICKET ticket).event CALENDAR.INT_STAT_ARM_DONE

/-- Takes entry `e` out of the calendar. Where it was still being inserted its request has completed: its core's conditions are judged
again (R229), and the host's request is done (assumption 99). -/
def State.removeEntry (s : State) (e : Nat) : State :=
  match s.entry e with
  | none => s
  | some x =>
    let s1 := s.dropEntry e
    if !x.inserting || x.engine then s1 else if x.owner < 34 then s1.settle x.owner else s1.hostDone 0 (ticketOf e x.gen)

/-- Removes the entry of a ticket if its generation matches and the requester owns it or is the host; one that is due to fire fires
(R177). -/
def State.disarmTicket (s : State) (owner ticket : Nat) : Bool × State :=
  let e := ticket % 2 ^ 13
  match s.entry e with
  | none => (false, s)
  | some x =>
    if x.requested ∨ x.gen ≠ ticket / 2 ^ 13 % 8 ∨ ¬ (owner = 63 ∨ x.owner = owner) ∨ s.dueToFire x then (false, s)
    else (true, s.removeEntry e)

/-- CALENDAR_ACCEPT (R175, R177, R221, R226): the next request in order of arrival. -/
def execCalendarAccept (s : State) : Result :=
  match s.gc.reqs with
  | [] => .next s
  | r :: rest =>
    if !s.fabric then .next s
    else
      let s0 := { s with gc := { s.gc with reqs := rest } }
      match r with
      | .arm e =>
        (match s0.entry e with
         | none => .next s0
         | some x =>
           if s0.gaugeOn x.gauge then .next (s0.acceptEntry e x)
           else
             let n := x.owner
             let s1 := (s0.setEntry e none).calDone n
             let s2 := s1.setCore n { s1.core n with armLost := true }
             (match (s2.core n).wait with
              | .position rd w _ =>
                if w = e then .next (if (s2.core n).faultDue then s2 else (s2.setG n rd 3).waitDone n) else .next (s2.settle n)
              | _ => .next (s2.settle n)))
      | .hostArm action arg dir gauge pos discard =>
        if !s0.armValid gauge dir action arg then .next (s0.hostDone 3 0)
        else (match s0.freeForHost with
          | none => .next ((s0.event CALENDAR.INT_STAT_FULL_EV).hostDone 2 0)
          | some e =>
            let s1 := s0.takeEntry e 63 action arg gauge dir pos discard false
            (match s1.entry e with
             | some x => .next (s1.acceptEntry e x)
             | none => .next s1))
      | .disarm owner ticket =>
        let p := s0.disarmTicket owner ticket
        let code := if p.1 then 0 else 4
        if owner < 34 then
          let s1 := p.2.setCore owner { p.2.core owner with disarmResult := code, disarmTicket := ticket % 2 ^ 16 }
          .next ((s1.calDone owner).settle owner)
        else .next (p.2.hostDone code (p.2.fld CALENDAR.ARM_RESULT_TICKET))

/-- CALENDAR_INSERT_DONE (R174, R221): the insertion of entry `entry` completes. -/
def execCalendarInsertDone (entry : Nat) (s : State) : Result :=
  match s.entry entry with
  | none => .next s
  | some x =>
    if !x.inserting then .next s
    else
      let d := posDiff (s.gauge x.gauge).value x.pos
      let behind := (decide (x.dir = 1) && decide (0 ≤ d)) || (decide (x.dir = 2) && decide (d ≤ 0))
      let held := s.gaugeHeld x.gauge
      let y := { x with inserting := false, below := decide (d < 0), late := behind, crossed := behind && held }
      let s1 := s.setEntry entry (some y)
      let s2 := if x.engine then s1 else if x.owner < 34 then (s1.calDone x.owner).settle x.owner
        else s1.hostDone 0 (ticketOf entry x.gen)
      .next (if !behind || held || y.doomed then s2
        else if y.discard then s2.discardEntry entry y
        else s2.countLate.fireEntry entry y)

/-- HALT_ENTRY_REMOVAL (R178): the entries of core `core` marked at its halt are gone. -/
def execHaltEntryRemoval (core : Nat) (s : State) : Result :=
  .next { s with gc := { s.gc with entries := s.gc.entries.filter (fun p => match p.2 with
      | some e => !(decide (e.owner = core) && e.doomed && !e.requested && !e.inserting)
      | none => true) } }

/-- ARM_GO_ARM (R181): a write of ARM_GO with ARM 1 and DISARM 0. -/
def execArmGoArm (s : State) : Result :=
  if !s.fabric then .next s
  else if s.fld CALENDAR.ARM_RESULT_RESULT = 1 then .next (s.logRo CALENDAR.ARM_GO)
  else
    let s1 := s.setFld CALENDAR.ARM_RESULT_RESULT 1
    .next { s1 with gc := { s1.gc with reqs := s1.gc.reqs ++ [.hostArm (s.fld CALENDAR.ARM_CTL_ACTION)
      (s.fld CALENDAR.ARM_ARG_ARG) (s.fld CALENDAR.ARM_CTL_DIR) (s.fld CALENDAR.ARM_CTL_GAUGE)
      (s.pair CALENDAR.ARM_POS_LO CALENDAR.ARM_POS_HI) (s.on CALENDAR.ARM_CTL_LATE_DISCARD)] } }

/-- ARM_GO_DISARM (R177, R181): a write of ARM_GO with DISARM 1 and ARM 0. -/
def execArmGoDisarm (s : State) : Result :=
  if !s.fabric then .next s
  else if s.fld CALENDAR.ARM_RESULT_RESULT = 1 then .next (s.logRo CALENDAR.ARM_GO)
  else
    let s1 := s.setFld CALENDAR.ARM_RESULT_RESULT 1
    .next { s1 with gc := { s1.gc with reqs := s1.gc.reqs ++ [.disarm 63 (s.fld CALENDAR.DISARM_TICKET_TICKET)] } }

/-- ENTRY_SEL (R181): the entry is copied into ENTRY_DATA; an unused entry reads zero. -/
def execEntrySel (entry : Nat) (s : State) : Result :=
  if !s.fabric then .next s
  else
    let w := match s.entry (entry % 8192) with
      | some x => if x.requested then 0 else x.word
      | none => 0
    let s1 := s.setFld CALENDAR.ENTRY_SEL_ENTRY entry
    .next (s1.each (List.range 4) (fun t i => t.setReg (CALENDAR.ENTRY_DATA i) (BitVec.ofNat 32 (w / 2 ^ (32 * i)))))

/-! ## Held queues (R161) -/

/-- May a command release the held queues of gauge `n`: its group's fault bit clear, enabled and locked? -/
def State.mayRelease (s : State) (n : Nat) : Bool :=
  s.gaugeOn n && s.gaugeLocked n &&
    (match gaugeFaultBit n with
     | some b => !s.faultBit 3 b
     | none => true)

/-- A refused gauge command (R161). -/
def State.refuseGauge (s : State) : State := s.setFld GAUGE.CMD_STATUS_REFUSED 1

/-- RESUME (R161): the queues are live; entries crossed meanwhile fire marked RESUMED, late or discarded ones as R161 says. The discarded ones
go first, in the order of the table: the spec gives their messages no order against the firings (assumption 99). -/
def execResume (gauge : Nat) (s : State) : Result :=
  if !s.fabric then .next s
  else if !s.mayRelease gauge then .next s.refuseGauge
  else if !s.gaugeHeld gauge then .next s
  else
    let s1 := s.setFld (GAUGE.G_STATUS_HELD gauge) 0
    let s2 : State := { s1 with gc := { s1.gc with entries := s1.gc.entries.map (fun p => match p.2 with
        | some e => if e.gauge = gauge ∧ e.crossed then (p.1, some { e with resumed := true }) else p
        | none => p) } }
    let gone := (s2.entriesOn gauge).filter (fun p => p.2.resumed && p.2.discard && !p.2.doomed)
    let s3 := gone.foldl (fun t p => t.discardEntry p.1 { p.2 with late := true }) s2
    .next (s3.fireWith gauge)

/-- FLUSH (R161): every entry on the gauge is removed and none fires. -/
def execFlush (gauge : Nat) (s : State) : Result :=
  if !s.fabric then .next s
  else if !s.mayRelease gauge then .next s.refuseGauge
  else
    let s1 := (s.entriesOn gauge).foldl (fun t p => t.removeEntry p.1) s
    .next (s1.setFld (GAUGE.G_STATUS_HELD gauge) 0)

end Sys2Proof.Machine
end

