-- ==== Sys2Proof/Machine/Intake.lean ====
section
/-!
DEFINITION. The host link: rings, doorbells, record fetch, completion writes, MSI-X unmask and the object window (R282–R295).
-/

namespace Sys2Proof.Machine

/-! ## Rings (R286, R287, R306) -/

/-- Entries of a ring: a SIZE_LOG2 outside 1 to 16 acts as 1. -/
def ringEntries (log2 : Nat) : Nat := if 1 ≤ log2 ∧ log2 ≤ 16 then 2 ^ log2 else 2

def State.sqSize (s : State) (n : Nat) : Nat := ringEntries (s.fld (INTAKE.SQ_CFG_SIZE_LOG2 n))
def State.cqSize (s : State) (n : Nat) : Nat := ringEntries (s.fld (INTAKE.CQ_CFG_SIZE_LOG2 n))

/-- Base address of submission ring `n`. -/
def State.sqBase (s : State) (n : Nat) : Nat := s.pair (INTAKE.SQ_BASE_LO n) (INTAKE.SQ_BASE_HI n)

/-- Base address of completion ring `n`. -/
def State.cqBase (s : State) (n : Nat) : Nat := s.pair (INTAKE.CQ_BASE_LO n) (INTAKE.CQ_BASE_HI n)

/-- The size field of a ring's CFG accepts a write only while EN is 0; another size is discarded and logged. -/
def State.ringSizeWrite (s : State) (en size : Fld) (v : Nat) : State :=
  if !s.on en then s.setFld size v else if s.fld size = v then s else s.logRo en.off

/-- A write of SQn_CFG: EN from 0 to 1 sets head and tail to 0 and clears ERR. -/
def State.sqCfgWrite (s : State) (n v : Nat) : State :=
  let starts := v.testBit 0 && !s.on (INTAKE.SQ_CFG_EN n)
  let s1 := s.ringSizeWrite (INTAKE.SQ_CFG_EN n) (INTAKE.SQ_CFG_SIZE_LOG2 n) (bits v 4 5)
  let s2 := (s1.setFld (INTAKE.SQ_CFG_PRIO n) (bits v 16 3)).setFld (INTAKE.SQ_CFG_EN n) (bits v 0 1)
  if starts then ((s2.setFld (INTAKE.SQ_CFG_ERR n) 0).setFld (INTAKE.SQ_HEAD_HEAD n) 0).setFld (INTAKE.SQ_TAIL_TAIL n) 0 else s2

/-- A write of CQn_CFG: EN from 0 to 1 sets head and tail to 0 and the phase to 1. -/
def State.cqCfgWrite (s : State) (n v : Nat) : State :=
  let starts := v.testBit 0 && !s.on (INTAKE.CQ_CFG_EN n)
  let s1 := s.ringSizeWrite (INTAKE.CQ_CFG_EN n) (INTAKE.CQ_CFG_SIZE_LOG2 n) (bits v 4 5)
  let s2 := (s1.setFld (INTAKE.CQ_CFG_IRQ_EN n) (bits v 1 1)).setFld (INTAKE.CQ_CFG_EN n) (bits v 0 1)
  (if starts then ((s2.setFld (INTAKE.CQ_HEAD_HEAD n) 0).setFld (INTAKE.CQ_TAIL_TAIL n) 0).setFld (INTAKE.CQ_TAIL_PHASE n) 1 else s2).irqEval

/-- RING_ENABLE (R286): CFG of submission ring or completion ring `n` is written. -/
def execRingEnable (cq : Bool) (n value : Nat) (s : State) : Result :=
  .next (if n < 16 ∧ s.fabric then (if cq then s.cqCfgWrite n value else s.sqCfgWrite n value) else s)

/-- A write of SQn_TAIL: a tail at or above the ring size is ignored. -/
def State.sqDoorbell (s : State) (n v : Nat) : State :=
  if s.sqSize n ≤ v % 2 ^ 16 then s.event INTAKE.INT_STAT_DOORBELL_ERR else s.setFld (INTAKE.SQ_TAIL_TAIL n) v

/-- SQ_DOORBELL (R287). -/
def execSqDoorbell (n value : Nat) (s : State) : Result := .next (if n < 16 ∧ s.fabric then s.sqDoorbell n value else s)

/-- CQ_HEAD_DOORBELL (R291, R295). -/
def execCqHeadDoorbell (n value : Nat) (s : State) : Result :=
  .next (if n < 16 ∧ s.fabric then (s.setFld (INTAKE.CQ_HEAD_HEAD n) value).irqAgain n else s)

/-! ## Record fetch (R287–R289) -/

/-- A record as its 64 bytes. -/
def record64 (l : List Nat) : Record := (List.range 64).map (fun i => l.getD i 0 % 256)

/-- Does the intake pass the record on with CHAIN_RESULT 3 (R288)? -/
def badHeader (r : Record) : Bool :=
  decide (2 ≤ fieldAt r 1 1) || decide (fieldAt r 5 3 ≠ 0) || decide (fieldAt r 8 8 % 32 ≠ 0)

/-- May the intake fetch from ring `n`: a record waits, device queue `n` has room, and no chain of the ring runs (R287, R289)? -/
def State.sqReady (s : State) (n : Nat) : Bool :=
  s.on (INTAKE.SQ_CFG_EN n) && decide (s.fld (INTAKE.SQ_HEAD_HEAD n) ≠ s.fld (INTAKE.SQ_TAIL_TAIL n)) && decide ((s.dq n).length < 16)
    && (Tbl.get (fun _ => none) s.host.chainRec n).isNone

/-- May ring `n` fetch a record with CHAIN (R287)? -/
def State.chainReady (s : State) (n : Nat) : Bool := decide (s.chState n = chIdle) && !s.moverStopped

/-- Is it ring `n`'s turn: does no ring between the one served last and `n` hold a record that could be fetched whatever it is (R287)? A
ring whose record is chained and must wait is passed over. -/
def State.sqTurn (s : State) (n : Nat) : Bool :=
  (pick 15 (fun i => decide (i < (n + 15 - s.host.sqTurn) % 16))).all (fun i =>
    let m := (s.host.sqTurn + 1 + i) % 16
    !(s.sqReady m && s.chainReady m))

/-- INTAKE_FETCH (R287–R289): the intake fetches the record at the head of ring `n`, whose turn it is; `ok` is false where the read
fails. -/
def execIntakeFetch (n : Nat) (data : List Nat) (ok : Bool) (s : State) : Result :=
  let head := s.fld (INTAKE.SQ_HEAD_HEAD n)
  let r := record64 data
  let chained := (fieldAt r 1 1).testBit 0
  if 16 ≤ n ∨ !s.fabric ∨ !s.canSend ∨ !s.sqReady n ∨ !s.sqTurn n then .next s
  else if ok && chained && !s.chainReady n then .next s
  else
    let s0 := { s with host := { s.host with sqTurn := n } }.send (.hostRead (s.sqBase n + 64 * head) 64)
    if !ok then .next (s0.sqFail n false)
    else
      let idx := s.fld (INTAKE.SQ_NEXT_INDEX_INDEX n)
      let s1 := (s0.setFld (INTAKE.SQ_NEXT_INDEX_INDEX n) (idx + 1)).setFld (INTAKE.SQ_HEAD_HEAD n) ((head + 1) % s.sqSize n)
      let r1 := ((r.set 2 (idx % 256)).set 3 (idx / 256)).set 4 (if badHeader r then 3 else 0)
      if badHeader r || !chained then .next (s1.setDq n (s1.dq n ++ [r1]))
      else
        let s2 := { s1 with host := { s1.host with chainRec := Tbl.put (fun _ => none) s1.host.chainRec n (some r1) } }
        .next ((s2.setFld (MOVER.CH_CTRL_PRIO n) (s2.fld (INTAKE.SQ_CFG_PRIO n))).chainStart n 0 0 (fieldAt r 8 8))

/-! ## Completion writes (R291–R293) -/

/-- A completion record as it is written: SQ_HEAD and PHASE filled in. -/
def State.completed (s : State) (n : Nat) (r : Record) : Record :=
  (record64 r).take 6 ++ leBytes 2 (s.fld (INTAKE.SQ_HEAD_HEAD n)) ++ ((record64 r).drop 8).take 52
    ++ leBytes 4 (s.fld (INTAKE.CQ_TAIL_PHASE n))

/-- INTAKE_COMPLETION_WRITE (R282, R291–R293): the next record of device queue 16 + n is written to completion ring `n`, or discarded
where it is out of order. -/
def execIntakeCompletionWrite (n : Nat) (s : State) : Result :=
  let tail := s.fld (INTAKE.CQ_TAIL_TAIL n)
  let next := (tail + 1) % s.cqSize n
  match s.dq (16 + n) with
  | [] => .next s
  | r :: t =>
    if 16 ≤ n ∨ !s.fabric ∨ !s.canSend ∨ !s.on (INTAKE.CQ_CFG_EN n) ∨ next = s.fld (INTAKE.CQ_HEAD_HEAD n) then .next s
    else
      let s1 := s.setDq (16 + n) t
      if fieldAt r 2 2 ≠ s.fld (INTAKE.CQ_NEXT_INDEX_INDEX n) then .next ((s1.raise 7 1 0 false).flushServing n 256)
      else
        let s2 := s1.send (.hostWrite (s.cqBase n + 64 * tail) (s.completed n r))
        let s3 := (s2.setFld (INTAKE.CQ_NEXT_INDEX_INDEX n) (fieldAt r 2 2 + 1)).setFld (INTAKE.CQ_TAIL_TAIL n) next
        let s4 := if next = 0 then s3.setFld (INTAKE.CQ_TAIL_PHASE n) (1 - s.fld (INTAKE.CQ_TAIL_PHASE n)) else s3
        .next (s4.irqEval.flushServing n 256)

/-! ## MSI-X (R295) -/

/-- Unmasks vector `v`: a held message goes out if its condition still holds. -/
def State.unmask (s : State) (v : Nat) : State := (s.setFld (INTAKE.MSIX_CTRL_MASK v) 0).msixRelease v

/-- MSIX_UNMASK (R295): vector `v`, or for 32 the function. -/
def execMsixUnmask (v : Nat) (s : State) : Result :=
  .next (if v < 32 then s.unmask v
    else if v = 32 then State.each { s with host := { s.host with fnMask := false } } (List.range 32) State.msixRelease
    else s)

/-! ## The object window (R284, R285) -/

/-- Aperture, object and object offset of BAR2 offset `x`. -/
def State.aperture (s : State) (x : Nat) : Nat × Nat × Nat :=
  let k := bits x 25 3
  (k, s.fld (INTAKE.AP_HANDLE_HANDLE k), s.fld (INTAKE.AP_OFFSET_OFFSET k) * 4096 + x % 2 ^ 25)

/-- Marks a request that could not be served. -/
def State.apertureLog (s : State) (f : Fld) : State := (s.setFld f 1).event INTAKE.INT_STAT_APERTURE_EV

/-- The byte a poisoned completion holds in the reply: no byte at all. -/
def poisonMark : Nat := 256

/-- WINDOW_READ (R284, R285): answers the bytes, nothing at a Completer Abort, `poisonMark` for bytes of poisoned words. -/
def execWindowRead (x len : Nat) (s : State) : Result :=
  if !s.fabric then .next s
  else
    let (k, h, off) := s.aperture x
    if !s.on (INTAKE.AP_HANDLE_EN k) ∨ s.objCheck h off len false false ≠ 0 then
      .next ((s.apertureLog (INTAKE.AP_STATUS_RD_ERR k)).answer [])
    else match s.dataObj h with
      | none => .next s
      | some o =>
        let s1 := if o.hits off len then s.apertureLog (INTAKE.AP_STATUS_POISON_SEEN k) else s
        .next (s1.answer ((List.range len).map (fun i => if o.hits (off + i) 1 then poisonMark else o.byte (off + i))))

/-- WINDOW_WRITE (R284, R285). -/
def execWindowWrite (x : Nat) (data : List Nat) (s : State) : Result :=
  if !s.fabric then .next s
  else
    let (k, h, off) := s.aperture x
    if !s.on (INTAKE.AP_HANDLE_EN k) ∨ s.objCheck h off data.length false false ≠ 0 then
      .next (s.apertureLog (INTAKE.AP_STATUS_WR_ERR k))
    else .next (s.objWrite h off data)

end Sys2Proof.Machine
end

