-- ==== Sys2Proof/Machine/Ports.lean ====
section
/-!
DEFINITION. The write service of MRAM (R124) and the SPI flash port (R125), with the flash operations that UART recovery shares.
-/

namespace Sys2Proof.Machine

/-! ## MRAM word writes (R124) -/

/-- Offset, in the MRAM window of R27, of partition `p`: 0 journal, 1 calibration, 2 boot configuration, 3 customer. -/
def partBase (p : Nat) : Nat := if p = 0 then 0 else if p = 1 then 0x10000 else if p = 2 then 0x30000 else 0x38000

/-- Bytes of partition `p`. -/
def partSize (p : Nat) : Nat := if p = 0 then 0x10000 else if p = 1 then 0x20000 else 0x8000

/-- A write of `v` to MRAM_WCMD: without GO or with another KEY nothing; a partition that cannot be written sets ERROR; else the word
of MRAM_WADDR and MRAM_WDATA is on its way. -/
def State.mramCmd (s : State) (v : Nat) : State :=
  if !v.testBit 0 || decide (bits v 20 12 ≠ 0x7A5) || s.on TINDER.MRAM_WSTAT_BUSY then s
  else
    let p := s.fld TINDER.MRAM_WADDR_PART
    if p < 2 then s.setFld TINDER.MRAM_WSTAT_ERROR 1
    else
      let w : MramWrite := { addr := partBase p + 4 * s.fld TINDER.MRAM_WADDR_WORD, data := s.fld TINDER.MRAM_WDATA_DATA }
      State.setFld { s with tinder := { s.tinder with mramWrite := some w } } TINDER.MRAM_WSTAT_BUSY 1

/-- MRAM_WORD_WRITE (R124): MRAM_WCMD is written with `v`. -/
def execMramWordWrite (v : Nat) (s : State) : Result := .next (s.mramCmd v)

/-- MRAM_WRITE_DONE (R124): the word and its verify; a failed verify leaves a word that nothing states. -/
def execMramWriteDone (ok : Bool) (s : State) : Result :=
  match s.tinder.mramWrite with
  | none => .next s
  | some w =>
    let (f, s1) := s.free
    let s2 := s1.setMram w.addr (leBytes 4 (if ok then w.data else f))
    let s3 := State.setFld { s2 with tinder := { s2.tinder with mramWrite := none } } TINDER.MRAM_WSTAT_BUSY 0
    .next ((s3.setFld (if ok then TINDER.MRAM_WSTAT_DONE else TINDER.MRAM_WSTAT_ERROR) 1).event TINDER.INT_STAT_MRAM_WDONE)

/-! ## The flash's bytes -/

/-- The read commands of R116, by instruction, address and data lines. -/
inductive FlashMode where
  | r111
  | r114
  | r144
deriving DecidableEq, Repr

/-- The fastest fast read a part offers (R116): four address lines before one, four data lines before one. -/
def flashMode (p : FlashPart) : FlashMode := if p.fast144 then .r144 else if p.fast114 then .r114 else .r111

/-- Bits of an address sent to the flash: 4-byte addresses for parts above 16 MiB, else 3-byte ones (R116). -/
def State.flashBits (s : State) : Nat :=
  match s.tinder.flashPart with
  | some p => if 0x1000000 < p.size then 32 else 24
  | none => 24

/-- A byte of the flash at the address as it is sent; an erased one reads 0xFF. -/
def State.flashByte (s : State) (a : Nat) : Nat := Tbl.get (fun _ => 0xFF) s.tinder.flash (a % 2 ^ s.flashBits)

/-- Stores a byte of the flash. -/
def State.setFlashByte (s : State) (a v : Nat) : State :=
  { s with tinder := { s.tinder with flash := Tbl.put (fun _ => 0xFF) s.tinder.flash (a % 2 ^ s.flashBits) (v % 256) } }

/-- Erases the 4 KiB sector at `a0`. -/
def State.flashErase (s : State) (a0 : Nat) : State :=
  let a := a0 % 2 ^ s.flashBits
  { s with tinder := { s.tinder with flash := s.tinder.flash.filter (fun p => decide (p.1 < a) || decide (a + 4096 ≤ p.1)) } }

/-- Programs bytes from `a` upward; what programming a byte that is not erased leaves is a free value. -/
def State.flashProgram (s : State) (a : Nat) : List Nat → State
  | [] => s
  | b :: t =>
    let s1 := if s.flashByte a = 0xFF then s.setFlashByte a b
      else
        let (f, u) := s.free
        u.setFlashByte a f
    s1.flashProgram (a + 1) t

/-- Bytes of the flash that an operation left unfinished. -/
def State.flashSpoil (s : State) (a : Nat) : Nat → State
  | 0 => s
  | n + 1 =>
    let (f, s1) := s.free
    (s1.setFlashByte a f).flashSpoil (a + 1) n

/-! ## The host's port (R125) -/

/-- A byte of FLASH_BUF. -/
def State.bufByte (s : State) (i : Nat) : Nat := s.fld ⟨SYS.FLASH_BUF (i / 4), 8 * (i % 4), 8⟩

/-- Stores bytes in FLASH_BUF from byte `i` upward. -/
def State.setBuf (s : State) (i : Nat) : List Nat → State
  | [] => s
  | b :: t => (s.setFld ⟨SYS.FLASH_BUF (i / 4), 8 * (i % 4), 8⟩ b).setBuf (i + 1) t

/-- A flash command that is refused sets ERROR and writes nothing. -/
def State.flashRefuse (s : State) : State := s.setFld SYS.FLASH_STAT_ERROR 1

/-- Does the port accept commands: BOOT_STAGE 0x3 or 0xF, not in TEST boot, a flash found? -/
def State.flashOpen (s : State) : Bool :=
  (decide (s.fld SYS.BOOT_STATUS_BOOT_STAGE = 3) || decide (s.fld SYS.BOOT_STATUS_BOOT_STAGE = 0xF))
    && decide (s.fld SYS.BOOT_STATUS_BOOT_PINS ≠ 3) && s.tinder.flashPart.isSome

/-- A write of `v` to FLASH_CMD. -/
def State.flashCmd (s : State) (v : Nat) : State :=
  let s1 := (s.setFld SYS.FLASH_CMD_LENGTH (bits v 8 9)).setFld SYS.FLASH_CMD_OP (bits v 1 2)
  let op := bits v 1 2
  let len := max 1 (min 256 (bits v 8 9))
  let a := s.fld SYS.FLASH_ADDR_ADDR
  if !v.testBit 0 then s1
  else if !s.flashOpen || s.on SYS.FLASH_STAT_BUSY || decide (op = 3)
      || (decide (op ≠ 0) && decide (bits v 20 12 ≠ 0xF1A))
      || (decide (op = 1) && decide (a % 4096 ≠ 0)) || (decide (op = 2) && decide (256 < a % 256 + len)) then s1.flashRefuse
  else State.setFld { s1 with tinder := { s1.tinder with flashOp := some ⟨op, a, len⟩ } } SYS.FLASH_STAT_BUSY 1

/-- FLASH_READ (R125): FLASH_CMD is written with OP READ, GO and `len`. -/
def execFlashRead (len : Nat) (s : State) : Result := .next (s.flashCmd (1 + len % 512 * 2 ^ 8))

/-- FLASH_ERASE (R125): FLASH_CMD is written with OP ERASE, GO and `key`. -/
def execFlashErase (key : Nat) (s : State) : Result := .next (s.flashCmd (3 + key % 4096 * 2 ^ 20))

/-- FLASH_PROGRAM (R125): FLASH_CMD is written with OP PROGRAM, GO, `key` and `len`. -/
def execFlashProgram (key len : Nat) (s : State) : Result := .next (s.flashCmd (5 + len % 512 * 2 ^ 8 + key % 4096 * 2 ^ 20))

/-- The port is free again. -/
def State.flashIdle (s : State) : State :=
  State.setFld { s with tinder := { s.tinder with flashOp := none } } SYS.FLASH_STAT_BUSY 0

/-- FLASH_OP_DONE (R125). -/
def execFlashOpDone (s : State) : Result :=
  match s.tinder.flashOp with
  | none => .next s
  | some x =>
    let s1 := if x.op = 0 then s.setBuf 0 ((List.range x.len).map (fun i => s.flashByte (x.addr + i)))
      else if x.op = 1 then s.flashErase x.addr
      else s.flashProgram x.addr ((List.range x.len).map s.bufByte)
    .next (s1.flashIdle.setFld SYS.FLASH_STAT_DONE 1)

/-- FLASH_OP_TIMEOUT (R125): ERROR; what the operation would have written is left in a state that nothing states. -/
def execFlashOpTimeout (s : State) : Result :=
  match s.tinder.flashOp with
  | none => .next s
  | some x =>
    let s1 := if x.op = 0 then
        let (l, t) := (List.range x.len).foldl (fun (p : List Nat × State) _ =>
          let (f, u) := p.2.free
          (p.1 ++ [f % 256], u)) ([], s)
        t.setBuf 0 l
      else s.flashSpoil x.addr (if x.op = 1 then 4096 else x.len)
    .next (s1.flashIdle.setFld SYS.FLASH_STAT_ERROR 1)

end Sys2Proof.Machine
end

