-- ==== Sys2Proof/Machine/Service.lean ====
section
/-!
DEFINITION. The object and service instructions and the posted object writes (R219, R231–R234, R239, R240).
-/

namespace Sys2Proof.Machine

/-! ## Posted writes (R232, R234) -/

/-- A posted write to `h` could not be delivered in full (R218, R234). -/
def State.noteUndelivered (s : State) (n h : Nat) : State :=
  let c := s.core n
  s.setCore n { c with undelivered := true, objErrHandle := if c.undelivered then c.objErrHandle else h }

/-- The oldest posted write of core `n` takes effect. A wait for the empty queue may end. -/
def State.deliverWrite (s : State) (n : Nat) : State :=
  match (s.core n).writes with
  | [] => s
  | w :: t =>
    let s1 := s.setCore n { s.core n with writes := t }
    let s2 := match s1.classOf w.handle with
      | none => s1.noteUndelivered n w.handle
      | some c => match s1.fieldSpec w.handle c w.field with
        | none => s1.noteUndelivered n w.handle
        | some (width, _) =>
          let r := s1.writeField w.handle c w.field (w.value % 2 ^ width) n
          if r.1 then r.2 else r.2.noteUndelivered n w.handle
    s2.settle n

/-- The posted writes of core `n` take effect up to the last one to `h` (R233). -/
def State.drainTo (s : State) (n h : Nat) : Nat → State
  | 0 => s
  | fuel + 1 => if (s.core n).writes.any (fun w => decide (w.handle = h)) then (s.deliverWrite n).drainTo n h fuel else s

/-- Posts an object write; a full queue waits for room (R232). -/
def State.postWrite (s : State) (n h f v : Nat) : Effect :=
  let post := fun (t : State) => t.setCore n { t.core n with writes := (t.core n).writes ++ [⟨h, f, v⟩] }
  if (s.core n).writes.length < 8 then .done (post s) 1
  else .done ((post (State.deliverWrite (s.setCore n { s.core n with wqWait := true }) n)).spendAtLeast n 0) 1

/-- EVAL of OBJECT: reason and handle (R219). -/
def objEval (reason h : Nat) : Nat := h + reason * 2 ^ 16

/-- An object read: the checks, the core's own earlier writes to the handle, the field (R231, R233). -/
def State.objectRead (s : State) (n rs1 field : Nat) (wide : Bool) (put : State → Nat → State) : Effect :=
  let h := (s.gr n rs1).toNat % 2 ^ 16
  let reason := s.fieldCheck h field n false wide
  if reason ≠ 0 then .trap 8 (objEval reason h)
  else
    let s1 := s.drainTo n h 9
    match s1.classOf h with
    | none => .trapAfter s1 8 (objEval 1 h)
    | some c =>
      let width := ((s1.fieldSpec h c field).map Prod.fst).getD 32
      match s1.readField h c field width n with
      | (none, s2) => .trapAfter s2 8 (objEval 6 h)
      | (some v, s2) => .done ((put s2 v).spendAtLeast n 0) 6

/-- An object write: the checks, then it is posted (R231, R232). -/
def State.objectWrite (s : State) (n rs1 field v : Nat) (wide : Bool) : Effect :=
  let h := (s.gr n rs1).toNat % 2 ^ 16
  let reason := s.fieldCheck h field n true wide
  if reason ≠ 0 then .trap 8 (objEval reason h) else s.postWrite n h field v

/-- OBJRD (R231, R233): rd := the field, of up to 32 bits. -/
def effObjrd (n rd rs1 field : Nat) (s : State) : Effect := s.objectRead n rs1 field false (fun t v => t.setG n rd (BitVec.ofNat 32 v))
def execObjrd (n rd rs1 field : Nat) (s : State) : Result :=
  s.instr n (encodeScriber (.objrd n rd rs1 field)) (effObjrd n rd rs1 field)

/-- OBJRDP (R231, R233): pd := the field, zero-extended. -/
def effObjrdp (n pd rs1 field : Nat) (s : State) : Effect := s.objectRead n rs1 field true (fun t v => t.setP n pd (BitVec.ofNat 64 v))
def execObjrdp (n pd rs1 field : Nat) (s : State) : Result :=
  s.instr n (encodeScriber (.objrdp n pd rs1 field)) (effObjrdp n pd rs1 field)

/-- OBJWR (R231, R232): posts a write of rt to a field of up to 32 bits. -/
def effObjwr (n rt rs1 field : Nat) (s : State) : Effect := s.objectWrite n rs1 field (s.gr n rt).toNat false
def execObjwr (n rt rs1 field : Nat) (s : State) : Result :=
  s.instr n (encodeScriber (.objwr n rt rs1 field)) (effObjwr n rt rs1 field)

/-- OBJWRP (R231, R232): posts a write of pt to a field. -/
def effObjwrp (n pt rs1 field : Nat) (s : State) : Effect := s.objectWrite n rs1 field (s.pr n pt).toNat true
def execObjwrp (n pt rs1 field : Nat) (s : State) : Result :=
  s.instr n (encodeScriber (.objwrp n pt rs1 field)) (effObjwrp n pt rs1 field)


/-- OBJECT_WRITE_DELIVERY (R232, R234): the object port takes the oldest posted write of a core. -/
def execObjectWriteDelivery (core : Nat) (s : State) : Result :=
  .next (if core < 34 ∧ s.fabric then s.deliverWrite core else s)

/-! ## Data objects (R239) -/

/-- Bytes of an OBJLD size code. -/
def loadSize (k : Nat) : Nat := if k < 2 then 1 else if k < 4 then 2 else if k = 4 then 4 else 8

/-- Is the object at `h` read-only to OBJST: a placed program's, or a capture object that a mark sensor writes? -/
def State.readOnlyData (s : State) (h : Nat) : Bool :=
  match s.dataObj h with
  | none => false
  | some o =>
    (decide (o.kind = 11) && decide (0 < o.use)) ||
      (decide (o.kind = 13) && (List.range 8).any (fun m => s.on (GAUGE.MK_DEST_EN m) && decide ((s.mark m).held = some h)))

/-- The register that an OBJLD leaves its value in. -/
def State.loadResult (s : State) (n rd size v : Nat) : State :=
  if size = 5 then s.setP n rd (BitVec.ofNat 64 v)
  else if size = 1 then s.setG n rd (signed 8 v)
  else if size = 3 then s.setG n rd (signed 16 v)
  else s.setG n rd (BitVec.ofNat 32 v)

/-- Does a service access to the object at `h` end in TIMEOUT? It may while a full retrain makes the requests to DRAM wait (R219, R355); Plate
answers. -/
def State.dramLate (s : State) (h : Nat) : Bool × State :=
  if s.fld DRAMC.TRAIN_STATE = 5 ∧ (match s.dataObj h with
    | some o => decide (o.place ≠ 3)
    | none => false) = true then s.choose
  else (false, s)

/-- OBJLD (R239): rd := bytes of a data object. -/
def effObjld (n rd ga gb size : Nat) (s : State) : Effect := let h := (s.gr n ga).toNat % 2 ^ 16; let off := (s.gr n gb).toNat; let k := loadSize size; if 5 < size then .illegal else serviceOnly n (if off % k ≠ 0 then .trap 4 off else let r := s.objCheck h off k false true; let l := s.dramLate h; if r ≠ 0 then .trap 8 (objEval r h) else if l.1 then .trapAfter l.2 8 (objEval 6 h) else .done (l.2.loadResult n rd size (s.objNat h off k)) 1)
def execObjld (n rd ga gb size : Nat) (s : State) : Result :=
  s.instr n (encodeScriber (.objld n rd ga gb size)) (effObjld n rd ga gb size)

/-- OBJST (R239): bytes of a data object := rt. -/
def effObjst (n rt ga gb size : Nat) (s : State) : Effect := let h := (s.gr n ga).toNat % 2 ^ 16; let off := (s.gr n gb).toNat; let k := 2 ^ size; if 3 < size then .illegal else serviceOnly n (if off % k ≠ 0 then .trap 4 off else let r := s.objCheck h off k false false; if r ≠ 0 then .trap 8 (objEval r h) else if s.readOnlyData h then .trap 8 (objEval 3 h) else if (s.dramLate h).1 then .trapAfter (s.dramLate h).2 8 (objEval 6 h) else .done ((s.dramLate h).2.objWrite h off (leBytes k (if size = 3 then (s.pr n rt).toNat else (s.gr n rt).toNat))) 1)
def execObjst (n rt ga gb size : Nat) (s : State) : Result :=
  s.instr n (encodeScriber (.objst n rt ga gb size)) (effObjst n rt ga gb size)


/-! ## Device queues (R240) -/

/-- A 64-byte record stored in local memory. -/
def Core.putRecord (c : Core) (a : Nat) (r : Record) : Core :=
  (List.range 8).foldl (fun c i => c.store (a + 8 * i) 8 (leNat ((r.drop (8 * i)).take 8))) c

/-- QPOP (R240): moves the oldest record of a queue to local memory; rd := 1 where it is empty. -/
def effQpop (n rd ga q : Nat) (s : State) : Effect := let a := (s.gr n ga).toNat; if 64 ≤ q then .illegal else serviceOnly n (checked n a 64 (if (decide (16 ≤ q) && decide (q < 32)) || decide (48 ≤ q) then .trap 11 q else match s.dq q with | [] => toG s n rd 1 1 | r :: t => toG ((s.setDq q t).setCore n ((s.core n).putRecord a r)) n rd 0 1))
def execQpop (n rd ga q : Nat) (s : State) : Result :=
  s.instr n (encodeScriber (.qpop n rd ga q)) (effQpop n rd ga q)

/-- QPUSH (R240): moves a record from local memory to a queue; rd := 1 where it is full. -/
def effQpush (n rd ga q : Nat) (s : State) : Effect := let a := (s.gr n ga).toNat; if 64 ≤ q then .illegal else serviceOnly n (checked n a 64 (if decide (q < 16) || decide (48 ≤ q) then .trap 11 (q + 64) else if queueDepth q ≤ (s.dq q).length then toG s n rd 1 1 else toG (s.setDq q (s.dq q ++ [(List.range 64).map (fun i => (s.core n).byte (a + i))])) n rd 0 1))
def execQpush (n rd ga q : Nat) (s : State) : Result :=
  s.instr n (encodeScriber (.qpush n rd ga q)) (effQpush n rd ga q)

/-! ## REINIT (R210, R214) -/

/-- The posted writes of core `n`, at most `fuel`, take effect in order (R232). -/
def State.drainWrites (s : State) (n : Nat) : Nat → State
  | 0 => s
  | fuel + 1 => (s.deliverWrite n).drainWrites n fuel

/-- REINIT of a core by software: the posted object writes of a halted core take effect first, so that OBJ_PEND reads its reset value
(assumption 22). -/
def State.reinitNow (s : State) (n : Nat) : State :=
  if n < 34 ∧ s.fabric ∧ (s.core n).halted then (s.drainWrites n 8).reinitCore n else s

/-- CORE_REINIT (R214). -/
def execCoreReinit (core : Nat) (s : State) : Result := .next (s.reinitNow core)

end Sys2Proof.Machine
end

