-- ==== Sys2Proof/Machine/System.lean ====
section
/-!
DEFINITION. Control register access and the system instructions (R203, R204).
-/

namespace Sys2Proof.Machine

/-- What a control-register write leaves in a register: `f` of the old value for an RW register; a W1C register clears the bits
of `clear` (R203). -/
def State.crUpdate (s : State) (n rd cr : Nat) (f : Nat → Nat) (clear : Nat) : Effect :=
  match s.crGet n cr with
  | none => .illegal
  | some old =>
    if crReadOnly cr then .illegal
    else
      let s1 := (s.crLatch n cr).crPut n cr (if crW1c cr then clear else f old)
      .done (s1.setG n rd (BitVec.ofNat 32 old)) 1

/-- CRR (R203): rd := cr; ILLEGAL for a reserved number. -/
def effCrr (n rd cr : Nat) (s : State) : Effect := match s.crGet n cr with | none => .illegal | some v => .done ((s.crLatch n cr).setG n rd (BitVec.ofNat 32 v)) 1
def execCrr (n rd cr : Nat) (s : State) : Result :=
  s.instr n (encodeScriber (.crr n rd cr)) (effCrr n rd cr)

/-- CRW (R203): rd := cr; cr := rs1, or clears the bits of rs1. -/
def effCrw (n rd cr rs1 : Nat) (s : State) : Effect := let x := (s.gr n rs1).toNat; s.crUpdate n rd cr (fun _ => x) x
def execCrw (n rd cr rs1 : Nat) (s : State) : Result :=
  s.instr n (encodeScriber (.crw n rd cr rs1)) (effCrw n rd cr rs1)

/-- CRS (R203): rd := cr; cr := cr or rs1, or clears the bits of rs1. -/
def effCrs (n rd cr rs1 : Nat) (s : State) : Effect := let x := (s.gr n rs1).toNat; s.crUpdate n rd cr (fun o => o ||| x) x
def execCrs (n rd cr rs1 : Nat) (s : State) : Result :=
  s.instr n (encodeScriber (.crs n rd cr rs1)) (effCrs n rd cr rs1)

/-- CRC (R203): rd := cr; cr := cr and not rs1; a W1C register is not written. -/
def effCrc (n rd cr rs1 : Nat) (s : State) : Effect := let x := (s.gr n rs1).toNat; s.crUpdate n rd cr (fun o => o - (o &&& x)) 0
def execCrc (n rd cr rs1 : Nat) (s : State) : Result :=
  s.instr n (encodeScriber (.crc n rd cr rs1)) (effCrc n rd cr rs1)


/-- NOP (R204): nothing. -/
def effNop (_n : Nat) (s : State) : Effect := .done s 1
def execNop (n : Nat) (s : State) : Result :=
  s.instr n (encodeScriber (.nop n)) (effNop n)

/-- ERET (R204): pc := EPC, IE := PIE, EXC := 0; ILLEGAL outside a handler. -/
def effEret (n : Nat) (s : State) : Effect := let c := s.core n; if !c.exc then .illegal else .jump (s.setCore n { c with ie := c.pie, exc := false }) (c.epc &&& 0xFFFFFFFC) 3
def execEret (n : Nat) (s : State) : Result :=
  s.instr n (encodeScriber (.eret n)) (effEret n)

/-- BREAK (R204): halts at the BREAK if BREAK_HALT is 1, else raises BREAK with its code. -/
def effBrk (n code : Nat) (s : State) : Effect := if s.on (SCRIBER.CORE_CTRL_BREAK_HALT n) then .stop s (s.core n).pc 1 6 else .trap 6 code
def execBrk (n code : Nat) (s : State) : Result :=
  s.instr n (encodeScriber (.brk n code)) (effBrk n code)

/-- HALT (R204): the core halts with pc at the next instruction. -/
def effHalt (n : Nat) (s : State) : Effect := .stop s ((s.core n).pc + 4) 1 2
def execHalt (n : Nat) (s : State) : Result :=
  s.instr n (encodeScriber (.halt n)) (effHalt n)

/-- ISYNC (R204): later fetches see every earlier store of this core. -/
def effIsync (n : Nat) (s : State) : Effect := .done (s.setCore n { s.core n with stale := [] }) 4
def execIsync (n : Nat) (s : State) : Result :=
  s.instr n (encodeScriber (.isync n)) (effIsync n)


end Sys2Proof.Machine
end

