-- ==== Sys2Proof/Machine/Timed.lean ====
section
/-!
DEFINITION. The timed instructions that reach the calendar, the gauges and other cores (R217–R230, R236–R238).
-/

namespace Sys2Proof.Machine

/-! ## Calendar (R220–R229) -/

/-- Posts an arm request of core `n` (R222): answers the code of ARM_RESULT and the ticket. -/
def State.coreArm (s : State) (n action arg gauge dir pos : Nat) (discard : Bool) : Nat × Nat × State :=
  if 4 ≤ (s.core n).calPend then (1, 0, s)
  else if !s.armValid gauge dir action arg then (3, 0, s)
  else match s.freeInRange n with
    | none => (2, 0, s.event CALENDAR.INT_STAT_FULL_EV)
    | some e =>
      let s1 := s.takeEntry e n action arg gauge dir pos discard true
      let s2 := s1.setCore n { s1.core n with calPend := (s1.core n).calPend + 1 }
      (0, ticketOf e (s2.generation e), { s2 with gc := { s2.gc with reqs := s2.gc.reqs ++ [.arm e] } })

/-- ARM's action and argument from gb (R222). -/
def armAction (v : Nat) : Nat := bits v 12 4
def armArg (v : Nat) : Nat := setBits v 12 4 0

/-- ARM (R222): posts an entry; rd := the ticket, or busy, full or refused in bits [18:16]. -/
def effArm (n rd pa gb gauge dir : Nat) (ld : Bool) (s : State) : Effect := let v := (s.gr n gb).toNat; let r := s.coreArm n (armAction v) (armArg v) gauge dir (s.pr n pa).toNat ld; .done (r.2.2.setG n rd (BitVec.ofNat 32 (r.2.1 + r.1 * 2 ^ 16))) 2
def execArm (n rd pa gb gauge dir : Nat) (ld : Bool) (s : State) : Result :=
  s.instr n (encodeScriber (.arm n rd pa gb gauge dir ld)) (effArm n rd pa gb gauge dir ld)

/-- DISARM (R223): posts a disarm; rd := 1 where the request queue is full. -/
def effDisarm (n rd ga : Nat) (s : State) : Effect := let c := s.core n; if 4 ≤ c.calPend then toG s n rd 1 2 else let s1 := s.setCore n { c with calPend := c.calPend + 1 }; .done (State.setG { s1 with gc := { s1.gc with reqs := s1.gc.reqs ++ [.disarm n ((s.gr n ga).toNat % 2 ^ 16)] } } n rd 0) 2
def execDisarm (n rd ga : Nat) (s : State) : Result :=
  s.instr n (encodeScriber (.disarm n rd ga)) (effDisarm n rd ga)

/-- WAITP (R226): waits for a position; with WE a wake flag already set ends it with rd 2. -/
def effWaitp (n rd pa gauge dir : Nat) (we : Bool) (s : State) : Effect := let c := s.core n; if we && c.wake then .done ((s.setCore n { c with wake := false }).setG n rd 2) 2 else let r := s.coreArm n 5 n gauge dir (s.pr n pa).toNat false; if r.1 ≠ 0 then .trapAfter r.2.2 9 r.1 else let s1 := r.2.2; .hold (s1.setCore n { s1.core n with waitTicket := r.2.1, wait := .position rd (r.2.1 % 2 ^ 13) we }) 2
def execWaitp (n rd pa gauge dir : Nat) (we : Bool) (s : State) : Result :=
  s.instr n (encodeScriber (.waitp n rd pa gauge dir we)) (effWaitp n rd pa gauge dir we)

/-- WAITEV (R229): waits for a selected condition; ILLEGAL for a mask of 0. -/
def effWaitev (n rd mask : Nat) (s : State) : Effect := let m := mask % 16; if m = 0 then .illegal else if (s.core n).conditions &&& m ≠ 0 then .done (s.takeConditions n rd m) 1 else .hold (s.setCore n { s.core n with wait := .event rd m }) 1
def execWaitev (n rd mask : Nat) (s : State) : Result :=
  s.instr n (encodeScriber (.waitev n rd mask)) (effWaitev n rd mask)


/-! ## Gauges (R230) -/

/-- The status word of GST. -/
def State.gaugeWord (s : State) (g : Nat) : Nat :=
  if isReserved g then 0
  else bit (s.gaugeOn g) + 2 * bit (s.gaugeLocked g) + 4 * bit (s.gaugeCoasting g) + 8 * s.fld (GAUGE.G_STATUS_STILL g)
    + 16 * bit (s.gaugeHeld g) + 256 * s.fld (GAUGE.G_STATUS_FAULT_KIND g)

/-- A sub-operation that exists for virtual gauges only. -/
def virtualOnly (g : Nat) (e : Effect) : Effect := if isVirtual g then e else .illegal

/-- GRD (R230): pd := the value of the gauge. -/
def effGrd (n pd gauge : Nat) (s : State) : Effect := toP s n pd (BitVec.ofNat 64 (s.gauge gauge).value) 2
def execGrd (n pd gauge : Nat) (s : State) : Result :=
  s.instr n (encodeScriber (.grd n pd gauge)) (effGrd n pd gauge)

/-- GST (R230): gd := the gauge's status bits. -/
def effGst (n gd gauge : Nat) (s : State) : Effect := toG s n gd (BitVec.ofNat 32 (s.gaugeWord gauge)) 2
def execGst (n gd gauge : Nat) (s : State) : Result :=
  s.instr n (encodeScriber (.gst n gd gauge)) (effGst n gd gauge)

/-- GSRC (R230): staged VG_SRC := ga. -/
def effGsrc (n gauge ga : Nat) (s : State) : Effect := virtualOnly gauge (.done (s.setReg (GAUGE.VG_SRC (gauge - 32)) (s.gr n ga &&& 0xBF3F)) 1)
def execGsrc (n gauge ga : Nat) (s : State) : Result :=
  s.instr n (encodeScriber (.gsrc n gauge ga)) (effGsrc n gauge ga)

/-- GC1 (R230): staged C1 := ga. -/
def effGc1 (n gauge ga : Nat) (s : State) : Effect := virtualOnly gauge (.done (s.setReg (GAUGE.VG_C1 (gauge - 32)) (s.gr n ga)) 1)
def execGc1 (n gauge ga : Nat) (s : State) : Result :=
  s.instr n (encodeScriber (.gc1 n gauge ga)) (effGc1 n gauge ga)

/-- GC2 (R230): staged C2 := ga. -/
def effGc2 (n gauge ga : Nat) (s : State) : Effect := virtualOnly gauge (.done (s.setReg (GAUGE.VG_C2 (gauge - 32)) (s.gr n ga)) 1)
def execGc2 (n gauge ga : Nat) (s : State) : Result :=
  s.instr n (encodeScriber (.gc2 n gauge ga)) (effGc2 n gauge ga)

/-- GOFF (R230): staged OFFSET := pa. -/
def effGoff (n gauge pa : Nat) (s : State) : Effect := virtualOnly gauge (.done (s.setPair (GAUGE.VG_OFF_LO (gauge - 32)) (GAUGE.VG_OFF_HI (gauge - 32)) (s.pr n pa).toNat) 1)
def execGoff (n gauge pa : Nat) (s : State) : Result :=
  s.instr n (encodeScriber (.goff n gauge pa)) (effGoff n gauge pa)

/-- GCOMMIT (R230): commits; gd := 0 if applied, 1 if refused. -/
def effGcommit (n gd gauge : Nat) (s : State) : Effect := virtualOnly gauge (let r := s.vgCommit (gauge - 32); .done (r.2.setG n gd (if r.1 then 0 else 1)) 2)
def execGcommit (n gd gauge : Nat) (s : State) : Result :=
  s.instr n (encodeScriber (.gcommit n gd gauge)) (effGcommit n gd gauge)


/-! ## Messages (R236–R238) -/

/-- Devices in the ring: 0 acts as 1, above 4 as 4 (R545). -/
def State.devices (s : State) : Nat := max 1 (min 4 (s.fld THAIQ.CASCADE_CFG_DEVICES))

/-- Is a cascade position present: one of the ring's or this device's own; with one device, position 0 alone (R545)? -/
def State.present (s : State) (p : Nat) : Bool :=
  if s.devices = 1 then decide (p = 0) else decide (p < s.devices) || decide (p = s.position)

/-- SEND (R237): sends pb to a core; MAILBOX for a reserved core or an absent position. -/
def effSend (n rd ga pb : Nat) (s : State) : Effect := let d := (s.gr n ga).toNat; let dst := d % 64; let pos := d / 64 % 4; let v := (s.pr n pb).toNat; let src := n + s.position * 64; if 34 ≤ dst ∨ !s.present pos then .trap 10 d else if pos = s.position then (if (s.core dst).mail.length < 16 then .done ((s.deliver dst v src).2.setG n rd 0) 2 else toG s n rd 1 2) else let f := s.choose; if f.1 then toG f.2 n rd 1 2 else .done ((f.2.send (.message pos dst (BitVec.ofNat 64 v) src)).setG n rd 0) 2
def execSend (n rd ga pb : Nat) (s : State) : Result :=
  s.instr n (encodeScriber (.send n rd ga pb)) (effSend n rd ga pb)

/-- RECV (R238): takes the oldest message, waits for one, or with NW reports that there is none. -/
def effRecv (n rd pa : Nat) (nw : Bool) (s : State) : Effect := if !(s.core n).mail.isEmpty then .done (s.takeMail n rd pa) 2 else if nw then toG s n rd 0xFFFFFFFF 2 else .hold (s.setCore n { s.core n with wait := .mail rd pa }) 2
def execRecv (n rd pa : Nat) (nw : Bool) (s : State) : Result :=
  s.instr n (encodeScriber (.recv n rd pa nw)) (effRecv n rd pa nw)

/-- SLOTW (R224): writes a preload slot. -/
def effSlotw (n gt ga pb : Nat) (s : State) : Effect := let k := (s.gr n ga).toNat % 1024; let h := s.gr n gt; let v := (s.pr n pb).toNat; .done ((((s.setReg (CALENDAR.SLOT (4 * k)) h).setReg (CALENDAR.SLOT (4 * k + 1)) 0).setReg (CALENDAR.SLOT (4 * k + 2)) (BitVec.ofNat 32 v)).setReg (CALENDAR.SLOT (4 * k + 3)) (BitVec.ofNat 32 (v / 2 ^ 32))) 2
def execSlotw (n gt ga pb : Nat) (s : State) : Result :=
  s.instr n (encodeScriber (.slotw n gt ga pb)) (effSlotw n gt ga pb)


/-- REMOTE_MESSAGE_ARRIVAL (R237): a message of another device for core `core`. -/
def execRemoteMessageArrival (core payload source : Nat) (s : State) : Result :=
  .next (if core < 34 ∧ s.fabric ∧ s.linkUp then (s.deliver core payload source).2 else s)

end Sys2Proof.Machine
end

