-- ==== Sys2Proof/Machine/Stepping.lean ====
section
/-!
DEFINITION. Instruction fetch from local memory, and the single step of a halted core (R185, R188, R205, R213).
-/

namespace Sys2Proof.Machine

/-- The effect of an instruction on core `n`; what is no instruction of the Scriber set is ILLEGAL. -/
def effOf (i : Instr) (n : Nat) (s : State) : Effect :=
  match i with
  | .add _ x1 x2 x3 => effAdd n x1 x2 x3 s
  | .sub _ x1 x2 x3 => effSub n x1 x2 x3 s
  | .and _ x1 x2 x3 => effAnd n x1 x2 x3 s
  | .or _ x1 x2 x3 => effOr n x1 x2 x3 s
  | .xor _ x1 x2 x3 => effXor n x1 x2 x3 s
  | .andn _ x1 x2 x3 => effAndn n x1 x2 x3 s
  | .sll _ x1 x2 x3 => effSll n x1 x2 x3 s
  | .srl _ x1 x2 x3 => effSrl n x1 x2 x3 s
  | .sra _ x1 x2 x3 => effSra n x1 x2 x3 s
  | .lts _ x1 x2 x3 => effLts n x1 x2 x3 s
  | .ltu _ x1 x2 x3 => effLtu n x1 x2 x3 s
  | .min _ x1 x2 x3 => effMin n x1 x2 x3 s
  | .max _ x1 x2 x3 => effMax n x1 x2 x3 s
  | .minu _ x1 x2 x3 => effMinu n x1 x2 x3 s
  | .maxu _ x1 x2 x3 => effMaxu n x1 x2 x3 s
  | .clz _ x1 x2 => effClz n x1 x2 s
  | .popc _ x1 x2 => effPopc n x1 x2 s
  | .slli _ x1 x2 x3 => effSlli n x1 x2 x3 s
  | .srli _ x1 x2 x3 => effSrli n x1 x2 x3 s
  | .srai _ x1 x2 x3 => effSrai n x1 x2 x3 s
  | .mullo _ x1 x2 x3 => effMullo n x1 x2 x3 s
  | .mulhs _ x1 x2 x3 => effMulhs n x1 x2 x3 s
  | .mulhu _ x1 x2 x3 => effMulhu n x1 x2 x3 s
  | .mulhm _ x1 x2 x3 => effMulhm n x1 x2 x3 s
  | .divs _ x1 x2 x3 => effDivs n x1 x2 x3 s
  | .divu _ x1 x2 x3 => effDivu n x1 x2 x3 s
  | .mods _ x1 x2 x3 => effMods n x1 x2 x3 s
  | .modu _ x1 x2 x3 => effModu n x1 x2 x3 s
  | .addi _ x1 x2 x3 => effAddi n x1 x2 x3 s
  | .andi _ x1 x2 x3 => effAndi n x1 x2 x3 s
  | .ori _ x1 x2 x3 => effOri n x1 x2 x3 s
  | .xori _ x1 x2 x3 => effXori n x1 x2 x3 s
  | .ltsi _ x1 x2 x3 => effLtsi n x1 x2 x3 s
  | .ltui _ x1 x2 x3 => effLtui n x1 x2 x3 s
  | .lui _ x1 x2 => effLui n x1 x2 s
  | .lb _ x1 x2 x3 => effLb n x1 x2 x3 s
  | .lbu _ x1 x2 x3 => effLbu n x1 x2 x3 s
  | .lh _ x1 x2 x3 => effLh n x1 x2 x3 s
  | .lhu _ x1 x2 x3 => effLhu n x1 x2 x3 s
  | .lw _ x1 x2 x3 => effLw n x1 x2 x3 s
  | .pld _ x1 x2 x3 => effPld n x1 x2 x3 s
  | .sb _ x1 x2 x3 => effSb n x1 x2 x3 s
  | .sh _ x1 x2 x3 => effSh n x1 x2 x3 s
  | .sw _ x1 x2 x3 => effSw n x1 x2 x3 s
  | .pst _ x1 x2 x3 => effPst n x1 x2 x3 s
  | .beq _ x1 x2 x3 => effBeq n x1 x2 x3 s
  | .bne _ x1 x2 x3 => effBne n x1 x2 x3 s
  | .blt _ x1 x2 x3 => effBlt n x1 x2 x3 s
  | .bge _ x1 x2 x3 => effBge n x1 x2 x3 s
  | .bltu _ x1 x2 x3 => effBltu n x1 x2 x3 s
  | .bgeu _ x1 x2 x3 => effBgeu n x1 x2 x3 s
  | .jal _ x1 x2 => effJal n x1 x2 s
  | .jalr _ x1 x2 x3 => effJalr n x1 x2 x3 s
  | .padd _ x1 x2 x3 => effPadd n x1 x2 x3 s
  | .psub _ x1 x2 x3 => effPsub n x1 x2 x3 s
  | .paddc _ x1 x2 x3 => effPaddc n x1 x2 x3 s
  | .paddf _ x1 x2 x3 => effPaddf n x1 x2 x3 s
  | .pmov _ x1 x2 => effPmov n x1 x2 s
  | .psetc _ x1 x2 => effPsetc n x1 x2 s
  | .plo _ x1 x2 => effPlo n x1 x2 s
  | .phi _ x1 x2 => effPhi n x1 x2 s
  | .psetlo _ x1 x2 => effPsetlo n x1 x2 s
  | .psethi _ x1 x2 => effPsethi n x1 x2 s
  | .pcmp _ x1 x2 x3 => effPcmp n x1 x2 x3 s
  | .pmulc _ x1 x2 x3 => effPmulc n x1 x2 x3 s
  | .crr _ x1 x2 => effCrr n x1 x2 s
  | .crw _ x1 x2 x3 => effCrw n x1 x2 x3 s
  | .crs _ x1 x2 x3 => effCrs n x1 x2 x3 s
  | .crc _ x1 x2 x3 => effCrc n x1 x2 x3 s
  | .nop _ => effNop n s
  | .eret _ => effEret n s
  | .brk _ x1 => effBrk n x1 s
  | .halt _ => effHalt n s
  | .isync _ => effIsync n s
  | .arm _ x1 x2 x3 x4 x5 x6 => effArm n x1 x2 x3 x4 x5 x6 s
  | .disarm _ x1 x2 => effDisarm n x1 x2 s
  | .waitp _ x1 x2 x3 x4 x5 => effWaitp n x1 x2 x3 x4 x5 s
  | .waitev _ x1 x2 => effWaitev n x1 x2 s
  | .grd _ x1 x2 => effGrd n x1 x2 s
  | .gst _ x1 x2 => effGst n x1 x2 s
  | .gsrc _ x1 x2 => effGsrc n x1 x2 s
  | .gc1 _ x1 x2 => effGc1 n x1 x2 s
  | .gc2 _ x1 x2 => effGc2 n x1 x2 s
  | .goff _ x1 x2 => effGoff n x1 x2 s
  | .gcommit _ x1 x2 => effGcommit n x1 x2 s
  | .send _ x1 x2 x3 => effSend n x1 x2 x3 s
  | .recv _ x1 x2 x3 => effRecv n x1 x2 x3 s
  | .slotw _ x1 x2 x3 => effSlotw n x1 x2 x3 s
  | .objrd _ x1 x2 x3 => effObjrd n x1 x2 x3 s
  | .objrdp _ x1 x2 x3 => effObjrdp n x1 x2 x3 s
  | .objwr _ x1 x2 x3 => effObjwr n x1 x2 x3 s
  | .objwrp _ x1 x2 x3 => effObjwrp n x1 x2 x3 s
  | .objld _ x1 x2 x3 x4 => effObjld n x1 x2 x3 x4 s
  | .objst _ x1 x2 x3 x4 => effObjst n x1 x2 x3 x4 s
  | .qpop _ x1 x2 x3 => effQpop n x1 x2 x3 s
  | .qpush _ x1 x2 x3 => effQpush n x1 x2 x3 s
  | _ => .illegal

/-- The word that core `n` fetches at its pc: until an ISYNC it may be any version since its own stores, a free choice (R188). -/
def State.fetch (s : State) (n : Nat) : Nat × State :=
  let a := (s.core n).pc.toNat
  match (s.core n).older a with
  | [] => ((s.core n).load a 4, s)
  | l =>
    let (f, s1) := s.free
    (((s.core n).load a 4 :: l).getD (f % (l.length + 1)) 0, s1)

/-- One instruction of core `n` at its pc; a reserved word raises ILLEGAL (R205). -/
def State.runOne (s : State) (n : Nat) : State :=
  let (w, s1) := s.fetch n
  s1.perform n w (fun t => match decodeScriber n w with
    | some i => effOf i n t
    | none => .illegal)

/-- A WAITP stepped where its position is already passed ends at once, as its late entry does when its insertion completes: rd := 1,
LATE_COUNT (R174, R213, R226, R227). -/
def State.passedWait (s : State) (n : Nat) : State :=
  match (s.core n).wait with
  | .position rd e _ =>
    (match s.entry e with
     | some x =>
       let d := posDiff (s.gauge x.gauge).value x.pos
       if !s.gaugeHeld x.gauge && ((decide (x.dir = 1) && decide (0 ≤ d)) || (decide (x.dir = 2) && decide (d ≤ 0))) then
         (((s.dropEntry e).countLate).setG n rd 1).waitDone n
       else s
     | none => s)
  | _ => s

/-- CORE_STEP (R213): a halted core takes a pending GAUGE_FAULT or executes one instruction, abandons a wait that has not ended, and
halts with reason STEP where nothing else halted it. -/
def execCoreStep (core : Nat) (s : State) : Result :=
  if core < 34 ∧ s.fabric ∧ (s.core core).halted then
    let s1 := s.setCore core { s.core core with halted := false, halting := false, firstInstr := true }
    let s2 := if (s1.core core).faultDue then s1.takeGaugeFault core else (s1.runOne core).passedWait core
    .next (if (s2.core core).halted then s2 else s2.haltCore core 4)
  else .next s

end Sys2Proof.Machine
end

