-- ==== Sys2Proof/Machine/Bus.lean ====
section
/-!
DEFINITION. The register bus of BAR0: writes and reads of every offset of R26, with the effect that each block gives a write, the
access rules of R34–R41, and the values that status fields show.
-/

namespace Sys2Proof.Machine

/-- The state a command leaves. -/
def State.after (s : State) (r : Result) : State :=
  match r with
  | .next t => t
  | _ => s

/-- Index of offset `r` in an array of `n` registers from `base`, `stride` apart. -/
def slot (r base stride n : Nat) : Option Nat :=
  if base ≤ r ∧ (r - base) % stride = 0 ∧ (r - base) / stride < n then some ((r - base) / stride) else none

/-! ## Plain writes (R6, R7) -/

/-- The word a plain register holds after `v` is written: writable bits take it, W1C bits clear. -/
def RegRow.merge (w : RegRow) (old v : Word) : Word :=
  let rw := BitVec.ofNat 32 w.rw
  ((old &&& ~~~rw) ||| (v &&& rw)) &&& ~~~(v &&& BitVec.ofNat 32 w.w1c)

/-- A write without an effect of its own; a register with nothing to write is read-only (R40). -/
def State.plain (s : State) (a v : Nat) : State :=
  match regRow a with
  | none => s
  | some w =>
    if w.rw = 0 ∧ w.w1c = 0 ∧ w.w1p = 0 then s.logRo a else s.setReg a (w.merge (s.reg a) (BitVec.ofNat 32 v))

/-- A write that is accepted while `ok`; else it is discarded and logged. -/
def State.locked (s : State) (ok : Bool) (a v : Nat) : State := if ok then s.plain a v else s.logRo a

/-! ## Blocks whose registers act when written -/

/-- SYS: the flash port (R125). -/
def State.wSys (s : State) (r v : Nat) : State :=
  if r = 0x44 then s.flashCmd v
  else if 0x100 ≤ r ∧ s.on SYS.FLASH_STAT_BUSY then s.logRo r
  else s.plain r v

/-- A write of RAILn_CFG (R93, R95, R97, R126): only while the rail is OFF or FAILED; an own rail keeps its place in the table. A board
entry that is OFF and now enabled rises with the others once the rail table has been read: at once under a good parent, or when its
parent becomes good. -/
def State.railCfg (s : State) (n v : Nat) : State :=
  let a := TINDER.RAIL_CFG n
  if s.rail n ≠ railOff ∧ s.rail n ≠ railFailed then s.logRo a
  else if n < 6 then
    (s.setReg a ((s.reg a &&& 0xBF000000#32) ||| (BitVec.ofNat 32 v &&& 0x40FFFFFF#32))).seqLevels
  else
    let s1 := s.plain a v
    let rises := decide (s1.rail n = railOff) && s1.railEn n && s1.tinder.tableRead && decide (1 ≤ s1.phase) && decide (s1.phase ≤ 5)
    (if rises then s1.riseRail n else s1).seqLevels

/-- SEQ_CTRL (R126). -/
def State.seqCtrl (s : State) (v : Nat) : State :=
  let s1 := s.each (pick 16 (fun n => v.testBit (16 + n))) (fun t n => t.after (execRailRetry n t))
  let s2 := if v.testBit 1 then s1.after (execShutdownReq s1) else s1
  if v.testBit 2 then s2.after (execPowerDown s2) else s2

/-- TINDER (R124, R126). -/
def State.wTinder (s : State) (a r v : Nat) : State :=
  match slot r 0x40 0x10 16 with
  | some n => s.railCfg n v
  | none => if r = 0x20 then s.seqCtrl v else if r = 0x148 then s.mramCmd v else s.plain a v

/-- ENABLE of a synthesizer changes: it starts, or stops, with nothing acquired (R132, R143); disabling it ends the scan lock. -/
def State.synEnable (s : State) (k : Nat) (on : Bool) : State :=
  let s1 := (s.setFld (CLOCK.SYN_CTRL_ENABLE k) (bit on)).setSyn k Syn.reset
  let s2 := (((s1.setFld (CLOCK.SYN_STATUS_LOCKED k) 0).setFld (CLOCK.SYN_STATUS_LOCK_COUNT k) 0).setFld
    (CLOCK.SYN_STATUS_COASTING k) 0).setFld (CLOCK.SYN_STATUS_COAST_COUNT k) 0
  ((s2.setFld (CLOCK.SYN_STATUS_GATED k) 0).syncLost k).gaugeEvents s

/-- SYNs_CTRL. -/
def State.synCtrl (s : State) (k v : Nat) : State :=
  let was := s.on (CLOCK.SYN_CTRL_ENABLE k)
  let s1 := (((s.setFld (CLOCK.SYN_CTRL_FACETS k) (bits v 24 4)).setFld (CLOCK.SYN_CTRL_COAST_EDGES k) (bits v 16 6)).setFld
    (CLOCK.SYN_CTRL_BW_SHIFT k) (bits v 12 4))
  if was = v.testBit 0 then s1 else s1.synEnable k (v.testBit 0)

/-- GCLKk_CTRL (R140): its fields, then ENABLE, then a software phase reset of an output that was on. -/
def State.gclkCtrl (s : State) (k v : Nat) : State :=
  let was := s.on (CLOCK.GCLK_CTRL_ENABLE k)
  let s1 := ((s.setFld (CLOCK.GCLK_CTRL_DELAY k) (bits v 16 16)).setFld (CLOCK.GCLK_CTRL_CAL_RESET_EN k) (bits v 3 1)).setFld
    (CLOCK.GCLK_CTRL_SYNC_EN k) (bits v 2 1)
  let s2 := s1.gclkEnable k (v.testBit 0)
  if v.testBit 1 && was then s2.phaseReset k else s2

/-- CLOCK (R128, R139, R140, R147). -/
def State.wClock (s : State) (a r v : Nat) : State :=
  match slot r 0x20 0x10 5, slot r 0x24 0x10 5, slot r 0x100 0x20 6 with
  | some p, _, _ => s.after (execPllReacquire p false v s)
  | _, some p, _ => s.after (execPllReacquire p true v s)
  | _, _, some k => s.synCtrl k v
  | _, _, _ =>
    match slot r 0x200 0x10 24, slot r 0x204 0x10 24, slot r 0x208 0x10 24 with
    | some k, _, _ => s.after (execGclkDivWrite k v false s)
    | _, some k, _ => s.gclkCtrl k v
    | _, _, some k => if v.testBit 1 then s.gclkUngate k else s
    | _, _, _ => s.plain a v

/-- Gn_CFG (R148–R150, R180): INDEX_PERIOD, Z_HOME, SWAP_AB and DIR_EXPECT are the encoder gauges' alone. -/
def State.gaugeCfg (s : State) (n v : Nat) : State :=
  if isReserved n then s
  else
    let s1 := if n < 16 then
        (((s.setFld (GAUGE.G_CFG_INDEX_PERIOD n) (bits v 16 16)).setFld (GAUGE.G_CFG_Z_HOME n) (bits v 6 1)).setFld
          (GAUGE.G_CFG_SWAP_AB n) (bits v 5 1)).dirExpect n (bits v 2 2)
      else s
    (s1.setFld (GAUGE.G_CFG_CRITICAL n) (bits v 4 1)).gaugeEnable n (v.testBit 0)

/-- GAUGE CMD (R161, R166): the gauge number, then each command whose bit is written as 1. -/
def State.gaugeCmd (s : State) (v : Nat) : State :=
  let n := bits v 0 6
  let s1 := s.setFld GAUGE.CMD_GAUGE n
  let s2 := if v.testBit 8 then s1.after (execResume n s1) else s1
  let s3 := if v.testBit 9 then s2.after (execFlush n s2) else s2
  if v.testBit 10 then s3.after (execPreset n s3) else s3

/-- RGk_SRC (R167): the streams of the busiest hop and the path latency are what link training and the other devices make them. -/
def State.rgSrc (s : State) (k v : Nat) : State :=
  let (crossing, s1) := s.free
  let (lat, s2) := s1.free
  s2.after (execRgSrcWrite k v crossing lat s2)

/-- FIDk_CTRL (R163). -/
def State.fidCtrl (s : State) (k v : Nat) : State :=
  let s1 := s.setFld (GAUGE.FID_CTRL_MARGIN k) (bits v 8 4)
  let s2 := if v.testBit 0 then s1.after (execRestart k s1) else s1
  if v.testBit 1 then s2.after (execAssume k s2) else s2

/-- GAUGE (R180): a field that does not apply to a gauge's kind ignores writes. -/
def State.wGauge (s : State) (a r v : Nat) : State :=
  match slot r 0x100 0x20 64, slot r 0x104 0x20 64, slot r 0x108 0x20 64, slot r 0x10C 0x20 64 with
  | some n, _, _, _ => s.gaugeCfg n v
  | _, some n, _, _ => if isEncoder n || isAux n then s.plain a v else s
  | _, _, some n, _ => if isEncoder n || isAux n || isMains n then s.plain a v else s
  | _, _, _, some n =>
    if isEncoder n || isAux n || isMains n then
      ((if isEncoder n then s.setFld (GAUGE.G_LIMITS_REV_LIMIT n) (bits v 16 8) else s).setFld (GAUGE.G_LIMITS_MIN_RATE n) (bits v 0 16)).stillNow n
    else s
  | _, _, _, _ =>
    match slot r 0x914 0x20 16, slot r 0xB00 0x10 16, slot r 0xD00 0x20 6, slot r 0xE04 0x10 8 with
    | some k, _, _, _ => if v.testBit 0 then s.after (execVgCommit k s) else s
    | _, some k, _, _ => s.rgSrc k v
    | _, _, some k, _ => s.fidCtrl k v
    | _, _, _, some m => s.markDest m v
    | _, _, _, _ => if r = 0x28 then s.gaugeCmd v else s.plain a v

/-- CALENDAR (R181): a write of ARM_GO while a request is busy is discarded and logged, one with both bits is REFUSED. -/
def State.wCalendar (s : State) (a r v : Nat) : State :=
  if r = 0x34 then
    if s.fld CALENDAR.ARM_RESULT_RESULT = 1 then s.logRo a
    else if v % 4 = 1 then s.after (execArmGoArm s)
    else if v % 4 = 2 then s.after (execArmGoDisarm s)
    else if v % 4 = 3 then s.setFld CALENDAR.ARM_RESULT_RESULT 3
    else s
  else if r = 0x48 then s.after (execEntrySel (v % 8192) s)
  else s.plain a v

/-- ST_CTL (R211, R212, R216); a core with both bits takes the halt request alone. -/
def State.stCtl (s : State) (v : Nat) : State :=
  let s1 := s.each (pick 2 (fun m => v.testBit m && !v.testBit (8 + m))) (fun t m => t.runCore (32 + m))
  s1.each (pick 2 (fun m => v.testBit (8 + m))) (fun t m => t.haltRequest (32 + m))

/-- COREn_CTRL (R209–R216): the fields, then HALT_REQ, REINIT, STEP, and RUN without HALT_REQ. -/
def State.coreCtrl (s : State) (n v : Nat) : State :=
  let s1 := ((s.setFld (SCRIBER.CORE_CTRL_CRITICAL n) (bits v 7 1)).setFld (SCRIBER.CORE_CTRL_BREAK_HALT n) (bits v 6 1)).setFld
    (SCRIBER.CORE_CTRL_DISARM_ON_HALT n) (bits v 5 1)
  let s2 := if v.testBit 2 then s1.haltRequest n else s1
  let s3 := if v.testBit 4 then s2.reinitNow n else s2
  let s4 := if v.testBit 3 then s3.after (execCoreStep n s3) else s3
  if v.testBit 1 && !v.testBit 2 then s4.runCore n else s4

/-- SCRIBER (R211–R216). -/
def State.wScriber (s : State) (a r v : Nat) : State :=
  match slot r 0x100 0x20 34, slot r 0x108 0x20 34, slot r 0x114 0x20 34 with
  | some n, _, _ => s.coreCtrl n v
  | _, some n, _ =>
    if (s.core n).halted then s.setCore n { s.core n with pc := BitVec.ofNat 32 (v / 4 * 4) } else s.logRo a
  | _, _, some n => s.after (execDebugRegisterWrite n v s)
  | _, _, _ =>
    match slot r 0x110 0x20 34, slot r 0x118 0x20 34 with
    | some n, _ => s.locked (s.core n).halted a v
    | _, some n => s.locked (s.core n).halted a v
    | _, _ =>
      if r = 0x20 then s.each (pick 32 v.testBit) State.runCore
      else if r = 0x24 then s.each (pick 32 v.testBit) State.haltRequest
      else if r = 0x28 then s.stCtl v
      else s.plain a v

/-- MSIXv_CTRL (R295): the vector's mask. -/
def State.vecCtrl (s : State) (n v : Nat) : State :=
  if v.testBit 0 then s.setFld (INTAKE.MSIX_CTRL_MASK n) 1 else s.unmask n

/-- INTAKE (R286, R287, R291, R294, R295). -/
def State.wIntake (s : State) (a r v : Nat) : State :=
  match slot r 0x300 0x20 16, slot r 0x304 0x20 16, slot r 0x308 0x20 16, slot r 0x30C 0x20 16 with
  | some n, _, _, _ => s.locked (!s.on (INTAKE.SQ_CFG_EN n)) a v
  | _, some n, _, _ => s.locked (!s.on (INTAKE.SQ_CFG_EN n)) a v
  | _, _, some n, _ => s.sqCfgWrite n v
  | _, _, _, some n => s.sqDoorbell n v
  | _, _, _, _ =>
    match slot r 0x500 0x20 16, slot r 0x504 0x20 16, slot r 0x508 0x20 16, slot r 0x50C 0x20 16 with
    | some n, _, _, _ => s.locked (!s.on (INTAKE.CQ_CFG_EN n)) a v
    | _, some n, _, _ => s.locked (!s.on (INTAKE.CQ_CFG_EN n)) a v
    | _, _, some n, _ => s.cqCfgWrite n v
    | _, _, _, some n => (s.setFld (INTAKE.CQ_HEAD_HEAD n) v).irqAgain n
    | _, _, _, _ =>
      match slot r 0x100C 0x10 32, slot r 0x40 4 64 with
      | some n, _ => s.vecCtrl n v
      | _, some _ => (s.plain a v).irqEval
      | _, _ => s.plain a v

/-- DECk_CTRL (R330): ENABLE, then FLUSH. -/
def State.decCtrl (s : State) (k v : Nat) : State :=
  let s1 := s.decEnable k (v.testBit 0)
  if v.testBit 1 then s1.decFlush k else s1

/-- CODEC (R330, R331, R336). -/
def State.wCodec (s : State) (a r v : Nat) : State :=
  match slot r 0x100 0x40 6, slot r 0x104 0x40 6, slot r 0x114 0x40 6, slot r 0x418 0x40 2 with
  | some k, _, _, _ => s.decCtrl k v
  | _, some k, _, _ => s.locked (decide (s.decState k = 0) && !s.on (CODEC.DEC_CTRL_ENABLE k)) a v
  | _, _, some k, _ => if v.testBit 0 then s.after (execRunPush k s) else s
  | _, _, _, some k => if v.testBit 0 then s.encGo k else s
  | _, _, _, _ => if r = 4 then ((s.plain a v).codecGate).startJobs else s.plain a v

/-- DRAMC (R339, R355, R363). -/
def State.wDramc (s : State) (a r v : Nat) : State :=
  if r = 0x20 then s.locked (decide (s.fld DRAMC.TRAIN_STATE = 0) || decide (s.fld DRAMC.TRAIN_STATE = 4)) a v
  else if r = 0x24 then
    let s1 := if v.testBit 8 then s.after (execTrainGo s) else s
    if v.testBit 9 then s1.after (execFullRetrain s1) else s1
  -- the highest of the sources now enabled (R351)
  else if r = 0x28 then let s1 := s.plain a v; s1.each s1.chans State.tempUpdate
  else s.plain a v

/-- PLATE (R366, R562). -/
def State.wPlate (s : State) (a r v : Nat) : State :=
  let s1 := s.plain a v
  if r = 4 then s1.setFld PLATE.STATUS_ENABLED (v % 2) else s1

/-- THAIQ (R545, R546, R562). -/
def State.wThaiq (s : State) (a r v : Nat) : State :=
  if r = 4 then (s.setFld THAIQ.CTRL_FORCE_ARM (bits v 1 1)).thaiqSet (v.testBit 0)
  else if r = 0x20 then s.locked (!s.on THAIQ.CTRL_ENABLE) a v
  else s.plain a v

/-- Zz_CFG (R510, R520, R550): the fields, then ENABLE. -/
def State.zoneCfg (s : State) (z v : Nat) : State :=
  let a := HEARTH.Z_CFG z
  let s1 := s.setReg a (((s.reg a &&& 0x00000009#32) ||| (BitVec.ofNat 32 v &&& 0xFF1FF032#32)) &&& ~~~(BitVec.ofNat 32 v &&& 8#32))
  (s1.zonesFollow).zoneWrite z (v.testBit 0)

/-- HEARTH (R506–R521). -/
def State.wHearth (s : State) (a r v : Nat) : State :=
  match slot r 0x200 0x20 8, slot r 0x204 0x20 8, slot r 0x208 0x20 8 with
  | some z, _, _ => s.zoneCfg z v
  | _, some _, _ => ((s.plain a v).zonesFollow).recheckReady
  | _, _, some _ => ((s.plain a v).zonesFollow).recheckReady
  | _, _, _ => if r = 0x34 then s.tripAck v else s.plain a v

/-- Vn_CFG (R523–R526): the fields, then ENABLE. -/
def State.hvCfg (s : State) (n v : Nat) : State :=
  let a := HV.V_CFG n
  let w := BitVec.ofNat 32 v
  let s1 := s.setReg a (((s.reg a &&& 0x00000081#32) ||| (w &&& 0x0FFFFF66#32)) &&& ~~~(w &&& 0x80#32))
  (s1.hvWrite n (v.testBit 0)).recheckReady

/-- HV (R523–R526, R562). -/
def State.wHv (s : State) (a r v : Nat) : State :=
  match slot r 0x100 0x20 32 with
  | some n => s.hvCfg n v
  | none => if r = 4 then (((s.plain a v).setFld HV.STATUS_ENABLED (v % 2)).hvAll).recheckReady else s.plain a v

/-- Does the bank that holds offset `r` of a Graver's tables take writes (R381)? -/
def State.bankOpen (s : State) (k r : Nat) : Bool :=
  let b := (r - 0x1000) / 0x400
  decide (b ≠ s.fld (GRAVER.BANK_ACTIVE k)) && !(s.on (GRAVER.BANK_PENDING k) && decide (b = s.fld (GRAVER.BANK_NEXT k)))

/-- PAGEQ_CMD (R369, R390). -/
def State.pageqCmd (s : State) (k v : Nat) : State :=
  let s1 := if v.testBit 0 then s.after (execPageqPush k s) else s
  if v.testBit 1 then s1.after (execPageqWithdraw k s1) else s1

/-- GRAVER `k` (R381, R400, R406, R416, R428). -/
def State.wGraver (s : State) (k a r v : Nat) : State :=
  if 0x1000 ≤ r then s.locked (s.bankOpen k r) a v
  else match r with
  | 0x04 => (s.setFld (GRAVER.CTRL_FORCE_ARM k) (bits v 1 1)).stationWrite k (v.testBit 0)
  | 0x20 => s.locked (!s.on (GRAVER.STATUS_ENABLED k)) a v
  | 0x24 => s.locked (!s.on (GRAVER.STATUS_ENABLED k)) a v
  | 0x2C => s.locked (!s.on (GRAVER.STATUS_ENABLED k)) a v
  | 0x34 => s.locked (!s.on (GRAVER.STATUS_ENABLED k)) a v
  | 0x30 => s.bankNext k (bits v 4 1)
  | 0x38 => (s.plain a v).ctrlIdle k
  | 0x44 => if v.testBit 0 then s.after (execCtrlPush k s) else s
  | 0x48 => let s1 := s.plain a v; if v.testBit 16 then s1.after (execCtrlDmaGo k s1) else s1
  | 0x68 => s.pageqCmd k v
  | 0xD4 => let s1 := s.plain a v; if v.testBit 16 then s1.after (execLutBuildGo k s1) else s1
  | 0xDC => (s.plain a v).laserEval k
  | _ => s.plain a v

/-- CMD of an axis (R480, R486). -/
def State.axisCmd (s : State) (x v : Nat) : State :=
  let s1 := if v.testBit 1 then s.after (execAxisStart x s) else s
  if v.testBit 2 then s1.after (execAxisStop x s1) else s1

/-- Writes the registers of axis `x` lock while it is enabled, or that act when written (R499, R500). -/
def State.wAxis (s : State) (x a r v fb cmd : Nat) : State :=
  if r = 4 then ((s.setFld (axf FOC.CTRL_FORCE_ARM STEP.CTRL_FORCE_ARM x) (bits v 1 1)).axisEnable x (v.testBit 0)).axisSettle
  else if r = 0x20 ∨ r = 0x24 ∨ r = 0x28 ∨ r = 0x2C ∨ r = fb then s.locked (!s.axEnabled x) a v
  else if r = cmd then s.axisCmd x v
  else s.plain a v

/-- FOC block `u`: the axis, and for blocks 0–7 the bus group (R488–R491, R499). -/
def State.wFoc (s : State) (u a r v : Nat) : State :=
  if r = 0x800 ∨ r = 0x808 then (s.plain a v).brakeEval u
  else if r = 0x810 then let s1 := s.plain a v; s1.each (s1.groupAxes u) State.regen
  else s.wAxis u a r v 0x90 0x74

/-! ## The whole map (R26, R34–R40) -/

/-- Does the block with code `c` run: SYS and TINDER from the reference clock, the others with the fabric (R38)? -/
def State.running (s : State) (c : Nat) : Bool := s.fabric || decide (c = 0x7840) || decide (c = 1)

/-- Does an access reach the registers (R38, R89, R114)? Without VSTBY nothing answers; the host comes in over the PCIe domain, the
test port always does. -/
def State.reached (s : State) (via : Via) : Bool :=
  s.tinder.vstby && (match via with
    | .host => s.domain 3
    | .jtag => true
    | .idcode | .config => false)

/-- Is offset `a` of a block, at `r` in its unit, a register? +0x014 is reserved (R28), and so are the bus groups of FOC blocks 8–11. -/
def known (c u a r : Nat) : Bool :=
  decide (r ≠ 0x14) && !(decide (c = 0x200) && decide (8 ≤ u) && decide (0x800 ≤ r)) && (regRow a).isSome

/-- A write to a register of the block with code `c`, unit `u`, at offset `r` of the unit, beyond the common header. -/
def State.wOwn (s : State) (c u a r v : Nat) : State :=
  match c with
  | 0x7840 => s.wSys r v
  | 0x1 => s.wTinder a r v
  | 0x2 => s.wClock a r v
  | 0x3 => s.wGauge a r v
  | 0x4 => s.wCalendar a r v
  | 0x5 => s.wScriber a r v
  | 0x6 => if r = 0x20 then s.plcIssue 0 (bits v 0 8) else s.plain a v
  | 0x7 => s.wIntake a r v
  | 0x8 =>
    match slot r 0x100 0x20 32 with
    | some n => s.chCtrlWrite n v
    | none => s.plain a v
  | 0x9 => s.wCodec a r v
  | 0xA => s.wDramc a r v
  | 0xB => s.wPlate a r v
  | 0xC => s.wThaiq a r v
  | 0xD => s.wHearth a r v
  | 0xE => s.wHv a r v
  | 0x10 => s.wGraver u a r v
  | 0x200 => s.wFoc u a r v
  | 0x210 => s.wAxis (12 + u) a r v 0x64 0x6C
  | _ => s.plain a v

/-- Has the register at `a` a W1C field? -/
def hasW1c (a : Nat) : Bool :=
  match regRow a with
  | some w => decide (w.w1c ≠ 0)
  | none => false

/-- A write to a register of the block with code `c`, unit `u`, at offset `r` of the unit: FAULT, FAULT_FORCE and INT_EN act alike in
every block, and a write to any W1C register brings the block's message again while its request holds (R28–R33, R295). -/
def State.wBlock (s : State) (c u a r v : Nat) : State :=
  let code := if c = 0x7840 then 0 else c + u
  if r = 0x0C ∧ code ≠ 0 then s.faultWrite code v
  else if r = 0x10 ∧ code ≠ 0 then s.forceWrite code v
  else if r = 0x18 then (s.plain a v).irqEval
  else
    let t := s.wOwn c u a r v
    if hasW1c a then t.irqAgain (sourceOf code) else t

/-- The core whose memory window holds offset `a`, with the offset inside it (R26). -/
def memWindow (a : Nat) : Option (Nat × Nat) :=
  if 0x400000 ≤ a ∧ a < 0x600000 then some ((a - 0x400000) / 0x10000, a % 0x10000)
  else if 0x600000 ≤ a ∧ a < 0x700000 then some (32 + (a - 0x600000) / 0x80000, a % 0x80000)
  else none

/-- A write to a memory window: the bytes enabled by `be` of the word at `a`; a core's memory takes them while the core is halted. -/
def State.wWindow (s : State) (a v be : Nat) : State :=
  match memWindow a with
  | some (n, o) =>
    if !s.fabric then s.logAccess SYS.ACCESS_LOG_HELD_BLOCK a
    else if (s.core n).halted then
      s.each (pick 4 be.testBit) (fun t i => t.setCore n ((t.core n).poke (o / 4 * 4 + i) [bits v (8 * i) 8]))
    else s.logRo a
  | none =>
    if 0x300000 ≤ a ∧ a < 0x340000 then (if s.fabric then s.logRo a else s.logAccess SYS.ACCESS_LOG_HELD_BLOCK a)
    else s.logAccess SYS.ACCESS_LOG_RESERVED_ADDR a

/-- A write of `v` to offset `a` of BAR0 with byte enables `be` (R34–R40). -/
def State.busWrite (s : State) (a v be : Nat) : State :=
  match blockOf a with
  | none => s.wWindow a v be
  | some (b, u, r) =>
    if a % 4 ≠ 0 ∨ be % 16 ≠ 15 then s.logAccess SYS.ACCESS_LOG_BAD_WIDTH a
    else if !s.running b.code then s.logAccess SYS.ACCESS_LOG_HELD_BLOCK a
    else if !known b.code u a r then s.logAccess SYS.ACCESS_LOG_RESERVED_ADDR a
    else s.wBlock b.code u a r (v % 2 ^ 32)

/-- A write of up to 8 bytes: byte enables above bit 3 make it a 64-bit access, which is two 32-bit ones, the lower address first
(R34). -/
def State.busWrites (s : State) (a v be : Nat) : State :=
  if be / 16 % 16 = 0 then s.busWrite a (v % 2 ^ 32) be
  else (s.busWrite a (v % 2 ^ 32) (be % 16)).busWrite (a + 4) (v / 2 ^ 32) (be / 16)

/-- REGISTER_WRITE (R34, R36–R40): a write arrives at offset `addr` of BAR0, or of the configuration space. -/
def execRegisterWrite (addr value : Nat) (how : WriteAccess) (s : State) : Result :=
  .next (if how.via = .config then s.configWrite addr value how.be
    else if s.reached how.via then s.busWrites (addr % 2 ^ 24) value how.be else s)

/-- W1C_CLEAR (R6): a whole-word write of `value` to a status or log register. -/
def execW1cClear (addr value : Nat) (s : State) : Result := .next (s.busWrite (addr % 2 ^ 24) value 15)

/-- INT_STAT_CLEAR (R33, R295): a write of `mask` to INT_STAT of block `code`. -/
def execIntStatClear (code mask : Nat) (s : State) : Result :=
  .next (if faultCodes.contains code || decide (code = 0) then s.busWrite (intReg code) mask 15 else s)

/-! ## Reads (R35, R37, R38) -/

/-- STATUS of a block with its FAULT_ANY, and ENABLED of an always-on block. -/
def State.statusWord (s : State) (c u a : Nat) : Nat :=
  let code := c + u
  let any := if c = 0x7840 then false else decide ((s.reg (faultReg code)).toNat ≠ 0)
  let w := setBits (s.reg a).toNat 2 1 (bit any)
  if c = 9 then
    let en := s.on CODEC.CTRL_ENABLE
    let busy := (List.range 6).any (fun k => (s.decoder k).block.isSome)
    setBits (setBits w 0 1 (bit (en || busy))) 1 1 (bit (!en && busy))
  else w

/-- The JTAG IDCODE of revision A1 (R2). -/
def jtagIdcode : Nat := 0x17840A3F

/-- A read that latches a high half and answers the low one. -/
def State.latchRead (s : State) (v hi : Nat) : State := (s.setReg hi (BitVec.ofNat 32 (v / 2 ^ 32))).answer [v % 2 ^ 32]

/-- A read of a low half whose pair stands in the registers. -/
def State.latchPair (s : State) (lo hi : Nat) : State :=
  State.answer { s with latched := Tbl.put (fun _ => 0) s.latched hi (s.reg hi).toNat } [(s.reg lo).toNat]

/-- The latched high half at `a`. -/
def State.latchedAt (s : State) (a : Nat) : State := s.answer [Tbl.get (fun _ => 0) s.latched a]

/-- TINDER: rail summaries, Ember, and PB_LEVEL and PSEQ_IN, which follow their balls (assumption 43). -/
def State.rTinder (s : State) (a r : Nat) : State :=
  let rails := fun (p : Nat → Bool) => (pick 16 p).foldl (fun x n => x + 2 ^ n) 0
  match slot r 0x4C 0x10 16 with
  | some n => s.answer [setBits (s.reg a).toNat 10 1 (bit (s.fbit TINDER.SEQ_STATUS_WARN n))]
  | none =>
    if r = 0x24 then
      let (pb, s1) := s.choose
      let (pseq, s2) := s1.choose
      s2.answer [setBits (setBits (s.reg a).toNat 22 1 (bit pb)) 20 1 (bit pseq)]
    else if r = 0x28 then s.answer [rails (fun n => decide (s.rail n = railGood)) + 2 ^ 16 * rails (fun n => decide (s.rail n = railFailed))]
    else if r = 0x30 then s.answer [s.tinder.count]
    else if r = 0x34 then s.answer [s.tinder.cause + 2 ^ 8 * bit s.tinder.vbatLost + 2 ^ 16 * bit s.tinder.trip]
    else s.answer [(s.reg a).toNat]

/-- REF_OK of PLL `p` (R147): as it was judged at the lock or the loss; before either, the crystal is present while its edges arrive, and
PE_REFCLK is the host's. -/
def State.refOk (s : State) (p : Nat) : Bool × State :=
  if s.on (CLOCK.PLL_STATUS_LOCKED p) || s.on (CLOCK.PLL_STATUS_HOLDOVER p) then (s.on (CLOCK.PLL_STATUS_REF_OK p), s)
  else if p = 3 then s.choose
  else (s.tinder.crystal, s)

/-- CLOCK: FCW of a synthesizer, and REF_OK. -/
def State.rClock (s : State) (a r : Nat) : State :=
  match slot r 0x110 0x20 6, slot r 0x28 0x10 5 with
  | some k, _ => s.latchRead (s.syn k).fcw (CLOCK.SYN_FCW_HI k)
  | _, some p =>
    let (b, s1) := s.refOk p
    s1.answer [setBits (s.reg a).toNat 3 1 (bit b)]
  | _, _ => s.answer [(s.reg a).toNat]

/-- GAUGE: held queues, lock of a virtual gauge, positions and captures. -/
def State.rGauge (s : State) (a r : Nat) : State :=
  match slot r 0x110 0x20 64, slot r 0x114 0x20 64, slot r 0xC04 0x10 16, slot r 0xC08 0x10 16 with
  | some n, _, _, _ =>
    s.answer [setBits (setBits (s.reg a).toNat 12 1 (bit (s.gaugeLocked n))) 13 1 (bit (s.gaugeCoasting n))]
  | _, some n, _, _ => s.latchRead (s.gauge n).value (GAUGE.G_POS_HI n)
  | _, _, some k, _ => s.latchRead (s.capVal k) (GAUGE.CAP_POS_HI k)
  | _, _, _, some k => s.after (execCapPosHiRead k s)
  | _, _, _, _ =>
    match slot r 0x104 0x20 64, slot r 0x108 0x20 64, slot r 0x10C 0x20 64, slot r 0x11C 0x20 64 with
    | some n, _, _, _ => s.answer [if isEncoder n || isAux n then (s.reg a).toNat else 0]
    | _, some n, _, _ => s.answer [if isEncoder n || isAux n || isMains n then (s.reg a).toNat else 0]
    | _, _, some n, _ =>
      s.answer [if isEncoder n then (s.reg a).toNat else if isAux n || isMains n then s.fld (GAUGE.G_LIMITS_MIN_RATE n) else 0]
    | _, _, _, some n => let (x, s1) := s.gaugeRate n; s1.answer [x]
    | _, _, _, _ =>
    let held := fun (lo : Nat) => (pick 32 (fun i => s.gaugeHeld (lo + i))).foldl (fun x i => x + 2 ^ i) 0
    if r = 0x20 then s.answer [held 0] else if r = 0x24 then s.answer [held 32] else s.answer [(s.reg a).toNat]

/-- CALENDAR: occupancy and queue depths. -/
def State.rCalendar (s : State) (a r : Nat) : State :=
  match slot r 0x100 4 64 with
  | some n =>
    let l := s.entriesOn n
    let f := (l.filter (fun x => x.2.forward)).length
    s.answer [f + (l.length - f) * 2 ^ 16]
  | none => if r = 0x20 then s.answer [s.occupancy] else s.answer [(s.reg a).toNat]

/-- SCRIBER: the halted cores, status, pc and debug access. -/
def State.rScriber (s : State) (a r : Nat) : State :=
  let down := fun (lo n : Nat) => (pick n (fun i => (s.core (lo + i)).halted)).foldl (fun x i => x + 2 ^ i) 0
  match slot r 0x104 0x20 34, slot r 0x108 0x20 34, slot r 0x114 0x20 34, slot r 0x118 0x20 34 with
  | some n, _, _, _ =>
    let c := s.core n
    s.answer [bit c.halted + 2 * bit c.halting + 4 * bit (decide (c.wait ≠ .none)) + 8 * bit c.exc + 2 ^ 8 * c.haltReason]
  | _, some n, _, _ => s.answer [(s.core n).pc.toNat]
  | _, _, some n, _ => s.after (execDebugRegisterRead n s)
  | _, _, _, some n => s.answer [if (s.core n).halted then (s.reg a).toNat else 0]
  | _, _, _, _ =>
    if r = 0x2C then s.answer [down 0 32] else if r = 0x30 then s.answer [down 32 2] else s.answer [(s.reg a).toNat]

/-- PLACER: free indices, memory and calendar run, and the two logs. -/
def State.rPlacer (s : State) (a r : Nat) : State :=
  match r with
  | 0x34 => s.answer [s.tableFree]
  | 0x38 => s.latchRead s.dramFree PLACER.DRAM_FREE_HI
  | 0x40 => s.answer [s.calRun.2]
  | 0x44 => s.answer [s.moveStatus]
  | 0x48 => s.poisonLogRead
  | 0x4C => s.after (execPoisonOffsetRead s)
  | 0x50 => s.after (execEvictLogRead s)
  | _ => s.answer [(s.reg a).toNat]

/-- INTAKE: pending requests, records waiting for a completion ring, held messages. -/
def State.rIntake (s : State) (a r : Nat) : State :=
  match slot r 0x514 0x20 16 with
  | some n => s.answer [setBits (s.reg a).toNat 16 5 (s.dq (16 + n)).length]
  | none =>
    if r = 0x28 then s.answer [s.irqPend % 2 ^ 32]
    else if r = 0x2C then s.answer [s.irqPend / 2 ^ 32]
    else if r = 0x1800 then s.answer [s.host.pba]
    else if a = INTAKE.EP_STATUS_PERST_N.off && !s.on INTAKE.EP_STATUS_LINK_UP then
      -- the level of PERST_N while the link is down is the board's (assumption 95)
      let (b, s1) := s.choose
      s1.answer [setBits (s.reg a).toNat INTAKE.EP_STATUS_PERST_N.lo 1 (bit b)]
    else s.answer [(s.reg a).toNat]

/-- MOVER: channels with an event bit set (R307). -/
def State.evPend (s : State) : Nat :=
  (pick 32 (fun c => decide (bits (s.reg (MOVER.CH_STATUS c)).toNat 6 4 ≠ 0))).foldl (fun x c => x + 2 ^ c) 0

/-- A read of a register of the block with code `c`, unit `u`, at offset `r`. -/
def State.rBlock (s : State) (c u a r : Nat) : State :=
  if r = 8 then s.answer [s.statusWord c u a]
  else match c with
  | 0x7840 => if r = 0x2C then (let x := s.engReported; x.2.answer [setBits (s.reg a).toNat 0 4 x.1]) else s.answer [(s.reg a).toNat]
  | 0x1 => s.rTinder a r
  | 0x2 => s.rClock a r
  | 0x3 => s.rGauge a r
  | 0x4 => s.rCalendar a r
  | 0x5 => s.rScriber a r
  | 0x6 => s.rPlacer a r
  | 0x7 => s.rIntake a r
  | 0x8 => if r = 0x24 then s.answer [s.evPend] else s.answer [(s.reg a).toNat]
  | 0xB =>
    match slot r 0x20 0x10 6, slot r 0x24 0x10 6 with
    | some _, _ => s.latchPair a (a + 4)
    | _, some _ => s.latchedAt a
    | _, _ => s.answer [(s.reg a).toNat]
  | 0x10 => if r = 0x78 then s.latchPair a (a + 4) else if r = 0x7C then s.latchedAt a else s.answer [(s.reg a).toNat]
  | 0x200 => if r = 0x80 then s.latchPair a (a + 4) else if r = 0x84 then s.latchedAt a else s.answer [(s.reg a).toNat]
  | 0x210 => if r = 0x78 then s.latchPair a (a + 4) else if r = 0x7C then s.latchedAt a else s.answer [(s.reg a).toNat]
  | _ => s.answer [(s.reg a).toNat]

/-- A read of the aligned word at offset `a` of BAR0: it answers the word, does what R35 names, and is logged where the offset is reserved or
the block is held. -/
def State.busRead (s : State) (a : Nat) : State :=
  match blockOf a with
  | some (b, u, r) =>
    if !s.running b.code then (s.logAccess SYS.ACCESS_LOG_HELD_BLOCK a).answer [0]
    else if !known b.code u a r then (s.logAccess SYS.ACCESS_LOG_RESERVED_ADDR a).answer [0]
    else s.rBlock b.code u a r
  | none =>
    match memWindow a with
    | some (n, o) =>
      if !s.fabric then (s.logAccess SYS.ACCESS_LOG_HELD_BLOCK a).answer [0] else s.answer [(s.core n).load o 4]
    | none =>
      if 0x300000 ≤ a ∧ a < 0x340000 then
        if !s.fabric then (s.logAccess SYS.ACCESS_LOG_HELD_BLOCK a).answer [0] else s.answer [s.mramNat (a - 0x300000) 4]
      else (s.logAccess SYS.ACCESS_LOG_RESERVED_ADDR a).answer [0]

/-- The data a read answers where it lies in a memory window of a running fabric, whole and at one instant (R39, R187). -/
def State.windowData (s : State) (a len : Nat) : Option Nat :=
  if !s.fabric then none
  else match memWindow a with
    | some (n, o) => some ((s.core n).load o len)
    | none => if 0x300000 ≤ a ∧ a + len ≤ 0x340000 then some (s.mramNat (a - 0x300000) len) else none

/-- A read of `len` bytes at offset `a` of BAR0 (R34, R39): a window answers them as they are; a register block answers the addressed
bytes of its word, and a 64-bit read as two 32-bit reads, the lower address first. -/
def State.busReads (s : State) (a len : Nat) : State :=
  match (if (blockOf a).isSome then none else s.windowData a len) with
  | some v => s.answer [v]
  | none =>
    let w := a / 4 * 4
    let s1 := s.busRead w
    if 4 < len then
      let s2 := s1.busRead (w + 4)
      s2.answer [s1.reply.headD 0 + s2.reply.headD 0 * 2 ^ 32]
    else if len < 4 then s1.answer [bits (s1.reply.headD 0) (8 * (a % 4)) (8 * len)]
    else s1

/-- LO_READ_LATCH (R2, R34, R35, R38, R39): a read at an offset of BAR0; of the low half of an RL pair, it latches
the high half. A read over the configuration space answers its word, one of the test port's IDCODE the device's. -/
def execLoReadLatch (x : ReadAccess) (s : State) : Result :=
  .next (match x.via with
    | .config => s.configRead x.addr
    | .idcode => s.answer [jtagIdcode]
    | .host | .jtag => if s.reached x.via then s.busReads (x.addr % 2 ^ 24) x.len else s.answer [])

end Sys2Proof.Machine
end

