-- ==== Sys2Proof/Machine/Boot.lean ====
section
/-!
DEFINITION. Release from reset and boot: domains (R113, R114), the boot configuration record and its script (R117–R121), the FLASH
image (R116, R245), ready (R117, R118), and UART recovery (R122, R123).
-/

namespace Sys2Proof.Machine

/-- BOOT_STAGE. -/
def State.bootStage (s : State) : Nat := s.fld SYS.BOOT_STATUS_BOOT_STAGE

/-- Stores BOOT_STAGE. -/
def State.setStage (s : State) (v : Nat) : State := s.setFld SYS.BOOT_STATUS_BOOT_STAGE v

/-- BOOT_ERROR keeps the first error in time (R120). -/
def State.bootError (s : State) (c : Nat) : State :=
  if s.fld SYS.BOOT_STATUS_BOOT_ERROR = 0 then s.setFld SYS.BOOT_STATUS_BOOT_ERROR c else s

/-- The boot fails: the error, and BOOT_STAGE 0xF. -/
def State.bootFail (s : State) (c : Nat) : State := (s.bootError c).setStage 0xF

/-- The boot source: the balls until they are latched at reset release (R41, R115). -/
def State.bootSource (s : State) : Nat := if s.tinder.inReset then s.tinder.bootPins % 4 else s.fld SYS.BOOT_STATUS_BOOT_PINS

def bootFlash : Nat := 0
def bootHost : Nat := 1
def bootUart : Nat := 2
def bootTest : Nat := 3

/-! ## The boot configuration record (R119) -/

/-- A little-endian field of the record. -/
def State.cfgNat (s : State) (off n : Nat) : Nat := s.mramNat (0x30000 + off) n

/-- The BOOT_ERROR code of the record, 0 where it is good: MAGIC, VERSION, LENGTH and CHECK. -/
def State.cfgCheck (s : State) : Nat :=
  let len := s.cfgNat 4 4
  if s.cfgNat 0 2 ≠ 0xC5B0 then 1
  else if s.cfgNat 2 1 ≠ 1 ∨ len % 8 ≠ 0 ∨ len < 0xE0 ∨ 0x8000 < len then 2
  else if s.cfgNat 8 4 ≠ crc32c ((List.range (len - 12)).map (fun i => s.mramByte (0x3000C + i))) then 2
  else 0

/-- RAILn_CFG of the record. -/
def State.tableCfg (s : State) (n : Nat) : Nat := s.cfgNat (0x20 + 12 * n) 4

/-- Is entry `n` of the record examined: is its RAIL_EN 1 (R119)? -/
def State.tableEn (s : State) (n : Nat) : Bool := (s.tableCfg n).testBit 31

/-- Entry `n` as a parent chain meets it: the record's word, or for an own rail that the record does not enable, and that is enabled
all the same (R95), its word in the fixed chain. -/
def State.chainCfg (s : State) (n : Nat) : Nat :=
  if n < 6 ∧ !s.tableEn n then (resetWord (TINDER.RAIL_CFG n)).toNat else s.tableCfg n

/-- Does the parent chain of entry `n` reach a root through enabled entries that are no input entries, within `fuel` steps? -/
def State.chainOk (s : State) (n : Nat) : Nat → Bool
  | 0 => false
  | fuel + 1 =>
    let p := bits (s.chainCfg n) 24 5
    if p = 0x1F then true
    else decide (p < 16) && (s.chainCfg p).testBit 31 && !(s.chainCfg p).testBit 29 && !(s.chainCfg n).testBit 29 && s.chainOk p fuel

/-- Is the rail table accepted (R119)? Every entry of the record with RAIL_EN 1 is examined, those of the own rails too. -/
def State.tableOk (s : State) : Bool := (List.range 16).all (fun n => !s.tableEn n || s.chainOk n 16)

/-- RAILn_CFG as the table applies it: of an own rail the record changes ON_DELAY and FILTER, two of its times (R95), and nothing
else; a board entry takes the record's word. -/
def State.appliedCfg (s : State) (n : Nat) : Word :=
  let w := BitVec.ofNat 32 (s.tableCfg n)
  if n < 6 then (s.reg (TINDER.RAIL_CFG n) &&& 0xFF000000#32) ||| (w &&& 0x00FFFFFF#32) else w

/-- Levels and times of every entry, and the configuration of the board entries, are loaded (R95, R119). -/
def State.loadTable (s : State) : State :=
  s.each (List.range 16) (fun t n =>
    let t1 := t.setReg (TINDER.RAIL_CFG n) (s.appliedCfg n)
    (t1.setReg (TINDER.RAIL_LEVELS n) (BitVec.ofNat 32 (s.cfgNat (0x24 + 12 * n) 4 % 2 ^ 30))).setReg (TINDER.RAIL_TIME n)
      (BitVec.ofNat 32 (s.cfgNat (0x28 + 12 * n) 4) &&& 0xFFFFF3FF#32))

/-- The board entries rise (R93, R97, R105): an input entry is judged from now on with its EN low, the others wait for their parent. -/
def State.startBoard (s : State) : State :=
  s.each (pick 16 (fun n => decide (6 ≤ n) && s.railEn n)) State.riseRail

/-- Step 3 of R117: the record is read and checked, the trip flag reconciled, the rail table applied. -/
def State.bootConfig (s : State) : State :=
  let code := s.cfgCheck
  let s1 := if s.journalTrip then s.setTinder { s.tinder with trip := true } else s
  let s2 := s1.setTinder { s1.tinder with tableRead := true }
  if code ≠ 0 then (s2.bootError code).seqProgress
  else
    let s3 := (s2.setTinder { s2.tinder with cfgValid := true, rewriteOff := (s.cfgNat 12 4).testBit 0 }).setReg TINDER.PB_CFG
      (BitVec.ofNat 32 (s.cfgNat 16 4 % 2 ^ 12))
    if s3.tableOk then ((s3.loadTable).startBoard).seqProgress else (s3.bootError 3).seqProgress

/-! ## The script (R119) -/

/-- May the script write offset `a`: the CTRL of a block or a block register at +0x020 or above, not of SYS or TINDER? -/
def scriptOk (a : Nat) : Bool :=
  match blockOf a with
  | some (b, u, r) => decide (b.code ≠ 0x7840) && decide (b.code ≠ 1) && decide (a % 4 = 0) && (decide (r = 4) || decide (0x20 ≤ r)) && known b.code u a r
  | none => false

/-- The pairs of the record in order, up to the first that is refused. -/
def State.scriptFrom (s : State) (off : Nat) : Nat → State
  | 0 => s
  | k + 1 =>
    let a := s.cfgNat off 4
    if scriptOk a then State.scriptFrom (s.busWrite a (s.cfgNat (off + 4) 4) 15) (off + 8) k else s.bootError 4

/-- Step 6 of R117: the script of a good record, then BOOT_STAGE 0x2. -/
def State.script (s : State) : State :=
  (if s.tinder.cfgValid then s.scriptFrom 0xE0 ((s.cfgNat 4 4 - 0xE0) / 8) else s).setStage 2

/-! ## Release (R113, R114) -/

/-- The fabric leaves reset: BOOT pins and Ember mirrors are latched, WAKE too, Hearth's latch follows the journal, the laser enables
their conditions (R41, R126, R428, R518). -/
def State.releaseLatch (s : State) : State :=
  let s1 := (s.setFld SYS.BOOT_STATUS_BOOT_PINS s.tinder.bootPins).setReg SYS.RESET_COUNT (BitVec.ofNat 32 s.tinder.count)
  let s2 := ((s1.setFld SYS.RESET_CAUSE_TRIP_MIRROR (bit s.tinder.trip)).setFld SYS.RESET_CAUSE_VBAT_LOST (bit s.tinder.vbatLost)).setFld
    SYS.RESET_CAUSE_CAUSE s.tinder.cause
  let s3 := s2.setFld TINDER.SEQ_STATUS_WAKE s.tinder.wakeNext
  (s3.setTinder { s3.tinder with vbatLost := false, inReset := false, outputsHeld := false }).latchInit.laserAll

/-- Steps 3 to 6 of R117 as the boot source has them: TEST reads no configuration, UART applies no script (R118).
A TEST boot leaves the whole of step 3 out, the reconciliation of the trip flag with the journal (R121) too: R118 only says that it
does not read the boot configuration (assumption 47). -/
def State.bootSteps (s : State) : State :=
  let src := s.bootSource
  if src = bootTest then (s.setTinder { s.tinder with tableRead := true }).seqProgress
  else
    let s1 := s.bootConfig
    if src = bootFlash then s1.setStage 1 else if src = bootHost then s1.script else s1

/-- The boot ROM has read SFDP: the flash it found, or none (R116). -/
def State.foundFlash (s : State) (part : Option FlashPart) : State := s.setTinder { s.tinder with flashPart := part }

/-- DOMAIN_RELEASE (R113, R114): the PLL of domain `d` has held lock for 64 µs and 16 clean edges have followed. -/
def execDomainRelease (d : Nat) (s : State) : Result :=
  if 5 ≤ d ∨ !s.tinder.vstby ∨ s.tinder.por ∨ s.phase < 1 ∨ 5 < s.phase ∨ !s.ownGood ∨ !s.on (CLOCK.PLL_STATUS_LOCKED d) ∨ s.domain d then .next s
  else
    let s1 := State.setFld (s.setTinder { s.tinder with released := withBit s.tinder.released d true }) ⟨SYS.BOOT_STATUS, 8 + d, 1⟩ 0
    if d = 0 ∧ s1.tinder.inReset then
      let s2 := s1.releaseLatch
      .next (if s2.bootStage = 0xF then s2 else s2.bootSteps)
    else .next (if d = 1 then s1.trainOn else s1)

/-- CLOCK_HOLD (R114, R125): a domain is not released 10 ms after the own rails became good. Where that fails the boot, the flash
port serves the flash that the boot ROM has found. -/
def execClockHold (x : HeldDomain) (s : State) : Result :=
  let d := x.domain
  if 5 ≤ d ∨ !s.ownGood ∨ s.domain d then .next s
  else
    let s1 := s.setFld ⟨SYS.BOOT_STATUS, 8 + d, 1⟩ 1
    .next (if d = 0 ∨ (d = 3 ∧ s.bootSource = bootHost) then (s1.foundFlash x.part).bootFail 7 else s1)

/-! ## The image and ready (R116–R118, R245) -/

/-- IMAGE_LOADED (R115, R116, R245): the flash was found, or not, and its image is checked, loaded into the Stewards and started. -/
def execImageLoaded (part : Option FlashPart) (s : State) : Result :=
  if s.bootStage ≠ 1 ∨ s.bootSource ≠ bootFlash then .next s
  else if part.isNone then .next ((s.foundFlash none).bootFail 5)
  else
    let s1 := s.foundFlash part
    let run := s1.calRun
    let image := match icxImage s1.flashByte (2 ^ 32) run.2 with
      | some l => (l.filter (fun (p : IcxProgram) => decide (p.target = 32)), l.filter (fun (p : IcxProgram) => decide (p.target = 33)))
      | none => ([], [])
    match image with
    | ([p], [q]) =>
      let s2 := s1.loadProgram s1.flashByte 32 (run.1 + run.2 - p.cal - q.cal) p
      let s3 := s2.loadProgram s1.flashByte 33 (run.1 + run.2 - q.cal) q
      .next ((s3.runCore 32).runCore 33).script
    | _ => .next (s1.bootFail 6)

/-- BOOT_READY (R19, R117, R118): BOOT_STAGE reaches 0x3; `part`: the flash the boot ROM found by SFDP (R125). -/
def execBootReady (part : Option FlashPart) (s : State) : Result :=
  let src := s.bootSource
  let s1 := if src = bootHost ∨ src = bootUart then s.foundFlash part else s
  let go := s1.setStage 3
  if s.tinder.inReset then .next s
  else if src = bootTest then (if s.bootStage = 0 then .next (go.bootError 9) else .next s)
  else if src = bootUart then (if s.bootStage = 0 then .next (go.bootError 8) else .next s)
  else if s.bootStage = 2 then .next (if go.safeOutstanding then go.enterSafe else go.enterBanked)
  else .next s

/-! ## UART recovery (R122, R123) -/

/-- Does the boot ROM serve the UART (R118)? -/
def State.uartServes (s : State) : Bool := !s.tinder.inReset && decide (s.bootSource = bootUart) && decide (s.bootStage = 3)

/-- Does it hunt for the next frame (R123)? A frame that comes as one command of its own comes whole. -/
def State.uartOpen (s : State) : Bool := s.uartServes && s.tinder.uartPartial.isEmpty

/-- The reply to command byte `cmd`: its status, then data. -/
def uartReply (cmd status : Nat) (data : List Nat) : List Nat :=
  let body := [cmd % 256 ||| 0x80] ++ leBytes 2 (data.length + 1) ++ [status] ++ data
  [0x5A] ++ body ++ leBytes 4 (crc32c body)

/-- Sends a reply. -/
def State.uart (s : State) (cmd status : Nat) (data : List Nat) : State := s.answer (uartReply cmd status data)

/-- UART_IDENT: SYS ID and BOOT_STATUS. -/
def execUartIdent (s : State) : Result :=
  if s.uartOpen then .next (s.uart 1 0 (leBytes 4 (s.reg SYS.ID).toNat ++ leBytes 4 (s.reg SYS.BOOT_STATUS).toNat)) else .next s

/-- UART_MRAM_READ: any partition; a range that leaves it, or more than a reply holds, is refused. -/
def execUartMramRead (part offset len : Nat) (s : State) : Result :=
  if !s.uartOpen then .next s
  else if 4 ≤ part ∨ partSize part < offset + len ∨ 1023 < len then .next (s.uart 2 2 [])
  else .next (s.uart 2 0 ((List.range len).map (fun i => s.mramByte (partBase part + offset + i))))

/-- UART_MRAM_WRITE: the boot configuration or customer partition only; `ok` is false on a device error, which leaves the bytes free. -/
def execUartMramWrite (part offset : Nat) (data : List Nat) (ok : Bool) (s : State) : Result :=
  if !s.uartOpen then .next s
  else if part < 2 ∨ 4 ≤ part ∨ partSize part < offset + data.length then .next (s.uart 3 2 [])
  else if ok then .next ((s.setMram (partBase part + offset) data).uart 3 0 [])
  else
    let (f, s1) := s.freeBytes data.length
    .next ((s1.setMram (partBase part + offset) f).uart 3 3 [])

/-- UART_FLASH_READ. -/
def execUartFlashRead (offset len : Nat) (ok : Bool) (s : State) : Result :=
  if !s.uartOpen then .next s
  else if 1023 < len then .next (s.uart 4 2 [])
  else if s.tinder.flashPart.isNone || !ok then .next (s.uart 4 3 [])
  else .next (s.uart 4 0 ((List.range len).map (fun i => s.flashByte (offset + i))))

/-- UART_FLASH_ERASE: one 4 KiB sector; a device error leaves its content free. -/
def execUartFlashErase (offset : Nat) (ok : Bool) (s : State) : Result :=
  if !s.uartOpen then .next s
  else if offset % 4096 ≠ 0 then .next (s.uart 5 2 [])
  else if s.tinder.flashPart.isNone then .next (s.uart 5 3 [])
  else if ok then .next ((s.flashErase offset).uart 5 0 [])
  else .next ((s.flashSpoil offset 4096).uart 5 3 [])

/-- UART_FLASH_WRITE: up to one 256-byte page; a device error leaves its bytes free. -/
def execUartFlashWrite (offset : Nat) (data : List Nat) (ok : Bool) (s : State) : Result :=
  if !s.uartOpen then .next s
  else if 256 < offset % 256 + data.length then .next (s.uart 6 2 [])
  else if s.tinder.flashPart.isNone then .next (s.uart 6 3 [])
  else if ok then .next ((s.flashProgram offset data).uart 6 0 [])
  else .next ((s.flashSpoil offset data.length).uart 6 3 [])

/-- The reply to a whole frame of command byte `cmd` with `len` payload bytes whose CRC is right or not (R122, R123): IDENT its data,
every other frame status 2: the layout of the other payloads is not given, and a frame that fits comes as a command of its own
(assumption 52). -/
def State.frameReply (s : State) (cmd len : Nat) (crcOk : Bool) : List Nat :=
  if !crcOk then uartReply cmd 1 []
  else if cmd = 1 ∧ len = 0 then uartReply 1 0 (leBytes 4 (s.reg SYS.ID).toNat ++ leBytes 4 (s.reg SYS.BOOT_STATUS).toNat)
  else uartReply cmd 2 []

/-- What the boot ROM makes of the bytes received (R123): the replies it sends, and the bytes of a frame cut short.
It hunts for 0x5A; a frame that is too long gets its reply at once, without its payload, and the hunt goes on behind its length. -/
def State.uartTake (s : State) : Nat → List Nat → List Nat × List Nat
  | 0, _ => ([], [])
  | fuel + 1, l =>
    let all := l.dropWhile (fun b => decide (b ≠ 0x5A))
    let f := all.drop 1
    let cmd := f.getD 0 0
    let len := fieldAt f 1 2
    if f.length < 3 then ([], all)
    else if 1024 < len then
      let (r, rest) := s.uartTake fuel (f.drop 3)
      (uartReply cmd 2 [] ++ r, rest)
    else if f.length < len + 7 then ([], all)
    else
      let (r, rest) := s.uartTake fuel (f.drop (len + 7))
      (s.frameReply cmd len (decide (fieldAt f (3 + len) 4 = crc32c (f.take (3 + len)))) ++ r, rest)

/-- UART_FRAME_REFUSED (R123): bytes arrive; every frame they complete gets its one reply, and a frame cut short is waited for. -/
def execUartFrameRefused (frame : List Nat) (s : State) : Result :=
  if !s.uartServes then .next s
  else
    let l := (s.tinder.uartPartial ++ frame).map (· % 256)
    let (r, rest) := s.uartTake (l.length + 1) l
    let s1 := s.setTinder { s.tinder with uartPartial := rest }
    .next (if r = [] then s1 else s1.answer r)

/-- UART_FRAME_GAP (R123): more than 10 ms between two bytes discards the partial frame without a reply. -/
def execUartFrameGap (s : State) : Result := .next (s.setTinder { s.tinder with uartPartial := [] })

end Sys2Proof.Machine
end

