-- ==== Sys2Proof/Machine/Cord.lean ====
section
/-!
DEFINITION. Cord: counted currents, forecasts, the decision of a half-cycle and overdraw (R504, R527–R532).
Currents are in 10 mA, accumulators in 1/65,536.
-/

namespace Sys2Proof.Machine

/-- V_NOM of a phase: below 100 acts as 100 (R527). -/
def State.vNom (s : State) (p : Nat) : Nat := max 100 (s.fld (CORD.P_BUDGET_V_NOM p))

/-- The budget of a phase. -/
def State.budget (s : State) (p : Nat) : Nat := 25 * s.fld (CORD.P_BUDGET_BUDGET p)

/-- The current of lamp `n` (R527). -/
def State.lampCurrent (s : State) (p n : Nat) : Nat := ceilDiv (100 * s.fld (HEARTH.H_CFG_WATTS n)) (s.vNom p)

/-- What axis `a` declares: the peak of an acceleration, scaled once ten have been seen, MAX_POWER before; BASE of an axis whose bridges
act; nothing of one at rest with its bridges off (R495, R528). -/
def State.declaredPower (s : State) (b a : Nat) : Nat :=
  match (s.axis a).declared with
  | some w => if s.fld (CORD.BUS_LEARN_RAMPS b) < 10 then s.fld (CORD.BUS_CFG_MAX_POWER b) else ceilDiv (w * s.fld (CORD.BUS_LEARN_SCALE b)) 256
  | none =>
    let p := s.axPhase a
    if p = phOff ∨ p = phIdle ∨ p = phCoast then 0 else s.fld (axf FOC.FORECAST_BASE STEP.FORECAST_BASE a)

/-- The forecast of bus group `b` (R528). -/
def State.busPower (s : State) (b : Nat) : Nat :=
  (pick 20 (fun a => decide (s.axBus a = b))).foldl (fun x a => x + s.declaredPower b a) 0

/-- PHASES of a bus group; 0 acts as phase 0 (R538). -/
def State.busPhases (s : State) (b : Nat) : Nat := if s.fld (CORD.BUS_CFG_PHASES b) = 0 then 1 else s.fld (CORD.BUS_CFG_PHASES b)

/-- The current of bus group `b` on phase `p` (R527). -/
def State.busCurrent (s : State) (p b : Nat) : Nat :=
  let m := s.busPhases b
  if m.testBit p then
    ceilDiv (25600 * s.busPower b) (s.vNom p * max 128 (s.fld (CORD.BUS_CFG_PF b)) * (pick 3 (fun i => m.testBit i)).length)
  else 0

/-- The enabled zone that has lamp `n`. -/
def State.zoneOf (s : State) (n : Nat) : Option Nat := (List.range 8).find? (fun z => s.zoneOn z && s.fbit (HEARTH.Z_CFG_LAMPS z) n)

/-- Priority of lamp `n`; 5 for a lamp in no enabled zone. -/
def State.lampPriority (s : State) (n : Nat) : Nat :=
  match s.zoneOf n with
  | some z => s.zonePriority z
  | none => 5

/-- Does request `a` come before request `b`: priority, then the larger accumulator, then the lower number (R530)? -/
def State.before (s : State) (a b : Nat) : Bool :=
  let pa := s.lampPriority a
  let pb := s.lampPriority b
  decide (pa < pb) || (decide (pa = pb) && (decide ((s.lamp b).acc < (s.lamp a).acc) || (decide ((s.lamp a).acc = (s.lamp b).acc) && decide (a < b))))

/-- Inserts a lamp in that order. -/
def State.insertLamp (s : State) (n : Nat) : List Nat → List Nat
  | [] => [n]
  | m :: t => if s.before n m then n :: m :: t else m :: s.insertLamp n t

/-- Lamps in that order. -/
def State.inOrder (s : State) (l : List Nat) : List Nat := l.foldl (fun r n => s.insertLamp n r) []

/-- Requests granted in order while they fit (R530). -/
def State.fill (s : State) (p room : Nat) : List Nat → List Nat
  | [] => []
  | n :: t => if s.lampCurrent p n ≤ room then n :: s.fill p (room - s.lampCurrent p n) t else s.fill p room t

/-- The decision for phase `p` (R504, R506, R527–R531). -/
def State.decide' (s : State) (p : Nat) : State :=
  -- step 4 of R504: every lamp in an enabled zone adds its zone's output, to 2 at most
  let lamps := (s.phaseLamps p).filter (fun n => (s.zoneOf n).isSome)
  let s1 := s.each lamps (fun t n => t.setLamp n { t.lamp n with
    acc := min 131072 ((t.lamp n).acc + (match t.zoneOf n with
      | some z => (t.fld (HEARTH.Z_STATUS_U z) : Int)
      | none => 0)) })
  let wants := lamps.filter (fun n => decide (65536 ≤ (s1.lamp n).acc))
  let ok := s.phaseOk p
  let free := decide (s.budget p = 0)
  let order := s1.inOrder wants
  let first := if ok then order.filter (fun n => decide (s1.lampPriority n = 1)) else []
  let hv := if (List.range 32).any (fun n => s.on (HV.V_STATUS_OUTPUT n)) then s.fld (CORD.P_LOADS_HV_LOAD p) else 0
  let fixed := s.fld (CORD.P_LOADS_FIXED p) + hv + (List.range 8).foldl (fun x b => x + s.busCurrent p b) 0
  let sum := fun (l : List Nat) => l.foldl (fun x n => x + s1.lampCurrent p n) 0
  let n := if free then 0 else fixed + sum first
  let rest := order.filter (fun x => !first.contains x)
  let filled := if !ok then [] else if free then rest else s1.fill p (s.budget p - n) rest
  let granted := first ++ filled
  -- R531
  let on := fun (x : Nat) => s.on (HEARTH.H_STATUS_ON x)
  let starts := granted.filter (fun x => !on x)
  let held := if free then [] else starts.drop 1
  let kept := granted.filter (fun x => !held.contains x)
  let stops := if ok && !free then lamps.filter (fun x => on x && !wants.contains x) else []
  let last := (s1.inOrder stops).foldl (fun (m : Option Nat) x => match m with
    | none => some x
    | some y => if s1.lampPriority y < s1.lampPriority x ∨ (s1.lampPriority y = s1.lampPriority x ∧ y < x) then some x else some y) none
  let more := s1.fill p (s.budget p - (n + sum (kept.filter (fun x => !first.contains x)))) (s1.inOrder (stops.filter (fun x => decide (some x ≠ last))))
  let lit := kept ++ more
  let denied := wants.filter (fun x => !lit.contains x)
  -- R504: a grant subtracts 1, a denied request is kept
  let s2 := s1.each lamps (fun t x =>
    let y := t.lamp x
    t.setLamp x { y with granted := lit.contains x, acc := if lit.contains x then y.acc - 65536 else y.acc })
  let s3 := s2.each wants (fun t x =>
    let no := denied.contains x
    let u := t.setFld (HEARTH.H_STATUS_LAST_DENIED x) (bit no)
    if no then u.bump (HEARTH.H_STATUS_DENIED x) 1 else u)
  let s4 := if denied = [] then s3 else s3.event CORD.INT_STAT_DENY_EV
  let total := fun (l : List Nat) => if free then 0 else n + sum (l.filter (fun x => !first.contains x))
  let s5 := (s4.setFld (CORD.P_STATUS_DEMAND p) (min 0xFFFF (total wants))).setFld (CORD.P_STATUS_GRANTED p) (min 0xFFFF (total lit))
  let s6 := s5.each (pick 8 (fun b => (s.busPhases b).testBit p)) (fun t b => t.setFld (CORD.BUS_NOW_CURRENT b) (if free then 0 else min 0xFFFF (s.busCurrent p b)))
  -- R532
  let over' := !free && decide (s.budget p < n)
  let was := s.on (CORD.P_OVER_OVERDRAWN p)
  let run := if over' then satAdd 16 (s.fld (CORD.P_OVER_RUN p)) 1 else 0
  let s7 := (s6.setFld (CORD.P_OVER_OVERDRAWN p) (bit over')).setFld (CORD.P_OVER_RUN p) run
  let s8 := if over' && !was then s7.event CORD.INT_STAT_OVER_EV else s7
  let hertz := (s.sfld (GAUGE.G_RATE_RATE (24 + p))).natAbs * 1000 / 8192
  if over' && (decide (105 * s.budget p < 100 * n) || decide (4 * hertz ≤ run)) then s8.raise 0xF 0 0 false else s8

/-- CORD_DECISION (R503 step 4, R504, R530–R532): the point c + 0.5 of phase `p`. -/
def execCordDecision (p : Nat) (s : State) : Result := if p < 3 then .next (s.decide' p) else .next s

/-- ACCELERATION_END (R528): an acceleration of axis `a` ends; its group drew `measured` W at most while it lasted. -/
def execAccelerationEnd (a measured : Nat) (s : State) : Result :=
  match (s.axis a).declared with
  | none => .next s
  | some _ =>
    let b := s.axBus a
    let declared := (pick 20 (fun i => decide (s.axBus i = b))).foldl (fun x i => x + (match (s.axis i).declared with
      | some w => w
      | none => if s.axPhase i = phOff ∨ s.axPhase i = phIdle ∨ s.axPhase i = phCoast then 0 else s.fld (axf FOC.FORECAST_BASE STEP.FORECAST_BASE i))) 0
    let (ratio, s0) := if declared = 0 then s.free else (ceilDiv (256 * measured) declared, s)
    let l := ((min 0xFFFF (max 256 ratio)) :: Tbl.get (fun _ => []) s.ratios b).take 10
    let ramps := min 10 (s.fld (CORD.BUS_LEARN_RAMPS b) + 1)
    let s1 := { s0 with ratios := Tbl.put (fun _ => []) s0.ratios b l }
    let s2 := (s1.setFld (CORD.BUS_LEARN_RAMPS b) ramps).setFld (CORD.BUS_LEARN_SCALE b) (l.foldl max 256)
    let s3 := s2.setAxis a { s2.axis a with declared := none }
    .next (if ramps = 10 ∧ s.fld (CORD.BUS_LEARN_RAMPS b) ≠ 10 then s3.event CORD.INT_STAT_LEARNED_EV else s3)

end Sys2Proof.Machine
end

