-- ==== Sys2Proof/Machine/Dispatch.lean ====
section
/-!
DEFINITION. The effect of each command on everything but the queue: one arm per constructor, each one direct call of its meaning.
-/

namespace Sys2Proof.Machine

def exec (i : Instr) (s : State) : Host.Outcome State Fault Refusal :=
  match i with
  | .vstbyRise levels => Sys2Proof.Machine.execVstbyRise levels s
  | .powerOnReset => Sys2Proof.Machine.execPowerOnReset s
  | .vstbyLost => Sys2Proof.Machine.execVstbyLost s
  | .porEnd => Sys2Proof.Machine.execPorEnd s
  | .xtalMissing => Sys2Proof.Machine.execXtalMissing s
  | .sequenceStart => Sys2Proof.Machine.execSequenceStart s
  | .railOnDelayExpiry n => Sys2Proof.Machine.execRailOnDelayExpiry n s
  | .railGood n => Sys2Proof.Machine.execRailGood n s
  | .railTimeout n => Sys2Proof.Machine.execRailTimeout n s
  | .railMonitorSample n vm pg us => Sys2Proof.Machine.execRailMonitorSample n vm pg us s
  | .railFail n => Sys2Proof.Machine.execRailFail n s
  | .inputReturnRestart => Sys2Proof.Machine.execInputReturnRestart s
  | .railDischargeTimeout n => Sys2Proof.Machine.execRailDischargeTimeout n s
  | .holdOffEnd => Sys2Proof.Machine.execHoldOffEnd s
  | .railRetry n => Sys2Proof.Machine.execRailRetry n s
  | .pbShortPress => Sys2Proof.Machine.execPbShortPress s
  | .pbLongPress => Sys2Proof.Machine.execPbLongPress s
  | .pbWake => Sys2Proof.Machine.execPbWake s
  | .shutdownReq => Sys2Proof.Machine.execShutdownReq s
  | .powerDown => Sys2Proof.Machine.execPowerDown s
  | .shutdownTimeout => Sys2Proof.Machine.execShutdownTimeout s
  | .resetNAssert => Sys2Proof.Machine.execResetNAssert s
  | .domainRelease d => Sys2Proof.Machine.execDomainRelease d s
  | .clockHold d => Sys2Proof.Machine.execClockHold d s
  | .imageLoaded part => Sys2Proof.Machine.execImageLoaded part s
  | .bootReady part => Sys2Proof.Machine.execBootReady part s
  | .uartIdent => Sys2Proof.Machine.execUartIdent s
  | .uartMramRead part offset len => Sys2Proof.Machine.execUartMramRead part offset len s
  | .uartMramWrite part offset data ok => Sys2Proof.Machine.execUartMramWrite part offset data ok s
  | .uartFlashRead offset len ok => Sys2Proof.Machine.execUartFlashRead offset len ok s
  | .uartFlashErase offset ok => Sys2Proof.Machine.execUartFlashErase offset ok s
  | .uartFlashWrite offset data ok => Sys2Proof.Machine.execUartFlashWrite offset data ok s
  | .uartFrameRefused frame => Sys2Proof.Machine.execUartFrameRefused frame s
  | .uartFrameGap => Sys2Proof.Machine.execUartFrameGap s
  | .mramWordWrite value => Sys2Proof.Machine.execMramWordWrite value s
  | .mramWriteDone ok => Sys2Proof.Machine.execMramWriteDone ok s
  | .flashRead len => Sys2Proof.Machine.execFlashRead len s
  | .flashErase key => Sys2Proof.Machine.execFlashErase key s
  | .flashProgram key len => Sys2Proof.Machine.execFlashProgram key len s
  | .flashOpDone => Sys2Proof.Machine.execFlashOpDone s
  | .flashOpTimeout => Sys2Proof.Machine.execFlashOpTimeout s
  | .run => Sys2Proof.Machine.execRun s
  | .bank => Sys2Proof.Machine.execBank s
  | .stop => Sys2Proof.Machine.execStop s
  | .clear => Sys2Proof.Machine.execClear s
  | .engineReady => Sys2Proof.Machine.execEngineReady s
  | .orderlyShutdownFinish => Sys2Proof.Machine.execOrderlyShutdownFinish s
  | .faultClear code mask => Sys2Proof.Machine.execFaultClear code mask s
  | .faultForce code mask => Sys2Proof.Machine.execFaultForce code mask s
  | .intStatClear code mask => Sys2Proof.Machine.execIntStatClear code mask s
  | .w1cClear addr value => Sys2Proof.Machine.execW1cClear addr value s
  | .registerWrite addr value how => Sys2Proof.Machine.execRegisterWrite addr value how s
  | .loReadLatch access => Sys2Proof.Machine.execLoReadLatch access s
  | .capPosHiRead k => Sys2Proof.Machine.execCapPosHiRead k s
  | .evictLogRead => Sys2Proof.Machine.execEvictLogRead s
  | .poisonOffsetRead => Sys2Proof.Machine.execPoisonOffsetRead s
  | .pllReacquire p dither value => Sys2Proof.Machine.execPllReacquire p dither value s
  | .pllLock p => Sys2Proof.Machine.execPllLock p s
  | .pllUnlock p refOk => Sys2Proof.Machine.execPllUnlock p refOk s
  | .xtalLost => Sys2Proof.Machine.execXtalLost s
  | .bdEdge k t x => Sys2Proof.Machine.execBdEdge k t x s
  | .bdWindowMissed k => Sys2Proof.Machine.execBdWindowMissed k s
  | .predictedSyncEvent k x => Sys2Proof.Machine.execPredictedSyncEvent k x s
  | .gclkDivWrite k div withReset => Sys2Proof.Machine.execGclkDivWrite k div withReset s
  | .syncInEdge => Sys2Proof.Machine.execSyncInEdge s
  | .phaseReset k => Sys2Proof.Machine.execPhaseReset k s
  | .gclkEnable k on => Sys2Proof.Machine.execGclkEnable k on s
  | .gclkGatedClear k => Sys2Proof.Machine.execGclkGatedClear k s
  | .encoderEdge n a b err rate => Sys2Proof.Machine.execEncoderEdge n a b err rate s
  | .indexEdge n => Sys2Proof.Machine.execIndexEdge n s
  | .auxEdge n err rate => Sys2Proof.Machine.execAuxEdge n err rate s
  | .zcEdge n rising err rate => Sys2Proof.Machine.execZcEdge n rising err rate s
  | .gaugeCoastStart n => Sys2Proof.Machine.execGaugeCoastStart n s
  | .signalLost n => Sys2Proof.Machine.execSignalLost n s
  | .remoteStamp k pos rate locked => Sys2Proof.Machine.execRemoteStamp k pos rate locked s
  | .remoteLost k => Sys2Proof.Machine.execRemoteLost k s
  | .resume gauge => Sys2Proof.Machine.execResume gauge s
  | .flush gauge => Sys2Proof.Machine.execFlush gauge s
  | .preset n => Sys2Proof.Machine.execPreset n s
  | .vgCommit k => Sys2Proof.Machine.execVgCommit k s
  | .rgSrcWrite k value crossing lat => Sys2Proof.Machine.execRgSrcWrite k value crossing lat s
  | .captureEdge k rising => Sys2Proof.Machine.execCaptureEdge k rising s
  | .facetIdRunEnd k => Sys2Proof.Machine.execFacetIdRunEnd k s
  | .assume k => Sys2Proof.Machine.execAssume k s
  | .restart k => Sys2Proof.Machine.execRestart k s
  | .armGoArm => Sys2Proof.Machine.execArmGoArm s
  | .armGoDisarm => Sys2Proof.Machine.execArmGoDisarm s
  | .calendarAccept => Sys2Proof.Machine.execCalendarAccept s
  | .calendarInsertDone entry => Sys2Proof.Machine.execCalendarInsertDone entry s
  | .entryCrossing gauge value => Sys2Proof.Machine.execEntryCrossing gauge value s
  | .calendarFireDeferred gauge => Sys2Proof.Machine.execCalendarFireDeferred gauge s
  | .haltEntryRemoval core => Sys2Proof.Machine.execHaltEntryRemoval core s
  | .entrySel entry => Sys2Proof.Machine.execEntrySel entry s
  | .add core rd rs1 rs2 => Sys2Proof.Machine.execAdd core rd rs1 rs2 s
  | .sub core rd rs1 rs2 => Sys2Proof.Machine.execSub core rd rs1 rs2 s
  | .and core rd rs1 rs2 => Sys2Proof.Machine.execAnd core rd rs1 rs2 s
  | .or core rd rs1 rs2 => Sys2Proof.Machine.execOr core rd rs1 rs2 s
  | .xor core rd rs1 rs2 => Sys2Proof.Machine.execXor core rd rs1 rs2 s
  | .andn core rd rs1 rs2 => Sys2Proof.Machine.execAndn core rd rs1 rs2 s
  | .sll core rd rs1 rs2 => Sys2Proof.Machine.execSll core rd rs1 rs2 s
  | .srl core rd rs1 rs2 => Sys2Proof.Machine.execSrl core rd rs1 rs2 s
  | .sra core rd rs1 rs2 => Sys2Proof.Machine.execSra core rd rs1 rs2 s
  | .lts core rd rs1 rs2 => Sys2Proof.Machine.execLts core rd rs1 rs2 s
  | .ltu core rd rs1 rs2 => Sys2Proof.Machine.execLtu core rd rs1 rs2 s
  | .min core rd rs1 rs2 => Sys2Proof.Machine.execMin core rd rs1 rs2 s
  | .max core rd rs1 rs2 => Sys2Proof.Machine.execMax core rd rs1 rs2 s
  | .minu core rd rs1 rs2 => Sys2Proof.Machine.execMinu core rd rs1 rs2 s
  | .maxu core rd rs1 rs2 => Sys2Proof.Machine.execMaxu core rd rs1 rs2 s
  | .clz core rd rs1 => Sys2Proof.Machine.execClz core rd rs1 s
  | .popc core rd rs1 => Sys2Proof.Machine.execPopc core rd rs1 s
  | .slli core rd rs1 sh => Sys2Proof.Machine.execSlli core rd rs1 sh s
  | .srli core rd rs1 sh => Sys2Proof.Machine.execSrli core rd rs1 sh s
  | .srai core rd rs1 sh => Sys2Proof.Machine.execSrai core rd rs1 sh s
  | .mullo core rd rs1 rs2 => Sys2Proof.Machine.execMullo core rd rs1 rs2 s
  | .mulhs core rd rs1 rs2 => Sys2Proof.Machine.execMulhs core rd rs1 rs2 s
  | .mulhu core rd rs1 rs2 => Sys2Proof.Machine.execMulhu core rd rs1 rs2 s
  | .mulhm core rd rs1 rs2 => Sys2Proof.Machine.execMulhm core rd rs1 rs2 s
  | .divs core rd rs1 rs2 => Sys2Proof.Machine.execDivs core rd rs1 rs2 s
  | .divu core rd rs1 rs2 => Sys2Proof.Machine.execDivu core rd rs1 rs2 s
  | .mods core rd rs1 rs2 => Sys2Proof.Machine.execMods core rd rs1 rs2 s
  | .modu core rd rs1 rs2 => Sys2Proof.Machine.execModu core rd rs1 rs2 s
  | .addi core rd rs1 imm => Sys2Proof.Machine.execAddi core rd rs1 imm s
  | .andi core rd rs1 imm => Sys2Proof.Machine.execAndi core rd rs1 imm s
  | .ori core rd rs1 imm => Sys2Proof.Machine.execOri core rd rs1 imm s
  | .xori core rd rs1 imm => Sys2Proof.Machine.execXori core rd rs1 imm s
  | .ltsi core rd rs1 imm => Sys2Proof.Machine.execLtsi core rd rs1 imm s
  | .ltui core rd rs1 imm => Sys2Proof.Machine.execLtui core rd rs1 imm s
  | .lui core rd imm => Sys2Proof.Machine.execLui core rd imm s
  | .lb core rd rs1 imm => Sys2Proof.Machine.execLb core rd rs1 imm s
  | .lbu core rd rs1 imm => Sys2Proof.Machine.execLbu core rd rs1 imm s
  | .lh core rd rs1 imm => Sys2Proof.Machine.execLh core rd rs1 imm s
  | .lhu core rd rs1 imm => Sys2Proof.Machine.execLhu core rd rs1 imm s
  | .lw core rd rs1 imm => Sys2Proof.Machine.execLw core rd rs1 imm s
  | .pld core pd rs1 imm => Sys2Proof.Machine.execPld core pd rs1 imm s
  | .sb core rt rs1 imm => Sys2Proof.Machine.execSb core rt rs1 imm s
  | .sh core rt rs1 imm => Sys2Proof.Machine.execSh core rt rs1 imm s
  | .sw core rt rs1 imm => Sys2Proof.Machine.execSw core rt rs1 imm s
  | .pst core ps rs1 imm => Sys2Proof.Machine.execPst core ps rs1 imm s
  | .beq core rt rs1 imm => Sys2Proof.Machine.execBeq core rt rs1 imm s
  | .bne core rt rs1 imm => Sys2Proof.Machine.execBne core rt rs1 imm s
  | .blt core rt rs1 imm => Sys2Proof.Machine.execBlt core rt rs1 imm s
  | .bge core rt rs1 imm => Sys2Proof.Machine.execBge core rt rs1 imm s
  | .bltu core rt rs1 imm => Sys2Proof.Machine.execBltu core rt rs1 imm s
  | .bgeu core rt rs1 imm => Sys2Proof.Machine.execBgeu core rt rs1 imm s
  | .jal core rd imm => Sys2Proof.Machine.execJal core rd imm s
  | .jalr core rd rs1 imm => Sys2Proof.Machine.execJalr core rd rs1 imm s
  | .padd core pd pa pb => Sys2Proof.Machine.execPadd core pd pa pb s
  | .psub core pd pa pb => Sys2Proof.Machine.execPsub core pd pa pb s
  | .paddc core pd pa gb => Sys2Proof.Machine.execPaddc core pd pa gb s
  | .paddf core pd pa gb => Sys2Proof.Machine.execPaddf core pd pa gb s
  | .pmov core pd pa => Sys2Proof.Machine.execPmov core pd pa s
  | .psetc core pd ga => Sys2Proof.Machine.execPsetc core pd ga s
  | .plo core gd pa => Sys2Proof.Machine.execPlo core gd pa s
  | .phi core gd pa => Sys2Proof.Machine.execPhi core gd pa s
  | .psetlo core pd ga => Sys2Proof.Machine.execPsetlo core pd ga s
  | .psethi core pd ga => Sys2Proof.Machine.execPsethi core pd ga s
  | .pcmp core gd pa pb => Sys2Proof.Machine.execPcmp core gd pa pb s
  | .pmulc core pd pa gb => Sys2Proof.Machine.execPmulc core pd pa gb s
  | .crr core rd cr => Sys2Proof.Machine.execCrr core rd cr s
  | .crw core rd cr rs1 => Sys2Proof.Machine.execCrw core rd cr rs1 s
  | .crs core rd cr rs1 => Sys2Proof.Machine.execCrs core rd cr rs1 s
  | .crc core rd cr rs1 => Sys2Proof.Machine.execCrc core rd cr rs1 s
  | .nop core => Sys2Proof.Machine.execNop core s
  | .eret core => Sys2Proof.Machine.execEret core s
  | .brk core code => Sys2Proof.Machine.execBrk core code s
  | .halt core => Sys2Proof.Machine.execHalt core s
  | .isync core => Sys2Proof.Machine.execIsync core s
  | .gaugeFaultException core => Sys2Proof.Machine.execGaugeFaultException core s
  | .breakpointHit core => Sys2Proof.Machine.execBreakpointHit core s
  | .coreRun core => Sys2Proof.Machine.execCoreRun core s
  | .coreHaltReq core => Sys2Proof.Machine.execCoreHaltReq core s
  | .haltComplete core => Sys2Proof.Machine.execHaltComplete core s
  | .coreStep core => Sys2Proof.Machine.execCoreStep core s
  | .coreReinit core => Sys2Proof.Machine.execCoreReinit core s
  | .debugRegisterWrite core value => Sys2Proof.Machine.execDebugRegisterWrite core value s
  | .debugRegisterRead core => Sys2Proof.Machine.execDebugRegisterRead core s
  | .arm core rd pa gb gauge dir ld => Sys2Proof.Machine.execArm core rd pa gb gauge dir ld s
  | .disarm core rd ga => Sys2Proof.Machine.execDisarm core rd ga s
  | .waitp core rd pa gauge dir we => Sys2Proof.Machine.execWaitp core rd pa gauge dir we s
  | .waitev core rd mask => Sys2Proof.Machine.execWaitev core rd mask s
  | .grd core pd gauge => Sys2Proof.Machine.execGrd core pd gauge s
  | .gst core gd gauge => Sys2Proof.Machine.execGst core gd gauge s
  | .gsrc core gauge ga => Sys2Proof.Machine.execGsrc core gauge ga s
  | .gc1 core gauge ga => Sys2Proof.Machine.execGc1 core gauge ga s
  | .gc2 core gauge ga => Sys2Proof.Machine.execGc2 core gauge ga s
  | .goff core gauge pa => Sys2Proof.Machine.execGoff core gauge pa s
  | .gcommit core gd gauge => Sys2Proof.Machine.execGcommit core gd gauge s
  | .objrd core rd rs1 field => Sys2Proof.Machine.execObjrd core rd rs1 field s
  | .objrdp core pd rs1 field => Sys2Proof.Machine.execObjrdp core pd rs1 field s
  | .objwr core rt rs1 field => Sys2Proof.Machine.execObjwr core rt rs1 field s
  | .objwrp core pt rs1 field => Sys2Proof.Machine.execObjwrp core pt rs1 field s
  | .objectWriteDelivery core => Sys2Proof.Machine.execObjectWriteDelivery core s
  | .send core rd ga pb => Sys2Proof.Machine.execSend core rd ga pb s
  | .remoteMessageArrival core payload source => Sys2Proof.Machine.execRemoteMessageArrival core payload source s
  | .recv core rd pa nw => Sys2Proof.Machine.execRecv core rd pa nw s
  | .slotw core gt ga pb => Sys2Proof.Machine.execSlotw core gt ga pb s
  | .objld core rd ga gb size => Sys2Proof.Machine.execObjld core rd ga gb size s
  | .objst core rt ga gb size => Sys2Proof.Machine.execObjst core rt ga gb size s
  | .qpop core rd ga q => Sys2Proof.Machine.execQpop core rd ga q s
  | .qpush core rd ga q => Sys2Proof.Machine.execQpush core rd ga q s
  | .create port => Sys2Proof.Machine.execCreate port s
  | .free port => Sys2Proof.Machine.execFree port s
  | .group port => Sys2Proof.Machine.execGroup port s
  | .placeProgram port => Sys2Proof.Machine.execPlaceProgram port s
  | .removeProgram port => Sys2Proof.Machine.execRemoveProgram port s
  | .bindAffinity port => Sys2Proof.Machine.execBindAffinity port s
  | .placerMoveDone => Sys2Proof.Machine.execPlacerMoveDone s
  | .deferredFreeDone index => Sys2Proof.Machine.execDeferredFreeDone index s
  | .stationEnable k on => Sys2Proof.Machine.execStationEnable k on s
  | .gpioSet value => Sys2Proof.Machine.execGpioSet value s
  | .gpioClr value => Sys2Proof.Machine.execGpioClr value s
  | .endpointReset cause => Sys2Proof.Machine.execEndpointReset cause s
  | .busMasterEnable d0 bme mask => Sys2Proof.Machine.execBusMasterEnable d0 bme mask s
  | .windowRead x len => Sys2Proof.Machine.execWindowRead x len s
  | .windowWrite x data => Sys2Proof.Machine.execWindowWrite x data s
  | .ringEnable cq n value => Sys2Proof.Machine.execRingEnable cq n value s
  | .sqDoorbell n value => Sys2Proof.Machine.execSqDoorbell n value s
  | .intakeFetch n data ok => Sys2Proof.Machine.execIntakeFetch n data ok s
  | .cqHeadDoorbell n value => Sys2Proof.Machine.execCqHeadDoorbell n value s
  | .intakeCompletionWrite n => Sys2Proof.Machine.execIntakeCompletionWrite n s
  | .msixUnmask v => Sys2Proof.Machine.execMsixUnmask v s
  | .sqNop q => Sys2Proof.Machine.execSqNop q s
  | .page q => Sys2Proof.Machine.execPage q s
  | .configure q => Sys2Proof.Machine.execConfigure q s
  | .withdraw q => Sys2Proof.Machine.execWithdraw q s
  | .request q => Sys2Proof.Machine.execRequest q s
  | .purge q => Sys2Proof.Machine.execPurge q s
  | .moverStart c value => Sys2Proof.Machine.execMoverStart c value s
  | .channelResume c value => Sys2Proof.Machine.execChannelResume c value s
  | .channelDisable c value => Sys2Proof.Machine.execChannelDisable c value s
  | .drainComplete c => Sys2Proof.Machine.execDrainComplete c s
  | .descriptorRead c bytes => Sys2Proof.Machine.execDescriptorRead c bytes s
  | .readCompletion c data => Sys2Proof.Machine.execReadCompletion c data s
  | .busError c kind read => Sys2Proof.Machine.execBusError c kind read s
  | .runPush k => Sys2Proof.Machine.execRunPush k s
  | .decodeBlockStart k => Sys2Proof.Machine.execDecodeBlockStart k s
  | .decodeBlockEnd k => Sys2Proof.Machine.execDecodeBlockEnd k s
  | .decoderDisable k => Sys2Proof.Machine.execDecoderDisable k s
  | .decoderFlush k => Sys2Proof.Machine.execDecoderFlush k s
  | .encoderGo k => Sys2Proof.Machine.execEncoderGo k s
  | .encoderJobEnd k streams => Sys2Proof.Machine.execEncoderJobEnd k streams s
  | .trainGo => Sys2Proof.Machine.execTrainGo s
  | .trainComplete failed => Sys2Proof.Machine.execTrainComplete failed s
  | .fullRetrain => Sys2Proof.Machine.execFullRetrain s
  | .refreshInterval c busy => Sys2Proof.Machine.execRefreshInterval c busy s
  | .mr4Poll hotA hotB => Sys2Proof.Machine.execMr4Poll hotA hotB s
  | .retrainSlice c => Sys2Proof.Machine.execRetrainSlice c s
  | .retrainSliceForced c => Sys2Proof.Machine.execRetrainSliceForced c s
  | .dramRead port ready level handle offset q sub bank row nibbles time => Sys2Proof.Machine.execDramRead port ready level handle offset q sub bank row nibbles time s
  | .patrolScrubRead handle offset q granule sub bank row nibbles time => Sys2Proof.Machine.execPatrolScrubRead handle offset q granule sub bank row nibbles time s
  | .ddrAlert q sub again => Sys2Proof.Machine.execDdrAlert q sub again s
  | .migrationCopy c => Sys2Proof.Machine.execMigrationCopy c s
  | .scanStart k => Sys2Proof.Machine.execScanStart k s
  | .bdGateOpen k => Sys2Proof.Machine.execBdGateOpen k s
  | .frameSendStart k ce bad => Sys2Proof.Machine.execFrameSendStart k ce bad s
  | .frameComplete k => Sys2Proof.Machine.execFrameComplete k s
  | .alignBlocks k => Sys2Proof.Machine.execAlignBlocks k s
  | .drvStatusWord k word => Sys2Proof.Machine.execDrvStatusWord k word s
  | .ctrlPush k => Sys2Proof.Machine.execCtrlPush k s
  | .ctrlDmaGo k => Sys2Proof.Machine.execCtrlDmaGo k s
  | .ctrlDmaDone k => Sys2Proof.Machine.execCtrlDmaDone k s
  | .bankNext k value => Sys2Proof.Machine.execBankNext k value s
  | .pageqPush k => Sys2Proof.Machine.execPageqPush k s
  | .pageqWithdraw k => Sys2Proof.Machine.execPageqWithdraw k s
  | .lutBuildGo k => Sys2Proof.Machine.execLutBuildGo k s
  | .lutBuildDone k => Sys2Proof.Machine.execLutBuildDone k s
  | .interlockAssert => Sys2Proof.Machine.execInterlockAssert s
  | .interlockQualified => Sys2Proof.Machine.execInterlockQualified s
  | .markSample m v p => Sys2Proof.Machine.execMarkSample m v p s
  | .markDestEnable m value => Sys2Proof.Machine.execMarkDestEnable m value s
  | .calWordWrite k value => Sys2Proof.Machine.execCalWordWrite k value s
  | .calWriteDone k ok => Sys2Proof.Machine.execCalWriteDone k ok s
  | .pagePlan now => Sys2Proof.Machine.execPagePlan now s
  | .admissionDeadline now => Sys2Proof.Machine.execAdmissionDeadline now s
  | .sheetStart x => Sys2Proof.Machine.execSheetStart x s
  | .transferPost g => Sys2Proof.Machine.execTransferPost g s
  | .fuserPost g => Sys2Proof.Machine.execFuserPost g s
  | .sensorEdgeCapture j rising => Sys2Proof.Machine.execSensorEdgeCapture j rising s
  | .jamWindowClose g j leading => Sys2Proof.Machine.execJamWindowClose g j leading s
  | .feedFail => Sys2Proof.Machine.execFeedFail s
  | .pathFault => Sys2Proof.Machine.execPathFault s
  | .purgeDone => Sys2Proof.Machine.execPurgeDone s
  | .pageReport => Sys2Proof.Machine.execPageReport s
  | .axisStart axis => Sys2Proof.Machine.execAxisStart axis s
  | .startNEdge => Sys2Proof.Machine.execStartNEdge s
  | .axisStop axis => Sys2Proof.Machine.execAxisStop axis s
  | .axisDisable axis => Sys2Proof.Machine.execAxisDisable axis s
  | .axisEnable axis => Sys2Proof.Machine.execAxisEnable axis s
  | .focCurrentUpdate axis speed pos id iq => Sys2Proof.Machine.execFocCurrentUpdate axis speed pos id iq s
  | .overcurrent axis => Sys2Proof.Machine.execOvercurrent axis s
  | .alignPulseEnd axis peak len => Sys2Proof.Machine.execAlignPulseEnd axis peak len s
  | .probePulseEnd axis speed angle => Sys2Proof.Machine.execProbePulseEnd axis speed angle s
  | .probeRepeat axis => Sys2Proof.Machine.execProbeRepeat axis s
  | .startTimeout axis => Sys2Proof.Machine.execStartTimeout axis s
  | .atSpeed axis => Sys2Proof.Machine.execAtSpeed axis s
  | .busVoltageSample b code => Sys2Proof.Machine.execBusVoltageSample b code s
  | .stepperFullStep k theta => Sys2Proof.Machine.execStepperFullStep k theta s
  | .accelerationEnd axis measured => Sys2Proof.Machine.execAccelerationEnd axis measured s
  | .hearthGateOn p n => Sys2Proof.Machine.execHearthGateOn p n s
  | .zonePidUpdate p => Sys2Proof.Machine.execZonePidUpdate p s
  | .cordDecision p => Sys2Proof.Machine.execCordDecision p s
  | .hearthGateOff p => Sys2Proof.Machine.execHearthGateOff p s
  | .thSample n x rs => Sys2Proof.Machine.execThSample n x rs s
  | .rateWindow => Sys2Proof.Machine.execRateWindow s
  | .zoneEnable z on => Sys2Proof.Machine.execZoneEnable z on s
  | .journalEntryWritten => Sys2Proof.Machine.execJournalEntryWritten s
  | .tripAck value => Sys2Proof.Machine.execTripAck value s
  | .dieSample k code => Sys2Proof.Machine.execDieSample k code s
  | .hvWindow n sum spikes => Sys2Proof.Machine.execHvWindow n sum spikes s
  | .hvEnable n on => Sys2Proof.Machine.execHvEnable n on s
  | .thaiqEnable => Sys2Proof.Machine.execThaiqEnable s
  | .linkTrained pos devices lat => Sys2Proof.Machine.execLinkTrained pos devices lat s
  | .hopDown lane => Sys2Proof.Machine.execHopDown lane s
  | .broadcastArrival pos cls bitNo block => Sys2Proof.Machine.execBroadcastArrival pos cls bitNo block s
  | .mramRewrite => Sys2Proof.Machine.execMramRewrite s
  | .vbatLoss => Sys2Proof.Machine.execVbatLoss s
  | .resetNRelease => Sys2Proof.Machine.execResetNRelease s
  | .pcieLinkUp speed width => Sys2Proof.Machine.execPcieLinkUp speed width s
  | .receiveLaneLock lane => Sys2Proof.Machine.execReceiveLaneLock lane s

end Sys2Proof.Machine
end

