-- ==== Sys2Proof/Safety.lean ====
section
/-!
DEFINITION. What the statements call a safe state: the invariants that a step keeps.
-/

namespace Sys2Proof.Machine

/-- Every register of BAR0 is kept in canonical form: offsets strictly rising, no entry at its reset value. -/
def State.regsWf (s : State) : Prop := Tbl.wf resetWord s.regs = true

/-- The four MRAM partitions are kept in canonical form. -/
def State.mramWf (s : State) : Prop := Tbl.wf (fun _ => 0) s.tinder.mram = true

end Sys2Proof.Machine
end

