-- ==== Sys2Proof/WellFormed.lean ====
section
/-!
DEFINITION. Which commands are well formed: every index, register number and value inside what the spec's tables and encodings give it.
A command outside these ranges names nothing of the device; its meaning leaves the state alone.
-/

namespace Sys2Proof

/-- Codes of the blocks of R26 other than SYS. -/
def blockCode (c : Nat) : Bool :=
  (decide (1 ≤ c) && decide (c < 0x16)) || (decide (0x200 ≤ c) && decide (c < 0x20C)) || (decide (0x210 ≤ c) && decide (c < 0x218))

/-- Are all of these bytes? -/
def bytesOk (l : List Nat) : Bool := l.all (fun b => decide (b < 256))

/-- Is the command well formed? -/
def wellFormed (i : Instr) : Bool :=
  match i with
  | .vstbyRise _ => true
  | .powerOnReset => true
  | .vstbyLost => true
  | .porEnd => true
  | .xtalMissing => true
  | .sequenceStart => true
  | .railOnDelayExpiry n => decide (n < 16)
  | .railGood n => decide (n < 16)
  | .railTimeout n => decide (n < 16)
  | .railMonitorSample n vm _ _ => decide (n < 16) && decide (vm < 1024)
  | .railFail n => decide (n < 16)
  | .inputReturnRestart => true
  | .railDischargeTimeout n => decide (n < 16)
  | .holdOffEnd => true
  | .railRetry n => decide (n < 16)
  | .pbShortPress => true
  | .pbLongPress => true
  | .pbWake => true
  | .shutdownReq => true
  | .powerDown => true
  | .shutdownTimeout => true
  | .resetNAssert => true
  | .domainRelease d => decide (d < 5)
  | .clockHold d => decide (d.domain < 5)
  | .imageLoaded _ => true
  | .bootReady _ => true
  | .uartIdent => true
  | .uartMramRead part offset len => decide (part < 256) && decide (offset < 2 ^ 32) && decide (len < 2 ^ 32)
  | .uartMramWrite part offset data _ => decide (part < 256) && decide (offset < 2 ^ 32) && bytesOk data
  | .uartFlashRead offset len _ => decide (offset < 2 ^ 32) && decide (len < 2 ^ 32)
  | .uartFlashErase offset _ => decide (offset < 2 ^ 32)
  | .uartFlashWrite offset data _ => decide (offset < 2 ^ 32) && bytesOk data
  | .uartFrameRefused frame => bytesOk frame
  | .uartFrameGap => true
  | .mramWordWrite value => decide (value < 2 ^ 32)
  | .mramWriteDone _ => true
  | .flashRead len => decide (len < 512)
  | .flashErase key => decide (key < 4096)
  | .flashProgram key len => decide (key < 4096) && decide (len < 512)
  | .flashOpDone => true
  | .flashOpTimeout => true
  | .run => true
  | .bank => true
  | .stop => true
  | .clear => true
  | .engineReady => true
  | .orderlyShutdownFinish => true
  | .faultClear code mask => blockCode code && decide (mask < 2 ^ 32)
  | .faultForce code mask => blockCode code && decide (mask < 2 ^ 32)
  | .intStatClear code mask => (code == 0 || blockCode code) && decide (mask < 2 ^ 32)
  | .w1cClear addr value => decide (addr < 2 ^ 24) && decide (addr % 4 = 0) && decide (value < 2 ^ 32)
  | .registerWrite addr value how => decide (addr < 2 ^ 24) && decide (value < 2 ^ 64) && decide (how.be < 256)
  | .loReadLatch x => decide (x.addr < 2 ^ 24) && decide (x.addr % x.len = 0) && (decide (x.len = 1) || decide (x.len = 2) || decide (x.len = 4) || decide (x.len = 8))
  | .capPosHiRead k => decide (k < 16)
  | .evictLogRead => true
  | .poisonOffsetRead => true
  | .pllReacquire p _ value => decide (p < 5) && decide (value < 2 ^ 32)
  | .pllLock p => decide (p < 5)
  | .pllUnlock p _ => decide (p < 5)
  | .xtalLost => true
  | .bdEdge k _ _ => decide (k < 6)
  | .bdWindowMissed k => decide (k < 6)
  | .predictedSyncEvent k _ => decide (k < 6)
  | .gclkDivWrite k div _ => decide (k < 24) && decide (div < 2 ^ 32)
  | .syncInEdge => true
  | .phaseReset k => decide (k < 24)
  | .gclkEnable k _ => decide (k < 24)
  | .gclkGatedClear k => decide (k < 24)
  | .encoderEdge n _ _ _ _ => decide (n < 16)
  | .indexEdge n => decide (n < 16)
  | .auxEdge n _ _ => (n == 22 || n == 23)
  | .zcEdge n _ _ _ => decide (24 ≤ n) && decide (n < 27)
  | .gaugeCoastStart n => decide (n < 64)
  | .signalLost n => decide (n < 64)
  | .remoteStamp k pos rate _ => decide (k < 16) && decide (pos < 2 ^ 64) && decide (rate < 2 ^ 32)
  | .remoteLost k => decide (k < 16)
  | .resume gauge => decide (gauge < 64)
  | .flush gauge => decide (gauge < 64)
  | .preset n => decide (n < 64)
  | .vgCommit k => decide (k < 16)
  | .rgSrcWrite k value _ _ => decide (k < 16) && decide (value < 2 ^ 32)
  | .captureEdge k _ => decide (k < 16)
  | .facetIdRunEnd k => decide (k < 6)
  | .assume k => decide (k < 6)
  | .restart k => decide (k < 6)
  | .armGoArm => true
  | .armGoDisarm => true
  | .calendarAccept => true
  | .calendarInsertDone entry => decide (entry < 8192)
  | .entryCrossing gauge value => decide (gauge < 64) && decide (value < 2 ^ 64)
  | .calendarFireDeferred gauge => decide (gauge < 64)
  | .haltEntryRemoval core => decide (core < 34)
  | .entrySel entry => decide (entry < 8192)
  | .add core rd rs1 rs2 => decide (core < 34) && decide (rd < 32) && decide (rs1 < 32) && decide (rs2 < 32)
  | .sub core rd rs1 rs2 => decide (core < 34) && decide (rd < 32) && decide (rs1 < 32) && decide (rs2 < 32)
  | .and core rd rs1 rs2 => decide (core < 34) && decide (rd < 32) && decide (rs1 < 32) && decide (rs2 < 32)
  | .or core rd rs1 rs2 => decide (core < 34) && decide (rd < 32) && decide (rs1 < 32) && decide (rs2 < 32)
  | .xor core rd rs1 rs2 => decide (core < 34) && decide (rd < 32) && decide (rs1 < 32) && decide (rs2 < 32)
  | .andn core rd rs1 rs2 => decide (core < 34) && decide (rd < 32) && decide (rs1 < 32) && decide (rs2 < 32)
  | .sll core rd rs1 rs2 => decide (core < 34) && decide (rd < 32) && decide (rs1 < 32) && decide (rs2 < 32)
  | .srl core rd rs1 rs2 => decide (core < 34) && decide (rd < 32) && decide (rs1 < 32) && decide (rs2 < 32)
  | .sra core rd rs1 rs2 => decide (core < 34) && decide (rd < 32) && decide (rs1 < 32) && decide (rs2 < 32)
  | .lts core rd rs1 rs2 => decide (core < 34) && decide (rd < 32) && decide (rs1 < 32) && decide (rs2 < 32)
  | .ltu core rd rs1 rs2 => decide (core < 34) && decide (rd < 32) && decide (rs1 < 32) && decide (rs2 < 32)
  | .min core rd rs1 rs2 => decide (core < 34) && decide (rd < 32) && decide (rs1 < 32) && decide (rs2 < 32)
  | .max core rd rs1 rs2 => decide (core < 34) && decide (rd < 32) && decide (rs1 < 32) && decide (rs2 < 32)
  | .minu core rd rs1 rs2 => decide (core < 34) && decide (rd < 32) && decide (rs1 < 32) && decide (rs2 < 32)
  | .maxu core rd rs1 rs2 => decide (core < 34) && decide (rd < 32) && decide (rs1 < 32) && decide (rs2 < 32)
  | .clz core rd rs1 => decide (core < 34) && decide (rd < 32) && decide (rs1 < 32)
  | .popc core rd rs1 => decide (core < 34) && decide (rd < 32) && decide (rs1 < 32)
  | .slli core rd rs1 sh => decide (core < 34) && decide (rd < 32) && decide (rs1 < 32) && decide (sh < 32)
  | .srli core rd rs1 sh => decide (core < 34) && decide (rd < 32) && decide (rs1 < 32) && decide (sh < 32)
  | .srai core rd rs1 sh => decide (core < 34) && decide (rd < 32) && decide (rs1 < 32) && decide (sh < 32)
  | .mullo core rd rs1 rs2 => decide (core < 34) && decide (rd < 32) && decide (rs1 < 32) && decide (rs2 < 32)
  | .mulhs core rd rs1 rs2 => decide (core < 34) && decide (rd < 32) && decide (rs1 < 32) && decide (rs2 < 32)
  | .mulhu core rd rs1 rs2 => decide (core < 34) && decide (rd < 32) && decide (rs1 < 32) && decide (rs2 < 32)
  | .mulhm core rd rs1 rs2 => decide (core < 34) && decide (rd < 32) && decide (rs1 < 32) && decide (rs2 < 32)
  | .divs core rd rs1 rs2 => decide (core < 34) && decide (rd < 32) && decide (rs1 < 32) && decide (rs2 < 32)
  | .divu core rd rs1 rs2 => decide (core < 34) && decide (rd < 32) && decide (rs1 < 32) && decide (rs2 < 32)
  | .mods core rd rs1 rs2 => decide (core < 34) && decide (rd < 32) && decide (rs1 < 32) && decide (rs2 < 32)
  | .modu core rd rs1 rs2 => decide (core < 34) && decide (rd < 32) && decide (rs1 < 32) && decide (rs2 < 32)
  | .addi core rd rs1 imm => decide (core < 34) && decide (rd < 32) && decide (rs1 < 32) && decide (imm < 65536)
  | .andi core rd rs1 imm => decide (core < 34) && decide (rd < 32) && decide (rs1 < 32) && decide (imm < 65536)
  | .ori core rd rs1 imm => decide (core < 34) && decide (rd < 32) && decide (rs1 < 32) && decide (imm < 65536)
  | .xori core rd rs1 imm => decide (core < 34) && decide (rd < 32) && decide (rs1 < 32) && decide (imm < 65536)
  | .ltsi core rd rs1 imm => decide (core < 34) && decide (rd < 32) && decide (rs1 < 32) && decide (imm < 65536)
  | .ltui core rd rs1 imm => decide (core < 34) && decide (rd < 32) && decide (rs1 < 32) && decide (imm < 65536)
  | .lui core rd imm => decide (core < 34) && decide (rd < 32) && decide (imm < 65536)
  | .lb core rd rs1 imm => decide (core < 34) && decide (rd < 32) && decide (rs1 < 32) && decide (imm < 65536)
  | .lbu core rd rs1 imm => decide (core < 34) && decide (rd < 32) && decide (rs1 < 32) && decide (imm < 65536)
  | .lh core rd rs1 imm => decide (core < 34) && decide (rd < 32) && decide (rs1 < 32) && decide (imm < 65536)
  | .lhu core rd rs1 imm => decide (core < 34) && decide (rd < 32) && decide (rs1 < 32) && decide (imm < 65536)
  | .lw core rd rs1 imm => decide (core < 34) && decide (rd < 32) && decide (rs1 < 32) && decide (imm < 65536)
  | .pld core pd rs1 imm => decide (core < 34) && decide (pd < 8) && decide (rs1 < 32) && decide (imm < 65536)
  | .sb core rt rs1 imm => decide (core < 34) && decide (rt < 32) && decide (rs1 < 32) && decide (imm < 65536)
  | .sh core rt rs1 imm => decide (core < 34) && decide (rt < 32) && decide (rs1 < 32) && decide (imm < 65536)
  | .sw core rt rs1 imm => decide (core < 34) && decide (rt < 32) && decide (rs1 < 32) && decide (imm < 65536)
  | .pst core ps rs1 imm => decide (core < 34) && decide (ps < 8) && decide (rs1 < 32) && decide (imm < 65536)
  | .beq core rt rs1 imm => decide (core < 34) && decide (rt < 32) && decide (rs1 < 32) && decide (imm < 65536)
  | .bne core rt rs1 imm => decide (core < 34) && decide (rt < 32) && decide (rs1 < 32) && decide (imm < 65536)
  | .blt core rt rs1 imm => decide (core < 34) && decide (rt < 32) && decide (rs1 < 32) && decide (imm < 65536)
  | .bge core rt rs1 imm => decide (core < 34) && decide (rt < 32) && decide (rs1 < 32) && decide (imm < 65536)
  | .bltu core rt rs1 imm => decide (core < 34) && decide (rt < 32) && decide (rs1 < 32) && decide (imm < 65536)
  | .bgeu core rt rs1 imm => decide (core < 34) && decide (rt < 32) && decide (rs1 < 32) && decide (imm < 65536)
  | .jal core rd imm => decide (core < 34) && decide (rd < 32) && decide (imm < 65536)
  | .jalr core rd rs1 imm => decide (core < 34) && decide (rd < 32) && decide (rs1 < 32) && decide (imm < 65536)
  | .padd core pd pa pb => decide (core < 34) && decide (pd < 8) && decide (pa < 8) && decide (pb < 8)
  | .psub core pd pa pb => decide (core < 34) && decide (pd < 8) && decide (pa < 8) && decide (pb < 8)
  | .paddc core pd pa gb => decide (core < 34) && decide (pd < 8) && decide (pa < 8) && decide (gb < 32)
  | .paddf core pd pa gb => decide (core < 34) && decide (pd < 8) && decide (pa < 8) && decide (gb < 32)
  | .pmov core pd pa => decide (core < 34) && decide (pd < 8) && decide (pa < 8)
  | .psetc core pd ga => decide (core < 34) && decide (pd < 8) && decide (ga < 32)
  | .plo core gd pa => decide (core < 34) && decide (gd < 32) && decide (pa < 8)
  | .phi core gd pa => decide (core < 34) && decide (gd < 32) && decide (pa < 8)
  | .psetlo core pd ga => decide (core < 34) && decide (pd < 8) && decide (ga < 32)
  | .psethi core pd ga => decide (core < 34) && decide (pd < 8) && decide (ga < 32)
  | .pcmp core gd pa pb => decide (core < 34) && decide (gd < 32) && decide (pa < 8) && decide (pb < 8)
  | .pmulc core pd pa gb => decide (core < 34) && decide (pd < 8) && decide (pa < 8) && decide (gb < 32)
  | .crr core rd cr => decide (core < 34) && decide (rd < 32) && decide (cr < 256)
  | .crw core rd cr rs1 => decide (core < 34) && decide (rd < 32) && decide (cr < 256) && decide (rs1 < 32)
  | .crs core rd cr rs1 => decide (core < 34) && decide (rd < 32) && decide (cr < 256) && decide (rs1 < 32)
  | .crc core rd cr rs1 => decide (core < 34) && decide (rd < 32) && decide (cr < 256) && decide (rs1 < 32)
  | .nop core => decide (core < 34)
  | .eret core => decide (core < 34)
  | .brk core code => decide (core < 34) && decide (code < 1024)
  | .halt core => decide (core < 34)
  | .isync core => decide (core < 34)
  | .gaugeFaultException core => decide (core < 34)
  | .breakpointHit core => decide (core < 34)
  | .coreRun core => decide (core < 34)
  | .coreHaltReq core => decide (core < 34)
  | .haltComplete core => decide (core < 34)
  | .coreStep core => decide (core < 34)
  | .coreReinit core => decide (core < 34)
  | .debugRegisterWrite core value => decide (core < 34) && decide (value < 2 ^ 32)
  | .debugRegisterRead core => decide (core < 34)
  | .arm core rd pa gb gauge dir _ => decide (core < 34) && decide (rd < 32) && decide (pa < 8) && decide (gb < 32) && decide (gauge < 64) && decide (dir < 4)
  | .disarm core rd ga => decide (core < 34) && decide (rd < 32) && decide (ga < 32)
  | .waitp core rd pa gauge dir _ => decide (core < 34) && decide (rd < 32) && decide (pa < 8) && decide (gauge < 64) && decide (dir < 4)
  | .waitev core rd mask => decide (core < 34) && decide (rd < 32) && decide (mask < 16)
  | .grd core pd gauge => decide (core < 34) && decide (pd < 8) && decide (gauge < 64)
  | .gst core gd gauge => decide (core < 34) && decide (gd < 32) && decide (gauge < 64)
  | .gsrc core gauge ga => decide (core < 34) && decide (gauge < 64) && decide (ga < 32)
  | .gc1 core gauge ga => decide (core < 34) && decide (gauge < 64) && decide (ga < 32)
  | .gc2 core gauge ga => decide (core < 34) && decide (gauge < 64) && decide (ga < 32)
  | .goff core gauge pa => decide (core < 34) && decide (gauge < 64) && decide (pa < 8)
  | .gcommit core gd gauge => decide (core < 34) && decide (gd < 32) && decide (gauge < 64)
  | .objrd core rd rs1 field => decide (core < 34) && decide (rd < 32) && decide (rs1 < 32) && decide (field < 65536)
  | .objrdp core pd rs1 field => decide (core < 34) && decide (pd < 8) && decide (rs1 < 32) && decide (field < 65536)
  | .objwr core rt rs1 field => decide (core < 34) && decide (rt < 32) && decide (rs1 < 32) && decide (field < 65536)
  | .objwrp core pt rs1 field => decide (core < 34) && decide (pt < 8) && decide (rs1 < 32) && decide (field < 65536)
  | .objectWriteDelivery core => decide (core < 34)
  | .send core rd ga pb => decide (core < 34) && decide (rd < 32) && decide (ga < 32) && decide (pb < 8)
  | .remoteMessageArrival core payload source => decide (core < 34) && decide (payload < 2 ^ 64) && decide (source < 2 ^ 16)
  | .recv core rd pa _ => decide (core < 34) && decide (rd < 32) && decide (pa < 8)
  | .slotw core gt ga pb => decide (core < 34) && decide (gt < 32) && decide (ga < 32) && decide (pb < 8)
  | .objld core rd ga gb size => decide (core < 34) && decide (rd < 32) && decide (ga < 32) && decide (gb < 32) && decide (size ≤ 5) && (size != 5 || decide (rd < 8))
  | .objst core rt ga gb size => decide (core < 34) && decide (rt < 32) && decide (ga < 32) && decide (gb < 32) && decide (size ≤ 3) && (size != 3 || decide (rt < 8))
  | .qpop core rd ga q => decide (core < 34) && decide (rd < 32) && decide (ga < 32) && decide (q < 64)
  | .qpush core rd ga q => decide (core < 34) && decide (rd < 32) && decide (ga < 32) && decide (q < 64)
  | .create port => decide (port < 3)
  | .free port => decide (port < 3)
  | .group port => decide (port < 3)
  | .placeProgram port => decide (port < 3)
  | .removeProgram port => decide (port < 3)
  | .bindAffinity port => decide (port < 3)
  | .placerMoveDone => true
  | .deferredFreeDone index => decide (index < 4096)
  | .stationEnable k _ => decide (k < 6)
  | .gpioSet value => decide (value < 2 ^ 32)
  | .gpioClr value => decide (value < 2 ^ 32)
  | .endpointReset cause => decide (cause < 4)
  | .busMasterEnable _ _ _ => true
  | .windowRead _ len => decide (len < 2 ^ 32)
  | .windowWrite _ data => bytesOk data
  | .ringEnable _ n value => decide (n < 16) && decide (value < 2 ^ 32)
  | .sqDoorbell n value => decide (n < 16) && decide (value < 2 ^ 32)
  | .intakeFetch n data _ => decide (n < 16) && bytesOk data
  | .cqHeadDoorbell n value => decide (n < 16) && decide (value < 2 ^ 32)
  | .intakeCompletionWrite n => decide (n < 16)
  | .msixUnmask v => decide (v < 33)
  | .sqNop q => decide (q < 16)
  | .page q => decide (q < 16)
  | .configure q => decide (q < 16)
  | .withdraw q => decide (q < 16)
  | .request q => decide (q < 16)
  | .purge q => decide (q < 16)
  | .moverStart c value => decide (c < 32) && decide (value < 2 ^ 32)
  | .channelResume c value => decide (c < 32) && decide (value < 2 ^ 32)
  | .channelDisable c value => decide (c < 32) && decide (value < 2 ^ 32)
  | .drainComplete c => decide (c < 32)
  | .descriptorRead c bytes => decide (c < 32) && bytesOk bytes
  | .readCompletion c data => decide (c < 32) && bytesOk data
  | .busError c _ x => decide (c < 32) && decide (x.addr < 2 ^ 64) && x.last.all (fun x => decide (x.1 < 32) && x.2.all (fun b => decide (b < 256)))
  | .runPush k => decide (k < 6)
  | .decodeBlockStart k => decide (k < 6)
  | .decodeBlockEnd k => decide (k < 6)
  | .decoderDisable k => decide (k < 6)
  | .decoderFlush k => decide (k < 6)
  | .encoderGo k => decide (k < 2)
  | .encoderJobEnd k streams => decide (k < 2) && streams.all bytesOk
  | .trainGo => true
  | .trainComplete failed => decide (failed < 256)
  | .fullRetrain => true
  | .refreshInterval c _ => decide (c < 2)
  | .mr4Poll _ _ => true
  | .retrainSlice c => decide (c < 2)
  | .retrainSliceForced c => decide (c < 2)
  | .dramRead port ready _ _ offset q sub bank _ nibbles _ =>
    decide (port < 12) && decide (ready < 2 ^ 12) && decide (offset < 2 ^ 32) && decide (q < 8) && decide (sub < 2) && decide (bank < 32) &&
      decide (nibbles < 2 ^ 10)
  | .patrolScrubRead _ offset q _ sub bank _ nibbles _ =>
    decide (offset < 2 ^ 32) && decide (q < 8) && decide (sub < 2) && decide (bank < 32) && decide (nibbles < 2 ^ 10)
  | .ddrAlert q sub _ => decide (q < 8) && decide (sub < 2)
  | .migrationCopy c => decide (c < 2)
  | .scanStart k => decide (k < 6)
  | .bdGateOpen k => decide (k < 6)
  | .frameSendStart k _ _ => decide (k < 6)
  | .frameComplete k => decide (k < 6)
  | .alignBlocks k => decide (k < 6)
  | .drvStatusWord k word => decide (k < 6) && decide (word < 2 ^ 40)
  | .ctrlPush k => decide (k < 6)
  | .ctrlDmaGo k => decide (k < 6)
  | .ctrlDmaDone k => decide (k < 6)
  | .bankNext k value => decide (k < 6) && decide (value < 2)
  | .pageqPush k => decide (k < 6)
  | .pageqWithdraw k => decide (k < 6)
  | .lutBuildGo k => decide (k < 6)
  | .lutBuildDone k => decide (k < 6)
  | .interlockAssert => true
  | .interlockQualified => true
  | .markSample m v _ => decide (m < 8) && decide (v < 4096)
  | .markDestEnable m value => decide (m < 8) && decide (value < 2 ^ 32)
  | .calWordWrite k value => decide (k < 6) && decide (value < 2 ^ 32)
  | .calWriteDone k _ => decide (k < 6)
  | .pagePlan _ => true
  | .admissionDeadline _ => true
  | .sheetStart _ => true
  | .transferPost g => decide (g < 64)
  | .fuserPost g => decide (g < 64)
  | .sensorEdgeCapture j _ => decide (j < 24)
  | .jamWindowClose g j _ => decide (g < 64) && decide (j < 24)
  | .feedFail => true
  | .pathFault => true
  | .purgeDone => true
  | .pageReport => true
  | .axisStart axis => decide (axis < 20)
  | .startNEdge => true
  | .axisStop axis => decide (axis < 20)
  | .axisDisable axis => decide (axis < 20)
  | .axisEnable axis => decide (axis < 20)
  | .focCurrentUpdate axis _ _ _ _ => decide (axis < 20)
  | .overcurrent axis => decide (axis < 20)
  | .alignPulseEnd axis _ len => decide (axis < 20) && decide (len < 2 ^ 32)
  | .probePulseEnd axis _ _ => decide (axis < 20)
  | .probeRepeat axis => decide (axis < 20)
  | .startTimeout axis => decide (axis < 20)
  | .atSpeed axis => decide (axis < 20)
  | .busVoltageSample b code => decide (b < 8) && decide (code < 65536)
  | .stepperFullStep k _ => decide (k < 8)
  | .accelerationEnd axis _ => decide (axis < 20)
  | .hearthGateOn p i => decide (p < 3) && decide (i < 8)
  | .zonePidUpdate p => decide (p < 3)
  | .cordDecision p => decide (p < 3)
  | .hearthGateOff p => decide (p < 3)
  | .thSample n _ rs => decide (n < 16) && decide (rs ≤ 100)
  | .rateWindow => true
  | .zoneEnable z _ => decide (z < 8)
  | .journalEntryWritten => true
  | .tripAck value => decide (value < 2 ^ 32)
  | .dieSample k code => decide (k < 4) && decide (code < 4096)
  | .hvWindow n sum spikes => decide (n < 32) && decide (sum ≤ 20 * 4095) && spikes.all (fun x => decide (x.1 < 256))
  | .hvEnable n _ => decide (n < 32)
  | .thaiqEnable => true
  | .linkTrained pos devices _ => decide (pos < 4) && decide (devices < 5)
  | .hopDown lane => decide (lane < 2)
  | .broadcastArrival pos cls bitNo _ => decide (pos < 4) && decide (cls < 4) && decide (bitNo < 32)
  | .mramRewrite => true
  | .vbatLoss => true
  | .resetNRelease => true
  | .pcieLinkUp speed width => decide (speed < 16) && decide (width < 16)
  | .receiveLaneLock lane => decide (lane < 2)

end Sys2Proof
end

