-- ==== Sys2Proof/Certificates/Slice0/Obligations.lean ====
section
/-!
DEFINITION. The statements for the provers. `Answers c s P`: command `c` at state `s` answers a next state that has `P`.
-/

open Sys2Proof Sys2Proof.Machine

namespace Sys2Proof.Statements

/-- The command answers a next state with property `P`. -/
def Answers (c : Instr) (s : State) (P : State → Prop) : Prop := ∃ t, exec c s = .next t ∧ P t

/-- Core `n` may begin an instruction, and its pc lies inside its memory (R184, R185, R206, R208, R212, R213). -/
def Ready (s : State) (n : Nat) : Prop := s.canBegin n = true ∧ (s.core n).pc.toNat < memSize n

/-- What one completed instruction of core `n` leaves: the core is `c` with pc at `pc`, one more retired instruction and, on a Scriber,
`k` more cycles; no other core and nothing outside the cores changes but the model's counter of free values. -/
def Ran (s t : State) (n k : Nat) (pc : Word) (c : Core) : Prop :=
  t = { s with cores := t.cores, freeCtr := t.freeCtr } ∧ (∀ m, m ≠ n → t.core m = s.core m) ∧
  t.core n = { c with pc := pc, retired := (s.core n).retired + 1, firstInstr := false, cycle := (t.core n).cycle } ∧
  (n < 32 → (t.core n).cycle = (s.core n).cycle + BitVec.ofNat 64 k)

/-- The instruction completes at the next pc with general register `d` written. -/
def GivesG (s : State) (n d : Nat) (w : Word) (k : Nat) (i : Instr) : Prop :=
  Answers i s (fun t => Ran s t n k ((s.core n).pc + 4) ((s.core n).setG d w))

/-- The instruction completes at the next pc with position register `d` written. -/
def GivesP (s : State) (n d : Nat) (v : DWord) (k : Nat) (i : Instr) : Prop :=
  Answers i s (fun t => Ran s t n k ((s.core n).pc + 4) ((s.core n).setP d v))

/-- The instruction completes at `pc` with general register `d` written. -/
def Jumps (s : State) (n d : Nat) (w pc : Word) (k : Nat) (i : Instr) : Prop :=
  Answers i s (fun t => Ran s t n k pc ((s.core n).setG d w))

/-- The branch completes: at its target in 2 cycles where it is taken, else at the next pc in 1. -/
def Branches (s : State) (n m : Nat) (taken : Bool) (i : Instr) : Prop :=
  Answers i s (fun t => Ran s t n (if taken then 2 else 1)
    ((s.core n).pc + (if taken then (BitVec.ofNat 16 m).signExtend 32 * 4 else 4)) (s.core n))

/-- The effective address of a load or store. -/
def ea (s : State) (n b m : Nat) : Nat := (s.gr n b + (BitVec.ofNat 16 m).signExtend 32).toNat

/-- An access of `k` bytes at `a` is aligned and inside the memory of core `n`. -/
def Fits (n a k : Nat) : Prop := a % k = 0 ∧ a + k ≤ memSize n

/-- What a store of `k` bytes of `v` at `a` by core `n` leaves: the bytes of `v`, lowest first, every other byte as before, and the rest of the
core and of the device as after any completed instruction. -/
def Stored (s t : State) (n a k v : Nat) : Prop :=
  (∀ i, i < k → (t.core n).byte (a + i) = v / 256 ^ i % 256) ∧
  (∀ b, b < a ∨ a + k ≤ b → (t.core n).byte b = (s.core n).byte b) ∧
  Ran s t n 1 ((s.core n).pc + 4) { s.core n with mem := (t.core n).mem, stale := (t.core n).stale }

/-- The store completes. -/
def Stores (s : State) (n a k v : Nat) (i : Instr) : Prop := Answers i s (fun t => Stored s t n a k v)

/-- The load completes with register `d` written. -/
def Loads (s : State) (n d : Nat) (w : Word) (i : Instr) : Prop := GivesG s n d w 2 i

/-- Core `n` has entered the handler of a synchronous cause at its pc with EVAL `v` (R207); nothing else has changed. -/
def Trapped (s t : State) (n cause : Nat) (v : Word) : Prop :=
  let c := s.core n
  t = { s with cores := t.cores, freeCtr := t.freeCtr } ∧ (∀ j, j ≠ n → t.core j = s.core j) ∧
  t.core n = { c with
    epc := c.pc, eval := v, ecause := BitVec.ofNat 32 cause, pie := c.ie, ie := false, exc := true, firstInstr := false,
    pc := c.vbase + BitVec.ofNat 32 (16 * cause), cycle := (t.core n).cycle }

/-- The instruction raises a cause. -/
def Traps (s : State) (n cause v : Nat) (i : Instr) : Prop := Answers i s (fun t => Trapped s t n cause (BitVec.ofNat 32 v))

/-- Core `n` has halted for a reason at `pc`; its registers and memory and every other core are as before, and HALT_EV is set. -/
def Halted (s t : State) (n reason : Nat) (pc : Word) : Prop :=
  let c := s.core n; let u := t.core n
  u.halted = true ∧ u.halting = false ∧ u.haltReason = reason ∧ u.pc = pc ∧ u.g = c.g ∧ u.p = c.p ∧ u.mem = c.mem ∧ u.wait = .none ∧
  t.on SCRIBER.INT_STAT_HALT_EV = true ∧ (∀ m, m ≠ n → t.core m = s.core m)

/-- Core `n` has completed an instruction that changed none of its registers and memory; no other core has changed. -/
def Passed (s t : State) (n : Nat) : Prop :=
  let c := s.core n
  (∀ m, m ≠ n → t.core m = s.core m) ∧
  t.core n = { c with pc := c.pc + 4, retired := c.retired + 1, firstInstr := false, cycle := (t.core n).cycle }

/-- Core `n` has completed an instruction that left general register `d` at `w` and its other general registers, its position registers and its memory alone. -/
def Left (s t : State) (n d : Nat) (w : Word) : Prop :=
  let c := s.core n; let u := t.core n
  u.pc = c.pc + 4 ∧ u.retired = c.retired + 1 ∧ u.gr d = (if d = 0 then 0 else w) ∧ (∀ k, k ≠ d → u.gr k = c.gr k) ∧ u.p = c.p ∧ u.mem = c.mem

/-- No register of BAR0 outside the list has changed. -/
def OnlyRegs (s t : State) (l : List Nat) : Prop := ∀ a, a ∉ l → t.reg a = s.reg a

/-- Core `n` has become `c`; nothing else has changed. -/
def CoreOnly (s t : State) (n : Nat) (c : Core) : Prop :=
  t = { s with cores := t.cores } ∧ (∀ m, m ≠ n → t.core m = s.core m) ∧ t.core n = c

/-- The core of a Scriber instruction, none for every other command. -/
def scriberCore (i : Instr) : Option Nat :=
  match i with
  | .add n _ _ _ => some n
  | .sub n _ _ _ => some n
  | .and n _ _ _ => some n
  | .or n _ _ _ => some n
  | .xor n _ _ _ => some n
  | .andn n _ _ _ => some n
  | .sll n _ _ _ => some n
  | .srl n _ _ _ => some n
  | .sra n _ _ _ => some n
  | .lts n _ _ _ => some n
  | .ltu n _ _ _ => some n
  | .min n _ _ _ => some n
  | .max n _ _ _ => some n
  | .minu n _ _ _ => some n
  | .maxu n _ _ _ => some n
  | .clz n _ _ => some n
  | .popc n _ _ => some n
  | .slli n _ _ _ => some n
  | .srli n _ _ _ => some n
  | .srai n _ _ _ => some n
  | .mullo n _ _ _ => some n
  | .mulhs n _ _ _ => some n
  | .mulhu n _ _ _ => some n
  | .mulhm n _ _ _ => some n
  | .divs n _ _ _ => some n
  | .divu n _ _ _ => some n
  | .mods n _ _ _ => some n
  | .modu n _ _ _ => some n
  | .addi n _ _ _ => some n
  | .andi n _ _ _ => some n
  | .ori n _ _ _ => some n
  | .xori n _ _ _ => some n
  | .ltsi n _ _ _ => some n
  | .ltui n _ _ _ => some n
  | .lui n _ _ => some n
  | .lb n _ _ _ => some n
  | .lbu n _ _ _ => some n
  | .lh n _ _ _ => some n
  | .lhu n _ _ _ => some n
  | .lw n _ _ _ => some n
  | .pld n _ _ _ => some n
  | .sb n _ _ _ => some n
  | .sh n _ _ _ => some n
  | .sw n _ _ _ => some n
  | .pst n _ _ _ => some n
  | .beq n _ _ _ => some n
  | .bne n _ _ _ => some n
  | .blt n _ _ _ => some n
  | .bge n _ _ _ => some n
  | .bltu n _ _ _ => some n
  | .bgeu n _ _ _ => some n
  | .jal n _ _ => some n
  | .jalr n _ _ _ => some n
  | .padd n _ _ _ => some n
  | .psub n _ _ _ => some n
  | .paddc n _ _ _ => some n
  | .paddf n _ _ _ => some n
  | .pmov n _ _ => some n
  | .psetc n _ _ => some n
  | .plo n _ _ => some n
  | .phi n _ _ => some n
  | .psetlo n _ _ => some n
  | .psethi n _ _ => some n
  | .pcmp n _ _ _ => some n
  | .pmulc n _ _ _ => some n
  | .crr n _ _ => some n
  | .crw n _ _ _ => some n
  | .crs n _ _ _ => some n
  | .crc n _ _ _ => some n
  | .nop n => some n
  | .eret n => some n
  | .brk n _ => some n
  | .halt n => some n
  | .isync n => some n
  | .arm n _ _ _ _ _ _ => some n
  | .disarm n _ _ => some n
  | .waitp n _ _ _ _ _ => some n
  | .waitev n _ _ => some n
  | .grd n _ _ => some n
  | .gst n _ _ => some n
  | .gsrc n _ _ => some n
  | .gc1 n _ _ => some n
  | .gc2 n _ _ => some n
  | .goff n _ _ => some n
  | .gcommit n _ _ => some n
  | .objrd n _ _ _ => some n
  | .objrdp n _ _ _ => some n
  | .objwr n _ _ _ => some n
  | .objwrp n _ _ _ => some n
  | .send n _ _ _ => some n
  | .recv n _ _ _ => some n
  | .slotw n _ _ _ => some n
  | .objld n _ _ _ _ => some n
  | .objst n _ _ _ _ => some n
  | .qpop n _ _ _ => some n
  | .qpush n _ _ _ => some n
  | _ => none

end Sys2Proof.Statements

open Sys2Proof.Statements

/-- For every command c and state s, a step of s with c at the front of its queue is exec of c on s with the queue's rest. A step on an empty queue answers a state that differs at most in its general clock outputs: none where the domain of the output PLL is not released, and none of an output that neither runs nor completes its last high phase. The queue and the idle step are the model's own. (assumptions 1 and 96) -/
def Obligations.StepRunsFrontCommand : Prop :=
  (∀ (c : Instr) (rest : List Instr) (s : State), step { s with pending := c :: rest } = exec c { s with pending := rest }) ∧
  (∀ s : State, s.pending = [] → ∃ t, step s = .next t ∧ t = { s with clock := { s.clock with gclk := t.clock.gclk } } ∧
    (s.domain 4 = false → t = s) ∧
    ∀ k, k < 24 → s.on (CLOCK.GCLK_STATUS_RUNNING k) = false → (s.gclk k).ending = false → t.gclk k = s.gclk k)

/-- For every core number and every well-formed command that is a Scriber instruction, the decoder reads the word that the encoder writes for it as that instruction of that core, with every operand at every value its field admits; and the word fits in 32 bits. (R194, R195, R196, R197, R198, R199, R200, R202, R203, R204, R217) -/
def Obligations.ScriberDecodeEncode : Prop :=
  ∀ (i : Instr) (n : Nat), scriberCore i = some n → wellFormed i = true →
    decodeScriber n (encodeScriber i) = some i ∧ encodeScriber i < 2 ^ 32

/-- ADD g1,g2,g3 is the word 0x04221800, ADDI g1,g2,-1 is 0x0C22FFFF, LW g4,8(g5) is 0x50850008, BNE g6,g7 by +16 words is 0x84C70010, NOP is 0xA4000000, ARM g1,p2,g3 on gauge 7 with direction 1 and LATE discarded is 0xC0221947, a word with a reserved opcode or a non-zero unused field decodes to nothing. (R194, R196, R199, R200, R204, R217, R222) -/
def Obligations.ScriberWordsDecode : Prop :=
  decodeScriber 5 0x04221800 = some (.add 5 1 2 3) ∧ decodeScriber 5 0x0C22FFFF = some (.addi 5 1 2 0xFFFF) ∧
  decodeScriber 5 0x50850008 = some (.lw 5 4 5 8) ∧ decodeScriber 5 0x84C70010 = some (.bne 5 6 7 16) ∧
  decodeScriber 5 0xA4000000 = some (.nop 5) ∧ decodeScriber 5 0xC0221947 = some (.arm 5 1 2 3 7 1 true) ∧
  decodeScriber 5 0x00000000 = none ∧ decodeScriber 5 0xFC000000 = none ∧ decodeScriber 5 0xA4000800 = none

/-- For every core that may begin an instruction, ADD, SUB, AND, OR, XOR, ANDN, the shifts by a register or by sh, the set-on-less comparisons, the minima and maxima, CLZ and POPC complete in one cycle with rd holding the value of R196, pc at the next word and one more instruction retired; every other register of the core, every other core and everything outside the cores keeps its value. Shift amounts of a register form are its low five bits. (R190, R196) -/
def Obligations.AluResults : Prop :=
  ∀ (s : State) (n d x y : Nat), Ready s n →
    let a := s.gr n x; let b := s.gr n y; let all : Word := 0xFFFFFFFF
    GivesG s n d (a + b) 1 (.add n d x y) ∧ GivesG s n d (a - b) 1 (.sub n d x y) ∧
    GivesG s n d (a &&& b) 1 (.and n d x y) ∧ GivesG s n d (a ||| b) 1 (.or n d x y) ∧
    GivesG s n d (a ^^^ b) 1 (.xor n d x y) ∧ GivesG s n d (a &&& ~~~b) 1 (.andn n d x y) ∧
    GivesG s n d (a <<< (b.toNat % 32)) 1 (.sll n d x y) ∧ GivesG s n d (a >>> (b.toNat % 32)) 1 (.srl n d x y) ∧
    GivesG s n d (a.sshiftRight (b.toNat % 32)) 1 (.sra n d x y) ∧
    GivesG s n d (if a.toInt < b.toInt then all else 0) 1 (.lts n d x y) ∧
    GivesG s n d (if a.toNat < b.toNat then all else 0) 1 (.ltu n d x y) ∧
    GivesG s n d (if a.toInt < b.toInt then a else b) 1 (.min n d x y) ∧
    GivesG s n d (if a.toInt < b.toInt then b else a) 1 (.max n d x y) ∧
    GivesG s n d (if a.toNat < b.toNat then a else b) 1 (.minu n d x y) ∧
    GivesG s n d (if a.toNat < b.toNat then b else a) 1 (.maxu n d x y) ∧
    GivesG s n d (BitVec.ofNat 32 (if a = 0 then 32 else 31 - a.toNat.log2)) 1 (.clz n d x) ∧
    GivesG s n d (BitVec.ofNat 32 ((List.range 32).countP (fun i => a.toNat.testBit i))) 1 (.popc n d x) ∧
    GivesG s n d (a <<< y) 1 (.slli n d x y) ∧ GivesG s n d (a >>> y) 1 (.srli n d x y) ∧
    GivesG s n d (a.sshiftRight y) 1 (.srai n d x y)

/-- MULLO gives the low word of the product and MULHS, MULHU, MULHM the high word of the exact signed, unsigned and mixed product, in 2 cycles; DIVS, DIVU, MODS and MODU give quotient and remainder rounded toward zero in 34 cycles, 0 for a divisor of 0, and DIVS of -2^31 by -1 gives 2^31 - 1 with remainder 0. Nothing else of the core or the device changes but pc, CYCLE and RETIRED. (R190, R197) -/
def Obligations.MultiplyDivideResults : Prop :=
  ∀ (s : State) (n d x y : Nat), Ready s n →
    let a := s.gr n x; let b := s.gr n y
    let high := fun (p : Int) => BitVec.ofInt 32 (p / 2 ^ 32)
    GivesG s n d (a * b) 2 (.mullo n d x y) ∧ GivesG s n d (high (a.toInt * b.toInt)) 2 (.mulhs n d x y) ∧
    GivesG s n d (high ((a.toNat : Int) * (b.toNat : Int))) 2 (.mulhu n d x y) ∧
    GivesG s n d (high (a.toInt * (b.toNat : Int))) 2 (.mulhm n d x y) ∧
    GivesG s n d (if b = 0 then 0 else if a.toInt = -(2 ^ 31) ∧ b.toInt = -1 then 0x7FFFFFFF
      else BitVec.ofInt 32 (a.toInt.tdiv b.toInt)) 34 (.divs n d x y) ∧
    GivesG s n d (BitVec.ofNat 32 (a.toNat / b.toNat)) 34 (.divu n d x y) ∧
    GivesG s n d (if b = 0 then 0 else BitVec.ofInt 32 (a.toInt.tmod b.toInt)) 34 (.mods n d x y) ∧
    GivesG s n d (if b = 0 then 0 else BitVec.ofNat 32 (a.toNat % b.toNat)) 34 (.modu n d x y)

/-- ADDI and LTSI use the sign-extended immediate, ANDI, ORI, XORI, LTUI the zero-extended one, and LUI writes it to the upper half; each completes in one cycle and changes rd, pc, CYCLE and RETIRED alone. (R190, R194, R198) -/
def Obligations.ImmediateResults : Prop :=
  ∀ (s : State) (n d x m : Nat), Ready s n →
    let a := s.gr n x; let z : Word := BitVec.ofNat 32 (m % 65536); let e : Word := (BitVec.ofNat 16 m).signExtend 32
    GivesG s n d (a + e) 1 (.addi n d x m) ∧ GivesG s n d (a &&& z) 1 (.andi n d x m) ∧
    GivesG s n d (a ||| z) 1 (.ori n d x m) ∧ GivesG s n d (a ^^^ z) 1 (.xori n d x m) ∧
    GivesG s n d (if a.toInt < e.toInt then 0xFFFFFFFF else 0) 1 (.ltsi n d x m) ∧
    GivesG s n d (if a.toNat < z.toNat then 0xFFFFFFFF else 0) 1 (.ltui n d x m) ∧
    GivesG s n d (z <<< 16) 1 (.lui n d m)

/-- At an aligned address inside local memory LB and LH write the sign-extended byte or halfword, LBU and LHU the zero-extended one, LW the word, PLD the doubleword to a position register, in 2 cycles; memory and every other register keep their values. (R186, R199) -/
def Obligations.LoadResults : Prop :=
  ∀ (s : State) (n d x m : Nat), Ready s n →
    let a := ea s n x m; let c := s.core n; let b := fun i => c.byte (a + i) % 256
    let h := b 0 + 256 * b 1; let w := h + 65536 * (b 2 + 256 * b 3)
    let u := b 4 + 256 * b 5 + 65536 * (b 6 + 256 * b 7)
    (Fits n a 1 → Loads s n d ((BitVec.ofNat 8 (b 0)).signExtend 32) (.lb n d x m) ∧ Loads s n d (BitVec.ofNat 32 (b 0)) (.lbu n d x m)) ∧
    (Fits n a 2 → Loads s n d ((BitVec.ofNat 16 h).signExtend 32) (.lh n d x m) ∧ Loads s n d (BitVec.ofNat 32 h) (.lhu n d x m)) ∧
    (Fits n a 4 → Loads s n d (BitVec.ofNat 32 w) (.lw n d x m)) ∧
    (Fits n a 8 → GivesP s n d (BitVec.ofNat 64 (w + 2 ^ 32 * u)) 2 (.pld n d x m))

/-- At an aligned address inside local memory SB, SH, SW and PST write the low 1, 2, 4 or 8 bytes of their register, lowest byte at the effective address; every byte outside them reads as before, and every register but pc, CYCLE and RETIRED is unchanged. (R186, R187, R199) -/
def Obligations.StoreResults : Prop :=
  ∀ (s : State) (n d x m : Nat), Ready s n →
    let a := ea s n x m
    (Fits n a 1 → Stores s n a 1 (s.gr n d).toNat (.sb n d x m)) ∧ (Fits n a 2 → Stores s n a 2 (s.gr n d).toNat (.sh n d x m)) ∧
    (Fits n a 4 → Stores s n a 4 (s.gr n d).toNat (.sw n d x m)) ∧ (Fits n a 8 → Stores s n a 8 (s.pr n d).toNat (.pst n d x m))

/-- A halfword, word or doubleword load or store at an address that is no multiple of its size, and a JALR whose target is no multiple of 4, raises MISALIGN (4) with EVAL the address: outside a handler EPC is the instruction's pc, PIE the old IE, IE 0, EXC 1 and pc VBASE plus 16 times the cause, with memory and general registers unchanged; inside a handler, for a core whose CRITICAL is 0, the same cause registers are written and the core halts with reason DOUBLE at the instruction, DOUBLE_FAULT set. LB, LBU and SB complete at every address inside local memory. An aligned access that leaves local memory raises ACCESS (5) instead. (R186) -/
def Obligations.MisalignedAccessTraps : Prop :=
  ∀ (s : State) (n d x m : Nat), Ready s n →
    let a := ea s n x m; let c := s.core n
    let doubled := fun (v : Nat) (i : Instr) => c.exc = true → s.on (SCRIBER.CORE_CTRL_CRITICAL n) = false →
      Answers i s (fun t => let u := t.core n
        u.halted = true ∧ u.haltReason = 5 ∧ u.pc = c.pc ∧ u.epc = c.pc ∧ u.ecause = 4 ∧ u.eval = BitVec.ofNat 32 v ∧ u.g = c.g ∧
        u.p = c.p ∧ u.mem = c.mem ∧ t.faultBit 5 0 = true ∧ ∀ j, j ≠ n → t.core j = s.core j)
    let misalign := fun (v : Nat) (i : Instr) => (c.exc = false → Traps s n 4 v i) ∧ doubled v i
    let beyond := fun (k : Nat) (i : Instr) => c.exc = false → a % k = 0 → memSize n < a + k → Traps s n 5 a i
    (a % 2 ≠ 0 → misalign a (.lh n d x m) ∧ misalign a (.lhu n d x m) ∧ misalign a (.sh n d x m)) ∧
    (a % 4 ≠ 0 → misalign a (.lw n d x m) ∧ misalign a (.sw n d x m)) ∧
    (a % 8 ≠ 0 → misalign a (.pld n d x m) ∧ misalign a (.pst n d x m)) ∧
    (a % 4 ≠ 0 → misalign a (.jalr n d x m)) ∧
    (a < memSize n → Loads s n d ((BitVec.ofNat 8 ((s.core n).byte a)).signExtend 32) (.lb n d x m) ∧
      Loads s n d (BitVec.ofNat 32 ((s.core n).byte a % 256)) (.lbu n d x m) ∧ Stores s n a 1 (s.gr n d).toNat (.sb n d x m)) ∧
    beyond 1 (.lb n d x m) ∧ beyond 1 (.lbu n d x m) ∧ beyond 2 (.lh n d x m) ∧ beyond 2 (.lhu n d x m) ∧ beyond 4 (.lw n d x m) ∧
    beyond 8 (.pld n d x m) ∧ beyond 1 (.sb n d x m) ∧ beyond 2 (.sh n d x m) ∧ beyond 4 (.sw n d x m) ∧ beyond 8 (.pst n d x m)

/-- BEQ, BNE, BLT, BGE, BLTU and BGEU are taken by their comparison of rt with rs1, in 2 cycles to pc + 4 sext(imm16), otherwise in 1 to the next word; JAL writes pc + 4 and goes to pc + 4 sext(imm16) in 2, JALR writes pc + 4 and goes to rs1 + sext(imm16) in 3 where that is word-aligned. No other register changes, and no memory. (R190, R194, R200) -/
def Obligations.BranchResults : Prop :=
  ∀ (s : State) (n d x m : Nat), Ready s n →
    let a := s.gr n d; let b := s.gr n x; let e : Word := (BitVec.ofNat 16 m).signExtend 32; let pc := (s.core n).pc
    Branches s n m (a == b) (.beq n d x m) ∧ Branches s n m (a != b) (.bne n d x m) ∧
    Branches s n m (decide (a.toInt < b.toInt)) (.blt n d x m) ∧ Branches s n m (decide (b.toInt ≤ a.toInt)) (.bge n d x m) ∧
    Branches s n m (decide (a.toNat < b.toNat)) (.bltu n d x m) ∧ Branches s n m (decide (b.toNat ≤ a.toNat)) (.bgeu n d x m) ∧
    Jumps s n d (pc + 4) (pc + e * 4) 2 (.jal n d m) ∧
    ((b + e).toNat % 4 = 0 → Jumps s n d (pc + 4) (b + e) 3 (.jalr n d x m))

/-- PADD and PSUB add and subtract positions, PADDC adds whole counts and PADDF 1/65,536 counts of a general register, PMOV copies, PSETC sets whole counts, PLO, PHI, PSETLO and PSETHI move halves, PCMP gives the sign of the wrapped difference as a signed number; each takes 1 cycle. PMULC multiplies by the signed 16.16 factor to the nearest 1/65,536 with ties away from zero, in 4. (R190, R202) -/
def Obligations.PositionResults : Prop :=
  ∀ (s : State) (n d x y : Nat), Ready s n →
    let a := s.pr n x; let b := s.pr n y; let g := s.gr n y; let gx := s.gr n x; let diff := (a - b).toInt
    let p := a.toInt * g.toInt
    GivesP s n d (a + b) 1 (.padd n d x y) ∧ GivesP s n d (a - b) 1 (.psub n d x y) ∧
    GivesP s n d (a + BitVec.ofInt 64 (g.toInt * 65536)) 1 (.paddc n d x y) ∧
    GivesP s n d (a + BitVec.ofInt 64 g.toInt) 1 (.paddf n d x y) ∧ GivesP s n d a 1 (.pmov n d x) ∧
    GivesP s n d (BitVec.ofInt 64 (gx.toInt * 65536)) 1 (.psetc n d x) ∧
    GivesG s n d (BitVec.ofNat 32 a.toNat) 1 (.plo n d x) ∧ GivesG s n d (BitVec.ofNat 32 (a.toNat / 2 ^ 32)) 1 (.phi n d x) ∧
    GivesP s n d (BitVec.ofNat 64 ((s.pr n d).toNat / 2 ^ 32 * 2 ^ 32 + gx.toNat)) 1 (.psetlo n d x) ∧
    GivesP s n d (BitVec.ofNat 64 (gx.toNat * 2 ^ 32 + (s.pr n d).toNat % 2 ^ 32)) 1 (.psethi n d x) ∧
    GivesG s n d (if diff < 0 then 0xFFFFFFFF else if diff = 0 then 0 else 1) 1 (.pcmp n d x y) ∧
    GivesP s n d (BitVec.ofInt 64 (if 0 ≤ p then (p + 32768) / 65536 else -((-p + 32768) / 65536))) 4 (.pmulc n d x y)

/-- For a core that may begin an instruction, CRR of a control register leaves its value in rd and changes nothing else, but that CYCLE_LO and RETIRED_LO latch their high halves; CRW, CRS and CRC of a scratch register leave the old value in rd and rs1, old or rs1, old and not rs1 in the register; CRW of CSTAT writes IE, EXC and PIE, CRW of EPC the word, CRW and CRS of GFAULT_LO clear the bits that are 1 in rs1 and CRC of it writes nothing. Outside a handler a reserved number makes CRR raise ILLEGAL with the instruction word, and a reserved or read-only one CRW, CRS and CRC. (R192, R203, R205, R218) -/
def Obligations.ControlRegisterAccess : Prop :=
  ∀ (s : State) (n d cr x : Nat), Ready s n →
    let c := s.core n; let w := s.gr n x; let pc := c.pc + 4
    let old := Tbl.get (fun _ => (0 : Word)) c.scratch (cr - 0x10)
    let put := fun v => ({ c with scratch := Tbl.put (fun _ => (0 : Word)) c.scratch (cr - 0x10) v }).setG d old
    let ran := fun (i : Instr) (c1 : Core) => Answers i s (fun t => Ran s t n 1 pc c1)
    let glo := BitVec.ofNat 32 c.gfault
    let clr := ({ c with gfault := c.gfault - (c.gfault &&& w.toNat) }).setG d glo
    (∀ v, s.crGet n cr = some v → ran (.crr n d cr) ((if cr = 6 then { c with cycleHi := BitVec.ofNat 32 (c.cycle.toNat / 2 ^ 32) }
      else if cr = 8 then { c with retiredHi := BitVec.ofNat 32 (c.retired.toNat / 2 ^ 32) } else c).setG d (BitVec.ofNat 32 v))) ∧
    (0x10 ≤ cr ∧ cr ≤ 0x13 → ran (.crw n d cr x) (put w) ∧ ran (.crs n d cr x) (put (old ||| w)) ∧ ran (.crc n d cr x) (put (old &&& ~~~w))) ∧
    ran (.crw n d 1 x) (({ c with ie := w.getLsbD 0, exc := w.getLsbD 1, pie := w.getLsbD 2 }).setG d
      (BitVec.ofNat 32 (bit c.ie + 2 * bit c.exc + 4 * bit c.pie))) ∧
    ran (.crw n d 2 x) (({ c with epc := w }).setG d c.epc) ∧
    ran (.crw n d 0x0A x) clr ∧ ran (.crs n d 0x0A x) clr ∧ ran (.crc n d 0x0A x) (c.setG d glo) ∧
    (c.exc = false → s.crGet n cr = none → Traps s n 1 (encodeScriber (.crr n d cr)) (.crr n d cr)) ∧
    (c.exc = false → crReadOnly cr = true → Traps s n 1 (encodeScriber (.crw n d cr x)) (.crw n d cr x) ∧
      Traps s n 1 (encodeScriber (.crs n d cr x)) (.crs n d cr x) ∧ Traps s n 1 (encodeScriber (.crc n d cr x)) (.crc n d cr x))

/-- NOP changes pc, CYCLE and RETIRED alone; ISYNC in 4 cycles makes later fetches see every earlier store; ERET in a handler takes 3 cycles to EPC (word-aligned) with IE := PIE and EXC := 0, and outside one raises ILLEGAL with its word; HALT halts with reason SELF at the next instruction, retired; BREAK with BREAK_HALT 1 halts with reason BREAK at itself and sets BP_EV, and with BREAK_HALT 0 outside a handler raises BREAK with EVAL its code. (R188, R192, R204, R205, R207, R212) -/
def Obligations.SystemResults : Prop :=
  ∀ (s : State) (n code : Nat), Ready s n →
    let c := s.core n; let pc := c.pc + 4
    Answers (.nop n) s (fun t => Ran s t n 1 pc c) ∧ Answers (.isync n) s (fun t => Ran s t n 4 pc { c with stale := [] }) ∧
    (c.exc = true → Answers (.eret n) s (fun t => Ran s t n 3 (c.epc &&& 0xFFFFFFFC) { c with ie := c.pie, exc := false })) ∧
    (c.exc = false → Traps s n 1 0xA4000001 (.eret n)) ∧
    Answers (.halt n) s (fun t => Halted s t n 2 pc ∧ (t.core n).retired = c.retired + 1) ∧
    (s.on (SCRIBER.CORE_CTRL_BREAK_HALT n) = true → Answers (.brk n code) s (fun t => Halted s t n 6 c.pc ∧ t.on SCRIBER.INT_STAT_BP_EV = true)) ∧
    (s.on (SCRIBER.CORE_CTRL_BREAK_HALT n) = false → c.exc = false → Traps s n 6 code (.brk n code))

/-- CORE_RUN of a halted core starts it at its pc with nothing else changed. CORE_HALT_REQ of a running core in no wait sets HALTING alone, and one in WAITEV or RECV leaves the wait at the same pc with CYCLE counting on; HALT_COMPLETE of a halting core in no wait, with no Placer command waiting, halts it with reason HOST at its pc. BREAKPOINT_HIT at the breakpoint halts with reason BREAKPOINT before the instruction and sets BP_EV. GAUGE_FAULT_EXCEPTION with a fault that may be taken and no wait enters the handler with cause 7, ASYNC 1, EVAL the lowest gauge at fault, EPC the pc; as it executes no instruction, the first one after a RUN still hits no breakpoint. CORE_STEP of a halted core without a due fault whose word is certain and reads ADDI executes it and halts with reason STEP. (R208, R211, R212, R213) -/
def Obligations.CoreRunHaltBreak : Prop :=
  ∀ (s : State) (n : Nat),
    let c := s.core n
    (n < 34 → s.fabric = true → c.halted = true →
      exec (.coreRun n) s = .next (s.setCore n { c with halted := false, halting := false, firstInstr := true })) ∧
    (s.coreRuns n = true → c.wait = .none → Answers (.coreHaltReq n) s (fun t => CoreOnly s t n { c with halting := true })) ∧
    (∀ d m, s.coreRuns n = true → (c.wait = .event d m ∨ c.wait = .mail d m) →
      Answers (.coreHaltReq n) s (fun t => t = { s with cores := t.cores, freeCtr := t.freeCtr } ∧ (∀ j, j ≠ n → t.core j = s.core j) ∧
        t.core n = { c with wait := .none, halting := true, cycle := (t.core n).cycle })) ∧
    (n < 34 → c.halting = true → c.wait = .none → s.obj.cmds = [] → Answers (.haltComplete n) s (fun t => Halted s t n 1 c.pc)) ∧
    (s.coreRuns n = true → c.wait = .none → c.faultDue = false → s.atBreakpoint n = true →
      Answers (.breakpointHit n) s (fun t => Halted s t n 3 c.pc ∧ t.on SCRIBER.INT_STAT_BP_EV = true)) ∧
    (∀ g, s.coreRuns n = true → c.wait = .none → c.ie = true → c.exc = false → g < 64 → c.gfault.testBit g = true →
      (∀ j, j < g → c.gfault.testBit j = false) → Answers (.gaugeFaultException n) s (fun t =>
        t = { s with cores := t.cores, freeCtr := t.freeCtr } ∧ (∀ j, j ≠ n → t.core j = s.core j) ∧
        t.core n = { c with
          epc := c.pc, eval := BitVec.ofNat 32 g, ecause := 0x80000007, pie := true, ie := false, exc := true, pc := c.vbase + 112,
          cycle := (t.core n).cycle })) ∧
    (∀ d x m, n < 34 → s.fabric = true → c.halted = true → c.wait = .none → c.faultDue = false → c.pc.toNat < memSize n →
      c.older c.pc.toNat = [] → decodeScriber n (c.load c.pc.toNat 4) = some (.addi n d x m) →
      Answers (.coreStep n) s (fun t => let u := t.core n
        u.halted = true ∧ u.haltReason = 4 ∧ u.pc = c.pc + 4 ∧ u.retired = c.retired + 1 ∧ u.mem = c.mem ∧
        u.g = (c.setG d (s.gr n x + (BitVec.ofNat 16 m).signExtend 32)).g ∧ ∀ j, j ≠ n → t.core j = s.core j))

/-- CORE_REINIT of a halted core with no posted write left returns its registers, control registers and pc to reset, empties its mailbox, clears its wake flag and removes every calendar entry it owns; its memory and its calendar range stay, and every other core is as before. (Posted writes that are left take effect first: assumption 22.) A debug write selecting g1 to g31 or p0 to p7 writes that register alone, one selecting g0 is discarded and sets ACCESS_LOG.RO_WRITE; a debug read answers the low half of the selected register and latches its high half; a running core's debug read answers zero and its debug write is discarded and logged. (R35, R210, R214, R215, R216) -/
def Obligations.CoreReinitAndDebug : Prop :=
  ∀ (s : State) (n v : Nat), n < 34 → s.fabric = true →
    let c := s.core n; let r := s.fld (SCRIBER.CORE_DBG_SEL_REG n)
    (c.halted = true → c.writes = [] → Answers (.coreReinit n) s (fun t =>
      t.core n = { Core.reset with
        calBase := c.calBase, calCount := c.calCount, haltReason := c.haltReason, mem := c.mem, stale := c.stale } ∧
      (∀ e x, t.entry e = some x → x.owner ≠ n) ∧ (∀ m, m ≠ n → t.core m = s.core m))) ∧
    (c.halted = true → 0 < r → r < 0x20 →
      exec (.debugRegisterWrite n v) s = .next (s.setCore n (c.setG r (BitVec.ofNat 32 v))) ∧
      Answers (.debugRegisterRead n) s (fun t => t.reply = [(c.gr r).toNat] ∧ t.reg (SCRIBER.CORE_DBG_HI n) = 0 ∧ t.cores = s.cores)) ∧
    (c.halted = true → 0x20 ≤ r → r < 0x28 →
      exec (.debugRegisterWrite n v) s =
        .next (s.setCore n (c.setP (r - 0x20) (BitVec.ofNat 64 (v % 2 ^ 32 + (s.reg (SCRIBER.CORE_DBG_HI n)).toNat * 2 ^ 32)))) ∧
      Answers (.debugRegisterRead n) s (fun t => t.reply = [(c.pr (r - 0x20)).toNat % 2 ^ 32] ∧
        t.reg (SCRIBER.CORE_DBG_HI n) = BitVec.ofNat 32 ((c.pr (r - 0x20)).toNat / 2 ^ 32) ∧ t.cores = s.cores)) ∧
    (c.halted = true → r = 0 → Answers (.debugRegisterWrite n v) s (fun t => t.on SYS.ACCESS_LOG_RO_WRITE = true ∧ t.cores = s.cores)) ∧
    (c.halted = false → exec (.debugRegisterRead n) s = .next (s.answer [0]) ∧
      Answers (.debugRegisterWrite n v) s (fun t => t.on SYS.ACCESS_LOG_RO_WRITE = true ∧ t.cores = s.cores))

/-- ARM with room in the request queue, a valid gauge, direction and action, and a free entry in the core's range takes the lowest such entry, posts the request, counts it in CAL_PEND and leaves the ticket in rd; a full request queue answers 0x10000 and a request that the checks refuse 0x30000, with nothing else changed. DISARM posts its request and answers 0, or answers 1 where the queue is full. WAITP with WE 1 and the wake flag set ends at once with 2 and clears the flag; otherwise, with its arm accepted, the core stands in the wait at the same pc. WAITEV with a selected condition true ends at once with the conditions in rd, clearing a selected wake flag; with none it waits. (R171, R218, R220, R222, R223, R226, R229) -/
def Obligations.TimedResults : Prop :=
  ∀ (s : State) (n d x y g dir : Nat) (b : Bool), Ready s n →
    let c := s.core n; let pc := c.pc + 4; let w := (s.gr n y).toNat; let action := bits w 12 4; let arg := setBits w 12 4 0; let pos := (s.pr n x).toNat
    (∀ e, c.calPend < 4 → s.armValid g dir action arg = true → c.calBase ≤ e → e < c.calBase + c.calCount → s.entry e = none →
      (∀ j, c.calBase ≤ j → j < e → s.entry j ≠ none) → Answers (.arm n d x y g dir b) s (fun t => let u := t.core n
        let gen := (s.generation e + 1) % 8
        u.pc = pc ∧ u.calPend = c.calPend + 1 ∧ t.gc.reqs = s.gc.reqs ++ [.arm e] ∧ (d ≠ 0 → u.gr d = BitVec.ofNat 32 (e + gen * 2 ^ 13)) ∧
        (∀ k, k ≠ d → u.gr k = c.gr k) ∧ (∀ j, j ≠ e → t.entry j = s.entry j) ∧
        ∃ z, t.entry e = some z ∧ z.owner = n ∧ z.action = action ∧ z.arg = arg ∧ z.gauge = g ∧ z.dir = dir ∧ z.pos = pos ∧
          z.discard = b ∧ z.requested = true ∧ z.gen = gen)) ∧
    (4 ≤ c.calPend → GivesG s n d 0x10000 2 (.arm n d x y g dir b)) ∧
    (c.calPend < 4 → s.armValid g dir action arg = false → GivesG s n d 0x30000 2 (.arm n d x y g dir b)) ∧
    (c.calPend < 4 → Answers (.disarm n d y) s (fun t => (t.core n).pc = pc ∧ (t.core n).calPend = c.calPend + 1 ∧ (t.core n).gr d = 0 ∧
      t.gc.reqs = s.gc.reqs ++ [.disarm n (w % 2 ^ 16)] ∧ ∀ k, k ≠ d → (t.core n).gr k = c.gr k)) ∧
    (4 ≤ c.calPend → GivesG s n d 1 2 (.disarm n d y)) ∧
    (b = true → c.wake = true → Answers (.waitp n d x g dir b) s (fun t => Ran s t n 2 pc (({ c with wake := false }).setG d 2))) ∧
    (∀ e, (b && c.wake) = false → c.calPend < 4 → s.armValid g dir 5 n = true → c.calBase ≤ e → e < c.calBase + c.calCount → e < 8192 →
      s.entry e = none → (∀ j, c.calBase ≤ j → j < e → s.entry j ≠ none) → Answers (.waitp n d x g dir b) s (fun t => let u := t.core n
        u.pc = c.pc ∧ u.wait = .position d e b ∧ u.waitTicket = e + (s.generation e + 1) % 8 * 2 ^ 13 ∧ u.g = c.g ∧
        ∃ z, t.entry e = some z ∧ z.owner = n ∧ z.action = 5 ∧ z.arg = n ∧ z.gauge = g ∧ z.dir = dir ∧ z.pos = pos)) ∧
    (c.conditions &&& y % 16 ≠ 0 → Answers (.waitev n d y) s (fun t => (t.core n).pc = pc ∧ (t.core n).retired = c.retired + 1 ∧
      (d ≠ 0 → (t.core n).gr d = BitVec.ofNat 32 c.conditions) ∧ (t.core n).wake = (c.wake && !y.testBit 0))) ∧
    (y % 16 ≠ 0 → c.conditions &&& y % 16 = 0 → Answers (.waitev n d y) s (fun t => (t.core n).pc = c.pc ∧
      (t.core n).wait = .event d (y % 16) ∧ (t.core n).g = c.g ∧ (t.core n).retired = c.retired))

/-- GRD leaves the gauge's 48.16 value in pd in 2 cycles and GST its status bits, zero for a reserved gauge. On a virtual gauge GSRC, GC1, GC2 and GOFF write their staged register and nothing else but pc, CYCLE and RETIRED, with reserved bits of VG_SRC zero; GCOMMIT commits the staged definition, sets the gauge to its value at once and answers 0 where no entry is armed on it and its sources are enabled and allowed, else answers 1, sets CMD_STATUS.REFUSED and changes no gauge; of the registers a commit may set only the lock events, but in READY, where a needed gauge may have lost its lock (R21). Outside a handler the five raise ILLEGAL with their word on a gauge that is not virtual. (R148, R165, R166, R230) -/
def Obligations.GaugeInstructions : Prop :=
  ∀ (s : State) (n d x g : Nat), Ready s n →
    let c := s.core n; let k := g - 32; let w := s.gr n x; let virt := 32 ≤ g ∧ g < 48
    let writes := fun (i : Instr) (l : List (Nat × Word)) => Answers i s (fun t => Passed s t n ∧ (∀ p, p ∈ l → t.reg p.1 = p.2) ∧
      OnlyRegs s t (l.map Prod.fst) ∧ t.gc = s.gc)
    let ok := s.entriesOn g = [] ∧ (s.staged k).sources.all s.sourceOk = true
    GivesP s n d (BitVec.ofNat 64 (s.gauge g).value) 2 (.grd n d g) ∧
    GivesG s n d (if 27 ≤ g ∧ g < 32 then 0 else BitVec.ofNat 32 (bit (s.gaugeOn g) + 2 * bit (s.gaugeLocked g) +
      4 * bit (s.gaugeCoasting g) + 8 * s.fld (GAUGE.G_STATUS_STILL g) + 16 * s.fld (GAUGE.G_STATUS_HELD g) +
      256 * s.fld (GAUGE.G_STATUS_FAULT_KIND g))) 2 (.gst n d g) ∧
    (virt → writes (.gsrc n g x) [(GAUGE.VG_SRC k, w &&& 0xBF3F)] ∧ writes (.gc1 n g x) [(GAUGE.VG_C1 k, w)] ∧
      writes (.gc2 n g x) [(GAUGE.VG_C2 k, w)] ∧
      writes (.goff n g x) [(GAUGE.VG_OFF_LO k, BitVec.ofNat 32 (s.pr n x).toNat), (GAUGE.VG_OFF_HI k, BitVec.ofNat 32 ((s.pr n x).toNat / 2 ^ 32))] ∧
      (ok → Answers (.gcommit n d g) s (fun t => Left s t n d 0 ∧ t.virtual k = some (s.staged k) ∧
        (t.gauge g).value = s.virtualValue (s.staged k) ∧ (s.eng ≠ engReady → OnlyRegs s t [GAUGE.INT_STAT]) ∧ ∀ m, m ≠ g → t.gauge m = s.gauge m)) ∧
      (¬ ok → Answers (.gcommit n d g) s (fun t => Left s t n d 1 ∧ t.on GAUGE.CMD_STATUS_REFUSED = true ∧ t.gc = s.gc))) ∧
    (¬ virt → c.exc = false → Traps s n 1 (encodeScriber (.gsrc n g x)) (.gsrc n g x) ∧ Traps s n 1 (encodeScriber (.gc1 n g x)) (.gc1 n g x) ∧
      Traps s n 1 (encodeScriber (.gc2 n g x)) (.gc2 n g x) ∧ Traps s n 1 (encodeScriber (.goff n g x)) (.goff n g x) ∧
      Traps s n 1 (encodeScriber (.gcommit n d g)) (.gcommit n d g))

/-- For a handle and field that pass their checks and name an object that is no group, with no earlier write of the core to it outstanding, OBJRD leaves the field in rd and OBJRDP in pd; OBJWR and OBJWRP with room in the write queue post the handle, field and value behind the core's earlier writes. Outside a handler a failed check raises OBJECT with EVAL the handle and the reason times 65,536. A delivery carries out the core's oldest posted write, or where its handle is no longer valid sets UNDELIVERED with the first such handle. (R219, R231, R232, R233, R234, R250) -/
def Obligations.ObjectInstructions : Prop :=
  ∀ (s : State) (n d x f : Nat), Ready s n →
    let c := s.core n; let h := (s.gr n x).toNat % 2 ^ 16; let rd := fun wide => s.fieldCheck h f n false wide; let wr := fun wide => s.fieldCheck h f n true wide
    let posts := fun (i : Instr) (v : Nat) => Answers i s (fun t => Ran s t n 1 (c.pc + 4) { c with writes := c.writes ++ [⟨h, f, v⟩] })
    (∀ k, s.classOf h = some k → k ≠ .group → (∀ w, w ∈ c.writes → w.handle ≠ h) →
      (rd false = 0 → Answers (.objrd n d x f) s (fun t => Left s t n d (BitVec.ofNat 32 (s.readOne h k f n).1))) ∧
      (rd true = 0 → Answers (.objrdp n d x f) s (fun t => (t.core n).pc = c.pc + 4 ∧ (t.core n).pr d = BitVec.ofNat 64 (s.readOne h k f n).1 ∧
        (t.core n).g = c.g ∧ ∀ j, j ≠ d → (t.core n).pr j = c.pr j))) ∧
    (c.writes.length < 8 → (wr false = 0 → posts (.objwr n d x f) (s.gr n d).toNat) ∧ (wr true = 0 → posts (.objwrp n d x f) (s.pr n d).toNat)) ∧
    (c.exc = false → (rd false ≠ 0 → Traps s n 8 (h + rd false * 2 ^ 16) (.objrd n d x f)) ∧ (rd true ≠ 0 → Traps s n 8 (h + rd true * 2 ^ 16) (.objrdp n d x f)) ∧
      (wr false ≠ 0 → Traps s n 8 (h + wr false * 2 ^ 16) (.objwr n d x f)) ∧ (wr true ≠ 0 → Traps s n 8 (h + wr true * 2 ^ 16) (.objwrp n d x f))) ∧
    (∀ w l, n < 34 → s.fabric = true → c.writes = w :: l → s.classOf w.handle = none → Answers (.objectWriteDelivery n) s (fun t =>
      CoreOnly s t n { c with writes := l, undelivered := true, objErrHandle := if c.undelivered then c.objErrHandle else w.handle })) ∧
    (∀ w l k width a, n < 34 → s.fabric = true → c.writes = w :: l → s.classOf w.handle = some k → k ≠ .group →
      s.fieldSpec w.handle k w.field = some (width, a) → exec (.objectWriteDelivery n) s =
        .next (State.settle (State.writeOne (s.setCore n { c with writes := l }) w.handle k w.field (w.value % 2 ^ width) n) n))

/-- On a Steward, with no full retrain in progress, OBJLD at an aligned offset that passes its check leaves the bytes in its register by its size, OBJST writes the low bytes of its register to an object with no poisoned word and no other byte, QPOP moves the oldest record of queue 0 to 15 or 32 to 47 to local memory with 0 in rd, or leaves 1 there for an empty queue, QPUSH appends the 64 bytes to queue 16 to 47 with 0 in rd, or leaves 1 there for a full one. During a full retrain OBJLD and OBJST may instead raise OBJECT with reason TIMEOUT, outside a handler. A Scriber raises PROFILE with the instruction word, outside a handler. (R182, R183, R219, R239, R240, R355) -/
def Obligations.ServiceInstructions : Prop :=
  ∀ (s : State) (n d x y k q : Nat), Ready s n →
    let c := s.core n; let h := (s.gr n x).toNat % 2 ^ 16; let off := (s.gr n y).toNat; let a := (s.gr n x).toNat; let len := loadSize k
    let v := if k = 3 then (s.pr n d).toNat else (s.gr n d).toNat
    let late := fun (i : Instr) (P : State → Prop) => c.exc = false → Answers i s (fun t => P t ∨ (t.core n).ecause = 8 ∧
      (t.core n).eval = BitVec.ofNat 32 (h + 6 * 2 ^ 16) ∧ (t.core n).epc = c.pc ∧ (t.core n).g = c.g ∧ (t.core n).p = c.p)
    (32 ≤ n → k ≤ 5 → off % len = 0 → s.objCheck h off len false true = 0 → s.fld DRAMC.TRAIN_STATE ≠ 5 → let b := s.objNat h off len
      if k = 5 then GivesP s n d (BitVec.ofNat 64 b) 1 (.objld n d x y k)
      else GivesG s n d (if k = 1 then (BitVec.ofNat 8 b).signExtend 32 else if k = 3 then (BitVec.ofNat 16 b).signExtend 32 else BitVec.ofNat 32 b) 1
        (.objld n d x y k)) ∧
    (∀ o, 32 ≤ n → k ≤ 3 → off % 2 ^ k = 0 → s.objCheck h off (2 ^ k) false false = 0 → s.readOnlyData h = false → s.dataObj h = some o →
      o.poisoned = [] → s.fld DRAMC.TRAIN_STATE ≠ 5 → Answers (.objst n d x y k) s (fun t => Passed s t n ∧ (∀ i, i < 2 ^ k → t.objRead h (off + i) 1 = [v / 256 ^ i % 256]) ∧
        ∀ b, (b < off ∨ off + 2 ^ k ≤ b) → t.objRead h b 1 = s.objRead h b 1)) ∧
    (32 ≤ n → k ≤ 5 → off % len = 0 → s.objCheck h off len false true = 0 → late (.objld n d x y k) (fun t => (t.core n).pc = c.pc + 4)) ∧
    (32 ≤ n → k ≤ 3 → off % 2 ^ k = 0 → s.objCheck h off (2 ^ k) false false = 0 → s.readOnlyData h = false →
      late (.objst n d x y k) (fun t => (t.core n).pc = c.pc + 4)) ∧
    (∀ r l, 32 ≤ n → (q < 16 ∨ 32 ≤ q ∧ q < 48) → Fits n a 64 → s.dq q = r :: l → Answers (.qpop n d x q) s (fun t => t.dq q = l ∧
      (t.core n).pc = c.pc + 4 ∧ (d ≠ 0 → (t.core n).gr d = 0) ∧ (∀ i, i < 64 → (t.core n).byte (a + i) = r.getD i 0 % 256) ∧
      ∀ b, (b < a ∨ a + 64 ≤ b) → (t.core n).byte b = c.byte b)) ∧
    (32 ≤ n → (q < 16 ∨ 32 ≤ q ∧ q < 48) → Fits n a 64 → s.dq q = [] → GivesG s n d 1 1 (.qpop n d x q)) ∧
    (32 ≤ n → 16 ≤ q → q < 48 → Fits n a 64 → (s.dq q).length < queueDepth q → Answers (.qpush n d x q) s (fun t => Left s t n d 0 ∧
      t.dq q = s.dq q ++ [(List.range 64).map (fun i => c.byte (a + i))])) ∧
    (32 ≤ n → 16 ≤ q → q < 48 → Fits n a 64 → queueDepth q ≤ (s.dq q).length → GivesG s n d 1 1 (.qpush n d x q)) ∧
    (n < 32 → c.exc = false → k ≤ 3 → q < 64 → Traps s n 2 (encodeScriber (.objld n d x y k)) (.objld n d x y k) ∧
      Traps s n 2 (encodeScriber (.objst n d x y k)) (.objst n d x y k) ∧ Traps s n 2 (encodeScriber (.qpop n d x q)) (.qpop n d x q) ∧
      Traps s n 2 (encodeScriber (.qpush n d x q)) (.qpush n d x q))

/-- SEND to a core of this device that stands in no wait, with a mailbox of fewer than 16 messages, appends the payload with the sender as its source and leaves 0 in rd; a full mailbox leaves 1 and changes nothing else; a reserved core number raises MAILBOX with ga, outside a handler. RECV takes the oldest message, payload to pa and source to rd; with none, NW 1 leaves 0xFFFFFFFF and NW 0 waits at the same pc. SLOTW writes the handle and field of its slot and the 64-bit value. A message of another device over a working link joins the mailbox, or is dropped and counted where 16 are there. (R224, R236, R237, R238) -/
def Obligations.MessageInstructions : Prop :=
  ∀ (s : State) (n d x y : Nat) (nw : Bool) (payload source : Nat), Ready s n →
    let c := s.core n; let wd := (s.gr n x).toNat; let dst := wd % 64; let own := wd / 64 % 4 = s.position; let v := s.pr n y
    let slot := fun i => CALENDAR.SLOT (4 * (wd % 1024) + i)
    (dst < 34 → own → (s.core dst).wait = .none → (s.core dst).mail.length < 16 → Answers (.send n d x y) s (fun t => Left s t n d 0 ∧
      (t.core dst).mail = (s.core dst).mail ++ [⟨v, n + s.position * 64⟩] ∧ ∀ m, m ≠ dst → (t.core m).mail = (s.core m).mail)) ∧
    (dst < 34 → own → 16 ≤ (s.core dst).mail.length → GivesG s n d 1 2 (.send n d x y)) ∧
    (34 ≤ dst → c.exc = false → Traps s n 10 wd (.send n d x y)) ∧
    (∀ m l, c.mail = m :: l → Answers (.recv n d x nw) s (fun t => (t.core n).pc = c.pc + 4 ∧ (t.core n).mail = l ∧
      (t.core n).pr x = m.payload ∧ (d ≠ 0 → (t.core n).gr d = BitVec.ofNat 32 m.source) ∧ ∀ k, k ≠ d → (t.core n).gr k = c.gr k)) ∧
    (c.mail = [] → if nw then GivesG s n d 0xFFFFFFFF 2 (.recv n d x nw) else Answers (.recv n d x nw) s (fun t => (t.core n).pc = c.pc ∧
      (t.core n).wait = .mail d x ∧ (t.core n).g = c.g)) ∧
    Answers (.slotw n d x y) s (fun t => Passed s t n ∧ t.reg (slot 0) = s.gr n d ∧ t.reg (slot 1) = 0 ∧ t.reg (slot 2) = BitVec.ofNat 32 v.toNat ∧
      t.reg (slot 3) = BitVec.ofNat 32 (v.toNat / 2 ^ 32) ∧ OnlyRegs s t [slot 0, slot 1, slot 2, slot 3]) ∧
    (s.linkUp = true → c.mail.length < 16 → Answers (.remoteMessageArrival n payload source) s (fun t =>
      CoreOnly s t n { c with mail := c.mail ++ [⟨BitVec.ofNat 64 payload, source⟩] })) ∧
    (s.linkUp = true → 16 ≤ c.mail.length → Answers (.remoteMessageArrival n payload source) s (fun t =>
      CoreOnly s t n { c with mailDrops := min (c.mailDrops + 1) 65535 }))

/-- VSTBY_RISE after a fall starts the power-on reset; where Ember was lost it reads COUNT 1, CAUSE 1, VBAT_LOST 1 and no trip flag, else it keeps a count already made; above 2.90 V, at once or later, an OFF engine is in TINDER. POWER_ON_RESET drives every EN low, leaves every register at its reset value, keeps MRAM and flash, and counts the reset with CAUSE 1 while Ember is valid and VBAT holds. VSTBY_LOST takes the engine to OFF and loses Ember without VBAT. POR_END, VBAT_LOSS and RESET_N_RELEASE change their own levels alone; XTAL_MISSING raises XTAL_FAULT; MRAM_REWRITE of a powered device counts a pass unless the boot configuration turns it off. (R19, R41, R88, R90, R91, R92, R109) -/
def Obligations.SupplyEvents : Prop :=
  ∀ (s : State) (full b : Bool),
    let e := s.tinder
    (e.vstby = false → Answers (.vstbyRise ⟨full, b⟩) s (fun t => t.tinder.vstby = true ∧ t.tinder.vstbyHigh = full ∧ t.tinder.vbat = b ∧
      t.tinder.por = true ∧ t.tinder.mram = e.mram ∧
      (e.emberValid = false → t.tinder.emberValid = true ∧ t.tinder.count = 1 ∧ t.tinder.cause = 1 ∧ t.tinder.vbatLost = true ∧ t.tinder.trip = false) ∧
      (e.emberValid = true → e.uncounted = false → t.tinder.count = e.count ∧ t.tinder.cause = e.cause) ∧
      (s.eng = engOff → t.eng = if full then engTinder else engOff))) ∧
    (e.vstby = true → e.vstbyHigh = false → e.uncounted = false → Answers (.vstbyRise ⟨true, b⟩) s (fun t => t.tinder = { e with vstbyHigh := true } ∧
      t.eng = if s.eng = engOff then engTinder else s.eng)) ∧
    (e.vstby = true → Answers .powerOnReset s (fun t => t.tinder.vstby = false ∧ t.tinder.por = true ∧ t.tinder.inReset = true ∧ t.tinder.en = 0 ∧
      t.regs = [] ∧ t.cores = [] ∧ t.tinder.mram = e.mram ∧ t.tinder.flash = e.flash ∧ t.pending = s.pending ∧
      (e.emberValid = true → t.tinder.vbat = true → t.tinder.count = min (e.count + 1) 0xFFFFFFFF ∧ t.tinder.cause = 1))) ∧
    (e.vstby = false → Answers .vstbyLost s (fun t => t.eng = engOff ∧ t.tinder = { e with emberValid := e.emberValid && e.vbat })) ∧
    (e.vstby = true → e.vstbyHigh = true → e.por = true → exec .porEnd s = .next { s with tinder := { e with por := false } }) ∧
    (e.vstby = true → e.por = false → Answers .xtalMissing s (fun t => t.faultBit 1 16 = true ∧ t.tinder = { e with crystal := false })) ∧
    exec .vbatLoss s = .next { s with tinder := { e with vbat := false, emberValid := e.emberValid && e.vstby } } ∧
    exec .resetNRelease s = .next { s with tinder := { e with resetN := true } } ∧
    (e.rewriteOff = false → e.vstby = true → s.rail 0 = railGood → exec .mramRewrite s = .next { s with tinder := { e with rewrites := e.rewrites + 1 } }) ∧
    (e.rewriteOff = true → exec .mramRewrite s = .next s)

/-- SEQUENCE_START with standby power, no reset and PHASE 0 enters PHASE 1 with the own rails' table loaded as R95 gives it, EN0 driven, rail 0 qualifying and the other own rails waiting. An expired delay drives the rail's EN and starts its filter. RAIL_GOOD after FILTER makes the rail GOOD and starts each waiting dependant, at once where its delay is 0, else into its delay. A sample records VM and advances or restarts the filter of a rising rail, WARN and the drop count of a good one, and counts a discharging rail below OFF_LEVEL as off. A timeout or a drop of a rail whose dependants are all off drives its EN low, makes it FAILED, sets RAIL_FAIL and takes PSEQ_OUT low; an input entry's drop sets INPUT_LOST, takes the engine to TINDER and the rails down. A failed, enabled rail that no failure holds off is retried under a good parent or as a root. HOLD_OFF_END leads to rest, to the register reset, or, with INPUT_RETURN_RESTART, to the counted restart of a lost input; the discharge timeout counts the rail as off and sets DISCHARGE_SLOW. (R93, R94, R95, R98, R99, R100, R101, R103, R104, R105, R126) -/
def Obligations.RailSequence : Prop :=
  ∀ (s : State) (n m vm us : Nat) (pg : Bool), n < 16 → m < 16 →
    let e := s.tinder; let parent := s.fld (TINDER.RAIL_CFG_PARENT n)
    let alone := ∀ k, k < 16 → s.railUnder n 16 k = true →
      k ≠ n ∧ e.en.testBit k = false ∧ e.draining.testBit k = false ∧ (s.rail k ≤ railDelay ∨ s.rail k = railFailed)
    let failed := fun (t : State) => t.rail n = railFailed ∧ t.tinder.en.testBit n = false ∧ t.faultBit 1 n = true ∧
      (s.railEn n = true → t.on TINDER.SEQ_STATUS_PSEQ_OUT = false)
    let restart := fun (t : State) => t.regs = [] ∧ t.cores = [] ∧ t.tinder.inReset = true ∧ t.tinder.mram = e.mram ∧ t.pending = s.pending ∧
      t.tinder.wakeNext = 3 ∧ (e.emberValid = true → t.tinder.count = min (e.count + 1) 0xFFFFFFFF ∧ t.tinder.cause = 1)
    (e.vstby = true → e.por = false → e.resetN = true → s.phase = 0 → Answers .sequenceStart s (fun t => t.phase = 1 ∧ t.rail 0 = railQualify ∧
      t.tinder.en = withBit e.en 0 true ∧ (∀ k, 1 ≤ k → k ≤ 5 → t.rail k = railWait) ∧
      ∀ k, k < 6 → t.railEn k = true ∧ t.fld (TINDER.RAIL_CFG_PARENT k) = (if k = 0 then 0x1F else k - 1) ∧
        t.fld (TINDER.RAIL_CFG_ON_DELAY k) = 0 ∧ t.fld (TINDER.RAIL_CFG_FILTER k) = 1000 ∧ t.fld (TINDER.RAIL_TIME_TIMEOUT k) = 20 ∧
        t.fld (TINDER.RAIL_TIME_DROP k) = 10 ∧ t.fld (TINDER.RAIL_TIME_OFF_LEVEL k) = 80 ∧
        t.fld (TINDER.RAIL_LEVELS_FAULT_LO k) = [642, 706, 647, 721, 706, 880].getD k 0 ∧
        t.fld (TINDER.RAIL_LEVELS_WARN_LO k) = [648, 717, 656, 728, 717, 889].getD k 0 ∧
        t.fld (TINDER.RAIL_LEVELS_FAULT_HI k) = [670, 769, 704, 753, 769, 922].getD k 0)) ∧
    (s.rail n = railDelay → Answers (.railOnDelayExpiry n) s (fun t => t.rail n = railQualify ∧ t.tinder.en = withBit e.en n true ∧
      t.filterUs n = 0 ∧ OnlyRegs s t [TINDER.RAIL_STATUS n])) ∧
    (s.rail n = railQualify → max 1 (s.fld (TINDER.RAIL_CFG_FILTER n)) ≤ s.filterUs n → s.heldOff n = false → e.pbHeld = false →
      Answers (.railGood n) s (fun t => t.rail n = railGood ∧ t.dropUs n = 0 ∧ (m ≠ n → s.railChild n m = true → s.rail m = railWait →
        if s.fld (TINDER.RAIL_CFG_ON_DELAY m) = 0 then t.rail m = railQualify ∧ t.tinder.en.testBit m = true else t.rail m = railDelay))) ∧
    (e.vstby = true → s.rail n = railQualify → Answers (.railMonitorSample n vm pg us) s (fun t => t.fld (TINDER.RAIL_STATUS_VM_NOW n) = min vm 1023 ∧
      t.filterUs n = (if s.railInRange n vm pg then s.filterUs n + us else 0) ∧ t.rail n = railQualify)) ∧
    (e.vstby = true → s.rail n = railGood → Answers (.railMonitorSample n vm pg us) s (fun t => t.fld (TINDER.RAIL_STATUS_VM_NOW n) = min vm 1023 ∧
      t.fbit TINDER.SEQ_STATUS_WARN n = decide (vm < s.fld (TINDER.RAIL_LEVELS_WARN_LO n)) ∧
      t.dropUs n = (if s.railInRange n vm pg then 0 else s.dropUs n + us) ∧ t.rail n = railGood)) ∧
    (e.vstby = true → s.rail n = railDischarge → e.en.testBit n = false → e.failing.testBit n = false →
      Answers (.railMonitorSample n vm pg us) s (fun t => if vm < s.fld (TINDER.RAIL_TIME_OFF_LEVEL n) then t.rail n = railOff ∨ t.rail n = railWait
        else t.rail n = railDischarge)) ∧
    (s.rail n = railQualify → s.railInput n = false → e.down.testBit n = false → alone → Answers (.railTimeout n) s failed) ∧
    (s.rail n = railGood → max 1 (s.fld (TINDER.RAIL_TIME_DROP n)) ≤ s.dropUs n → s.phase ≤ 5 → e.down.testBit n = false →
      (s.railInput n = false → alone → Answers (.railFail n) s failed) ∧
      (s.railInput n = true → e.en.testBit n = false → Answers (.railFail n) s (fun t => t.faultBit 1 17 = true ∧ t.eng = engTinder ∧
        t.tinder.outputsHeld = true ∧ (t.phase = 6 ∨ t.phase = 7) ∧ t.rail n = railQualify))) ∧
    (s.rail n = railFailed → 1 ≤ s.phase → s.phase ≤ 5 → s.railEn n = true → (n < 6 ∨ e.tableRead = true) → s.heldOff n = false → s.railInput n = false →
      (parent = 0x1F ∨ parent < 16 ∧ s.railInput parent = false ∧ s.rail parent = railGood) → Answers (.railRetry n) s (fun t =>
      if s.fld (TINDER.RAIL_CFG_ON_DELAY n) = 0 ∨ parent = 0x1F then t.rail n = railQualify ∧ t.tinder.en = withBit e.en n true else t.rail n = railDelay)) ∧
    (s.rail n = railDischarge → e.en.testBit n = false → e.failing.testBit n = false → Answers (.railDischargeTimeout n) s (fun t =>
      (t.rail n = railOff ∨ t.rail n = railWait) ∧ t.on TINDER.INT_STAT_DISCHARGE_SLOW = true)) ∧
    (s.rail n = railFailed → e.draining.testBit n = true → e.en.testBit n = false → e.failing.testBit n = false →
      Answers (.railDischargeTimeout n) s (fun t => t.rail n = railFailed ∧ t.on TINDER.INT_STAT_DISCHARGE_SLOW = true)) ∧
    (s.phase = 7 → e.after = .rest → Answers .holdOffEnd s (fun t => t.phase = 8 ∧ t.tinder = e)) ∧
    (s.phase = 7 → e.after = .reset → Answers .holdOffEnd s (fun t => t.regs = [] ∧ t.cores = [] ∧ t.phase = 0 ∧ t.tinder.mram = e.mram ∧
      t.tinder.count = e.count ∧ t.tinder.cause = e.cause ∧ t.pending = s.pending)) ∧
    (s.phase = 7 → e.after = .inputBack → s.inputGood = false → Answers .holdOffEnd s (fun t => t.phase = 8 ∧ t.tinder = e)) ∧
    (s.phase = 7 → e.after = .inputBack → s.inputGood = true → e.por = false → e.en = 0 → Answers .holdOffEnd s restart) ∧
    (s.phase = 8 → e.after = .inputBack → s.inputGood = true → e.por = false → e.en = 0 → Answers .inputReturnRestart s restart)

/-- A short press or a shutdown request in PHASE 4 enters PHASE 5, sets SHUTDOWN_EV and begins the orderly shutdown, a KINDLING or READY engine going to BANKED; in PHASE 1 to 3 it is held. A long press in PHASE 1 to 5, POWER_DOWN in PHASE 5, and, after SHUTDOWN_FORCED is set, the shutdown timeout take the engine to TINDER, hold the outputs at their reset levels and take the rails down, every rail without a dependant at once; so does the end of the orderly shutdown once no committed page is left and the run group is at rest. Under standby power RESET_N begins a counted reset with cause 2 and a press in rest one with cause 1 and WAKE 2; with no rail on and no power-down in progress every register is then at its reset value, the count has risen by one, saturating, and MRAM is unchanged. (R105, R106, R107, R108, R109, R110) -/
def Obligations.ShutdownAndReset : Prop :=
  ∀ s : State,
    let e := s.tinder
    let begun := fun (t : State) => t.phase = 5 ∧ t.on TINDER.INT_STAT_SHUTDOWN_EV = true ∧ t.engine.shutdownPending = true ∧
      (s.eng = engKindling ∨ s.eng = engReady → t.eng = engBanked)
    let off := fun (t : State) => t.eng = engTinder ∧ t.tinder.outputsHeld = true ∧ (t.phase = 6 ∨ t.phase = 7) ∧
      ∀ n, n < 16 → (∀ m, m < 16 → s.railChild n m = false) → t.tinder.en.testBit n = false
    let fresh := fun (cause : Nat) (t : State) => t.regs = [] ∧ t.cores = [] ∧ t.tinder.inReset = true ∧ t.tinder.mram = e.mram ∧ t.pending = s.pending ∧
      (e.emberValid = true → t.tinder.count = min (e.count + 1) 0xFFFFFFFF ∧ t.tinder.cause = cause)
    (s.phase = 4 → Answers .pbShortPress s begun ∧ Answers .shutdownReq s begun) ∧
    (1 ≤ s.phase → s.phase ≤ 3 → exec .pbShortPress s = .next { s with tinder := { e with pbHeld := true } } ∧
      exec .shutdownReq s = .next { s with tinder := { e with pbHeld := true } }) ∧
    (1 ≤ s.phase → s.phase ≤ 5 → Answers .pbLongPress s off) ∧
    (s.phase = 5 → Answers .powerDown s off ∧ Answers .shutdownTimeout s (fun t => off t ∧ t.faultBit 1 18 = true)) ∧
    (s.phase = 5 → s.committedLeft = false → s.warm = false → s.eng ≠ engRunOut → s.runAtRest = true → Answers .orderlyShutdownFinish s off) ∧
    (s.phase = 8 → e.por = false → e.en = 0 → Answers .pbWake s (fun t => fresh 1 t ∧ t.tinder.wakeNext = 2)) ∧
    (e.vstby = true → e.por = false → e.en = 0 → s.phase ≠ 6 → s.phase ≠ 7 → Answers .resetNAssert s (fun t => fresh 2 t ∧ t.tinder.resetN = false))

/-- RUN from BANKED with no fault outstanding and no request pending enters KINDLING; while KINDLING, READY or RUNNING with no request pending it changes nothing; elsewhere, or with a request pending, it is refused with the engine object's RUN_REFUSED and REFUSED. BANK from KINDLING or READY enters BANKED at once, and in RUNNING waits for the pages; STOP in RUNNING waits for them. CLEAR from SAFE with no fault outstanding and no unacknowledged trip enters BANKED. KINDLING enters READY when every condition of R20 holds. Elsewhere BANK, STOP and CLEAR change nothing. (R18, R19, R20, R23, R251, R543) -/
def Obligations.EngineRequests : Prop :=
  ∀ s : State,
    let e := s.engine
    (s.eng = engBanked → s.faultOutstanding = false → s.requestPending = false → Answers .run s (fun t => t.eng = engKindling ∧
      t.engine.runRefused = false ∧ t.engine.refused = false)) ∧
    (s.warm = true → s.requestPending = false → exec .run s = .next s) ∧
    (s.warm = true ∧ s.requestPending = true ∨ s.eng = engTinder ∨ s.eng = engSafe ∨ s.eng = engRunOut ∨
        s.eng = engBanked ∧ (s.faultOutstanding = true ∨ s.requestPending = true) →
      exec .run s = .next { s with engine := { e with runRefused := true, refused := true } }) ∧
    (s.eng = engKindling ∨ s.eng = engReady → Answers .bank s (fun t => t.eng = engBanked)) ∧
    (s.eng = engRunning → exec .bank s = .next { s with engine := { e with bankPending := true } } ∧
      exec .stop s = .next { s with engine := { e with stopPending := true } }) ∧
    (s.eng = engSafe → s.faultOutstanding = false → s.on HEARTH.ACK_STATUS_LATCHED = false → s.journalTrip = false →
      Answers .clear s (fun t => t.eng = engBanked)) ∧
    (s.eng = engKindling → s.readyNow = true → Answers .engineReady s (fun t => t.eng = engReady)) ∧
    (s.eng ≠ engKindling → s.eng ≠ engReady → s.eng ≠ engRunning → exec .bank s = .next s) ∧ (s.eng ≠ engRunning → exec .stop s = .next s) ∧
    (s.eng ≠ engSafe → exec .clear s = .next s)

/-- A domain whose PLL is locked while the own rails are good is released and its HOLD bit clears, DDR's letting a waiting training go on; the fabric's release ends the reset, latching the BOOT pins, the reset count and the reset cause. A domain held back sets its HOLD bit, and for the fabric, or for PCIe in HOST boot, the boot fails with error 7 and the flash port serves what the boot ROM found. A FLASH boot without a flash fails with error 5; with an image of one program for each Steward BOOT_STAGE is 2 after the script, and without a script both Stewards run their programs from their entries. In TEST boot the ready step sets BOOT_STAGE 3 with error 9, in UART boot with error 8; in FLASH or HOST boot after stage 2 it sets stage 3 and enters SAFE where a fault that leads there is outstanding, else BANKED. (R41, R113, R114, R115, R116, R117, R118, R120, R245, R518) -/
def Obligations.BootSteps : Prop :=
  ∀ (s : State) (d : Nat) (part : Option FlashPart),
    let e := s.tinder; let err := s.fld SYS.BOOT_STATUS_BOOT_ERROR; let hold := fun (t : State) => t.fld ⟨SYS.BOOT_STATUS, 8 + d, 1⟩
    let first := fun (c : Nat) => if err = 0 then c else err
    (d < 5 → e.vstby = true → e.por = false → 1 ≤ s.phase → s.phase ≤ 5 → s.ownGood = true → s.on (CLOCK.PLL_STATUS_LOCKED d) = true →
      s.domain d = false → d ≠ 0 ∨ e.inReset = false → Answers (.domainRelease d) s (fun t => t.domain d = true ∧ hold t = 0 ∧
        OnlyRegs s t (if d = 1 then [SYS.BOOT_STATUS, DRAMC.TRAIN] else [SYS.BOOT_STATUS]))) ∧
    (e.vstby = true → e.por = false → 1 ≤ s.phase → s.phase ≤ 5 → s.ownGood = true → s.on (CLOCK.PLL_STATUS_LOCKED 0) = true →
      s.domain 0 = false → e.inReset = true → s.bootStage = 0xF → Answers (.domainRelease 0) s (fun t => t.fabric = true ∧ t.tinder.inReset = false ∧
        t.tinder.outputsHeld = false ∧ t.fld SYS.BOOT_STATUS_BOOT_PINS = e.bootPins % 4 ∧ t.reg SYS.RESET_COUNT = BitVec.ofNat 32 e.count ∧
        t.fld SYS.RESET_CAUSE_CAUSE = e.cause % 4 ∧ t.on SYS.RESET_CAUSE_VBAT_LOST = e.vbatLost ∧ t.on SYS.RESET_CAUSE_TRIP_MIRROR = e.trip)) ∧
    (d < 5 → s.ownGood = true → s.domain d = false → (d = 0 ∨ d = 3 ∧ s.bootSource = bootHost) → Answers (.clockHold ⟨d, part⟩) s (fun t => hold t = 1 ∧
      t.bootStage = 0xF ∧ t.fld SYS.BOOT_STATUS_BOOT_ERROR = first 7 ∧ t.tinder.flashPart = part)) ∧
    (d < 5 → s.ownGood = true → s.domain d = false → ¬ (d = 0 ∨ d = 3 ∧ s.bootSource = bootHost) → Answers (.clockHold ⟨d, part⟩) s (fun t => hold t = 1 ∧
      t.bootStage = s.bootStage ∧ OnlyRegs s t [SYS.BOOT_STATUS])) ∧
    (s.bootStage = 1 → s.bootSource = bootFlash → Answers (.imageLoaded none) s (fun t => t.bootStage = 0xF ∧ t.fld SYS.BOOT_STATUS_BOOT_ERROR = first 5)) ∧
    (∀ (f : FlashPart) (p q : IcxProgram), s.bootStage = 1 → s.bootSource = bootFlash → p.target = 32 → q.target = 33 →
      let u := s.setTinder { e with flashPart := some f }
      let runs := fun (t : State) (n : Nat) (x : IcxProgram) => (t.core n).halted = false ∧ (t.core n).pc = BitVec.ofNat 32 x.entry ∧
        (t.core n).vbase = BitVec.ofNat 32 x.vbase ∧ (t.core n).calCount = x.cal ∧ (t.core n).g = []
      icxImage u.flashByte (2 ^ 32) u.calRun.2 = some [p, q] → Answers (.imageLoaded (some f)) s (fun t => t.bootStage = 2 ∧
        t.tinder.flashPart = some f ∧ (e.cfgValid = false → s.fabric = true → (s.core 32).halted = true → (s.core 33).halted = true →
          runs t 32 p ∧ runs t 33 q))) ∧
    (e.inReset = false → s.bootStage = 0 → s.bootSource = bootTest → Answers (.bootReady part) s (fun t => t.bootStage = 3 ∧
      t.fld SYS.BOOT_STATUS_BOOT_ERROR = first 9)) ∧
    (e.inReset = false → s.bootStage = 0 → s.bootSource = bootUart → Answers (.bootReady part) s (fun t => t.bootStage = 3 ∧
      t.tinder.flashPart = part ∧ t.fld SYS.BOOT_STATUS_BOOT_ERROR = first 8)) ∧
    (e.inReset = false → s.bootStage = 2 → s.bootSource = bootFlash ∨ s.bootSource = bootHost → Answers (.bootReady part) s (fun t => t.bootStage = 3 ∧
      t.eng = if s.safeOutstanding then engSafe else engBanked))

/-- A write that reaches the registers, from the host over a released PCIe domain or from the test port, both under standby power, and that is one of part of a word or to an unaligned offset of a block sets ACCESS_LOG.BAD_WIDTH; one to a block held in reset, every block but SYS and TINDER, HELD_BLOCK; one to an offset with no register RESERVED_ADDR; each is discarded and changes nothing but ACCESS_LOG and ACCESS_ADDR, and ACCESS_ADDR takes the offset where ACCESS_LOG was zero. A whole write to a register of CALENDAR that commands nothing leaves its writable bits at the value and its W1C bits cleared where the value is 1, every other bit and register as before, or is logged as RO_WRITE where there is nothing to write; a W1C write is such a write. A write to the memory window of a halted core stores the enabled bytes. A write that does not reach the registers changes nothing. (R6, R7, R28, R34, R36, R37, R38, R40, R41) -/
def Obligations.RegisterWrites : Prop :=
  ∀ (s : State) (a v be : Nat) (via : Via), a < 2 ^ 24 → be / 16 % 16 = 0 → s.reached via = true →
    let logged := fun (f : Fld) (t : State) => t.on f = true ∧ OnlyRegs s t [SYS.ACCESS_LOG, SYS.ACCESS_ADDR] ∧
      (s.reg SYS.ACCESS_LOG = 0 → t.reg SYS.ACCESS_ADDR = BitVec.ofNat 32 a) ∧ (s.reg SYS.ACCESS_LOG ≠ 0 → t.reg SYS.ACCESS_ADDR = s.reg SYS.ACCESS_ADDR) ∧
      t = { s with regs := t.regs }
    let ask := fun (P : State → Prop) => Answers (.registerWrite a v ⟨be, via⟩) s P
    (∀ b u r, blockOf a = some (b, u, r) →
      (a % 4 ≠ 0 ∨ be % 16 ≠ 15 → ask (logged SYS.ACCESS_LOG_BAD_WIDTH)) ∧
      (a % 4 = 0 → be % 16 = 15 → s.fabric = false → b.code ≠ 0x7840 → b.code ≠ 1 → ask (logged SYS.ACCESS_LOG_HELD_BLOCK)) ∧
      (a % 4 = 0 → be % 16 = 15 → s.fabric = true → regRow a = none → ask (logged SYS.ACCESS_LOG_RESERVED_ADDR)) ∧
      (∀ w, a % 4 = 0 → be % 16 = 15 → s.fabric = true → b.code = 4 → regRow a = some w → r ≠ 0xC → r ≠ 0x10 → r ≠ 0x14 → r ≠ 0x18 → r ≠ 0x34 → r ≠ 0x48 →
        (w.rw = 0 → w.w1c = 0 → w.w1p = 0 → ask (logged SYS.ACCESS_LOG_RO_WRITE)) ∧
        (w.rw ≠ 0 ∨ w.w1c ≠ 0 ∨ w.w1p ≠ 0 → let x := BitVec.ofNat 32 v; let m := BitVec.ofNat 32 w.rw
          let left := fun (t : State) => t.reg a = ((s.reg a &&& ~~~m) ||| (x &&& m)) &&& ~~~(x &&& BitVec.ofNat 32 w.w1c) ∧ OnlyRegs s t [a] ∧
            t = { s with regs := t.regs, host := t.host }
          ask left ∧ Answers (.w1cClear a v) s left))) ∧
    (blockOf a = none → memWindow a = none → ¬ (0x300000 ≤ a ∧ a < 0x340000) → ask (logged SYS.ACCESS_LOG_RESERVED_ADDR)) ∧
    (∀ n o, blockOf a = none → memWindow a = some (n, o) → s.fabric = true → (s.core n).halted = true → ask (fun t => t.regs = s.regs ∧
      (∀ i, i < 4 → (t.core n).byte (o / 4 * 4 + i) = if be.testBit i then v / 256 ^ i % 256 else (s.core n).byte (o / 4 * 4 + i)) ∧
      (∀ x, (x < o / 4 * 4 ∨ o / 4 * 4 + 4 ≤ x) → (t.core n).byte x = (s.core n).byte x) ∧ ∀ m, m ≠ n → t.core m = s.core m)) ∧
    (∀ (r : State) (c : Via) (x y z : Nat), c ≠ .config → r.reached c = false → exec (.registerWrite x y ⟨z, c⟩) r = .next r)

/-- With the fabric released, a write of 1 to one FAULT bit of CALENDAR, SCRIBER, PLACER, INTAKE, MOVER, CODEC, DRAMC or PLATE clears it where its source condition does not hold, and a bit whose condition holds stays; no other bit of the register changes. A forced CALENDAR or INTAKE fault sets its bit and FAULT_EV while FORCE_ARM is 1, a forced SQ_READ disabling ring 0 with ERR, and a write of FAULT_FORCE while FORCE_ARM is 0 changes nothing. A write of 1s to INT_STAT of a block clears those bits that are W1C and changes no other register. (R31, R32, R33, R294, R539, R546) -/
def Obligations.FaultAndInterruptBits : Prop :=
  ∀ (s : State) (code b mask : Nat), s.fabric = true → b < 32 →
    (4 ≤ code → code ≤ 11 → Answers (.faultClear code (2 ^ b)) s (fun t =>
      t.faultBit code b = (s.faultBit code b && s.sourceHolds code b) ∧ (∀ j, j ≠ b → t.faultBit code j = s.faultBit code j) ∧
      OnlyRegs s t [faultReg code])) ∧
    (code = 4 ∧ b = 0 ∨ code = 7 ∧ b < 2 → (s.reg (faultReg code - 8)).toNat.testBit 1 = true → s.faultBit code b = false →
      Answers (.faultForce code (2 ^ b)) s (fun t => t.faultBit code b = true ∧ (t.reg (intReg code)).toNat.testBit 0 = true ∧
        (code = 7 → b = 0 → t.on (INTAKE.SQ_CFG_ERR 0) = true ∧ t.on (INTAKE.SQ_CFG_EN 0) = false))) ∧
    (code ∈ faultCodes → (s.reg (faultReg code - 8)).toNat.testBit 1 = false → exec (.faultForce code mask) s = .next s) ∧
    (∀ w, code ∈ faultCodes → regRow (intReg code) = some w → Answers (.intStatClear code mask) s (fun t =>
      t.reg (intReg code) = s.reg (intReg code) &&& ~~~(BitVec.ofNat 32 mask &&& BitVec.ofNat 32 w.w1c) ∧ OnlyRegs s t [intReg code] ∧
      t = { s with regs := t.regs, host := t.host }))

/-- Reading the low half of a gauge position over a port that reaches the registers answers it and latches the high half for a later read. An enabled edge of a capture unit's source latches its gauge's value, marks an unread one OVERRUN and sets CAPTURE_EV, and an edge on a GPIO ball is its new level; reading the high half answers the latched half and marks the capture read. Reading EVICT_LOG answers the oldest handle with the entry count and removes it, zero where there is none; reading POISON_OFFSET after POISON_LOG has shown its entry answers the offset and removes the entry. The test port reads the IDCODE 0x17840A3F, and a 64-bit read of a memory window answers its eight bytes at one instant. (R2, R7, R35, R39, R61, R170, R180, R236, R271, R279) -/
def Obligations.ReadsWithEffects : Prop :=
  ∀ (s : State) (n k : Nat) (up : Bool) (via : Via), s.fabric = true →
    let v := (s.gauge n).value; let g := s.fld (GAUGE.CAP_CFG_GAUGE k)
    (n < 64 → s.reached via = true → Answers (.loReadLatch ⟨GAUGE.G_POS_LO n, 4, via⟩) s (fun t => t.reply = [v % 2 ^ 32] ∧ t.reg (GAUGE.G_POS_HI n) = BitVec.ofNat 32 (v / 2 ^ 32) ∧
      OnlyRegs s t [GAUGE.G_POS_HI n] ∧ Answers (.loReadLatch ⟨GAUGE.G_POS_HI n, 4, via⟩) t (fun u => u.reply = [v / 2 ^ 32 % 2 ^ 32]))) ∧
    (k < 16 → (s.fld (GAUGE.CAP_CFG_EDGE k)).testBit (if up then 0 else 1) = true → (s.fld (GAUGE.CAP_CFG_INPUT k) = 0 ∨ s.fld (GAUGE.CAP_CFG_INPUT k) = 1 ∧ s.fld (GAUGE.CAP_CFG_PIN k) < 16) →
      s.on (GAUGE.CAP_CFG_MSG_EN k) = false → Answers (.captureEdge k up) s (fun t => t.capVal k = (s.gauge g).value ∧
        t.gc.capUnread.testBit k = true ∧ t.on GAUGE.INT_STAT_CAPTURE_EV = true ∧ t.gc.gauges = s.gc.gauges ∧ (s.fld (GAUGE.CAP_CFG_INPUT k) = 0 → t.engine.gpioBall.testBit (s.fld (GAUGE.CAP_CFG_PIN k)) = up) ∧
        (s.gc.capUnread.testBit k = true → t.on (GAUGE.CAP_CFG_OVERRUN k) = true))) ∧
    (k < 16 → Answers (.capPosHiRead k) s (fun t => t.reply = [(s.reg (GAUGE.CAP_POS_HI k)).toNat] ∧ t.gc.capUnread.testBit k = false ∧ t.regs = s.regs ∧
      ∀ j, j ≠ k → t.gc.capUnread.testBit j = s.gc.capUnread.testBit j)) ∧
    (∀ h l, s.obj.evictLog = h :: l → exec .evictLogRead s =
      .next { s with obj := { s.obj with evictLog := l }, reply := [h + (l.length + 1) * 2 ^ 16] }) ∧
    (s.obj.evictLog = [] → exec .evictLogRead s = .next { s with reply := [0] }) ∧
    (s.obj.poisonShown = true → Answers .poisonOffsetRead s (fun t => t.reply = [(s.reg PLACER.POISON_OFFSET).toNat] ∧
      t.obj.poisonLog = s.obj.poisonLog.drop 1 ∧ t.obj.poisonShown = false ∧ OnlyRegs s t [PLACER.POISON_OFFSET])) ∧
    exec (.loReadLatch ⟨n, k, .idcode⟩) s = .next { s with reply := [0x17840A3F] } ∧
    (∀ c o, memWindow n = some (c, o) → n < 2 ^ 24 → o % 8 = 0 → s.reached via = true → Answers (.loReadLatch ⟨n, 8, via⟩) s (fun t =>
      t.reply = [(s.core c).load o 8] ∧ t = { s with reply := t.reply }))

/-- A write of MRAM_WCMD with GO and KEY 0x7A5 while not BUSY takes the word of MRAM_WADDR and MRAM_WDATA for a partition that can be written and is BUSY, else sets ERROR; when it is done the four bytes stand little-endian in MRAM, every other byte as before, DONE and MRAM_WDONE are set and BUSY is clear. An open flash port that is not BUSY takes a read, an erase of an aligned sector with KEY 0xF1A, and a program inside one page with that KEY, of 1 to 256 bytes; when done a read has filled FLASH_BUF, an erase left 0xFF in its 4,096 bytes and a program of erased bytes FLASH_BUF's there, no other byte changed, with addresses of 24 bits, or of 32 for a part above 16 MiB; DONE is set and BUSY clear. A time-out sets ERROR. (R116, R124, R125) -/
def Obligations.MramAndFlashPort : Prop :=
  ∀ (s : State) (v len i a : Nat),
    let part := s.fld TINDER.MRAM_WADDR_PART; let at' := s.fld SYS.FLASH_ADDR_ADDR; let n := max 1 (min 256 (len % 512))
    let takes := fun (c : Instr) (x : FlashOp) => Answers c s (fun t => t.tinder.flashOp = some x ∧ t.on SYS.FLASH_STAT_BUSY = true ∧ t.tinder.flash = s.tinder.flash)
    let top := match s.tinder.flashPart with | some p => if 0x1000000 < p.size then 2 ^ 32 else 2 ^ 24 | none => 2 ^ 24
    let done := fun (t : State) => t.tinder.flashOp = none ∧ t.on SYS.FLASH_STAT_BUSY = false
    (v.testBit 0 = true → bits v 20 12 = 0x7A5 → s.on TINDER.MRAM_WSTAT_BUSY = false →
      (2 ≤ part → Answers (.mramWordWrite v) s (fun t => t.on TINDER.MRAM_WSTAT_BUSY = true ∧ t.tinder.mram = s.tinder.mram ∧ t.tinder.mramWrite =
        some { addr := (if part = 2 then 0x30000 else 0x38000) + 4 * s.fld TINDER.MRAM_WADDR_WORD, data := (s.reg TINDER.MRAM_WDATA).toNat })) ∧
      (part < 2 → Answers (.mramWordWrite v) s (fun t => t.on TINDER.MRAM_WSTAT_ERROR = true ∧ t.tinder = s.tinder))) ∧
    (∀ w, s.tinder.mramWrite = some w → Answers (.mramWriteDone true) s (fun t => t.tinder.mramWrite = none ∧ t.on TINDER.MRAM_WSTAT_BUSY = false ∧
      t.on TINDER.MRAM_WSTAT_DONE = true ∧ t.on TINDER.INT_STAT_MRAM_WDONE = true ∧ (i < 4 → t.mramByte (w.addr + i) = w.data / 256 ^ i % 256) ∧
      ((a < w.addr ∨ w.addr + 4 ≤ a) → t.mramByte a = s.mramByte a))) ∧
    (s.flashOpen = true → s.on SYS.FLASH_STAT_BUSY = false → takes (.flashRead len) ⟨0, at', n⟩ ∧
      (at' % 4096 = 0 → takes (.flashErase 0xF1A) ⟨1, at', 1⟩) ∧ (at' % 256 + n ≤ 256 → takes (.flashProgram 0xF1A len) ⟨2, at', n⟩)) ∧
    (∀ x, s.tinder.flashOp = some x → x.addr + 4096 ≤ top → x.len ≤ 256 →
      Answers .flashOpDone s (fun t => done t ∧ t.on SYS.FLASH_STAT_DONE = true ∧
        (x.op = 0 → t.tinder.flash = s.tinder.flash ∧ (i < x.len → t.bufByte i = s.flashByte (x.addr + i) % 256)) ∧
        (x.op = 1 → (i < 4096 → t.flashByte (x.addr + i) = 0xFF) ∧ (a < top → a < x.addr ∨ x.addr + 4096 ≤ a → t.flashByte a = s.flashByte a)) ∧
        (x.op = 2 → (∀ j, j < x.len → s.flashByte (x.addr + j) = 0xFF) → (i < x.len → t.flashByte (x.addr + i) = s.bufByte i) ∧
          (a < top → a < x.addr ∨ x.addr + x.len ≤ a → t.flashByte a = s.flashByte a))) ∧
      Answers .flashOpTimeout s (fun t => done t ∧ t.on SYS.FLASH_STAT_ERROR = true))

/-- While the boot ROM serves UART frames each good frame gets one reply of 0x5A, the command with bit 7 set, the length, a status, its data and the CRC-32C of all but the first byte. Identify returns SYS ID and BOOT_STATUS; a read inside a partition, or of a found flash, returns the bytes; a write to the boot configuration or customer partition stores its bytes and no other; a sector erase leaves 0xFF and a page write into erased bytes its data, each leaving every other byte. A complete frame with a wrong CRC gets status 1 and changes nothing else; a gap discards the partial frame without a reply. (R116, R122, R123) -/
def Obligations.RecoveryFrames : Prop :=
  ∀ (s : State) (part off len i a : Nat) (data : List Nat),
    let e := s.tinder
    let base := if part = 0 then 0 else if part = 1 then 0x10000 else if part = 2 then 0x30000 else 0x38000
    let size := if part = 0 then 0x10000 else if part = 1 then 0x20000 else 0x8000
    let top := match e.flashPart with | some p => if 0x1000000 < p.size then 2 ^ 32 else 2 ^ 24 | none => 2 ^ 24
    let rep := fun (cmd st : Nat) (d : List Nat) => let body := [cmd + 0x80, (d.length + 1) % 256, (d.length + 1) / 256 % 256, st] ++ d
      0x5A :: (body ++ leBytes 4 (crc32c body))
    (s.uartOpen = true →
      exec .uartIdent s = .next { s with reply := rep 1 0 (leBytes 4 (s.reg SYS.ID).toNat ++ leBytes 4 (s.reg SYS.BOOT_STATUS).toNat) } ∧
      (part < 4 → off + len ≤ size → len ≤ 1023 → exec (.uartMramRead part off len) s =
        .next { s with reply := rep 2 0 ((List.range len).map (fun j => s.mramByte (base + off + j))) }) ∧
      (2 ≤ part → part < 4 → off + data.length ≤ size → Answers (.uartMramWrite part off data true) s (fun t => t.reply = rep 3 0 [] ∧ t.regs = s.regs ∧
        (i < data.length → t.mramByte (base + off + i) = data.getD i 0 % 256) ∧
        (a < base + off ∨ base + off + data.length ≤ a → t.mramByte a = s.mramByte a))) ∧
      (part < 2 → exec (.uartMramWrite part off data true) s = .next { s with reply := rep 3 2 [] }) ∧
      (e.flashPart.isSome = true → len ≤ 1023 → exec (.uartFlashRead off len true) s =
        .next { s with reply := rep 4 0 ((List.range len).map (fun j => s.flashByte (off + j))) }) ∧
      (e.flashPart.isSome = true → off % 4096 = 0 → off + 4096 ≤ top → Answers (.uartFlashErase off true) s (fun t => t.reply = rep 5 0 [] ∧ t.regs = s.regs ∧
        (i < 4096 → t.flashByte (off + i) = 0xFF) ∧ (a < top → a < off ∨ off + 4096 ≤ a → t.flashByte a = s.flashByte a))) ∧
      (e.flashPart.isSome = true → off % 256 + data.length ≤ 256 → off < top → (∀ j, j < data.length → s.flashByte (off + j) = 0xFF) →
        Answers (.uartFlashWrite off data true) s (fun t => t.reply = rep 6 0 [] ∧ t.regs = s.regs ∧
          (i < data.length → t.flashByte (off + i) = data.getD i 0 % 256) ∧ (a < top → a < off ∨ off + data.length ≤ a → t.flashByte a = s.flashByte a))) ∧
      (e.uartPartial = [] → (∀ b, b ∈ data → b < 256) → 3 ≤ data.length → fieldAt data 1 2 ≤ 1024 → data.length = fieldAt data 1 2 + 7 →
        data.getD 0 0 < 128 → fieldAt data (data.length - 4) 4 ≠ crc32c (data.take (data.length - 4)) →
        exec (.uartFrameRefused (0x5A :: data)) s = .next { s with reply := rep (data.getD 0 0) 1 [] })) ∧
    exec .uartFrameGap s = .next { s with tinder := { e with uartPartial := [] } }

/-- With the fabric released and the engine not in KINDLING, READY, RUNNING or RUN_OUT, a write of PLLp_CFG or PLLp_DITHER for p other than 3 stores the value, restarts acquisition with the dither generator at SEED, 0xACE1 for 0, stops the domain's clock and changes no other domain; with the engine up the loss is raised with it. PLL 3 discards the write as RO_WRITE, and a held fabric logs HELD_BLOCK. Lock sets LOCKED and REF_OK, ends acquisition and holdover, and PLL 1's moves a waiting training on where the DDR domain is released. Loss of lock of a locked PLL, and of the crystal, puts it into holdover and raises its FAULT bit, in an engine in TINDER shown bit by bit. LASER_EN follows the lock of PLL 2. (R128, R129, R130, R131, R340, R428) -/
def Obligations.PllsAndCrystal : Prop :=
  ∀ (s : State) (p v : Nat) (d ok : Bool), p < 5 →
    let a := if d then CLOCK.PLL_DITHER p else CLOCK.PLL_CFG p; let w := BitVec.ofNat 32 (if d then v &&& 0x8000FFFF else v)
    let u := (s.setReg a w).pllRestart p
    let seed := fun (t : State) => if t.fld (CLOCK.PLL_DITHER_SEED p) = 0 then 0xACE1 else t.fld (CLOCK.PLL_DITHER_SEED p)
    let restarted := fun (t : State) => t.reg a = w ∧ t.on (CLOCK.PLL_STATUS_ACQUIRING p) = true ∧ t.on (CLOCK.PLL_STATUS_LOCKED p) = false ∧
      t.on (CLOCK.PLL_STATUS_HOLDOVER p) = false ∧ t.ditherStart p = seed t ∧ t.domain p = false ∧
      (∀ q, q ≠ p → t.domain q = s.domain q) ∧ t.cores = s.cores ∧ t.gc = s.gc ∧ (p ≠ 2 → OnlyRegs s t [a, CLOCK.PLL_STATUS p])
    let lost := fun (t : State) => t.on (CLOCK.PLL_STATUS_LOCKED p) = false ∧ t.on (CLOCK.PLL_STATUS_HOLDOVER p) = true
    let laser := fun (t : State) => ∀ k, k < 6 → t.on (GRAVER.LASER_CTRL_LEVEL k) = decide (t.laserTerms k = 255)
    (s.fabric = true → p ≠ 3 → s.warm = false → s.eng ≠ engRunOut → Answers (.pllReacquire p d v) s restarted) ∧
    (s.fabric = true → p ≠ 3 → s.warm = true ∨ s.eng = engRunOut → exec (.pllReacquire p d v) s = .next u ∧ u.domain p = false) ∧
    (s.fabric = true → Answers (.pllReacquire 3 d v) s (fun t => t.on SYS.ACCESS_LOG_RO_WRITE = true ∧ t = { s with regs := t.regs } ∧
      OnlyRegs s t [SYS.ACCESS_LOG, SYS.ACCESS_ADDR])) ∧
    (s.fabric = false → Answers (.pllReacquire p d v) s (fun t => t.on SYS.ACCESS_LOG_HELD_BLOCK = true ∧ t = { s with regs := t.regs } ∧
      OnlyRegs s t [SYS.ACCESS_LOG, SYS.ACCESS_ADDR])) ∧
    Answers (.pllLock p) s (fun t => t.on (CLOCK.PLL_STATUS_LOCKED p) = true ∧ t.on (CLOCK.PLL_STATUS_ACQUIRING p) = false ∧
      t.on (CLOCK.PLL_STATUS_HOLDOVER p) = false ∧ t.on (CLOCK.PLL_STATUS_REF_OK p) = true ∧ (p = 2 → laser t) ∧
      (p = 1 → s.domain 1 = true → s.fld DRAMC.TRAIN_STATE = 1 → t.fld DRAMC.TRAIN_STATE = 2) ∧ (p ≠ 1 → p ≠ 2 → OnlyRegs s t [CLOCK.PLL_STATUS p])) ∧
    (s.eng = engTinder → s.linkUp = false → s.on (CLOCK.PLL_STATUS_LOCKED p) = true → Answers (.pllUnlock p ok) s (fun t => lost t ∧
      t.faultBit 2 p = true ∧ t.on (CLOCK.PLL_STATUS_REF_OK p) = ok)) ∧
    (s.on (CLOCK.PLL_STATUS_LOCKED p) = true → exec (.pllUnlock p ok) s =
      .next (State.pllLossEffects (((s.pllHoldover p).setFld (CLOCK.PLL_STATUS_REF_OK p) (bit ok)).raise 2 p 0 false) p)) ∧
    (s.fabric = true → s.eng = engTinder → s.linkUp = false → Answers .xtalLost s (fun t => t.faultBit 2 8 = true ∧ t.tinder.crystal = false ∧
      (p ≠ 3 → lost t ∧ t.on (CLOCK.PLL_STATUS_REF_OK p) = false) ∧ (p = 3 → t.reg (CLOCK.PLL_STATUS 3) = s.reg (CLOCK.PLL_STATUS 3))))

/-- With the fabric released, a write of GCLKk_DIV stores DIV and leaves the period in progress alone; with a phase reset in the same cycle the first period takes the DIV before it, at least 25.0. A phase reset, by software for one output, by SYNC_IN 39 to 41 cycles later for every output with SYNC_EN, of an enabled output that is not gated leaves it low with its accumulator cleared until DELAY after the latency, and RUNNING; a disabled or gated output takes none. ENABLE from 0 to 1 performs one where the output is not gated, 0 drives it low and stops it. Writing 1 to GATED of a gated output ungates it, with a phase reset where it is enabled. No other output changes. While the fabric is held each of the four writes is logged as HELD_BLOCK and does nothing else. In each cycle of a running output the half period counts down, the high half is followed by the low one, and a rising edge begins a period of a whole number of cycles, the accumulator carrying the fraction of DIV, whose first half, rounded down, is high. (R38, R138, R139, R140, R141, R142, R555) -/
def Obligations.GeneralClocks : Prop :=
  ∀ (s : State) (k div : Nat) (both : Bool), k < 24 →
    let g := s.gclk k; let d := max 6400 (s.reg (CLOCK.GCLK_DIV k)).toNat; let q := g.acc + d % 256; let len := d / 256 + q / 256
    let free := fun j => s.on (CLOCK.GCLK_CTRL_ENABLE j) = true ∧ s.on (CLOCK.GCLK_STATUS_GATED j) = false
    let reset := fun (t : State) j n x => 
      t.gclk j = { high := false, left := n + s.fld (CLOCK.GCLK_CTRL_DELAY j), low := 0, acc := 0, ending := false, firstDiv := x, resets := (s.gclk j).resets + 1 } ∧
      t.on (CLOCK.GCLK_STATUS_RUNNING j) = true
    let kept := fun (t : State) j => t.gclk j = s.gclk j ∧ t.reg (CLOCK.GCLK_STATUS j) = s.reg (CLOCK.GCLK_STATUS j)
    let apart := fun (t : State) => (∀ j, j ≠ k → kept t j) ∧ OnlyRegs s t [CLOCK.GCLK_DIV k, CLOCK.GCLK_CTRL k, CLOCK.GCLK_STATUS k]
    let held := fun (c : Instr) => Answers c s (fun t => t.on SYS.ACCESS_LOG_HELD_BLOCK = true ∧ t = { s with regs := t.regs } ∧
      OnlyRegs s t [SYS.ACCESS_LOG, SYS.ACCESS_ADDR])
    (s.fabric = true → Answers (.gclkDivWrite k div both) s (fun t => t.reg (CLOCK.GCLK_DIV k) = BitVec.ofNat 32 div ∧ apart t ∧
      (both = true → free k → ∃ n, reset t k n (some d)) ∧ (both = false → kept t k))) ∧
    Answers .syncInEdge s (fun t => (∀ j, j < 24 → s.on (CLOCK.GCLK_CTRL_SYNC_EN j) = true → free j → ∃ n, 39 ≤ n ∧ n ≤ 41 ∧ reset t j n none) ∧
      (∀ j, (24 ≤ j ∨ s.on (CLOCK.GCLK_CTRL_SYNC_EN j) = false ∨ ¬ free j) → kept t j)) ∧
    (s.fabric = true → free k → Answers (.phaseReset k) s (fun t => (∃ n, reset t k n none) ∧ apart t)) ∧
    (s.fabric = true → ¬ free k → Answers (.phaseReset k) s (fun t => t = { s with freeCtr := t.freeCtr })) ∧
    (s.fabric = true → s.on (CLOCK.GCLK_CTRL_ENABLE k) = false → s.on (CLOCK.GCLK_STATUS_GATED k) = false → Answers (.gclkEnable k true) s (fun t =>
      t.on (CLOCK.GCLK_CTRL_ENABLE k) = true ∧ (∃ n, reset t k n none) ∧ apart t)) ∧
    (s.fabric = true → Answers (.gclkEnable k false) s (fun t => t.on (CLOCK.GCLK_CTRL_ENABLE k) = false ∧
      t.on (CLOCK.GCLK_STATUS_RUNNING k) = false ∧ (t.gclk k).high = false ∧ (t.gclk k).ending = false ∧ apart t)) ∧
    (s.fabric = true → s.on (CLOCK.GCLK_STATUS_GATED k) = true → Answers (.gclkGatedClear k) s (fun t => t.on (CLOCK.GCLK_STATUS_GATED k) = false ∧ apart t ∧
      (s.on (CLOCK.GCLK_CTRL_ENABLE k) = true → ∃ n, reset t k n none) ∧ (s.on (CLOCK.GCLK_CTRL_ENABLE k) = false → t.gclk k = g))) ∧
    (s.fabric = false → held (.gclkDivWrite k div both) ∧ held (.phaseReset k) ∧ held (.gclkEnable k both) ∧ held (.gclkGatedClear k)) ∧
    (s.pending = [] → s.domain 4 = true → s.on (CLOCK.GCLK_STATUS_RUNNING k) = true → g.ending = false → ∃ t, step s = .next t ∧
      (1 < g.left → t.gclk k = { g with left := g.left - 1 }) ∧ (g.left ≤ 1 → g.high = true → t.gclk k = { g with high := false, left := g.low }) ∧
      (g.left ≤ 1 → g.high = false → g.firstDiv = none → t.gclk k = { g with high := true, left := len / 2, low := len - len / 2, acc := q % 256 }))

/-- With the fabric released, an edge inside WINDOW of an enabled synthesizer is the sync event of its scan and one outside it is ignored; the first edge of an acquisition leaves FCW 0, records its time and counts toward lock. A missed window of a locked synthesizer without privilege clears LOCKED and LOCK_COUNT, loads FCW 0, sets GATED and SYN_UNLOCK_EV and restarts facet identification; with privilege it coasts with FCW kept and COAST_START_EV. A predicted sync event adds one to COAST_COUNT, or past the limit raises COAST_EXPIRED, drives the laser enable low, ends the privilege and acquires again, shown in TINDER; a coast whose privilege is gone acquires again. The gate opens for an enabled station whose synthesizer is on, before the first edge only while LASER_EN is high. (R132, R133, R134, R135, R143, R144, R145, R162, R376, R383) -/
def Obligations.SyncEvents : Prop :=
  ∀ (s : State) (k t x : Nat), k < 6 →
    let y := s.syn k; let on := s.on (CLOCK.SYN_CTRL_ENABLE k) = true; let coasting := s.on (CLOCK.SYN_STATUS_COASTING k)
    let cleared := fun (u : State) => u.on (CLOCK.SYN_STATUS_LOCKED k) = false ∧ u.fld (CLOCK.SYN_STATUS_LOCK_COUNT k) = 0 ∧ (u.syn k).fcw = 0 ∧
      u.on (CLOCK.SYN_STATUS_GATED k) = true ∧ u.on (CLOCK.SYN_STATUS_COASTING k) = false
    (s.fabric = true → ¬ on → coasting = false → exec (.bdEdge k t x) s = .next s) ∧
    (s.fabric = true → on → coasting = false → y.edges = 0 → Answers (.bdEdge k t x) s (fun u => (u.syn k).fcw = 0 ∧ (u.syn k).firstEdge = t ∧
      (u.syn k).edges = 1 ∧ (u.syn k).idle = true ∧ (u.gv k).scan = ((s.gv k).scan + 1) % 2 ^ 32 ∧
      u.fld (CLOCK.SYN_STATUS_LOCK_COUNT k) = min 256 (s.fld (CLOCK.SYN_STATUS_LOCK_COUNT k) + 1))) ∧
    (s.fabric = true → on → coasting = false → 1 ≤ y.edges → y.edges < s.facets k → Answers (.bdEdge k t x) s (fun u => (u.syn k).edges = y.edges + 1 ∧
      (u.syn k).fcw = seedFcw (s.period k) (y.edges + 1) y.firstEdge t ∧ (u.gv k).scan = ((s.gv k).scan + 1) % 2 ^ 32)) ∧
    (∀ u, s.fabric = true → coasting = false ∨ s.privileged k = true → s.synEdge k t = (.sync, u) →
      exec (.bdEdge k t x) s = .next (State.gaugeEvents (State.recheckReady (u.takeSync k t x true)) s)) ∧
    (∀ u, s.fabric = true → coasting = false → s.synEdge k t = (.lost, u) → exec (.bdEdge k t x) s = .next (State.gaugeEvents (u.syncLost k) s)) ∧
    (∀ u, s.fabric = true → coasting = false ∨ s.privileged k = true → s.synEdge k t = (.ignored, u) → exec (.bdEdge k t x) s = .next s) ∧
    (s.fabric = true → on → coasting = false → s.on (CLOCK.SYN_STATUS_LOCKED k) = true → s.privileged k = false → s.eng ≠ engReady →
      Answers (.bdWindowMissed k) s (fun u => cleared u ∧ u.on CLOCK.INT_STAT_SYN_UNLOCK_EV = true ∧ u.on (GRAVER.STATUS_BD_GATE k) = false ∧
        u.on (GAUGE.FID_STATUS_FACET_VALID k) = false ∧ (u.gv k).frames = [] ∧ u.on (GRAVER.STATUS_SCANNING k) = false)) ∧
    (s.fabric = true → on → coasting = false → s.on (CLOCK.SYN_STATUS_LOCKED k) = true → s.privileged k = true → s.eng ≠ engReady →
      Answers (.bdWindowMissed k) s (fun u => u.on (CLOCK.SYN_STATUS_COASTING k) = true ∧ u.on (CLOCK.SYN_STATUS_LOCKED k) = false ∧
        (u.syn k).fcw = y.fcw ∧ u.fld (CLOCK.SYN_STATUS_COAST_COUNT k) = 0 ∧ u.on CLOCK.INT_STAT_COAST_START_EV = true)) ∧
    (coasting = true → s.privileged k = true → y.expiring = false → Answers (.predictedSyncEvent k x) s (fun u => u.on (CLOCK.SYN_STATUS_COASTING k) = true ∧
      u.fld (CLOCK.SYN_STATUS_COAST_COUNT k) = (s.fld (CLOCK.SYN_STATUS_COAST_COUNT k) + 1) % 256 ∧ (u.syn k).fcw = y.fcw ∧
      (u.syn k).syncs.head? = some (y.predictSync (s.facets k)) ∧ (u.gv k).coasted = true)) ∧
    (coasting = true → s.privileged k = true → y.expiring = true → s.eng = engTinder → s.linkUp = false → Answers (.predictedSyncEvent k x) s (fun u =>
      cleared u ∧ u.faultBit 2 (16 + k) = true ∧ u.on (GRAVER.LASER_CTRL_LEVEL k) = false ∧ u.on (GRAVER.STATUS_PRIVILEGED k) = false)) ∧
    (coasting = true → s.privileged k = false → Answers (.predictedSyncEvent k x) s cleared) ∧
    (on → (s.station k).enabled = true → (y.edges ≠ 0 ∨ s.on (GRAVER.LASER_CTRL_LEVEL k) = true) → Answers (.bdGateOpen k) s (fun u =>
      u.on (GRAVER.STATUS_BD_GATE k) = true ∧ OnlyRegs s u [GRAVER.STATUS k] ∧ u = { s with regs := u.regs }))

/-- When 64 revolutions have been summed and FACET_VALID is 0, the rotation of the smallest sum becomes FACET_OFFSET with FACET_VALID and FACET_EV if the second-smallest sum is strictly greater and at least MARGIN times it; else the run is counted, and after the fourth FACET_ID_FAIL is raised. ASSUME sets FACET_OFFSET 0 and FACET_VALID 1 with FACET_EV. RESTART clears FACET_VALID and the runs. Each begins with nothing measured and changes no other station. (R162, R163) -/
def Obligations.FacetIdentification : Prop :=
  ∀ (s : State) (k : Nat), k < 6 →
    let x := s.fid k; let f := s.facets k; let m := max 2 (s.fld (GAUGE.FID_CTRL_MARGIN k)); let runs := s.fld (GAUGE.FID_STATUS_RUNS k)
    let won := fun h => h < f ∧ ∀ j, j < f → j ≠ h → x.sums.getD h 0 < x.sums.getD j 0 ∧ m * x.sums.getD h 0 ≤ x.sums.getD j 0
    let fresh := fun (t : State) => t.fid k = FacetId.reset ∧ (∀ j, j ≠ k → t.fid j = s.fid j)
    let valid := fun (t : State) h => fresh t ∧ t.fld (GAUGE.FID_STATUS_FACET_OFFSET k) = h ∧ t.on (GAUGE.FID_STATUS_FACET_VALID k) = true ∧
      t.on GAUGE.INT_STAT_FACET_EV = true ∧ OnlyRegs s t [GAUGE.FID_STATUS k, GAUGE.INT_STAT]
    (∀ h, 64 ≤ x.revs → s.on (GAUGE.FID_STATUS_FACET_VALID k) = false → won h → Answers (.facetIdRunEnd k) s (fun t => valid t h)) ∧
    (64 ≤ x.revs → s.on (GAUGE.FID_STATUS_FACET_VALID k) = false → (¬ ∃ h, won h) → runs < 3 → Answers (.facetIdRunEnd k) s (fun t => fresh t ∧
      t.fld (GAUGE.FID_STATUS_RUNS k) = runs + 1 ∧ t.on (GAUGE.FID_STATUS_FACET_VALID k) = false ∧ OnlyRegs s t [GAUGE.FID_STATUS k])) ∧
    (64 ≤ x.revs → s.on (GAUGE.FID_STATUS_FACET_VALID k) = false → (¬ ∃ h, won h) → 3 ≤ runs → exec (.facetIdRunEnd k) s = .next (s.raise 3 5 k false) ∧
      (s.raise 3 5 k false).faultBit 3 5 = true) ∧
    (s.fabric = true → Answers (.assume k) s (fun t => valid t 0)) ∧
    (s.fabric = true → s.eng ≠ engReady → Answers (.restart k) s (fun t => fresh t ∧ t.on (GAUGE.FID_STATUS_FACET_VALID k) = false ∧
      t.fld (GAUGE.FID_STATUS_RUNS k) = 0 ∧ OnlyRegs s t [GAUGE.FID_STATUS k])) ∧
    (s.fabric = true → exec (.restart k) s = .next (State.recheckReady (s.fidRestart k)))

/-- On an enabled gauge with the fabric released and the engine not in READY a valid encoder edge steps RAW by one and the value by SCALE from the last edge, backward for a backward edge; an auxiliary edge adds SCALE; a mains edge makes the whole count even after a rising edge and odd after a falling one; each ends a coast or takes the rate that the loop makes of its arrival (free in the model, assumption 12), and changes no other gauge but virtual ones, no core, and no register but the gauge's own and INT_STAT. An unchanged sample changes nothing; both inputs changed is QUAD_ILLEGAL. An index latches RAW and may home the gauge. A coast starts with COAST_EV; SIGNAL_LOST returns to the last edge's value with rate and lock 0 and the queues held, shown in TINDER. (R151, R153, R154, R155, R156, R157, R158, R160, R164) -/
def Obligations.GaugeEdges : Prop :=
  ∀ (s : State) (n err rate : Nat) (a b up : Bool), s.fabric = true → s.gaugeOn n = true → s.eng ≠ engReady →
    let g := s.gauge n; let ab := bit a + 2 * bit b; let scale : Int := s.fld (GAUGE.G_SCALE_SCALE n); let w := g.edgeVal / 2 ^ 16
    let fwd := if s.on (GAUGE.G_CFG_SWAP_AB n) then !decide (quadNext g.ab = ab) else decide (quadNext g.ab = ab)
    let coasting := s.on (GAUGE.G_STATUS_COASTING n); let calm := s.eng = engTinder ∧ s.linkUp = false
    let at' := fun (t : State) v => (t.gauge n).value = v ∧ (t.gauge n).edgeVal = v ∧ t.on (GAUGE.G_STATUS_COASTING n) = false ∧
      (coasting = false → t.fld (GAUGE.G_RATE_RATE n) = s.loopRate n err rate) ∧ (coasting = true → t.fld (GAUGE.G_RATE_RATE n) = s.fld (GAUGE.G_RATE_RATE n)) ∧
      (∀ m, m ≠ n → isVirtual m = false → t.gauge m = s.gauge m) ∧ t.cores = s.cores
    let regs := [GAUGE.G_STATUS n, GAUGE.G_RATE n, GAUGE.INT_STAT]; let raw := s.fld (GAUGE.RAW_RAW n); let p : Int := s.fld (GAUGE.G_CFG_INDEX_PERIOD n)
    let step := (sext 32 (raw + 2 ^ 32 - s.fld (GAUGE.INDEX_LATCH_LATCH n))).natAbs; let r := if coasting then s.sfld (GAUGE.G_RATE_RATE n) else sext 32 (s.loopRate n err rate)
    let slow := decide (r * 1000 < 88 * 4096) || decide (132 * 4096 < r * 1000)
    let faulted := fun (t : State) k f => t.fld (GAUGE.G_STATUS_FAULT_KIND n) = k ∧ t.on (GAUGE.G_STATUS_HELD n) = true ∧ t.faultBit 3 f = true
    (n < 16 → ab ≠ g.ab → ab + g.ab ≠ 3 → (s.fld (GAUGE.G_CFG_DIR_EXPECT n) = 0 ∨ s.fld (GAUGE.G_LIMITS_REV_LIMIT n) = 0) →
      Answers (.encoderEdge n a b err rate) s (fun t => at' t (posAdd g.edgeVal (if fwd then scale else -scale)) ∧ (t.gauge n).ab = ab ∧
        t.fld (GAUGE.RAW_RAW n) = wrap 32 (s.sfld (GAUGE.RAW_RAW n) + (if fwd then 1 else -1)) ∧ OnlyRegs s t (GAUGE.RAW n :: regs))) ∧
    (n < 16 → ab = g.ab → Answers (.encoderEdge n a b err rate) s (fun t => t.regs = s.regs ∧ t.gauge n = g ∧ t.cores = s.cores)) ∧
    (n < 16 → ab ≠ g.ab → ab + g.ab = 3 → calm → Answers (.encoderEdge n a b err rate) s (fun t => faulted t 1 0 ∧ (t.gauge n).value = g.value ∧
      t.fld (GAUGE.RAW_RAW n) = raw)) ∧
    (n = 22 ∨ n = 23 → Answers (.auxEdge n err rate) s (fun t => at' t (posAdd g.edgeVal scale) ∧ OnlyRegs s t regs)) ∧
    (24 ≤ n → n < 27 → ¬ (slow = true ∧ g.outOfRange = 15) → let k := if (w + 1) % 2 = 0 ↔ up = true then 1 else 2
      Answers (.zcEdge n up err rate) s (fun t => at' t ((w + k) * 2 ^ 16 % 2 ^ 64) ∧ OnlyRegs s t regs ∧
        (t.gauge n).outOfRange = (if slow = true then min 16 (g.outOfRange + 1) else 0))) ∧
    (24 ≤ n → n < 27 → slow = true → g.outOfRange = 15 → calm → Answers (.zcEdge n up err rate) s (fun t => faulted t 5 2)) ∧
    (n < 16 → p = 0 ∨ g.indexSeen = false ∨ ((step : Int) - p).natAbs ≤ 1 → Answers (.indexEdge n) s (fun t =>
      t.fld (GAUGE.INDEX_LATCH_LATCH n) = raw ∧ OnlyRegs s t [GAUGE.INDEX_LATCH n, GAUGE.G_CFG n] ∧ (t.gauge n).indexSeen = true ∧
      (if s.on (GAUGE.G_CFG_Z_HOME n) = true ∧ s.entriesOn n = [] then (t.gauge n).value = 0 ∧ t.on (GAUGE.G_CFG_Z_HOME n) = false
       else (t.gauge n).value = g.value ∧ t.reg (GAUGE.G_CFG n) = s.reg (GAUGE.G_CFG n)))) ∧
    (n < 16 → p ≠ 0 → g.indexSeen = true → 1 < ((step : Int) - p).natAbs → calm → Answers (.indexEdge n) s (fun t => faulted t 4 0 ∧
      t.fld (GAUGE.INDEX_LATCH_LATCH n) = raw)) ∧
    (n < 16 ∨ n = 22 ∨ n = 23 ∨ 24 ≤ n ∧ n < 27 →
      (s.on (GAUGE.G_STATUS_STILL n) = false → coasting = false → Answers (.gaugeCoastStart n) s (fun t => t.on (GAUGE.G_STATUS_COASTING n) = true ∧
        t.on GAUGE.INT_STAT_COAST_EV = true ∧ OnlyRegs s t [GAUGE.G_STATUS n, GAUGE.INT_STAT] ∧ t.gc = s.gc)) ∧
      (coasting = true → calm → Answers (.signalLost n) s (fun t => (t.gauge n).value % 2 ^ 64 = g.edgeVal % 2 ^ 64 ∧ t.fld (GAUGE.G_RATE_RATE n) = 0 ∧
        t.on (GAUGE.G_STATUS_LOCKED n) = false ∧ t.fld (GAUGE.G_STATUS_LOCK_COUNT n) = 0 ∧ t.on (GAUGE.G_STATUS_COASTING n) = false ∧
        t.fld (GAUGE.G_STATUS_FAULT_KIND n) = 2 ∧ t.on (GAUGE.G_STATUS_HELD n) = true)))

/-- A stamp of a routed, enabled remote gauge over a working link sets its value to the position advanced by the rate over the path latency, its RATE, its lock; losing the stamps unlocks it and faults it with REMOTE_LOST, shown in TINDER, whether or not one ever came. A write of RGk_SRC stores it with the path latency, or is refused for a path of more than 32 streams. PRESET and COMMIT set the value where no entry is armed on the gauge, and COMMIT where its sources are allowed, else they set REFUSED and no gauge changes. RESUME and FLUSH of a locked, enabled gauge whose group's fault bit is clear release its queues, FLUSH leaving no entry armed on it, RESUME every one while none is crossed; else they set REFUSED and change nothing. (R161, R165, R166, R167, R168) -/
def Obligations.GaugeCommands : Prop :=
  ∀ (s : State) (k n x y z : Nat) (lk : Bool), s.fabric = true → k < 16 → n < 64 →
    let m := 48 + k; let calm := s.eng = engTinder ∧ s.linkUp = false; let refused := fun (t : State) => t.on GAUGE.CMD_STATUS_REFUSED = true ∧ t.gc = s.gc ∧ t.cores = s.cores
    let preset := s.pair GAUGE.PRESET_LO GAUGE.PRESET_HI; let can := s.mayRelease n = true; let held := s.on (GAUGE.G_STATUS_HELD n)
    let ok := s.entriesOn (32 + k) = [] ∧ (s.staged k).sources.all s.sourceOk = true
    (s.gaugeOn m = true → s.on (GAUGE.RG_SRC_EN k) = true → s.linkUp = true → Answers (.remoteStamp k x y lk) s (fun t =>
      (t.gauge m).value = posAdd x (roundDiv (sext 32 y * 16 * (s.fld (GAUGE.RG_LAT_LAT k) : Int)) 1000000) ∧ (t.gauge m).srcLocked = lk ∧
      (t.gauge m).stamped = true ∧ t.fld (GAUGE.G_RATE_RATE m) = y % 2 ^ 32 ∧ t.on (GAUGE.G_STATUS_LOCKED m) = lk ∧
      OnlyRegs s t [GAUGE.G_RATE m, GAUGE.G_STATUS m, GAUGE.INT_STAT] ∧ ∀ j, j ≠ m → isVirtual j = false → t.gauge j = s.gauge j)) ∧
    (s.gaugeOn m = true → calm → Answers (.remoteLost k) s (fun t => (t.gauge m).stamped = false ∧
      (t.gauge m).srcLocked = false ∧ t.gaugeLocked m = false ∧ t.fld (GAUGE.G_STATUS_FAULT_KIND m) = 7 ∧ t.on (GAUGE.G_STATUS_HELD m) = true ∧
      t.faultBit 3 4 = true ∧ (t.gauge m).value = (s.gauge m).value)) ∧
    (x.testBit 8 = false ∨ y ≤ 32 → Answers (.rgSrcWrite k x y z) s (fun t => t.reg (GAUGE.RG_SRC k) = BitVec.ofNat 32 (x &&& 0x1FF) ∧
      t.fld (GAUGE.RG_LAT_LAT k) = (if x.testBit 8 then z % 1024 else 0) ∧ OnlyRegs s t [GAUGE.RG_SRC k, GAUGE.RG_LAT k])) ∧
    (x.testBit 8 = true → 32 < y → Answers (.rgSrcWrite k x y z) s (fun t => refused t ∧ OnlyRegs s t [GAUGE.CMD_STATUS])) ∧
    (s.entriesOn n = [] → Answers (.preset n) s (fun t => (t.gauge n).value = preset ∧ OnlyRegs s t [GAUGE.CMD] ∧ (s.followers n = [] → t.gc.entries = s.gc.entries) ∧
      ∀ j, j ≠ n → isVirtual j = false → t.gauge j = s.gauge j)) ∧
    (s.entriesOn n ≠ [] → Answers (.preset n) s (fun t => refused t ∧ OnlyRegs s t [GAUGE.CMD, GAUGE.CMD_STATUS])) ∧
    (ok → Answers (.vgCommit k) s (fun t => t.virtual k = some (s.staged k) ∧ (t.gauge (32 + k)).value = s.virtualValue (s.staged k) ∧
      (s.eng ≠ engReady → OnlyRegs s t [GAUGE.INT_STAT]) ∧ ∀ j, j ≠ 32 + k → t.gauge j = s.gauge j)) ∧
    (¬ ok → Answers (.vgCommit k) s (fun t => refused t ∧ (s.eng ≠ engReady → OnlyRegs s t [GAUGE.CMD_STATUS]))) ∧
    (¬ can → Answers (.resume n) s refused ∧ Answers (.flush n) s refused) ∧
    (can → Tbl.wf (fun _ => none) s.gc.entries = true → Answers (.flush n) s (fun t => t.on (GAUGE.G_STATUS_HELD n) = false ∧ t.entriesOn n = [] ∧
      OnlyRegs s t [GAUGE.G_STATUS n, CALENDAR.ARM_RESULT, CALENDAR.INT_STAT] ∧ t.gc.gauges = s.gc.gauges)) ∧
    (can → held = false → exec (.resume n) s = .next s) ∧
    (can → held = true → s.followers n = [] → (∀ q, q ∈ s.entriesOn n → q.2.crossed = false ∧ q.2.resumed = false) → Answers (.resume n) s (fun t => t.on (GAUGE.G_STATUS_HELD n) = false ∧
      t.entriesOn n = s.entriesOn n ∧ OnlyRegs s t [GAUGE.G_STATUS n] ∧ t.cores = s.cores)) ∧
    (∀ e q, can → held = true → q.action = 0 → q.discard = false → q.doomed = false → q.inserting = false → q.late = false → q.crossed = true → q.requested = false →
      q.gauge = n → q.engine = false → 34 ≤ q.owner → s.gc.entries = [(e, some q)] → Answers (.resume n) s (fun t => t.on (GAUGE.G_STATUS_HELD n) = false ∧
        t.entry e = none ∧ t.cores = s.cores))

/-- With the fabric released and no request outstanding ARM_GO queues what the ARM registers hold, or the ticket to disarm, and RESULT is pending; while one is it is logged RO_WRITE. Acceptance takes the oldest request: a valid host arm gets the lowest free entry outside every core's range with the next generation, an invalid one ends REFUSED, and FULL where none is free; a core's arm on an enabled gauge begins its insertion; a host disarm that matches removes its entry with result 0, unless it is crossed and due to fire, else NOT_FOUND. A completed insertion leaves the entry live, noting its side; a late one is held as crossed, or removed and counted if LATE_DISCARD, else fired. Entries marked at a core's halt are removed and no others. ENTRY_SEL copies the entry, zero for none. (R171, R174, R175, R177, R178, R181, R221, R222) -/
def Obligations.CalendarRequests : Prop :=
  ∀ (s : State) (e n : Nat), s.fabric = true →
    let res := s.fld CALENDAR.ARM_RESULT_RESULT
    let logged := fun (t : State) => t.on SYS.ACCESS_LOG_RO_WRITE = true ∧ t.gc = s.gc ∧
      OnlyRegs s t [SYS.ACCESS_LOG, SYS.ACCESS_ADDR]
    let queued := fun (c : Instr) r => (res ≠ 1 → Answers c s (fun t => t.fld CALENDAR.ARM_RESULT_RESULT = 1 ∧ t.gc = { s.gc with reqs := s.gc.reqs ++ [r] } ∧
      OnlyRegs s t [CALENDAR.ARM_RESULT])) ∧ (res = 1 → Answers c s logged)
    let done := fun (t : State) r => t.fld CALENDAR.ARM_RESULT_RESULT = r ∧ t.on CALENDAR.INT_STAT_ARM_DONE = true
    queued .armGoArm (.hostArm (s.fld CALENDAR.ARM_CTL_ACTION) (s.fld CALENDAR.ARM_ARG_ARG) (s.fld CALENDAR.ARM_CTL_DIR) (s.fld CALENDAR.ARM_CTL_GAUGE)
      (s.pair CALENDAR.ARM_POS_LO CALENDAR.ARM_POS_HI) (s.on CALENDAR.ARM_CTL_LATE_DISCARD)) ∧
    queued .armGoDisarm (.disarm 63 (s.fld CALENDAR.DISARM_TICKET_TICKET)) ∧
    (∀ act arg dir g pos disc rest, s.gc.reqs = .hostArm act arg dir g pos disc :: rest →
      (s.armValid g dir act arg = false → Answers .calendarAccept s (fun t => done t 3 ∧ t.gc = { s.gc with reqs := rest })) ∧
      (s.armValid g dir act arg = true → s.freeForHost = none → Answers .calendarAccept s (fun t => done t 2 ∧
        t.on CALENDAR.INT_STAT_FULL_EV = true ∧ t.gc = { s.gc with reqs := rest })) ∧
      (s.armValid g dir act arg = true → s.freeForHost = some e → Answers .calendarAccept s (fun t => t.regs = s.regs ∧ t.gc.reqs = rest ∧
        (∀ j, j ≠ e → t.entry j = s.entry j) ∧ ∃ y, t.entry e = some y ∧ y.owner = 63 ∧ y.action = act ∧ y.arg = arg ∧ y.dir = dir ∧ y.gauge = g ∧
          y.pos = pos ∧ y.discard = disc ∧ y.gen = (s.generation e + 1) % 8 ∧ y.inserting = true ∧ y.requested = false))) ∧
    (∀ rest y, s.gc.reqs = .arm e :: rest → s.entry e = some y → s.gaugeOn y.gauge = true → Answers .calendarAccept s (fun t => t.gc.reqs = rest ∧
      t.entry e = some { y with requested := false, inserting := true, seq := s.gc.seq, below := decide (posDiff (s.gauge y.gauge).value y.pos < 0) } ∧ (∀ j, j ≠ e → t.entry j = s.entry j) ∧ t.cores = s.cores)) ∧
    (∀ tk rest y, s.gc.reqs = .disarm 63 tk :: rest → e = tk % 2 ^ 13 → s.entry e = some y → y.requested = false → y.inserting = false →
      (y.gen = tk / 2 ^ 13 % 8 → y.crossed = false ∨ y.doomed = true ∨ s.gaugeHeld y.gauge = true → Answers .calendarAccept s (fun t => t.entry e = none ∧ done t 0 ∧ (∀ j, j ≠ e → t.entry j = s.entry j))) ∧
      (y.gen ≠ tk / 2 ^ 13 % 8 ∨ y.crossed = true ∧ y.doomed = false ∧ s.gaugeHeld y.gauge = false → Answers .calendarAccept s (fun t => done t 4 ∧ t.gc = { s.gc with reqs := rest }))) ∧
    (∀ y, s.entry e = some y → y.inserting = true → y.owner = 63 → y.engine = false →
      let d := posDiff (s.gauge y.gauge).value y.pos; let behind := decide (y.dir = 1) && decide (0 ≤ d) || decide (y.dir = 2) && decide (d ≤ 0)
      let held := s.gaugeHeld y.gauge; let live := { y with inserting := false, below := decide (d < 0), late := behind, crossed := behind && held }
      (behind = false ∨ held = true → Answers (.calendarInsertDone e) s (fun t => t.entry e = some live ∧ done t 0 ∧
        t.fld CALENDAR.ARM_RESULT_TICKET = ticketOf e y.gen % 2 ^ 16 ∧ (∀ j, j ≠ e → t.entry j = s.entry j))) ∧
      (behind = true → held = false → y.doomed = false → y.discard = true → Answers (.calendarInsertDone e) s (fun t => t.entry e = none ∧ done t 0 ∧
        t.on CALENDAR.INT_STAT_LATE_EV = true ∧ t.fld CALENDAR.LATE_COUNT_COUNT = min (s.fld CALENDAR.LATE_COUNT_COUNT + 1) 0xFFFFFFFF)) ∧
      (behind = true → held = false → y.doomed = false → y.discard = false → exec (.calendarInsertDone e) s =
        .next (State.fireEntry (State.countLate (State.hostDone (s.setEntry e (some live)) 0 (ticketOf e y.gen))) e live)) ∧
      (behind = true → held = false → y.doomed = false → y.discard = false → y.action = 0 → Answers (.calendarInsertDone e) s (fun t => t.entry e = none ∧ done t 0 ∧
        t.on CALENDAR.INT_STAT_LATE_EV = true ∧ t.cores = s.cores ∧ ∀ j, j ≠ e → t.entry j = s.entry j))) ∧
    Answers (.haltEntryRemoval n) s (fun t => t = { s with gc := { s.gc with entries := t.gc.entries } } ∧ ∀ q, q ∈ t.gc.entries ↔ q ∈ s.gc.entries ∧
      ¬ ∃ y, q.2 = some y ∧ y.owner = n ∧ y.doomed = true ∧ y.requested = false ∧ y.inserting = false) ∧
    Answers (.entrySel e) s (fun t => t.fld CALENDAR.ENTRY_SEL_ENTRY = e % 8192 ∧ t.gc = s.gc ∧
      OnlyRegs s t (CALENDAR.ENTRY_SEL :: (List.range 4).map CALENDAR.ENTRY_DATA) ∧ ∀ i, i < 4 → t.reg (CALENDAR.ENTRY_DATA i) =
        (match s.entry (e % 8192) with | none => 0 | some y => if y.requested then 0 else BitVec.ofNat 32 (y.word / 2 ^ (32 * i))))

/-- With the fabric released a crossing of an enabled gauge moves its value inside its bound and fires its crossed entries and those of the virtual gauges over it; while its queues are held it marks as crossed each live entry the value passes in its direction and fires none. Where one crossed entry of the host may fire on a gauge whose queues are not held, it is gone and its action takes effect: NOP nothing else, SET, CLEAR and TOGGLE of a GPIO output its level, WAKE of a running core that waits for nothing its wake flag, WAKE of a halted one a counted drop with ACTION_DROP, POST a message with tag, entry number, LATE and RESUMED in the mailbox of a core that waits for nothing and has room. Firing on held queues, with no virtual gauge over them, changes nothing. (R160, R172, R173, R174, R175, R176) -/
def Obligations.CalendarFiring : Prop :=
  ∀ (s : State) (g v : Nat), s.fabric = true →
    (s.gaugeOn g = true → exec (.entryCrossing g v) s = .next (State.fireWith (s.moveGauge g (s.confine g v)) g)) ∧
    (s.gaugeOn g = true → s.gaugeHeld g = true → s.followers g = [] → isVirtual g = false → Answers (.entryCrossing g v) s (fun t =>
      (t.gauge g).value = s.confine g v % 2 ^ 64 ∧ t.regs = s.regs ∧ t.cores = s.cores ∧ t.gc.entries.map Prod.fst = s.gc.entries.map Prod.fst ∧
      ∀ e x, s.gc.entries = [(e, some x)] → x.gauge = g → x.requested = false → x.inserting = false →
        x.crosses (s.gauge g).value (s.confine g v % 2 ^ 64) = true → t.gc.entries = [(e, some { x with crossed := true })])) ∧
    (s.gaugeHeld g = true → s.followers g = [] → exec (.calendarFireDeferred g) s = .next s) ∧
    (∀ e x, s.gaugeHeld g = false → s.gc.entries = [(e, some x)] → x.gauge = g → x.crossed = true → x.inserting = false → x.doomed = false → x.requested = false →
      x.late = false → x.owner = 63 → x.engine = false →
      let fired := fun (P : State → Prop) => Answers (.calendarFireDeferred g) s (fun t => t.entry e = none ∧ P t)
      let n := x.arg % 64; let c := s.core n; let o := x.arg % 2 ^ 12
      (x.action = 0 → fired (fun t => t.regs = s.regs ∧ t.cores = s.cores ∧ t.engine = s.engine)) ∧
      (1 ≤ x.action → x.action ≤ 3 → o < 32 → fired (fun t => t.regs = s.regs ∧ t.cores = s.cores ∧ t.engine = { s.engine with
        gpioOut := withBit s.engine.gpioOut o (if x.action = 3 then !s.engine.gpioOut.testBit o else decide (x.action = 1)) })) ∧
      (x.action = 5 → c.halted = false → c.wait = .none → fired (fun t => t.regs = s.regs ∧ t.core n = { c with wake := true } ∧
        ∀ m, m ≠ n → t.core m = s.core m)) ∧
      (x.action = 5 → c.halted = true → fired (fun t => t.cores = s.cores ∧ t.faultBit 4 0 = true ∧
        t.fld CALENDAR.DROP_COUNT_COUNT = min (s.fld CALENDAR.DROP_COUNT_COUNT + 1) 0xFFFFFFFF)) ∧
      (x.action = 6 → c.mail.length < 16 → c.wait = .none → fired (fun t => t.regs = s.regs ∧ (∀ m, m ≠ n → t.core m = s.core m) ∧
        t.core n = { c with mail := c.mail ++ [⟨BitVec.ofNat 64 (s.postPayload e x (x.arg / 2 ^ 16)), 62 + s.position * 64⟩] })))

/-- At a port that is not BUSY, with no command queued, CREATE of a data kind, class and size gives the next fresh index an empty object of that kind, size and class, REALTIME for a separation or expansion, on the ranks of its placement or in a free Plate region, with DONE and its handle; with no room NO_SPACE, or, for a LOCAL object that a compaction makes room for, the moves are queued and the command stays BUSY; with no index NO_ENTRY and for a reserved value REFUSED, each changing no object. FREE of an unheld data object releases its index to the end of the free list with DONE; of a held one it sets FREE_PENDING with DEFERRED; of no object it is REFUSED and of a fixed one IN_USE. The deferred free releases the object once nothing holds it, with FREE_DONE. A busy port discards a command. (R247, R248, R260, R265, R266, R268, R269, R272, R273, R274, R275) -/
def Obligations.DataObjectCommands : Prop :=
  ∀ (s : State) (p i : Nat), p ≤ 2 → s.fabric = true → s.plcCode p ≠ 1 → s.obj.cmds = [] →
    let arg := fun j => if p = 0 then (s.reg (PLACER.ARG j)).toNat else if j = 0 then (s.plcPort p).arg0 else (s.plcPort p).arg1
    let kind := bits (arg 0) 0 4; let cls := bits (arg 0) 4 4; let size := arg 1; let g := granules size; let n := s.obj.fresh
    let real := if kind = 9 ∨ kind = 10 then 1 else cls; let wellFormed := isDataKind kind = true ∧ cls ≤ 3 ∧ 0 < size ∧ size ≤ 0xFFFFF000
    let ends := fun (t : State) code v => t.plcCode p = code ∧ (if p = 0 then t.fld PLACER.RESULT_VALUE else (t.plcPort p).value) = v ∧ t.obj.cmds = [] ∧
      (p = 0 → t.on PLACER.INT_STAT_CMD_DONE = true)
    let same := fun (t : State) => t.obj.objs = s.obj.objs ∧ t.obj.freed = s.obj.freed ∧ t.obj.fresh = s.obj.fresh
    let made := fun (t : State) (o : Obj) => ends t 0 (kind * 4096 + n) ∧ t.object n = some { o with kind := kind, size := size, cls := real, plateOk := (arg 0).testBit 8 } ∧
      t.obj.fresh = n + 1 ∧ ∀ j, j ≠ n → t.object j = s.object j
    let near := real = 3 ∧ (arg 0).testBit 8 = true; let h := arg 0 % 65536; let x := h % 4096
    (∀ l nx, wellFormed → n < 4096 → (near → s.freePlate g = none) → s.placeDram g real = (some l, nx) → Answers (.create p) s (fun t =>
      made t { Obj.empty kind with place := whereOf l, spread := l })) ∧
    (∀ k, wellFormed → n < 4096 → near → s.freePlate g = some k → Answers (.create p) s (fun t => made t { Obj.empty kind with place := 3, plateStation := k })) ∧
    (∀ nx, wellFormed → n < 4096 → (near → s.freePlate g = none) → s.placeDram g real = (none, nx) →
      (real ≠ 2 ∨ (∀ m, m ∈ s.obj.moves → m.reason ≠ 3) ∧ s.compactPlan g s.obj.localNext = none ∧ s.compactPlan g (1 - s.obj.localNext) = none →
        Answers (.create p) s (fun t => ends t 3 0 ∧ same t)) ∧
      (∀ l, real = 2 → s.obj.moves = [] → s.compactPlan g s.obj.localNext = some l → Answers (.create p) s (fun t => t.plcCode p = 1 ∧
        t.obj.cmds.length = 1 ∧ t.obj.moves = l ∧ t.obj.fresh = n ∧ t.obj.freed = s.obj.freed))) ∧
    (wellFormed → 4096 ≤ n → s.obj.freed = [] → Answers (.create p) s (fun t => ends t 2 0 ∧ same t)) ∧
    (¬ wellFormed → Answers (.create p) s (fun t => ends t 4 0 ∧ same t)) ∧
    (∀ o, 0x200 ≤ x → s.dataObj h = some o → o.freePending = false →
      (o.use = 0 → Answers (.free p) s (fun t => ends t 0 0 ∧ t.object x = none ∧ t.obj.freed = s.obj.freed ++ [x])) ∧
      (0 < o.use → Answers (.free p) s (fun t => ends t 5 0 ∧ t.object x = some { o with freePending := true } ∧ t.obj.freed = s.obj.freed ∧
        ∀ j, j ≠ x → t.object j = s.object j))) ∧
    (s.validHandle h = false → Answers (.free p) s (fun t => ends t 4 0 ∧ same t)) ∧
    (x < 0x200 → s.validHandle h = true → Answers (.free p) s (fun t => ends t 6 0 ∧ same t)) ∧
    (∀ o, s.object i = some o → o.freePending = true → o.use = 0 → Answers (.deferredFreeDone i) s (fun t => t.object i = none ∧
      t.obj.freed = s.obj.freed ++ [i] ∧ t.on PLACER.INT_STAT_FREE_DONE = true)) ∧
    (∀ t : State, t.plcCode p = 1 → exec (.create p) t = .next t ∧ exec (.free p) t = .next t ∧ exec (.group p) t = .next t ∧
      exec (.placeProgram p) t = .next t ∧ exec (.removeProgram p) t = .next t ∧ exec (.bindAffinity p) t = .next t)

/-- With RESULT not BUSY, no command queued and member words of this device in the staging table, GROUP of a level of 1 to 3 makes a group of those members with depth one more than their greatest and the sum of their flattened counts, LIMIT past 8 or 1,024, REFUSED for a member of another level. PLACE_PROGRAM of an image with one program whose TARGET core is free loads it there with the range at the end of the longest run, holds the object and reports it in PLACE_REPORT0; without such a core NO_CORE, for a bad image IMAGE_BAD. REMOVE_PROGRAM of a halted core's program re-initialises it and forgets the placement; a running core is asked to halt with RESULT BUSY. BIND_AFFINITY of a station of this device binds its group. (R214, R242, R253, R254, R256, R273, R274, R276, R277, R278) -/
def Obligations.GroupAndProgramCommands : Prop :=
  ∀ (s : State), s.fabric = true → s.plcCode 0 ≠ 1 → s.obj.cmds = [] →
    let a := (s.reg (PLACER.ARG 0)).toNat; let b := (s.reg (PLACER.ARG 1)).toNat; let n := s.obj.fresh; let lv := a % 8; let cnt := a / 256 % 256
    let words := (List.range cnt).map (fun j => (s.reg (PLACER.STAGE j)).toNat)
    let good := fun w => w / 65536 = s.position ∧ s.validHandle (w % 65536) = true ∧ s.levelOf (w % 65536) = lv
    let d := (words.map (fun w => s.depthOf (w % 65536))).foldl max 0; let f := (words.map (fun w => s.flatOf (w % 65536))).foldl (· + ·) 0
    let ends := fun (t : State) code v => t.fld PLACER.RESULT_CODE = code ∧ t.fld PLACER.RESULT_VALUE = v ∧ t.obj.cmds = [] ∧
      t.on PLACER.INT_STAT_CMD_DONE = true
    let same := fun (t : State) => t.obj.objs = s.obj.objs ∧ t.obj.fresh = n ∧ t.obj.placed = s.obj.placed ∧ t.cores = s.cores
    (1 ≤ lv → lv ≤ 3 → 1 ≤ cnt → b % 65536 = 0 → (∀ w, w ∈ words → good w) → n < 4096 →
      (d + 1 ≤ 8 → f ≤ 1024 → Answers (.group 0) s (fun t => ends t 0 (0x5000 + n) ∧ t.object n = some { Obj.empty 5 with
        level := lv, members := words, depth := d + 1, flat := f } ∧ t.obj.fresh = n + 1 ∧ ∀ j, j ≠ n → t.object j = s.object j)) ∧
      (8 < d + 1 ∨ 1024 < f → Answers (.group 0) s (fun t => ends t 7 0 ∧ same t))) ∧
    (lv = 0 ∨ 3 < lv ∨ cnt = 0 → Answers (.group 0) s (fun t => ends t 4 0 ∧ same t)) ∧
    (b % 65536 = 0 → (∀ w, w ∈ words → w / 65536 = s.position) → (∃ w, w ∈ words ∧ ¬ good w) → Answers (.group 0) s (fun t => ends t 4 0 ∧ same t)) ∧
    (∀ o, s.dataObj (a % 65536) = some o → o.kind = 11 → o.freePending = false → o.evicted = false → o.poisoned = [] →
      (icxImage o.byte o.size s.calRun.2 = none → Answers (.placeProgram 0) s (fun t => ends t 8 0 ∧ same t)) ∧
      (∀ q, icxImage o.byte o.size s.calRun.2 = some [q] → q.affinity = 0 →
        (∀ m, s.coreFor q.target = some m → Answers (.placeProgram 0) s (fun t => ends t 0 0 ∧
          t.obj.placed = s.obj.placed ++ [(⟨q.id, s.position, m, a % 4096⟩ : Placed)] ∧ (∀ j, j ≠ m → t.core j = s.core j) ∧
          t.core m = (s.loadProgram o.byte m (s.calRun.1 + s.calRun.2 - q.cal) q).core m ∧ t.object (a % 4096) = some { o with use := o.use + 1 } ∧
          t.reg (PLACER.PLACE_REPORT 0) = BitVec.ofNat 32 (q.id + m % 64 * 2 ^ 16 + s.position * 2 ^ 22 + 2 ^ 31) ∧
          ∀ j, 1 ≤ j → j < 34 → t.reg (PLACER.PLACE_REPORT j) = 0)) ∧
        (s.coreFor q.target = none → Answers (.placeProgram 0) s (fun t => ends t 9 0 ∧ same t)))) ∧
    (∀ q o, s.obj.placed.find? (fun q => decide (q.programId = a % 65536)) = some q → q.device = s.position → q.core < 34 → s.object q.object = some o →
      isDataKind o.kind = true → q.object < 4096 → o.kind < 16 →
      ((s.core q.core).halted = true → Answers (.removeProgram 0) s (fun t => ends t 0 0 ∧ t.obj.placed = s.obj.placed.erase q ∧
        (t.core q.core).calCount = 0 ∧ (t.core q.core).pc = 0 ∧ (t.core q.core).mem = (s.core q.core).mem ∧ (t.core q.core).halted = true ∧
        t.object q.object = some { o with use := o.use - 1 } ∧ ∀ j, j ≠ q.core → t.core j = s.core j)) ∧
      ((s.core q.core).halted = false → (s.core q.core).halting = false → Answers (.removeProgram 0) s (fun t => t.fld PLACER.RESULT_CODE = 1 ∧
        (t.core q.core).halting = true ∧ t.obj.placed = s.obj.placed ∧ t.obj.cmds.length = 1))) ∧
    (s.obj.placed.find? (fun q => decide (q.programId = a % 65536)) = none → Answers (.removeProgram 0) s (fun t => ends t 4 0 ∧ same t)) ∧
    (a % 256 ≠ 0 → (b = 0 ∨ b / 65536 = s.position ∧ 0x3008 ≤ b % 65536 ∧ b % 65536 < 0x300E) → Answers (.bindAffinity 0) s (fun t => ends t 0 0 ∧ same t ∧
      Tbl.get (fun _ => 0) t.obj.affinity (a % 256) = b)) ∧
    (a % 256 = 0 → Answers (.bindAffinity 0) s (fun t => ends t 4 0 ∧ same t ∧ t.obj.affinity = s.obj.affinity))

/-- With the fabric released and the engine not in READY, ENABLE of a disabled station with an empty Plate region turns it on with LUT_VALID clear; with objects in the region it waits and their moves are queued. ENABLE 0 turns off a station without a committed page, and waits for the last one else. The first queued Plate move puts its object on the ranks of its new placement, turning the station on once the region is empty, or with no room refuses the enable. While PLL 1 is locked a migration copy takes one granule off its object and LEFT; the last one retires the old rank and puts the spare in service with MIG_DONE. GPIO_SET and GPIO_CLR change the named bits of GPIO_OUT and nothing else. (R251, R252, R266, R267, R268, R361, R404, R417) -/
def Obligations.StationAndMoves : Prop :=
  ∀ (s : State) (k v : Nat), s.fabric = true →
    let q := s.station k; let held := s.plateHeld k; let one := (s.gv k).queue.any (·.committed); let mine := s.obj.moves.filter (fun m => decide (m.reason = 1) && decide (m.rank / 4 = k))
    let off := fun (t : State) => (t.station k).enabled = false ∧ (t.station k).enable = false ∧ (t.gv k).frames = [] ∧
      t.on (GRAVER.STATUS_SCANNING k) = false ∧ t.on (GRAVER.GUARD_STATUS_LUT_VALID k) = false
    let from' := 4 * k + s.fld (DRAMC.MIG_STATUS_FROM k); let spare := 4 * k + s.fld (DRAMC.MIG_STATUS_TO k)
    (k < 6 → s.eng ≠ engReady →
      (q.enabled = false → held = [] → Answers (.stationEnable k true) s (fun t => (t.station k).enabled = true ∧ (t.station k).enable = true ∧
        (t.station k).refused = false ∧ t.on (GRAVER.GUARD_STATUS_LUT_VALID k) = false ∧ t.on (GRAVER.STATUS_ENABLED k) = true ∧ ∀ j, j ≠ k → t.station j = s.station j)) ∧
      (q.enabled = false → held ≠ [] → q.plateBusy = false → Answers (.stationEnable k true) s (fun t => (t.station k).enable = true ∧
        (t.station k).enabled = false ∧ (t.station k).plateBusy = true ∧ t.obj.moves = s.obj.moves ++ held.filterMap (fun i =>
          (s.object i).map (fun o => (⟨i, 2, 0, granules o.size⟩ : Move))))) ∧
      (q.enabled = true → Answers (.stationEnable k true) s (fun t => t.station k = { q with enable := true, busyCommitted := false, refused := false })) ∧
      (q.plateBusy = false → (q.enabled = false ∨ one = false) → Answers (.stationEnable k false) s off) ∧
      (q.plateBusy = false → q.enabled = true → one = true → Answers (.stationEnable k false) s (fun t =>
        t.station k = { q with enable := false, busyCommitted := true, refused := false } ∧ (t.gv k).queue = (s.gv k).queue))) ∧
    (∀ m rest o, s.obj.cmds = [] → s.obj.moves = m :: rest → s.object m.index = some o → m.reason = 2 →
      (∀ l nx, s.placeDram (granules o.size) o.cls = (some l, nx) → Answers .placerMoveDone s (fun t => t.obj.moves = rest ∧
        (∃ x, t.object m.index = some x ∧ x.place = whereOf l ∧ x.spread = l ∧ x.bytes = o.bytes ∧ x.use = o.use ∧ x.size = o.size) ∧
        (k < 6 → q.plateBusy = true → t.plateHeld k = [] → (t.station k).enabled = true))) ∧
      (∀ nx, s.placeDram (granules o.size) o.cls = (none, nx) → o.plateStation = k → k < 6 → Answers .placerMoveDone s (fun t =>
        (t.station k).enable = false ∧ (t.station k).refused = true ∧ (t.station k).plateBusy = false ∧ (t.station k).enabled = q.enabled ∧ t.plateHeld k = held))) ∧
    (k < 2 → s.domain 1 = true → s.on (CLOCK.PLL_STATUS_LOCKED 1) = true → s.on (DRAMC.MIG_STATUS_ACTIVE k) = true →
      (∀ m rest, mine = m :: rest → 1 < m.left → Answers (.migrationCopy k) s (fun t => OnlyRegs s t [DRAMC.MIG_STATUS k,
        DRAMC.RANK_STATUS (m.rank / 4) (m.rank % 4), DRAMC.RANK_STATUS (spare / 4) (spare % 4)] ∧
        t.fld (DRAMC.MIG_STATUS_LEFT k) = s.fld (DRAMC.MIG_STATUS_LEFT k) - 1 ∧ t.obj.objs = s.obj.objs ∧
        t.obj.moves = s.obj.moves.map (fun x => if x = m then { x with left := x.left - 1 } else x))) ∧
      (∀ m o, mine = [m] → m.left ≤ 1 → s.object m.index = some o → from' ≠ spare → Answers (.migrationCopy k) s (fun t =>
        t.rankState from' = 5 ∧ t.rankState spare = 1 ∧ t.on (DRAMC.MIG_STATUS_ACTIVE k) = false ∧ t.on DRAMC.INT_STAT_MIG_DONE = true ∧
        ∃ x, t.object m.index = some x ∧ x.bytes = o.bytes ∧ x.spread = o.spread.map (fun r => if r.1 = m.rank then (spare, r.2) else r)))) ∧
    Answers (.gpioSet v) s (fun t => t = { s with engine := { s.engine with gpioOut := t.engine.gpioOut } } ∧
      ∀ i, t.engine.gpioOut.testBit i = (s.engine.gpioOut.testBit i || (v.testBit i && decide (i < 32)))) ∧
    Answers (.gpioClr v) s (fun t => t = { s with engine := { s.engine with gpioOut := t.engine.gpioOut } } ∧
      ∀ i, t.engine.gpioOut.testBit i = (s.engine.gpioOut.testBit i && !(v.testBit i && decide (i < 32))))

/-- With the fabric released an endpoint reset returns the apertures, rings and MSI-X registers to reset, clears BME, takes the link down but for a function-level reset, counts itself, sets LINK_EV, stops the running channels with a bus error, and keeps the next indices, queues, objects and cores. Link up records speed and width. With the link up and the device booted the power state, BME and function mask are as written. A window read through an enabled aperture answers the object's bytes and a write changes those bytes alone, the open-row counters of the ranks that hold them aside; one that cannot be served answers nothing, writes nothing and is logged. Unmasking a vector sends its held message if its condition holds. (R117, R282, R283, R284, R285, R295, R301) -/
def Obligations.EndpointAndWindow : Prop :=
  ∀ (s : State) (cause x len v : Nat) (data : List Nat) (d0 bme mask : Bool), s.fabric = true →
    let k := (s.aperture x).1; let h := (s.aperture x).2.1; let off := (s.aperture x).2.2; let busy := (List.range 32).filter s.chActive
    let open' := fun n => s.on (INTAKE.AP_HANDLE_EN k) = true ∧ s.objCheck h off n false false = 0
    let logged := fun (t : State) f => t.on f = true ∧ t.on INTAKE.INT_STAT_APERTURE_EV = true ∧ t.obj = s.obj ∧ OnlyRegs s t [INTAKE.AP_STATUS k, INTAKE.INT_STAT]
    (cause ≤ 3 → Answers (.endpointReset cause) s (fun t => (∀ a, a ∈ endpointRegs → t.reg a = resetWord a) ∧ t.on INTAKE.EP_STATUS_BME = false ∧
      (cause ≠ 2 → t.on INTAKE.EP_STATUS_LINK_UP = false) ∧ (cause = 2 → t.on INTAKE.EP_STATUS_LINK_UP = s.on INTAKE.EP_STATUS_LINK_UP) ∧
      (cause = 0 → t.on INTAKE.EP_STATUS_PERST_N = false) ∧ t.on INTAKE.INT_STAT_LINK_EV = true ∧
      t.fld INTAKE.EP_STATUS_RESETS = min (s.fld INTAKE.EP_STATUS_RESETS + 1) 255 ∧ t.cores = s.cores ∧ t.gc = s.gc ∧
      (∀ n, n < 16 → t.reg (INTAKE.SQ_NEXT_INDEX n) = s.reg (INTAKE.SQ_NEXT_INDEX n) ∧ t.reg (INTAKE.CQ_NEXT_INDEX n) = s.reg (INTAKE.CQ_NEXT_INDEX n)) ∧
      (busy = [] → t.obj = s.obj ∧ t.host.dq = s.host.dq) ∧ (busy ≠ [] → t.moverStopped = true ∧ ∀ c, c ∈ busy → t.chState c = 5))) ∧
    (s.domain 3 = true → 1 ≤ len → len ≤ 4 → (v = 1 ∨ v = 2 ∨ v = 4) → Answers (.pcieLinkUp len v) s (fun t => t.on INTAKE.EP_STATUS_LINK_UP = true ∧
      t.fld INTAKE.EP_STATUS_SPEED = len ∧ t.fld INTAKE.EP_STATUS_WIDTH = v ∧ OnlyRegs s t [INTAKE.EP_STATUS] ∧ t = { s with regs := t.regs })) ∧
    (s.tinder.vstby = true → s.on INTAKE.EP_STATUS_LINK_UP = true → s.bootStage = 3 ∨ s.bootStage = 0xF → Answers (.busMasterEnable d0 bme mask) s (fun t => t.host.d0 = d0 ∧
      t.host.fnMask = mask ∧ t.on INTAKE.EP_STATUS_BME = bme ∧ OnlyRegs s t [INTAKE.EP_STATUS] ∧ t.obj = s.obj ∧ t.host.dq = s.host.dq)) ∧
    (∀ o, open' len → s.dataObj h = some o → o.poisoned = [] → exec (.windowRead x len) s = .next { s with reply := (List.range len).map (fun i => o.byte (off + i)) }) ∧
    (¬ open' len → Answers (.windowRead x len) s (fun t => logged t (INTAKE.AP_STATUS_RD_ERR k) ∧ t.reply = [])) ∧
    (∀ o, open' data.length → s.dataObj h = some o → o.poisoned = [] → Answers (.windowWrite x data) s (fun t =>
      OnlyRegs s t (o.spread.map (fun q => DRAMC.RANK_STATUS (q.1 / 4) (q.1 % 4))) ∧
      (∀ i, i < data.length → t.objRead h (off + i) 1 = [data.getD i 0 % 256]) ∧ (∀ b, b < off ∨ off + data.length ≤ b → t.objRead h b 1 = s.objRead h b 1) ∧
      ∀ j, j ≠ indexOf h → t.object j = s.object j)) ∧
    (¬ open' data.length → Answers (.windowWrite x data) s (fun t => logged t (INTAKE.AP_STATUS_WR_ERR k))) ∧
    (v < 32 → Answers (.msixUnmask v) s (fun t => t.on (INTAKE.MSIX_CTRL_MASK v) = false ∧ OnlyRegs s t [INTAKE.MSIX_CTRL v] ∧
      (s.host.pba.testBit v = false → t.host = s.host) ∧ (s.host.pba.testBit v = true → s.canSend = true → s.host.fnMask = false →
        t.host.pba.testBit v = false ∧ t.host.sent = if s.vecOn s.irqPend v then s.host.sent ++ [.msix v] else s.host.sent))) ∧
    (s.host.pba = 0 → exec (.msixUnmask 32) s = .next { s with host := { s.host with fnMask := false } })

/-- With the fabric released EN of a ring from 0 to 1 takes its size and sets head and tail to 0, clears ERR of a submission ring and sets the phase of a completion ring. A tail below the ring size is taken, another only sets DOORBELL_ERR; a completion head is taken. With bus mastering an enabled ring whose head is not its tail, whose device queue has room and whose turn it is fetches its head record, writes the next index and the chain result into it, advances both, and queues it, or starts channel n on its chain and keeps it until the chain ends; a failed read sets ERR and SQ_READ and disables the ring. The next completion in order is written to host memory with SQ_HEAD and PHASE, the tail advances and the phase inverts at the wrap; one out of order raises CQ_ORDER. (R240, R286, R287, R288, R289, R291, R292, R295) -/
def Obligations.Rings : Prop :=
  ∀ (s : State) (n v : Nat) (data : List Nat), s.fabric = true → n < 16 →
    let size := s.sqSize n; let head := s.fld (INTAKE.SQ_HEAD_HEAD n); let idx := s.fld (INTAKE.SQ_NEXT_INDEX_INDEX n); let r := record64 data
    let ready := s.canSend = true ∧ s.on (INTAKE.SQ_CFG_EN n) = true ∧ head ≠ s.fld (INTAKE.SQ_TAIL_TAIL n) ∧ (s.dq n).length < 16 ∧
      Tbl.get (fun _ => none) s.host.chainRec n = none ∧ s.sqTurn n = true
    let chained := (fieldAt r 1 1).testBit 0 = true; let r1 := ((r.set 2 (idx % 256)).set 3 (idx / 256)).set 4 (if badHeader r then 3 else 0)
    let fetched := fun (t : State) => t.fld (INTAKE.SQ_NEXT_INDEX_INDEX n) = (idx + 1) % 65536 ∧ t.fld (INTAKE.SQ_HEAD_HEAD n) = (head + 1) % size ∧
      Sent.hostRead (s.sqBase n + 64 * head) 64 ∈ t.host.sent ∧ t.on (INTAKE.SQ_CFG_EN n) = true
    let tail := s.fld (INTAKE.CQ_TAIL_TAIL n); let next := (tail + 1) % s.cqSize n
    let writes := s.canSend = true ∧ s.on (INTAKE.CQ_CFG_EN n) = true ∧ next ≠ s.fld (INTAKE.CQ_HEAD_HEAD n)
    (v.testBit 0 = true → s.on (INTAKE.SQ_CFG_EN n) = false → Answers (.ringEnable false n v) s (fun t => t.on (INTAKE.SQ_CFG_EN n) = true ∧
      t.on (INTAKE.SQ_CFG_ERR n) = false ∧ t.fld (INTAKE.SQ_CFG_SIZE_LOG2 n) = bits v 4 5 ∧ t.fld (INTAKE.SQ_CFG_PRIO n) = bits v 16 3 ∧
      t.fld (INTAKE.SQ_HEAD_HEAD n) = 0 ∧ t.fld (INTAKE.SQ_TAIL_TAIL n) = 0 ∧ OnlyRegs s t [INTAKE.SQ_CFG n, INTAKE.SQ_HEAD n, INTAKE.SQ_TAIL n])) ∧
    (v.testBit 0 = true → s.on (INTAKE.CQ_CFG_EN n) = false → Answers (.ringEnable true n v) s (fun t => t.on (INTAKE.CQ_CFG_EN n) = true ∧
      t.fld (INTAKE.CQ_CFG_SIZE_LOG2 n) = bits v 4 5 ∧ t.fld (INTAKE.CQ_HEAD_HEAD n) = 0 ∧ t.fld (INTAKE.CQ_TAIL_TAIL n) = 0 ∧
      t.fld (INTAKE.CQ_TAIL_PHASE n) = 1 ∧ OnlyRegs s t [INTAKE.CQ_CFG n, INTAKE.CQ_HEAD n, INTAKE.CQ_TAIL n])) ∧
    (v % 65536 < size → Answers (.sqDoorbell n v) s (fun t => t.fld (INTAKE.SQ_TAIL_TAIL n) = v % 65536 ∧ OnlyRegs s t [INTAKE.SQ_TAIL n])) ∧
    (size ≤ v % 65536 → Answers (.sqDoorbell n v) s (fun t => t.on INTAKE.INT_STAT_DOORBELL_ERR = true ∧ OnlyRegs s t [INTAKE.INT_STAT])) ∧
    Answers (.cqHeadDoorbell n v) s (fun t => t.fld (INTAKE.CQ_HEAD_HEAD n) = v % 65536 ∧ OnlyRegs s t [INTAKE.CQ_HEAD n]) ∧
    (ready → ¬ chained ∨ badHeader r = true ∧ s.chState n = 0 ∧ s.moverStopped = false → Answers (.intakeFetch n data true) s (fun t => fetched t ∧
      t.dq n = s.dq n ++ [r1] ∧ ∀ q, q ≠ n → t.dq q = s.dq q)) ∧
    (ready → chained → badHeader r = false → s.chState n = 0 → s.moverStopped = false → Answers (.intakeFetch n data true) s (fun t => fetched t ∧
      t.host.dq = s.host.dq ∧ Tbl.get (fun _ => none) t.host.chainRec n = some r1 ∧ (t.chan n).addr = fieldAt r 8 8 ∧ (t.chan n).space = 0 ∧
      t.fld (MOVER.CH_CTRL_PRIO n) = s.fld (INTAKE.SQ_CFG_PRIO n) ∧ t.chState n = if s.on (MOVER.CH_CTRL_EN n) then 1 else 3)) ∧
    (ready → chained → s.chState n ≠ 0 ∨ s.moverStopped = true → exec (.intakeFetch n data true) s = .next s) ∧
    (ready → Answers (.intakeFetch n data false) s (fun t => t.on (INTAKE.SQ_CFG_ERR n) = true ∧ t.on (INTAKE.SQ_CFG_EN n) = false ∧
      t.faultBit 7 0 = true ∧ t.fld (INTAKE.SQ_HEAD_HEAD n) = head ∧ t.host.dq = s.host.dq)) ∧
    (∀ c l, s.dq (16 + n) = c :: l → writes → fieldAt c 2 2 = s.fld (INTAKE.CQ_NEXT_INDEX_INDEX n) → Answers (.intakeCompletionWrite n) s (fun t =>
      Sent.hostWrite (s.cqBase n + 64 * tail) (s.completed n c) ∈ t.host.sent ∧ t.fld (INTAKE.CQ_NEXT_INDEX_INDEX n) = (fieldAt c 2 2 + 1) % 65536 ∧
      t.fld (INTAKE.CQ_TAIL_TAIL n) = next ∧
      t.fld (INTAKE.CQ_TAIL_PHASE n) = if next = 0 then 1 - s.fld (INTAKE.CQ_TAIL_PHASE n) else s.fld (INTAKE.CQ_TAIL_PHASE n))) ∧
    (∀ c l, s.dq (16 + n) = c :: l → writes → fieldAt c 2 2 ≠ s.fld (INTAKE.CQ_NEXT_INDEX_INDEX n) → Answers (.intakeCompletionWrite n) s (fun t =>
      t.faultBit 7 1 = true ∧ t.fld (INTAKE.CQ_TAIL_TAIL n) = tail ∧
      t.fld (INTAKE.CQ_NEXT_INDEX_INDEX n) = s.fld (INTAKE.CQ_NEXT_INDEX_INDEX n)))

/-- START of an enabled channel of 16 to 31 that is IDLE, FAULTED or STOPPED begins a chain at the address of CHc_DESC in the space and core of CHc_CTRL, RUNNING with nothing done; of channel 0 to 15 it is logged RO_WRITE and changes no channel state; elsewhere, or while MOVER_STOPPED is 1, it sets REFUSED. RESUME of a STOPPED channel runs on at the bytes done, of a STOPPED_BUS one from the start of its descriptor; a chain whose last descriptor the drain completed ends with DONE_EV; else it sets REFUSED. EN 0 on a RUNNING channel begins to drain it and changes no other state; once nothing read is left to write the channel is STOPPED with STOP_EV. (R296, R298, R301, R303, R304) -/
def Obligations.MoverChannels : Prop :=
  ∀ (s : State) (c v : Nat), s.fabric = true → c < 32 →
    let st := s.chState c; let addr := s.fld (MOVER.CH_DESC_LO_DESC c) * 32 + s.fld (MOVER.CH_DESC_HI_DESC c) * 2 ^ 32
    let can := s.moverStopped = false ∧ v.testBit 0 = true; let x := s.chan c
    let refused := fun (t : State) => t.on (MOVER.CH_STATUS_REFUSED c) = true ∧ t.chState c = st ∧ t.host = s.host
    let kept := fun (t : State) => ∀ j, j ≠ c → t.chan j = s.chan j ∧ t.reg (MOVER.CH_STATUS j) = s.reg (MOVER.CH_STATUS j)
    (16 ≤ c → v.testBit 3 = false → can → (st = 0 ∨ st = 4 ∨ st = 3) → Answers (.moverStart c v) s (fun t => t.chState c = 1 ∧ (t.chan c).addr = addr ∧
      (t.chan c).space = bits v 8 1 ∧ (t.chan c).core = bits v 9 6 ∧ (t.chan c).desc = none ∧ (t.chan c).chain = 0 ∧ t.fld (MOVER.CH_DONE_BYTES c) = 0 ∧
      t.fld (MOVER.CH_COUNT_COUNT c) = 0 ∧ t.fld (MOVER.CH_STATUS_FAULT_KIND c) = 0 ∧ kept t ∧ t.obj = s.obj ∧ t.cores = s.cores)) ∧
    (16 ≤ c → v.testBit 3 = false → v.testBit 0 = true → s.moverStopped = true ∨ (st ≠ 0 ∧ st ≠ 4 ∧ st ≠ 3) → Answers (.moverStart c v) s (fun t => refused t ∧ kept t)) ∧
    (c < 16 → v.testBit 3 = false → v.testBit 0 = true → Answers (.moverStart c v) s (fun t => t.on SYS.ACCESS_LOG_RO_WRITE = true ∧ t.chState c = st ∧
      t.host = s.host ∧ kept t)) ∧
    (v.testBit 2 = false → can → x.ended = true → st = 3 → Answers (.channelResume c v) s (fun t => t.chState c = 0 ∧ (t.chan c).ended = false ∧
      t.on (MOVER.CH_STATUS_DONE_EV c) = true ∧ kept t)) ∧
    (v.testBit 2 = false → can → x.ended = false → st = 3 ∨ st = 5 → Answers (.channelResume c v) s (fun t => t.chState c = 1 ∧ (t.chan c).addr = x.addr ∧
      (t.chan c).desc = x.desc ∧ (t.chan c).chain = x.chain ∧ kept t ∧ t.obj = s.obj ∧
      t.fld (MOVER.CH_DONE_BYTES c) = if st = 5 then 0 else s.fld (MOVER.CH_DONE_BYTES c))) ∧
    (v.testBit 2 = false → v.testBit 0 = true → s.moverStopped = true ∨ (st ≠ 3 ∧ st ≠ 5) → Answers (.channelResume c v) s (fun t => refused t ∧ kept t)) ∧
    (v.testBit 2 = false → v.testBit 3 = false → Answers (.channelDisable c v) s (fun t => t.on (MOVER.CH_CTRL_EN c) = false ∧
      t.chState c = (if st = 1 then 2 else st) ∧ t.host = s.host ∧ t.obj = s.obj ∧ OnlyRegs s t [MOVER.CH_CTRL c, MOVER.CH_STATUS c])) ∧
    (st = 2 → x.fetching = false → (x.desc = none ∨ x.issued ≤ s.fld (MOVER.CH_DONE_BYTES c)) → Answers (.drainComplete c) s (fun t => t.chState c = 3 ∧
      t.on (MOVER.CH_STATUS_STOP_EV c) = true ∧ t.on MOVER.INT_STAT_CH_EV = true ∧ OnlyRegs s t [MOVER.CH_STATUS c, MOVER.INT_STAT] ∧ t.chan c = x))

/-- A descriptor that a running channel has read and that passes its checks becomes its current one with nothing done, at an aligned host address from the bytes returned; one that fails a check faults the channel with that kind and DESC_FAULT, and moves nothing. Host data for a descriptor is written to its object from the byte it has reached and to no other byte, without poison; the last byte of a LAST descriptor counts it and leaves the channel IDLE with DONE_EV. Toward the host the channel whose beat it is sends the object's bytes, at most 64, to the address reached and the object is unchanged. A bus error of an active channel records its kind, channel and address, sets MOVER_STOPPED and stops every active channel STOPPED_BUS; a descriptor's last write in the same cycle still takes effect and is counted. (R289, R296, R297, R298, R299, R300, R301, R558) -/
def Obligations.MoverTransfers : Prop :=
  ∀ (s : State) (c kind a : Nat) (l : List Nat), c < 32 →
    let x := s.chan c; let st := s.chState c; let d := Desc.ofBytes l; let done := s.fld (MOVER.CH_DONE_BYTES c)
    let faulted := fun (t : State) k => t.chState c = 4 ∧ t.fld (MOVER.CH_STATUS_FAULT_KIND c) = k ∧ t.faultBit 8 1 = true ∧ t.obj = s.obj
    (x.fetching = true → st = 1 ∨ st = 2 → x.space = 0 → x.addr % 32 = 0 → s.descCheck x d = 0 → Answers (.descriptorRead c l) s (fun t =>
      (t.chan c).desc = some d ∧ (t.chan c).chain = x.chain + 1 ∧ (t.chan c).fetching = false ∧ (t.chan c).addr = x.addr ∧ t.chState c = st ∧
      t.fld (MOVER.CH_DONE_BYTES c) = 0 ∧ t.obj = s.obj ∧ OnlyRegs s t [MOVER.CH_DONE c])) ∧
    (x.fetching = true → st = 1 ∨ st = 2 → x.space = 0 → x.addr % 32 = 0 → s.descCheck x d ≠ 0 → Answers (.descriptorRead c l) s (fun t =>
      faulted t (s.descCheck x d))) ∧
    (x.fetching = true → st = 1 ∨ st = 2 → x.addr % 32 ≠ 0 → Answers (.descriptorRead c l) s (fun t => faulted t 1)) ∧
    (∀ e o, x.desc = some e → st = 1 → e.ctl.testBit 0 = false → s.dataObj e.handle = some o → o.evicted = false → o.poisoned = [] → l ≠ [] →
      l.length ≤ x.issued - done → done + l.length < 2 ^ 32 →
      let moved := fun (t : State) => (∀ i, i < l.length → t.objRead e.handle (e.off + done + i) 1 = [l.getD i 0 % 256]) ∧
        (∀ b, b < e.off + done ∨ e.off + done + l.length ≤ b → t.objRead e.handle b 1 = s.objRead e.handle b 1) ∧
        ∀ j, j ≠ indexOf e.handle → t.object j = s.object j
      (done + l.length < e.len → Answers (.readCompletion c l) s (fun t => moved t ∧ t.fld (MOVER.CH_DONE_BYTES c) = done + l.length ∧ t.chState c = 1)) ∧
      (e.len ≤ done + l.length → e.ctl.testBit 3 = true → Answers (.readCompletion c l) s (fun t => moved t ∧ t.chState c = 0 ∧ (t.chan c).desc = none ∧
        t.on (MOVER.CH_STATUS_DONE_EV c) = true ∧ t.fld (MOVER.CH_COUNT_COUNT c) = (s.fld (MOVER.CH_COUNT_COUNT c) + 1) % 2 ^ 32))) ∧
    (∀ e o, x.desc = some e → st = 1 → e.ctl.testBit 0 = true → s.dataObj e.handle = some o → o.evicted = false → o.poisoned = [] → l ≠ [] → s.canSend = true → s.beatOwner s.outReady = some c → l.length ≤ 64 →
      l.length < e.len - done → done + l.length < 2 ^ 32 → Answers (.readCompletion c l) s (fun t => t.obj = s.obj ∧
        Sent.hostWrite (e.host + done) (o.read (e.off + done) l.length) ∈ t.host.sent ∧ t.fld (MOVER.CH_DONE_BYTES c) = done + l.length ∧ t.chState c = 1)) ∧
    (1 ≤ kind → kind ≤ 4 → s.chActive c = true → Answers (.busError c kind ⟨a, none⟩) s (fun t => t.moverStopped = true ∧ t.fld MOVER.ERR_INFO_KIND = kind ∧
      t.fld MOVER.ERR_INFO_CHANNEL = c ∧ t.pair MOVER.ERR_ADDR_LO MOVER.ERR_ADDR_HI = a % 2 ^ 64 ∧
      (∀ j, j < 32 → t.chState j = if s.chActive j then 5 else s.chState j) ∧ (∀ j, j < 32 → s.chActive j = true →
        (t.chan j).desc = none ∧ (t.chan j).addr = (s.chan j).addr ∧ t.on (MOVER.CH_STATUS_STOP_EV j) = true)) ∧
      (∀ e o, x.desc = some e → e.ctl.testBit 0 = false → s.dataObj e.handle = some o → o.poisoned = [] → s.objCheck e.handle e.off e.len true false = 0 →
        l ≠ [] → done + l.length = e.len → x.issued = e.len → (∀ j, j < 32 → j ≠ c → s.chActive j = false) →
        Answers (.busError c kind ⟨a, some (c, l)⟩) s (fun t => t.moverStopped = true ∧ t.fld (MOVER.CH_COUNT_COUNT c) = (s.fld (MOVER.CH_COUNT_COUNT c) + 1) % 2 ^ 32 ∧
          (∀ i, i < l.length → t.objRead e.handle (e.off + done + i) 1 = [l.getD i 0 % 256]) ∧
          ∀ b, b < e.off + done ∨ e.off + done + l.length ≤ b → t.objRead e.handle b 1 = s.objRead e.handle b 1)))

/-- ENABLE from 0 to 1 with the fabric released leaves the upstream hop untrained with LINK_UP 0. Training with both lanes locked brings LINK_UP and the hop latency where the neighbour's position and device count fit, else MISMATCH and HOP_DOWN. A lane without code groups loses lock and LINK_UP and raises HOP_DOWN; a lane that locks again brings LINK_UP back once both are locked on a trained hop. A broadcast of another device is passed on, raises REMOTE_FAULT with its source recorded, and a safety fault takes a BANKED engine to SAFE; this device's own ends here. Faults are shown in TINDER. (R19, R24, R541, R544, R545, R552) -/
def Obligations.ThaiqRing : Prop :=
  ∀ (s : State) (pos n lat bit' block : Nat),
    let on := s.on THAIQ.CTRL_ENABLE = true; let size := s.ringSize; let lock := fun (t : State) k => t.on (if k = 0 then THAIQ.LINK_STATUS_RX0_LOCK else THAIQ.LINK_STATUS_RX1_LOCK)
    let fits := max 1 (min 4 n) = size ∧ pos = (s.position + size - 1) % size
    (s.fabric = true → ¬ on → Answers .thaiqEnable s (fun t => t.on THAIQ.CTRL_ENABLE = true ∧ t.on THAIQ.STATUS_ENABLED = true ∧ t.linkUp = false ∧
      t.host.hopTrained = false ∧ OnlyRegs s t [THAIQ.CTRL, THAIQ.STATUS, THAIQ.LINK_STATUS])) ∧
    (s.fabric = true → on → exec .thaiqEnable s = .next s) ∧
    (on → s.host.hopTrained = false → fits → Answers (.linkTrained pos n lat) s (fun t => t.linkUp = true ∧ lock t 0 = true ∧ lock t 1 = true ∧
      t.host.hopTrained = true ∧ t.fld THAIQ.LINK_STATUS_HOP_LAT = lat % 1024 ∧ OnlyRegs s t [THAIQ.LINK_STATUS, THAIQ.INT_STAT])) ∧
    (on → s.host.hopTrained = false → ¬ fits → s.eng = engTinder → s.on THAIQ.LINK_STATUS_LINK_UP = false → Answers (.linkTrained pos n lat) s (fun t =>
      t.on THAIQ.LINK_STATUS_MISMATCH = true ∧ t.linkUp = false ∧ t.faultBit 0xC 0 = true ∧ t.host.hopTrained = false)) ∧
    (on → pos < 2 → s.eng = engTinder → Answers (.hopDown pos) s (fun t => lock t pos = false ∧ lock t (1 - pos) = lock s (1 - pos) ∧ t.linkUp = false ∧
      t.faultBit 0xC 0 = true)) ∧
    (on → pos < 2 → Answers (.receiveLaneLock pos) s (fun t => lock t pos = true ∧ lock t (1 - pos) = lock s (1 - pos) ∧
      t.on THAIQ.LINK_STATUS_LINK_UP = (s.on THAIQ.LINK_STATUS_LINK_UP || (lock s (1 - pos) && s.host.hopTrained)) ∧
      OnlyRegs s t [THAIQ.LINK_STATUS, THAIQ.INT_STAT])) ∧
    (s.linkUp = true → pos ≤ 3 → pos ≠ s.position → n = 2 ∨ n = 3 → s.eng = engTinder ∨ s.eng = engBanked → Answers (.broadcastArrival pos n bit' block) s (fun t =>
      Sent.forwarded pos n bit' block ∈ t.host.sent ∧ t.faultBit 0xC 1 = true ∧ t.eng = (if s.eng = engBanked ∧ n = 3 then engSafe else s.eng) ∧
      (s.faultBit 0xC 1 = false → t.fld THAIQ.REMOTE_INFO_DEVICE = pos ∧ t.fld THAIQ.REMOTE_INFO_CLASS = n ∧ t.fld THAIQ.REMOTE_INFO_BIT = bit' % 256 ∧
        t.fld THAIQ.REMOTE_INFO_BLOCK = block % 65536))) ∧
    (pos = s.position → exec (.broadcastArrival pos n bit' block) s = .next s)

/-- RUN_PUSH queues a run, or sets RUN_REFUSED for a full queue or COUNT 0. With codec and decoder enabled and PLL 1 locked, a decoder with no block begins the next one of its run once its page is queued at the Graver and its lines have room, else it waits for Plate; a run with NEW_PAGE takes NEXT_LINE from its first block; a bad handle or an entry past BLOCK_COUNT ends the run with kind 8 or 3 and spoils the page. A block that passes advances NEXT_LINE and BLOCKS, sets COST_LOW exactly where its COST is too low, puts its lines in staging and goes on, or ends the run; one that fails does so with blank lines, the kind recorded, the FAULT bit set and the page spoiled. A block in progress finishes with its decoder or CODEC disabled; a flush needs an idle disabled decoder. An encoder GO is refused while it runs and starts nothing with CODEC off; it fails with kinds 3, 6, 1 and 2 in that order, the destination's bytes alone changing, else runs on what its registers then hold and holds both objects; the end of a job over raw lines writes the whole object, each block a function of its bytes, geometry and level, and reports it, or ends FAULTED. (R320, R321, R322, R323, R325, R326, R327, R328, R330, R331, R332, R335) -/
def Obligations.DecodersAndEncoders : Prop :=
  ∀ (s : State) (k : Nat),
    let d := s.decoder k; let regs := [CODEC.DEC_STATUS k]
    let run : Run := ⟨s.fld (CODEC.DEC_RUN_HANDLE_OBJECT k), s.fld (CODEC.DEC_RUN_HANDLE_PAGE k), s.fld (CODEC.DEC_RUN_FIRST_ENTRY k),
      s.fld (CODEC.DEC_RUN_COUNT_COUNT k), s.on (CODEC.DEC_RUN_COUNT_NEW_PAGE k), s.on (CODEC.DEC_RUN_COUNT_END_PAGE k)⟩
    let done := fun (t : State) => t.fld (CODEC.DEC_STATUS_RUNS_DONE k) = (s.fld (CODEC.DEC_STATUS_RUNS_DONE k) + 1) % 256
    let faulted := fun (t : State) (r : Run) kind entry => t.fld (CODEC.DEC_FAULT_INFO_KIND k) = kind ∧ t.fld (CODEC.DEC_FAULT_INFO_HANDLE k) = r.object ∧
      t.fld (CODEC.DEC_FAULT_ENTRY_ENTRY k) = entry ∧ t.faultBit 9 k = true ∧ ∀ p, s.pg (indexOf r.page) = some p → isActive p.state = true → p.reason = 0 →
        ∃ q, t.pg (indexOf r.page) = some q ∧ q.reason ≠ 0 ∧ q.reason % 256 = (if kind = 6 then 2 else if kind = 7 then 3 else 1) ∧ q.state = p.state
    (k < 6 →
      (d.runs.length < 8 → run.count ≠ 0 → Answers (.runPush k) s (fun t => OnlyRegs s t regs ∧ t.decoder k = { d with runs := d.runs ++ [run] } ∧
        t.fld (CODEC.DEC_STATUS_QUEUED k) = d.runs.length + 1 ∧ ∀ j, j ≠ k → t.decoder j = s.decoder j)) ∧
      (8 ≤ d.runs.length ∨ run.count = 0 → Answers (.runPush k) s (fun t => OnlyRegs s t regs ∧ t.dec = s.dec ∧ t.on (CODEC.DEC_STATUS_RUN_REFUSED k) = true)) ∧
      (s.codecOn = true → s.on (CODEC.DEC_CTRL_ENABLE k) = true → d.block = none →
        (d.cur = none → d.runs = [] → exec (.decodeBlockStart k) s = .next s) ∧
        (∀ (r : Run) n rest, (d.cur = some r ∧ n = d.entry ∧ rest = d.runs) ∨ (d.cur = none ∧ d.runs = r :: rest ∧ n = r.first) →
          r.object < 2 ^ 16 → r.first < 2 ^ 32 → n < 2 ^ 32 →
          let idle := fun (t : State) => t.decoder k = { d with runs := rest, cur := none, block := none, entry := 0 } ∧ done t ∧
            t.fld (CODEC.DEC_NEXT_LINE_LINE k) = s.fld (CODEC.DEC_NEXT_LINE_LINE k)
          (s.blocksObj r.object = none → Answers (.decodeBlockStart k) s (fun t => faulted t r 8 r.first ∧ idle t)) ∧
          (∀ o, s.blocksObj r.object = some o → o.readKind 0 16 = 0 →
            (o.blockCount ≤ n → Answers (.decodeBlockStart k) s (fun t => faulted t r 3 n ∧ idle t)) ∧
            (n < o.blockCount → o.readKind (0x10 + 8 * n) 8 = 0 →
              let e := o.entry n; let q := (s.gv k).queue.find? (fun q => decide (q.page = indexOf r.page))
              (∀ x, q = some x → x.base + (e.first : Int) + e.lines - 1 ≤ s.wb k + 383 → Answers (.decodeBlockStart k) s (fun t =>
                OnlyRegs s t (CODEC.DEC_NEXT_LINE k :: regs) ∧ t.decState k = 1 ∧
                t.decoder k = { d with runs := rest, cur := some r, entry := n, block := some (e.first, e.lines) } ∧
                (r.newPage = false → t.fld (CODEC.DEC_NEXT_LINE_LINE k) = s.fld (CODEC.DEC_NEXT_LINE_LINE k)) ∧
                (r.newPage = true → e.offset + 32 ≤ o.size → o.readKind e.offset 32 = 0 →
                  t.fld (CODEC.DEC_NEXT_LINE_LINE k) = (parseHeader (o.read e.offset 32)).firstLine % 2 ^ 24))) ∧
              ((∀ x, q = some x → s.wb k + 383 < x.base + (e.first : Int) + e.lines - 1) → Answers (.decodeBlockStart k) s (fun t =>
                OnlyRegs s t regs ∧ t.decState k = 3 ∧ t.decoder k = { d with runs := rest, cur := some r, entry := n })))))) ∧
      (s.on (CLOCK.PLL_STATUS_LOCKED 1) = true → ∀ (r : Run) first lines o, d.cur = some r → d.block = some (first, lines) → s.blocksObj r.object = some o → first + lines < 2 ^ 24 →
        lines ≤ 32 → r.object < 2 ^ 16 → d.entry < 2 ^ 32 →
        let dots := s.fld (CODEC.DEC_FORMAT_DOTS k); let bpd := s.fld (CODEC.DEC_FORMAT_BPD k); let w := dots * bpd / 8
        let line := if r.newPage then (parseHeader (o.read (o.entry d.entry).offset 32)).firstLine else s.fld (CODEC.DEC_NEXT_LINE_LINE k)
        let onward := fun (t : State) => t.fld (CODEC.DEC_NEXT_LINE_LINE k) = first + lines ∧
          t.fld (CODEC.DEC_BLOCKS_COUNT k) = satAdd 32 (s.fld (CODEC.DEC_BLOCKS_COUNT k)) 1 ∧
          (r.count ≤ 1 → done t ∧ t.decoder k = { d with cur := none, block := none, entry := 0, forced := false } ∧
            (r.endPage = true → t.on CODEC.INT_STAT_RUN_DONE = true)) ∧
          (1 < r.count → t.decoder k = { d with cur := some { r with count := r.count - 1, newPage := false }, entry := d.entry + 1, block := none, forced := false })
        let staged := fun (t : State) (dots' : Nat → List Nat) blank => ∀ q j, (s.gv k).queue.find? (fun q => decide (q.page = indexOf r.page)) = some q → j < lines →
          let n := q.base + (first : Int) + j
          s.wb k ≤ n → Tbl.get (fun _ => none) (t.gv k).lines (n % 384).toNat = some { line := n, bytes := dots' j, blank := blank }
        (∀ h x time, o.block d.entry dots bpd line = .good h x time → d.forced = false → Answers (.decodeBlockEnd k) s (fun t => onward t ∧
          staged t (fun j => (x.drop (j * w)).take w) false ∧
          (h.cost * h.origLen < 16 * time → t.on CODEC.INT_STAT_COST_LOW_EV = true ∧
            t.fld (CODEC.DEC_COST_LOW_COUNT k) = satAdd 32 (s.fld (CODEC.DEC_COST_LOW_COUNT k)) 1) ∧
          (16 * time ≤ h.cost * h.origLen → t.fld (CODEC.DEC_COST_LOW_COUNT k) = s.fld (CODEC.DEC_COST_LOW_COUNT k)))) ∧
        (∀ kind, kind < 16 → (o.block d.entry dots bpd line = .bad kind ∨ (kind = 9 ∧ d.forced = true ∧ ∃ h x time, o.block d.entry dots bpd line = .good h x time)) →
          Answers (.decodeBlockEnd k) s (fun t => onward t ∧ staged t (fun _ => []) true ∧ faulted t r kind d.entry))) ∧
      Answers (.decoderDisable k) s (fun t => OnlyRegs s t [CODEC.DEC_CTRL k, CODEC.DEC_STATUS k] ∧ t.dec = s.dec ∧ t.on (CODEC.DEC_CTRL_ENABLE k) = false ∧
        t.decState k = if d.block.isSome then 4 else 0) ∧
      (s.on (CODEC.DEC_CTRL_ENABLE k) = false → s.decState k = 0 → Answers (.decoderFlush k) s (fun t => OnlyRegs s t regs ∧
        t.decoder k = { d with runs := [], cur := none, entry := 0 } ∧ t.fld (CODEC.DEC_STATUS_QUEUED k) = 0)) ∧
      (s.on (CODEC.DEC_CTRL_ENABLE k) = true ∨ s.decState k ≠ 0 → Answers (.decoderFlush k) s (fun t => OnlyRegs s t regs ∧ t.dec = s.dec ∧
        t.on (CODEC.DEC_STATUS_RUN_REFUSED k) = true))) ∧
    (k < 2 →
      let src := s.fld (CODEC.ENC_HANDLES_SRC k); let dst := s.fld (CODEC.ENC_HANDLES_DST k); let blocks := s.on (CODEC.ENC_CFG_SRC_KIND k)
      let count := s.fld (CODEC.ENC_COUNT_LINES k); let per := s.fld (CODEC.ENC_CFG_BLOCK_LINES k); let off := s.fld (CODEC.ENC_SRC_OFFSET_OFFSET k)
      let dots := s.fld (CODEC.ENC_GEOM_DOTS k); let bpd := s.fld (CODEC.ENC_GEOM_BPD k); let bytes := count * dots * bpd / 8
      let running := s.fld (CODEC.ENC_STATUS_STATE k) = 1
      let kinds := (kindOf dst = 9 ∨ kindOf dst = 10) ∧ (if blocks then kindOf src = 9 ∨ kindOf src = 10 else kindOf src = 12 ∨ kindOf src = 13 ∨ kindOf src = 14)
      let readable := kinds ∧ s.objCheck src 0 0 false false ≠ 1 ∧ s.objCheck dst 0 0 false false ≠ 1
      let kept := s.objCheck src 0 0 false false ≠ 8 ∧ s.objCheck dst 0 0 false false ≠ 8
      let shaped := 1 ≤ per ∧ per ≤ 32 ∧ geometryOk dots bpd (max 1 (min per count)) (max 1 (min per count) * dots * bpd / 8) = true ∧ s.fld (CODEC.ENC_CFG_LEVEL k) ≤ 9
      let fits := s.objCheck dst 0 (encNeed count per dots bpd) false false = 0 ∧ (blocks = true ∨ s.objCheck src off bytes false false = 0)
      let failed := fun (t : State) kind => t.fld (CODEC.ENC_STATUS_STATE k) = 3 ∧ t.fld (CODEC.ENC_STATUS_FAULT_KIND k) = kind ∧ t.on CODEC.INT_STAT_ENC_DONE = true ∧
        t.faultBit 9 (8 + k) = true
      let fails := fun kind => Answers (.encoderGo k) s (fun t => failed t kind ∧ (∀ x, x ≠ indexOf dst → t.object x = s.object x) ∧
        ∀ o, s.object (indexOf dst) = some o → ∃ u, t.object (indexOf dst) = some u ∧ u.size = o.size ∧ u.use = o.use)
      let free := ¬ running ∧ s.on CODEC.CTRL_ENABLE = true
      (running → Answers (.encoderGo k) s (fun t => OnlyRegs s t [CODEC.ENC_STATUS k] ∧ t.on (CODEC.ENC_STATUS_REFUSED k) = true ∧ t.obj = s.obj)) ∧
      (¬ running → s.on CODEC.CTRL_ENABLE = false → exec (.encoderGo k) s = .next s) ∧
      (free → ¬ readable → fails 3) ∧ (free → readable → ¬ kept → fails 6) ∧ (free → readable → kept → ¬ shaped → fails 1) ∧
      (free → readable → kept → shaped → ¬ fits → fails 2) ∧
      (free → readable → kept → shaped → fits → Answers (.encoderGo k) s (fun t => OnlyRegs s t [CODEC.ENC_STATUS k, CODEC.ENC_OUT_LEN k] ∧
        t.fld (CODEC.ENC_STATUS_STATE k) = 1 ∧ t.fld (CODEC.ENC_STATUS_FAULT_KIND k) = 0 ∧ t.fld (CODEC.ENC_OUT_LEN_BYTES k) = 0 ∧ t.encJob k = s.encRegs k ∧ ∀ x o, s.object x = some o →
          t.object x = some { o with use := o.use + (if x = indexOf src then 1 else 0) + (if x = indexOf dst then 1 else 0) })) ∧
      (s.codecOn = true → running → s.encFor = [] → let j := s.encJob k
        ∀ o u, s.dataObj j.src = some o → s.dataObj j.dst = some u → indexOf j.src ≠ indexOf j.dst → j.blocks = false →
        let ends := fun (P : State → Prop) => ∃ t : State, exec (.encoderJobEnd k (s.encFinds k)) s = .next t.startJobs ∧ P t
        (o.evicted = true → ends (fun t => failed t 6)) ∧ (o.evicted = false → o.hits j.offset j.bytes = true → ends (fun t => failed t 5)) ∧
        (o.evicted = false → o.hits j.offset j.bytes = false → s.objCheck j.dst 0 0 true false = 0 →
          let l := encBlocks j.dots j.bpd j.per j.level j.stored j.count j.first j.count (o.read j.offset j.bytes); let image := sepImage j.station l
          ends (fun t => t.fld (CODEC.ENC_STATUS_STATE k) = 2 ∧ t.on CODEC.INT_STAT_ENC_DONE = true ∧
            t.fld (CODEC.ENC_OUT_LEN_BYTES k) = image.length % 2 ^ 32 ∧ t.object (indexOf j.dst) = some { u.write 0 image with use := u.use - 1 } ∧
            t.object (indexOf j.src) = some { o with use := o.use - 1 }))))

/-- TRAIN_GO in TINDER, BANKED or SAFE from IDLE or FAILED sets NINT of PLL 1 and restarts it; elsewhere it is a logged discard. FULL_RETRAIN enters RETRAINING. The end of a first training gives every rank its state, clears debts, predictors and drift, and is DONE where each fitted channel has a rank in service, else FAILED with its fault. An interval boundary adds one to each live bank set's debt; an idle set is refreshed to 0, a busy one only at 3, and an idle rank-subchannel is powered down. An MR4 poll gives each fitted channel its temperature, band, ADMIT_HOLD and drift. A retrain slice counts one off, the last clearing drift, and waits for a port in panic unless forced. A buffer below its watermark puts its port in panic. A burst that is served, or the next granule of the scrub, updates its bank's predictor; an error in one nibble is corrected and counts on its rank, within the hour; one in both nibbles of a device is uncorrectable, counts, raises UE, poisons its word and takes the rank out: to the spare where one stands by, else retired with its objects evicted. A second write CRC error raises CA_ERR. (R339, R341, R343, R345, R347, R349, R351, R352, R354, R355, R357, R360) -/
def Obligations.DramController : Prop :=
  ∀ (s : State) (c busy port ready level h off q sub bank row time failed g : Nat) (hotA hotB : Bool),
    let st := s.fld DRAMC.TRAIN_STATE; let get := fun (l : Tbl Nat) i => Tbl.get (fun _ => 0) l i; let i := (2 * q + sub) * 32 + bank; let u := q / 4 * 2 + sub
    let hot := fun c => if c = 0 then hotA else hotB; let retired := fun (t : State) r => t.rankState r = 5
    (s.fabric = true →
      (s.trainAllowed = true → st = 0 ∨ st = 4 → s.fld DRAMC.CFG_RATE ≤ 4 → Answers .trainGo s (fun t => t.fld DRAMC.TRAIN_STATE = 1 ∧
        t.fld (CLOCK.PLL_CFG_NINT 1) = 96 + 8 * s.fld DRAMC.CFG_RATE ∧ t.on (CLOCK.PLL_STATUS_LOCKED 1) = false ∧ t.on (CLOCK.PLL_STATUS_ACQUIRING 1) = true ∧ t.domain 1 = false)) ∧
      (s.trainAllowed = false ∨ (st ≠ 0 ∧ st ≠ 4) → exec .trainGo s = .next (s.logRo DRAMC.TRAIN)) ∧
      (s.trainAllowed = true → st = 0 ∨ st = 4 → Answers .fullRetrain s (fun t => OnlyRegs s t [DRAMC.TRAIN] ∧ t.fld DRAMC.TRAIN_STATE = 5)) ∧
      (s.trainAllowed = false ∨ (st ≠ 0 ∧ st ≠ 4) → exec .fullRetrain s = .next (s.logRo DRAMC.TRAIN))) ∧
    (s.domain 1 = true →
      (st = 2 →
        let serves := ∀ c, s.chanFitted c = true → ∃ r, r < 4 ∧ s.trainedState failed (4 * c + r) = 1
        Answers (.trainComplete failed) s (fun t => (∀ r, r < 8 → t.rankState r = s.trainedState failed r) ∧ (∀ j, t.debt j = 0 ∧ t.dramBank j = Bank.reset) ∧
          (∀ c, s.chanFitted c = true → t.on (driftFld c) = false ∧ get t.dram.refTemp c = get t.dram.temp c) ∧
          (serves → t.fld DRAMC.TRAIN_STATE = 3 ∧ t.on DRAMC.INT_STAT_TRAIN_DONE = true) ∧
          (¬ serves → t.fld DRAMC.TRAIN_STATE = 4 ∧ t.faultBit 0xA 2 = true))) ∧
      (c < 2 → s.dramRuns = true → Answers (.refreshInterval c busy) s (fun t => t = { s with dram := t.dram } ∧
        (∀ n, n / 8 = c → s.rankLive (n / 2) = true → s.dram.touched.testBit n = false → bits busy (4 * (n % 8)) 4 = 0 → t.dram.powerDown.testBit n = true) ∧ ∀ j, t.debt j =
        if j / 32 = c ∧ s.rankLive (j / 8) = true then (if busy.testBit (j % 32) = false then 0 else if s.debt j + 1 < 3 then s.debt j + 1 else s.debt j) else s.debt j)) ∧
      (s.dramRuns = true → s.eng ≠ engReady → s.on DRAMC.TEMP_CFG_MR4_EN = true → Answers (.mr4Poll hotA hotB) s (fun t => t.dram.mr4 = bit hotA + 2 * bit hotB ∧
        (∀ c, s.chanFitted c = true → t.fld (bandFld c) = nextBand (s.fld (bandFld c)) (get t.dram.temp c) ∧
          (hot c = true → get t.dram.temp c = max (degC 86) ((s.thSource c).getD 0)) ∧
          (hot c = false → ∀ x, s.thSource c = some x → get t.dram.temp c = x) ∧ (hot c = false → s.thSource c = none → get t.dram.temp c ≤ degC 85) ∧
          (t.fld (bandFld c) ≠ s.fld (bandFld c) → t.on DRAMC.INT_STAT_BAND_EV = true) ∧
          (st = 3 → s.on (driftFld c) = false → (t.on (driftFld c) = true ↔
            get s.dram.refTemp c + 160 < get t.dram.temp c ∨ get t.dram.temp c + 160 < get s.dram.refTemp c))) ∧
        (t.on DRAMC.TEMP_STATUS_ADMIT_HOLD = true ↔ t.fld DRAMC.TEMP_STATUS_BAND_A = 2 ∨ t.fld DRAMC.TEMP_STATUS_BAND_B = 2))) ∧
      (c < 2 → ∀ x, (x = .retrainSliceForced c ∨ (x = .retrainSlice c ∧ ∀ p, p < 7 → s.on (DRAMC.RT_STATUS_IN_PANIC p) = false)) → s.on (driftFld c) = true →
        (get s.dram.slices c ≤ 1 → Answers x s (fun t => t.on (driftFld c) = false ∧ t.on DRAMC.INT_STAT_RETRAIN_DONE = true ∧
          get t.dram.refTemp c = get s.dram.temp c ∧ get t.dram.slices c = 0)) ∧
        (1 < get s.dram.slices c → Answers x s (fun t => t = { s with dram := { s.dram with slices := t.dram.slices } } ∧
          get t.dram.slices c = get s.dram.slices c - 1))) ∧
      ((∃ p, p < 7 ∧ s.on (DRAMC.RT_STATUS_IN_PANIC p) = true) → exec (.retrainSlice c) s = .next s) ∧
      (q < 8 → sub < 2 → bank < 32 →
        (port < 7 →
          let low := level < 256 * s.fld (DRAMC.RT_CFG_WATERMARK port)
          Answers (.dramRead port ready level h off q sub bank row 0 time) s (fun t =>
            (s.rankLive q = true → st ≠ 5 → (s.portLevel port level).dramServes u ready port = true → t.dramBank i = (s.dramBank i).access row) ∧
            t.on (DRAMC.RT_STATUS_IN_PANIC port) = (if s.on (DRAMC.RT_STATUS_IN_PANIC port)
              then decide (level < 256 * s.fld (DRAMC.RT_CFG_WATERMARK port) + 256 * s.fld (DRAMC.RT_CFG_HYST port)) else decide low) ∧
            (s.on (DRAMC.RT_STATUS_IN_PANIC port) = false → low → t.on DRAMC.INT_STAT_PANIC_EV = true ∧
              t.fld (DRAMC.RT_STATUS_PANIC_COUNT port) = satAdd 16 (s.fld (DRAMC.RT_STATUS_PANIC_COUNT port)) 1))) ∧
        (∀ x : Nat → Instr, st ≠ 5 → (x = (fun e => .dramRead port ready level h off q sub bank row e time) ∧ 7 ≤ port ∧ port < 12 ∧ s.rankLive q = true ∧ s.dramServes u ready port = true) ∨
            (x = (fun e => .patrolScrubRead h off q g sub bank row e time) ∧ s.fld DRAMC.SCRUB_CFG_SCRUB_HOURS ≠ 0 ∧ s.scrubNext = some (q, g)) →
          let ce := DRAMC.RANK_CE_COUNT_COUNT (q / 4) (q % 4); let ue := DRAMC.RANK_UE_COUNT_COUNT (q / 4) (q % 4)
          let within := s.ceWithin q time
          let spares := fun r => r < 4 ∧ s.rankState (4 * (q / 4) + r) = 2
          Answers (x 0) s (fun t => t.dramBank i = (s.dramBank i).access row ∧ t.fld ce = s.fld ce ∧ t.fld ue = s.fld ue ∧ ∀ j, j ≠ i → t.dramBank j = s.dramBank j) ∧
          (∀ e, e < 10 → within.length ≤ s.fld DRAMC.SCRUB_CFG_CE_LIMIT → Answers (x (2 ^ e)) s (fun t => t.fld ce = satAdd 32 (s.fld ce) 1 ∧
            Tbl.get (fun _ => []) t.dram.ceTimes q = within ∧
            t.rankState q = s.rankState q ∧ t.obj = s.obj)) ∧
          (∀ e, e < 10 → s.fld DRAMC.SCRUB_CFG_CE_LIMIT < within.length → s.on DRAMC.MIG_CFG_CE_RETIRE = false → Answers (x (2 ^ e)) s (fun t => t.fld ce = satAdd 32 (s.fld ce) 1 ∧
            t.on DRAMC.INT_STAT_CE_STORM_EV = true ∧ t.rankState q = s.rankState q)) ∧
          (∀ d, d < 5 → s.eng = engTinder → s.page.pages = [] → Tbl.wf (fun _ => none) s.obj.objs = true → s.rankState q = 1 →
            let common := fun (t : State) => t.fld ue = satAdd 32 (s.fld ue) 1 ∧ t.faultBit 0xA 0 = true ∧
              ((s.dataObj h).isSome = true → t.faultBit 6 0 = true ∧ (s.obj.poisonLog.length < 16 → t.obj.poisonLog = s.obj.poisonLog ++ [(h, off / 4096 * 4096)]))
            ((∀ r, ¬ spares r) → Answers (x (3 * 4 ^ d)) s (fun t => common t ∧ retired t q ∧ ∀ j, j ∈ s.onRank q → ∃ o, t.object j = some o ∧ o.evicted = true)) ∧
            (∀ r, spares r → (∀ r', r' < r → ¬ spares r') → s.on (DRAMC.MIG_STATUS_ACTIVE (q / 4)) = false → s.onRank q ≠ [] → Answers (x (3 * 4 ^ d)) s (fun t => common t ∧
              t.rankState q = 3 ∧ t.rankState (4 * (q / 4) + r) = 4 ∧ t.on (DRAMC.MIG_STATUS_ACTIVE (q / 4)) = true ∧ t.fld (DRAMC.MIG_STATUS_FROM (q / 4)) = q % 4 ∧
              t.fld (DRAMC.MIG_STATUS_TO (q / 4)) = r)))) ∧
        (s.rankLive q = true → exec (.ddrAlert q sub false) s = .next s ∧
          (s.eng = engTinder → s.page.pages = [] → s.rankState q = 1 → (∀ r, r < 4 → s.rankState (4 * (q / 4) + r) ≠ 2) → Answers (.ddrAlert q sub true) s (fun t =>
            t.faultBit 0xA 1 = true ∧ retired t q ∧ (s.on DRAMC.FAULT_UE = false → s.on DRAMC.FAULT_CA_ERR = false → t.fld DRAMC.ERR_LOG_KIND = 3 ∧
              t.fld DRAMC.ERR_LOG_CHANNEL = q / 4 ∧ t.fld DRAMC.ERR_LOG_RANK = q % 4))))))

/-- With the station enabled, its lanes on, PLL 2 locked and PLATE on, no control block waiting and nothing forced, the start of a frame moves the Plate window to 96 lines below its first new line, fixes its sets and band, carries the pages whose lines it reads, and commits an admitted page where every condition holds, else that page ends ABANDONED as missed. A line with an uncorrectable word of Plate is sent as 0, raises PLATE's fault and spoils its page, and corrected words are counted. Missing lines of a committed page raise UNDERRUN, become holes and spoil it; a frame of a lost drum, at its decision or as it starts, is blank, raises GAUGE_LOST and spoils committed pages. A complete frame leaves the lanes with its header, words and lane checks. At its scan the oldest frame fires with SOS unless late, suppressed or gated; a late one raises LANE_LATE and spoils its pages; committing pages become COMMITTED at the strobe with their entries, and a scan that does not fire ends its committing page ABANDONED as missed; an entry whose last line has gone leaves with PAGE_DONE_EV, its last station making the page IMAGED. A scan of no frame changes nothing. While the lanes do not carry blocks no frame starts or leaves them. An alignment block carries the next count. (R368, R371, R375, R389, R390, R391, R392, R393, R396, R397, R399, R414) -/
def Obligations.GraverFrames : Prop :=
  ∀ (s : State) (k ce : Nat) (bad : List Int), k < 6 →
    let g := s.gv k; let code := 0x10 + k; let gated := s.on (CLOCK.SYN_STATUS_GATED k); let scans := fun (f : Frame) => (s.window k : Int) - 1 + (s.bows k f.bank).foldl min ((s.bows k f.bank).headD 0) + f.first
    let spoiled := fun (t : State) i reason => ∀ p, s.pg i = some p → isActive p.state = true → p.reason = 0 → ∃ q, t.pg i = some q ∧ q.reason % 256 = reason
    (∀ f, g.frames.find? (fun f => !f.started) = some f → g.switchQ = [] → g.ctrlQ = [] → g.stream = [] → g.forced = 0 → g.plateForced = false →
      s.lanesOn k = true → s.on PLATE.STATUS_ENABLED = true →
      let f1 := { f with blank := f.blank || !s.drumOk k, ctrl := s.fld (GRAVER.CTRL_STATUS_SENT k) }; let es := if f.blank then [] else s.framePages k f1
      let begun := fun (t : State) (P : Frame → Prop) => ∃ x, x ∈ (t.gv k).frames ∧ x.scan = f.scan ∧ x.started = true ∧ x.blank = f1.blank ∧ x.first = f.first ∧ P x
      let nf := if f.blank then f.first else max f.first f.low
      let moved := fun (t : State) => (t.gv k).nf = nf ∧ t.pair (PLATE.WB_LO k) (PLATE.WB_HI k) = wrap 48 (nf - 96)
      (s.drumOk k = true → f.blank = false → (∀ e, e ∈ es → e.committed = true ∨ pgCommitted ≤ s.pgState e.page) →
        ((∀ e, e ∈ es → s.linesMissing k f1 e = []) → Answers (.frameSendStart k ce []) s (fun t => moved t ∧ begun t (fun x => x.pages = es.map (·.page) ∧ x.commits = [] ∧
          x.holes = [] ∧ x.sets = (List.range 40).map (s.setOf k f1) ∧ x.band = s.fld (GRAVER.GUARD_STATUS_BAND k)) ∧
          t.fld (GRAVER.UNDERRUN_COUNT_COUNT k) = s.fld (GRAVER.UNDERRUN_COUNT_COUNT k) ∧
          t.fld (PLATE.ECC_CE_COUNT k) = satAdd 32 (s.fld (PLATE.ECC_CE_COUNT k)) ce)) ∧
        ((∀ e, e ∈ es → s.linesMissing k f1 e = []) → ∀ e l, e ∈ es → l ∈ s.linesRead k f1 e → Answers (.frameSendStart k ce [l]) s (fun t => moved t ∧
          t.faultBit 0xB k = true ∧ spoiled t e.page 8 ∧ begun t (fun x => x.holes = [l]))) ∧
        (∀ e, e ∈ es → s.linesMissing k f1 e ≠ [] → Answers (.frameSendStart k ce []) s (fun t => moved t ∧ t.faultBit code 0 = true ∧ spoiled t e.page 4 ∧
          begun t (fun x => ∀ l, l ∈ s.linesMissing k f1 e → l ∈ x.holes)))) ∧
      (s.drumOk k = true → f.blank = false → ∀ e, es = [e] → e.committed = false → s.pgState e.page = pgAdmitted →
        (s.mayCommit k f1 e = true → Answers (.frameSendStart k ce []) s (fun t => moved t ∧ s.pgState e.page = t.pgState e.page ∧
          begun t (fun x => x.pages = [e.page] ∧ x.commits = [e.page]))) ∧
        (s.mayCommit k f1 e = false → Answers (.frameSendStart k ce []) s (fun t => t.pgState e.page = pgAbandoned ∧ t.on (GRAVER.INT_STAT_PAGE_MISSED_EV k) = true))) ∧
      (s.drumOk k = false ∨ f.blank = true → (∀ e, e ∈ es → e.committed = true) → Answers (.frameSendStart k ce bad) s (fun t => moved t ∧ begun t (fun x => x.pages = [] ∧ x.holes = []) ∧
        ∀ e, e ∈ g.queue → e.committed = true → t.faultBit code 5 = true ∧ spoiled t e.page 7))) ∧
    ((∀ f, f ∈ g.frames → f.started = true) ∨ s.lanesOn k = false ∨ s.on PLATE.STATUS_ENABLED = false → exec (.frameSendStart k ce bad) s = .next s) ∧
    (∀ f, s.lanesOn k = true → g.frames.find? (fun f => f.started && !f.complete) = some f → Answers (.frameComplete k) s (fun t =>
      (t.gv k).frames = g.frames.map (fun x => if x.scan = f.scan then { x with complete := true } else x) ∧
      Sent.frame k (s.frameHeader k f) (s.frameWords k f) (laneCrcs (s.frameWords k f)) ∈ t.host.sent ∧
      (t.gv k).binFrames = (if g.binFrames + 1 = 64 then 0 else g.binFrames + 1))) ∧
    (g.frames.find? (fun f => f.started && !f.complete) = none ∨ s.lanesOn k = false → exec (.frameComplete k) s = .next s) ∧
    ((g.frames = [] ∨ ∃ f l, g.frames = f :: l ∧ f.scan ≠ g.scan) → exec (.scanStart k) s = .next s) ∧
    (∀ f rest, g.frames = f :: rest → f.scan = g.scan → (∀ j, (s.station j).busyCommitted = false) →
      (f.commits = [] → Answers (.scanStart k) s (fun t => (t.gv k).frames = rest ∧ (t.gv k).fired = some { f with suppressed := f.suppressed || !f.complete } ∧
        (f.complete = true → f.suppressed = false → s.on PLATE.STATUS_ENABLED = true → gated = false → Sent.sos k f.scan ∈ t.host.sent) ∧
        (f.complete = false → t.faultBit code 6 = true ∧ ∀ i, i ∈ f.pages → spoiled t i 6) ∧
        (∀ e p, e ∈ g.queue → s.pg e.page = some p → p.state = pgCommitted → p.imaging ≤ 1 → e.base + (e.lines : Int) - 1 ≤ scans f →
          (∀ x, x ∈ (t.gv k).queue → x.page ≠ e.page) ∧ t.on (GRAVER.INT_STAT_PAGE_DONE_EV k) = true ∧ t.pgState e.page = pgImaged))) ∧
      (∀ i, f.commits = [i] → f.complete = true → f.suppressed = false → s.on PLATE.STATUS_ENABLED = true → gated = false → s.pgState i = pgAdmitted →
        (∀ e, e ∈ g.queue → e.page = i → scans f < e.base + (e.lines : Int) - 1) → Answers (.scanStart k) s (fun t => t.pgState i = pgCommitted ∧
          Sent.sos k f.scan ∈ t.host.sent ∧ t.on (GRAVER.INT_STAT_COMMIT_EV k) = true ∧ (∀ j e, j < 6 → e ∈ (t.gv j).queue → e.page = i → e.committed = true))) ∧
      (∀ i, f.commits = [i] → f.complete = true → f.suppressed = true ∨ gated = true → s.pgState i = pgAdmitted → Answers (.scanStart k) s (fun t =>
        t.pgState i = pgAbandoned ∧ t.on (GRAVER.INT_STAT_PAGE_MISSED_EV k) = true))) ∧
    (s.lanesOn k = true → Answers (.alignBlocks k) s (fun t =>
      (t.gv k).aligns = (g.aligns + 1) % 2 ^ 16 ∧ t.host.sent = s.host.sent ++ [.align k ((g.aligns + 1) % 2 ^ 16)] ∧ t.regs = s.regs)) ∧
    (s.lanesOn k = false → exec (.alignBlocks k) s = .next s)

/-- CTRL_PUSH queues its address and data, goes out at once where no frame waits, the station is enabled and its lanes are on, and sets FULL on a full queue. A stream starts with its readable pairs, holding its object, or sets DMA_ERR while one runs and for a bad handle or offset; its end, which needs the lanes, has sent every block, at most 2,048 between two frames and none within one, and sets CTRL_DONE, or DMA_ERR for a table that ends in an error. BANK.NEXT makes a switch pending. A page is pushed at or beyond n_next + 287 behind the last entry while fewer than four wait, else REFUSED; a withdrawal removes uncommitted entries of the page only. A build streams the setpoint words and entries of a valid section, held while it runs, or raises LUT_ERR while a committed page, a stream or a build stands in the way or the section is bad; its end sets LUT_DONE, and LUT_VALID exactly where no control error was reported. (R369, R381, R390, R400, R401, R406, R411, R415, R416, R417) -/
def Obligations.GraverControl : Prop :=
  ∀ (s : State) (k v : Nat), k < 6 →
    let g := s.gv k; let code := 0x10 + k; let addr := s.fld (GRAVER.CTRL_ADDR_ADDR k); let data := s.fld (GRAVER.CTRL_DATA_DATA k)
    let lanes := s.lanesOn k = true; let idle := g.frames = [] ∧ lanes; let busy := s.on (GRAVER.CTRL_STATUS_DMA_BUSY k); let building := s.on (GRAVER.LUT_STATUS_BUSY k)
    let h := s.fld (GRAVER.CTRL_DMA_HANDLE_HANDLE k); let o := s.fld (GRAVER.CTRL_DMA_OFFSET_OFFSET k); let n := s.fld (GRAVER.CTRL_DMA_COUNT_PAIRS k)
    let dmaErr := fun (t : State) => OnlyRegs s t [GRAVER.CTRL_STATUS k] ∧ t.on (GRAVER.CTRL_STATUS_DMA_ERR k) = true ∧ t.grav = s.grav ∧ t.obj = s.obj
    let waiting := g.switchQ ++ g.ctrlQ ++ g.stream; let room := s.ctrlRoom k
    let sent := fun (t : State) => (∀ x, x ∈ waiting.take room → Sent.ctrl k x.1 x.2 ∈ t.host.sent) ∧
      (t.gv k).switchQ = g.switchQ.drop room ∧ (t.gv k).ctrlQ = g.ctrlQ.drop (room - g.switchQ.length) ∧
      (t.gv k).stream = g.stream.drop (room - g.switchQ.length - g.ctrlQ.length)
    let through := g.stream = [] ∨ waiting.length ≤ room
    (64 ≤ g.ctrlQ.length → Answers (.ctrlPush k) s (fun t => OnlyRegs s t [GRAVER.CTRL_STATUS k] ∧ t.on (GRAVER.CTRL_STATUS_FULL k) = true ∧ t.grav = s.grav)) ∧
    (g.ctrlQ.length < 64 → ¬ idle → Answers (.ctrlPush k) s (fun t => t.gv k = { g with ctrlQ := g.ctrlQ ++ [(addr, data)] } ∧ OnlyRegs s t [GRAVER.CTRL_STATUS k] ∧
      t.fld (GRAVER.CTRL_STATUS_QUEUED k) = g.ctrlQ.length + 1 ∧ t.host = s.host)) ∧
    (idle → waiting = [] → g.building = false → Answers (.ctrlPush k) s (fun t => t.host.sent = s.host.sent ++ [.ctrl k addr data] ∧ (t.gv k).ctrlQ = [] ∧
      t.fld (GRAVER.CTRL_STATUS_QUEUED k) = 0 ∧ t.fld (GRAVER.CTRL_STATUS_SENT k) = (s.fld (GRAVER.CTRL_STATUS_SENT k) + 1) % 2 ^ 16 ∧
      (0x40 ≤ addr → addr < 0x68 → data < 2 ^ 12 → (t.gv k).setpoint (addr - 0x40) = data))) ∧
    (busy = true ∨ building = true ∨ kindOf h ≠ 12 ∨ o % 8 ≠ 0 → Answers (.ctrlDmaGo k) s dmaErr) ∧
    (busy = false → building = false → kindOf h = 12 → o % 8 = 0 → (∀ i, i < n → s.objCheck h (o + 8 * i) 8 false true = 0) → 0 < n → Answers (.ctrlDmaGo k) s (fun t =>
      OnlyRegs s t [GRAVER.CTRL_STATUS k] ∧ t.on (GRAVER.CTRL_STATUS_DMA_BUSY k) = true ∧ (t.gv k).streamFrom = some h ∧ (t.gv k).streamErr = false ∧
      (t.gv k).stream = (List.range n).map (fun i => (s.objNat h (o + 8 * i) 2, s.objNat h (o + 8 * i + 4) 4)) ∧
      ∀ x, s.object (indexOf h) = some x → t.object (indexOf h) = some { x with use := x.use + 1 })) ∧
    (busy = true → lanes → through → Answers (.ctrlDmaDone k) s (fun t => sent t ∧ t.on (GRAVER.CTRL_STATUS_DMA_BUSY k) = false ∧ (t.gv k).streamFrom = none ∧
      (if g.streamErr then t.on (GRAVER.CTRL_STATUS_DMA_ERR k) = true else t.on (GRAVER.INT_STAT_CTRL_DONE k) = true) ∧
      ∀ h x, g.streamFrom = some h → s.dataObj h = some x → t.object (indexOf h) = some { x with use := x.use - 1 })) ∧
    (busy = true → lanes → ¬ through → Answers (.ctrlDmaDone k) s (fun t => sent t ∧ t.on (GRAVER.CTRL_STATUS_DMA_BUSY k) = true ∧ t.obj = s.obj)) ∧
    (busy = false ∨ ¬ lanes → exec (.ctrlDmaDone k) s = .next s) ∧
    (room ≤ 2048 ∧ ((∃ f, f ∈ g.frames ∧ f.started = true ∧ f.complete = false) ∨ ¬ lanes → room = 0)) ∧
    Answers (.bankNext k v) s (fun t => OnlyRegs s t [GRAVER.BANK k] ∧ t.fld (GRAVER.BANK_NEXT k) = v % 2 ∧ t.on (GRAVER.BANK_PENDING k) = true ∧
      t.fld (GRAVER.BANK_ACTIVE k) = s.fld (GRAVER.BANK_ACTIVE k)) ∧
    (
      let i := indexOf (s.fld (GRAVER.PAGEQ_HANDLE_HANDLE k)); let base := sext 48 (s.pair (GRAVER.PAGEQ_BASE_LO k) (GRAVER.PAGEQ_BASE_HI k))
      let lines := s.fld (GRAVER.PAGEQ_LINES_LINES k); let queued := fun (t : State) => t.fld (GRAVER.PAGEQ_STATUS_COUNT k) = (t.gv k).queue.length
      let fits := g.queue.length < 4 ∧ g.next + 287 ≤ base ∧ (∀ e, g.queue.getLast? = some e → e.base + e.lines ≤ base) ∧ lines ≠ 0
      let mine := ∃ e, e ∈ g.queue ∧ e.page = i ∧ e.committed = false
      let refused := fun (t : State) => OnlyRegs s t [GRAVER.PAGEQ_STATUS k] ∧ t.grav = s.grav ∧ t.on (GRAVER.PAGEQ_STATUS_REFUSED k) = true
      (fits → (s.station k).busyCommitted = false → Answers (.pageqPush k) s (fun t => queued t ∧ t.on (GRAVER.PAGEQ_STATUS_REFUSED k) = false ∧
        (t.gv k).queue = g.queue ++ [⟨i, base, lines, isCommitted (s.pgState i)⟩])) ∧
      (¬ fits → Answers (.pageqPush k) s refused) ∧
      (mine → g.queue.length ≤ 4 → (s.station k).busyCommitted = false → Answers (.pageqWithdraw k) s (fun t => queued t ∧ t.on (GRAVER.PAGEQ_STATUS_REFUSED k) = false ∧
        (t.gv k).queue = g.queue.filter (fun e => decide (e.page ≠ i) || e.committed))) ∧
      (¬ mine → Answers (.pageqWithdraw k) s refused)) ∧
    (
      let held := ∃ e, e ∈ g.queue ∧ e.committed = true
      let fromMram := s.on (GRAVER.LUT_SRC_FROM_MRAM k); let src := s.fld (GRAVER.LUT_CMD_HANDLE k)
      (held ∨ busy = true ∨ building = true ∨ s.lutSection k = none ∨ (∃ l, s.lutSection k = some l ∧ (l.getD 8 0).testBit 0 = false) →
        Answers (.lutBuildGo k) s (fun t => t.faultBit code 15 = true ∧ t.grav = s.grav ∧ t.obj = s.obj)) ∧
      (¬ held → busy = false → building = false → ∀ l, s.lutSection k = some l → (l.getD 8 0).testBit 0 = true → Answers (.lutBuildGo k) s (fun t =>
        OnlyRegs s t [GRAVER.LUT_STATUS k] ∧ t.on (GRAVER.LUT_STATUS_BUSY k) = true ∧ t.fld (GRAVER.LUT_STATUS_SENT k) = 0 ∧ (t.gv k).building = true ∧
        (t.gv k).stream = lutBlocks l (s.emitters k) ∧ (t.gv k).streamFrom = (if fromMram then none else some src) ∧
        ∀ x, s.object (indexOf src) = some x → t.object (indexOf src) = some { x with use := x.use + (if fromMram then 0 else 1) })) ∧
      (building = true → lanes → through → Answers (.lutBuildDone k) s (fun t => sent t ∧ t.on (GRAVER.LUT_STATUS_BUSY k) = false ∧ (t.gv k).building = false ∧
        t.on (GRAVER.INT_STAT_LUT_DONE k) = true ∧ t.on (GRAVER.GUARD_STATUS_LUT_VALID k) = !g.buildErr ∧ (g.buildErr = true → t.faultBit code 15 = true))) ∧
      (building = true → lanes → ¬ through → Answers (.lutBuildDone k) s (fun t => sent t ∧ t.on (GRAVER.LUT_STATUS_BUSY k) = true ∧ t.obj = s.obj)) ∧
      (building = false ∨ ¬ lanes → exec (.lutBuildDone k) s = .next s))

/-- An invalid status word of an enabled station counts as missed, and the fourth in a row raises DRV_STAT_LOST and takes LASER_EN low. A valid one is stored, clears the run, sets DRV_READY, LANES_UP and TEMP, moves the band, and at T_TRIP raises it with LASER_EN low, at T_LIM caps the array. The interlock low takes every LASER_EN low, and with the fabric up raises its fault at every Graver; qualified again it is one of the eight conditions. A mark sample at a gate that is off ends the arming of its sensor; else an armed sensor crossing THRESH with its edge enabled counts a record into its held object, or LOST where it is full. MK_DEST holds its CAPTURE object and clears its count, or drops it. A calibration port takes a GO with the KEY while free, and its end writes the word or leaves the failure bit. (R379, R421, R423, R424, R428, R429, R432, R433, R434, R438) -/
def Obligations.GraverSensors : Prop :=
  ∀ (s : State) (k m v p w : Nat),
    let code := 0x10 + k; let calm := s.eng = engTinder ∧ s.linkUp = false; let low := fun (t : State) j => t.on (GRAVER.LASER_CTRL_LEVEL j) = false
    let temp := bits w 8 12; let trip := s.fld (GRAVER.T_TRIP_HYST_T_TRIP k); let lim := s.fld (GRAVER.T_WARN_LIM_T_LIM k); let hyst := s.fld (GRAVER.T_TRIP_HYST_HYST k)
    (k < 6 → (s.station k).enabled = true → w < 2 ^ 40 →
      (wordValid w = false →
        let run := satAdd (GRAVER.DRV_MISS_RUN k).width (s.fld (GRAVER.DRV_MISS_RUN k)) 1
        let counted := fun (t : State) => t.fld (GRAVER.DRV_MISS_RUN k) = run ∧
          t.fld (GRAVER.DRV_MISS_TOTAL k) = satAdd (GRAVER.DRV_MISS_TOTAL k).width (s.fld (GRAVER.DRV_MISS_TOTAL k)) 1
        (run < 4 → Answers (.drvStatusWord k w) s (fun t => counted t ∧ OnlyRegs s t [GRAVER.DRV_MISS k])) ∧
        (4 ≤ run → calm → Answers (.drvStatusWord k w) s (fun t => counted t ∧ t.faultBit code 2 = true ∧ low t k))) ∧
      (wordValid w = true → bits w 3 3 = 0 → calm →
        let taken := fun (t : State) => t.reg (GRAVER.DRV_STATUS k) = BitVec.ofNat 32 w ∧ t.fld (GRAVER.DRV_MISS_RUN k) = 0 ∧ t.on (GRAVER.STATUS_DRV_READY k) = w.testBit 1 ∧
          t.on (GRAVER.STATUS_LANES_UP k) = w.testBit 2 ∧ t.fld (GRAVER.GUARD_STATUS_TEMP k) = temp ∧ t.on (GRAVER.GUARD_STATUS_TEMP_VALID k) = true ∧
          t.fld (GRAVER.GUARD_STATUS_BAND k) = s.bandOf k temp ∧ t.on (GRAVER.GUARD_STATUS_WARN k) = decide (s.fld (GRAVER.T_WARN_LIM_T_WARN k) ≤ temp)
        Answers (.drvStatusWord k w) s (fun t => taken t ∧ (trip ≤ temp → t.faultBit code 8 = true ∧ low t k) ∧
          (temp < trip → lim ≤ temp → t.on (GRAVER.GUARD_STATUS_T_CAPPED k) = true ∧ (s.on (GRAVER.GUARD_STATUS_T_CAPPED k) = false → t.faultBit code 10 = true)) ∧
          (temp < trip → temp + hyst < lim → t.on (GRAVER.GUARD_STATUS_T_CAPPED k) = false)))) ∧
    (k < 6 → (s.station k).enabled = false → exec (.drvStatusWord k w) s = .next s) ∧
    (calm → Answers .interlockAssert s (fun t => t.engine.interlock = false ∧ t.engine.interlockOk = false ∧ ∀ j, j < 6 → low t j ∧
      (s.fabric = true → t.faultBit (0x10 + j) 14 = true))) ∧
    Answers .interlockQualified s (fun t => t.engine = { s.engine with interlock := true, interlockOk := true } ∧ t.obj = s.obj ∧
      ∀ j, j < 6 → t.on (GRAVER.LASER_CTRL_LEVEL j) = decide (t.laserTerms j = 255) ∧ t.fld (GRAVER.LASER_CTRL_TERMS j) = t.laserTerms j) ∧
    (m < 8 →
      let x := s.mark m; let y := v % 4096; let thresh := s.fld (GAUGE.MK_CFG_THRESH m); let h := s.fld (GAUGE.MK_CFG_HYST m)
      let rise := x.armRise = true ∧ thresh ≤ y; let fall := x.armFall = true ∧ y < thresh
      let record := (rise ∧ s.on (GAUGE.MK_DEST_RISE_EN m) = true) ∨ (fall ∧ s.on (GAUGE.MK_DEST_FALL_EN m) = true)
      let armed := fun (t : State) => (t.mark m).prev = some (y, p) ∧ ((t.mark m).armRise = true ↔ y + h < thresh ∨ (x.armRise = true ∧ ¬ rise)) ∧
        ((t.mark m).armFall = true ↔ thresh + h ≤ y ∨ (x.armFall = true ∧ ¬ fall)) ∧ (t.mark m).held = x.held
      (s.on (GAUGE.MK_CTRL_GATE m) = false → Answers (.markSample m v p) s (fun t => t.mark m = { x with prev := none, armRise := false, armFall := false } ∧ t.regs = s.regs ∧ t.obj = s.obj)) ∧
      (s.on (GAUGE.MK_CTRL_GATE m) = true → ¬ record → Answers (.markSample m v p) s (fun t => armed t ∧ (t.mark m).sum = x.sum + y ∧ (t.mark m).count = x.count + 1 ∧
        t.regs = s.regs ∧ t.obj = s.obj)) ∧
      (s.on (GAUGE.MK_CTRL_GATE m) = true → record → ∀ o u, x.held = some o → s.dataObj o = some u → u.poisoned = [] →
        let n := u.nat 0 4
        (n < 2 ^ 32 - 1 → s.objCheck o (0x20 + 16 * n) 16 true false = 0 → Answers (.markSample m v p) s (fun t => armed t ∧ (t.mark m).sum = 0 ∧ (t.mark m).count = 0 ∧
          t.objNat o 0 4 = n + 1 ∧ t.objNat o (0x20 + 16 * n + 12) 4 = (x.count + 1) % 2 ^ 32 ∧ t.objNat o (0x20 + 16 * n + 11) 1 = 0)) ∧
        (s.objCheck o (0x20 + 16 * n) 16 true false ≠ 0 → Answers (.markSample m v p) s (fun t => armed t ∧
          t.reg (GAUGE.MK_STATUS m) = BitVec.ofNat 32 (satAdd 32 (s.objNat o 4 4) 1)))) ∧
      (
        let o := bits v 0 16
        let fields := fun (t : State) => t.fld (GAUGE.MK_DEST_HANDLE m) = o ∧ t.fld (GAUGE.MK_DEST_GAUGE m) = bits v 16 6 ∧ t.on (GAUGE.MK_DEST_EN m) = v.testBit 24 ∧
          t.on (GAUGE.MK_DEST_RISE_EN m) = v.testBit 25 ∧ t.on (GAUGE.MK_DEST_FALL_EN m) = v.testBit 26
        (v.testBit 24 = true → s.on (GAUGE.MK_DEST_EN m) = false → x.held = none → kindOf o = 13 → ∀ u, s.dataObj o = some u → u.poisoned = [] →
          s.objCheck o 0 0x20 false false = 0 → Answers (.markDestEnable m v) s (fun t => fields t ∧ (t.mark m).held = some o ∧ t.objNat o 0 4 = 0 ∧ t.objNat o 4 4 = 0 ∧
            t.reg (GAUGE.MK_STATUS m) = 0 ∧ ∃ y, t.object (indexOf o) = some y ∧ y.use = u.use + 1)) ∧
        (v.testBit 24 = false → x.held = none → Answers (.markDestEnable m v) s (fun t => fields t ∧ OnlyRegs s t [GAUGE.MK_DEST m] ∧ t.obj = s.obj)) ∧
        (v.testBit 24 = false → ∀ b u, x.held = some b → s.dataObj b = some u → Answers (.markDestEnable m v) s (fun t => fields t ∧ (t.mark m).held = none ∧
          t.object (indexOf b) = some { u with use := u.use - 1 })))) ∧
    (
      let c := s.calPort k; let starts := k < 6 ∧ bits v 20 12 = 0x7A5 ∧ v.testBit 0 = true ∧ c.busy = false
      (starts → Answers (.calWordWrite k v) s (fun t => t.calPort k = { c with busy := true } ∧ t.regs = s.regs ∧ ∀ j, j ≠ k → t.calPort j = s.calPort j)) ∧
      (¬ starts → exec (.calWordWrite k v) s = .next s) ∧
      (k < 6 → c.busy = true → c.data < 2 ^ 32 →
        Answers (.calWriteDone k true) s (fun t => t.calPort k = { c with busy := false, status := withBit c.status 1 true } ∧
          ∀ i, i < 4 → t.mramByte (0x10000 + 4 * bits c.addr 2 15 + i) = c.data / 256 ^ i % 256) ∧
        Answers (.calWriteDone k false) s (fun t => t.calPort k = { c with busy := false, status := withBit c.status 2 true })))

/-- With a record at the head of a submission queue whose completions have room and nothing older waiting, each command takes it off. A NOP completes DONE and a reserved opcode or CHAIN 3 REFUSED. A REQUEST writes the engine's request bits and is DONE, with a reserved bit REFUSED. A CONFIGURE in TINDER, BANKED or SAFE with a valid table and status object makes it the configuration with no pitches, holding both, else REFUSED. A PAGE of CHAIN 1 or 2 completes with that error; one that passes every check becomes QUEUED last in ring order with its completion open, else REFUSED. A WITHDRAW ends a QUEUED page ABANDONED. A PURGE in BANKED after a jam with every sensor uncovered begins. The purge report ends it, the jam cleared unless a sensor is still covered, which is PURGE_FAIL. The report of the first page in ring order, ended with its sheet gone, completes its record with its status; until then nothing is reported. (R290, R291, R292, R446, R447, R456, R460, R462, R463, R464, R466, R467) -/
def Obligations.PageRecords : Prop :=
  ∀ (s : State) (q : Nat) (r : Record) (rest : List Record),
    let op := fieldAt r 0 1; let chain := fieldAt r 4 1; let t0 := s.setDq q rest; let h := fieldAt r 0x14 2; let i := indexOf h
    let answered := fun (t : State) (status : Nat) => t.dq q = rest ∧ ∃ c, t.dq (16 + q) = s.dq (16 + q) ++ [c] ∧ fieldAt c 0 1 = op ∧ fieldAt c 1 1 = status ∧
      fieldAt c 2 2 = fieldAt r 2 2 ∧ fieldAt c 4 1 = chain ∧ fieldAt c 8 4 = fieldAt r 0x10 4
    let quiet := fun (t : State) => t.page = s.page ∧ t.obj = s.obj ∧ t.regs = s.regs
    (q < 16 → s.dq q = r :: rest → (∀ b, b ∈ r → b < 256) → s.servingOf q = [] → (s.dq (16 + q)).length < 16 →
      (op = 0 → chain ≠ 3 → Answers (.sqNop q) s (fun t => answered t 0 ∧ quiet t)) ∧
      ((op = 0 ∧ chain = 3) ∨ (6 ≤ op ∧ op < 0x80) → Answers (.sqNop q) s (fun t => answered t 0x10 ∧ quiet t)) ∧
      (op = 4 → chain ≠ 3 → fieldAt r 0x14 1 < 16 → exec (.request q) s = .next ((t0.request (fieldAt r 0x14 1)).done q r)) ∧
      (op = 4 → chain = 3 ∨ 16 ≤ fieldAt r 0x14 1 → Answers (.request q) s (fun t => answered t 0x10 ∧ quiet t)) ∧
      (op = 2 →
        let st := fieldAt r 0x16 2; let l := s.objRead h 0 0x1D0
        let good := chain ≠ 3 ∧ (s.eng = engTinder ∨ s.eng = engBanked ∨ s.eng = engSafe) ∧ kindOf h = 12 ∧ kindOf st = 12 ∧ s.objCheck h 0 0x1D0 false true = 0 ∧
          s.objCheck st 0 128 false false = 0 ∧ s.cfgOk l = true
        (good → s.page.cfg = none → Answers (.configure q) s (fun t => answered t 0 ∧
            t.page = { s.page with cfg := some (parseCfg h st l), pitches := [], nextPitch := s.firstPitch (parseCfg h st l) } ∧ ∀ x o, s.object x = some o →
            t.object x = some { o with use := o.use + (if x = i then 1 else 0) + (if x = indexOf st then 1 else 0) })) ∧
        (¬ good → Answers (.configure q) s (fun t => answered t 0x10 ∧ quiet t))) ∧
      (op = 1 →
        (chain = 1 → Answers (.page q) s (fun t => answered t 0x11 ∧ quiet t)) ∧ (chain = 2 → Answers (.page q) s (fun t => answered t 0x12 ∧ quiet t)) ∧
        (chain = 3 ∨ s.page.cfg = none ∨ (∃ c, s.page.cfg = some c ∧ t0.pageAccepts c q r h = none) → chain ≠ 1 → chain ≠ 2 →
          Answers (.page q) s (fun t => answered t 0x10 ∧ quiet t)) ∧
        (∀ c p front, chain ≠ 1 → chain ≠ 2 → chain ≠ 3 → s.page.cfg = some c → t0.pageAccepts c q r h = some (p, front) → Answers (.page q) s (fun t =>
          t.dq q = rest ∧ t.dq (16 + q) = s.dq (16 + q) ∧ t.page.order = s.page.order ++ [i] ∧ t.pgState i = pgQueued ∧
          t.servingOf q = [⟨1, fieldAt r 2 2, chain, fieldAt r 0x10 4, none, i⟩] ∧ ∃ x, t.pg i = some x ∧ x.holding = true ∧ x.seps = p.seps))) ∧
      (op = 3 →
        let mine := kindOf h = 8 ∧ (s.dataObj h).isSome = true
        (chain ≠ 3 → mine → s.pgState i = pgQueued → Answers (.withdraw q) s (fun t => t.pgState i = pgAbandoned ∧ ∃ p, t.pg i = some p ∧ p.withdrawn = true)) ∧
        (chain = 3 ∨ ¬ mine ∨ (s.pgState i ≠ pgQueued ∧ s.pgState i ≠ pgAdmitted) → Answers (.withdraw q) s (fun t => answered t 0x10 ∧ quiet t))) ∧
      (op = 5 → ∀ c, s.page.cfg = some c →
        let good := chain ≠ 3 ∧ s.eng = engBanked ∧ s.page.jammed = true ∧ ∀ x, x ∈ c.sensors → s.covered x = false
        (good → Answers (.purge q) s (fun t => answered t 0 ∧ t.page = { s.page with purging := true } ∧ t.obj = s.obj)) ∧
        (¬ good → Answers (.purge q) s (fun t => answered t 0x10 ∧ quiet t)))) ∧
    (∀ c, s.dq 32 = r :: rest → op = 3 → s.page.cfg = some c → s.page.purging = true →
      ((∀ x, x ∈ c.sensors → s.covered x = false) → Answers .purgeDone s (fun t => t.page.purging = false ∧ t.page.jammed = false ∧ t.dq 32 = rest)) ∧
      (∀ j, j < c.sensors.length → (∀ m x, m ≤ j → c.sensors[m]? = some x → s.covered x = decide (m = j)) → Answers .purgeDone s (fun t =>
        t.page.purging = false ∧ t.page.jammed = s.page.jammed ∧ t.page.lastJam = 6 + 256 * j ∧ t.dq 32 = rest))) ∧
    (∀ i l p, s.reprints = s → s.page.order = i :: l → s.pg i = some p →
      let ends := isEnded p.state = true ∧ p.clear = true ∧ ¬ (p.state = pgSpoiled ∧ p.mayReprint = true)
      (¬ ends → exec .pageReport s = .next s) ∧
      (ends → ∀ x, s.servingOf p.queue = [x] → x.opcode = 1 → x.page = i → x.result = none → x.sqIndex = p.sqIndex → (s.dq (16 + p.queue)).length < queueDepth (16 + p.queue) →
        Answers .pageReport s (fun t => t.page = { s.page with order := l } ∧ t.obj = s.obj ∧ t.servingOf p.queue = [] ∧
          t.dq (16 + p.queue) = s.dq (16 + p.queue) ++ [x.image (reportStatus p.state) [p.id, p.marks, p.reason]])))

/-- With no reprint waiting, PAGE_PLAN starts the expansions of the first planned page. At its deadline a pitch that no page uses is skipped with the reason that closes admission, or as NO_PAGE; an open one with a page that passes at every station admits it there, and from READY the engine runs. A sheet starts with the lowest free sheet gauge and tells the path core; its transfer and fuser posts move the page on. A sensor edge is STRAY where no sheet is due; a leading edge in time is noted, a trailing one in time at the exit ends the page DELIVERED or SPOILED. A window that closes with nothing noted is a LATE jam, with the sensor still covered a STUCK one. A reported feed failure ends the page of the sheet and counts a SHEET skip once; a path fault is a PATH jam. A jam is recorded with its sensor and closes admission. (R449, R450, R451, R453, R455, R458, R459, R460, R461, R467) -/
def Obligations.SheetsAndJams : Prop :=
  ∀ (s : State) (c : PageCfg) (x now g j : Nat) (rising leading : Bool), s.page.cfg = some c →
    let jammed := fun (t : State) kind m => t.page.jammed = true ∧ t.page.lastJam = kind + 256 * m
    (s.reprints = s →
      (s.plan c s.page.nextPitch = [] → exec (.pagePlan now) s = .next s) ∧
      (∀ i k l, s.plan c s.page.nextPitch = (i, k) :: l → c.lineRate ≠ 0 → exec (.pagePlan now) s = .next (s.planSheet c i k now (1000000000 / c.lineRate)).2) ∧
      (Tbl.get (fun _ => none) s.page.pitches s.page.nextPitch = none →
        let k := s.page.nextPitch; let s1 := { s with page := { s.page with nextPitch := k + 1, lastPitch := k } }
        let skipped := fun (t : State) reason => t.page.nextPitch = k + 1 ∧ t.page.lastPitch = k ∧ t.page.skips = satAdd 32 s.page.skips 1 ∧ t.page.order = s.page.order ∧
          Tbl.get (fun _ => 0) t.page.counts reason = satAdd 32 (Tbl.get (fun _ => 0) s.page.counts reason) 1
        (s.eng ≠ engRunning → s.eng ≠ engRunOut → ∀ reason, s.closedFor c = some reason → Answers (.admissionDeadline now) s (fun t => skipped t reason ∧ t.page.pages = s.page.pages)) ∧
        (s.closedFor c = none → s.plan c k = [] → (∃ i p, s.pg i = some p ∧ isActive p.state = true) → Answers (.admissionDeadline now) s (fun t => skipped t 6)) ∧
        (s.closedFor c = none → c.lineRate ≠ 0 → ∀ i p, (s.plan c k).find? (fun y => decide (y.2 = k)) = some (i, k) → s.pg i = some p → p.mate = none → 1 ≤ p.pitches →
          let l := s1.pagePasses c p k now (1000000000 / c.lineRate) (s1.finishNow now)
          allPass l = true → (s1.pushSheet c i k l).1 = true → Answers (.admissionDeadline now) s (fun t => t.pgState i = pgAdmitted ∧ t.eng = engRunning ∧
            t.page.nextPitch = k + 1 ∧ t.page.skips = s.page.skips ∧ (∃ p', t.pg i = some p' ∧ p'.pitch = some k) ∧
            Tbl.get (fun _ => none) t.page.pitches k = some ⟨i, false, false⟩)))) ∧
    (∀ e p m l, Tbl.get (fun _ => none) s.page.pitches x = some e → s.pg e.page = some p → s.freeSheetGauges c = m :: l →
      (p.pitch = some x ∧ s.mayStart p e.isReturn = true → Answers (.sheetStart x) s (fun t => (∃ p', t.pg e.page = some p' ∧ p' = { p with started := true, gauge := m }) ∧
        t.page.sheets = s.page.sheets ++ [⟨e.page, x, e.isReturn, m, [], false⟩])) ∧
      (¬ (p.pitch = some x ∧ s.mayStart p e.isReturn = true) → exec (.sheetStart x) s = .next s)) ∧
    (∀ sh p, s.sheetOn g = some sh → s.pg sh.page = some p →
      (p.state = pgCommitted ∨ p.state = pgImaged → Answers (.transferPost g) s (fun t => t.pg sh.page = some { p with state := pgTransferred })) ∧
      (p.state = pgTransferred → Answers (.fuserPost g) s (fun t => t.pg sh.page = some { p with state := pgFused }))) ∧
    (s.sheetOn g = none → exec (.transferPost g) s = .next s ∧ exec (.fuserPost g) s = .next s) ∧
    (∀ y, c.sensors[j]? = some y →
      let ball := withBit s.engine.gpioBall y.gpio rising; let leads := rising = y.high
      let due := s.page.sheets.find? (fun sh => s.watches y sh && !sh.stopped && !(sh.seenAt j).testBit 1 && !(sh.seenAt j).testBit 2)
      let passing := s.page.sheets.find? (fun sh => s.watches y sh && !sh.stopped && (sh.seenAt j).testBit 1 && !(sh.seenAt j).testBit 4 && !(sh.seenAt j).testBit 5)
      let only := { s with engine := { s.engine with gpioBall := ball } }
      ((leads → due = none) → (¬ leads → passing = none) → s.page.jammed = false → Answers (.sensorEdgeCapture j rising) s (fun t => jammed t 4 j)) ∧
      ((leads → due = none) → (¬ leads → passing = none) → s.page.jammed = true → exec (.sensorEdgeCapture j rising) s = .next only) ∧
      (leads → ∀ sh, due = some sh →
        ((y.pos - y.early) * 65536 ≤ s.sheetPos sh → exec (.sensorEdgeCapture j rising) s = .next (only.note sh.gauge j 1)) ∧
        (s.sheetPos sh < (y.pos - y.early) * 65536 → s.page.jammed = false → Answers (.sensorEdgeCapture j rising) s (fun t => jammed t 1 j))) ∧
      (¬ leads → ∀ sh, passing = some sh →
        let tail := y.pos + s.sheetLines sh; let inside := (tail - y.early) * 65536 ≤ s.sheetPos sh ∧ s.sheetPos sh ≤ (tail + y.late) * 65536
        (¬ inside ∨ (y.role ≠ 2 ∧ y.role ≠ 3) → exec (.sensorEdgeCapture j rising) s = .next (only.note sh.gauge j 4)) ∧
        (inside → y.role = 2 → ∀ p, s.pg sh.page = some p → p.side = 0 → p.mate = none → isCommitted p.state = true → Answers (.sensorEdgeCapture j rising) s (fun t =>
          t.pgState sh.page = if p.reason % 256 = 0 then pgDelivered else pgSpoiled))) ∧
      (∀ sh, s.sheetOn g = some sh → s.watches y sh = true → (sh.seenAt j).testBit 1 = false → (sh.seenAt j).testBit 2 = false →
        Answers (.jamWindowClose g j true) s (fun t => jammed t 2 j)) ∧
      (∀ sh, s.sheetOn g = some sh → s.watches y sh = true → (sh.seenAt j).testBit 1 = true → exec (.jamWindowClose g j true) s = .next (s.note g j 2)) ∧
      (∀ sh, s.sheetOn g = some sh → s.watches y sh = true → (sh.seenAt j).testBit 5 = false →
        (s.covered y = true → Answers (.jamWindowClose g j false) s (fun t => jammed t 3 j)) ∧
        (s.covered y = false → exec (.jamWindowClose g j false) s = .next (s.note g j 5))) ∧
      (s.sheetOn g = none → exec (.jamWindowClose g j leading) s = .next s)) ∧
    (∀ r rest, s.dq 32 = r :: rest →
      (fieldAt r 0 1 = 1 → ∀ sh p e, s.page.sheets.find? (fun x => decide (x.gauge = fieldAt r 1 1)) = some sh → s.pg sh.page = some p → p.mate = none → p.state = pgAdmitted →
        Tbl.get (fun _ => none) s.page.pitches sh.pitch = some e → e.counted = false → Answers .feedFail s (fun t => t.pgState sh.page = pgAbandoned ∧
          (∃ p', t.pg sh.page = some p' ∧ p'.reason % 256 = 0xC) ∧ t.page.skips = satAdd 32 s.page.skips 1 ∧
          Tbl.get (fun _ => 0) t.page.counts 2 = satAdd 32 (Tbl.get (fun _ => 0) s.page.counts 2) 1)) ∧
      (fieldAt r 0 1 = 2 → Answers .pathFault s (fun t => ∃ m, m < 16 ∧ jammed t 5 m))) ∧
    (s.dq 32 = [] → exec .feedFail s = .next s ∧ exec .pathFault s = .next s)

/-- Outside READY and RUN_OUT: enabling an axis with legal PWM settings sets ENABLE, ENABLED and IDLE, with bad ones CFG_ERR and the object refused; of a disabling axis it resumes as a stop; an enabled one is left alone. Disabling one that moves ramps down as DISABLING, with COAST_DIS or at rest goes OFF with STOPPED_EV; a disabled one is left alone. In TINDER, SAFE and OFF, and while the outputs are held, no start does anything. Else a start of a disabled axis sets REFUSED; of an axis that waits for START_N nothing; else the targets are applied, AT_SPEED falls, a moving axis ramps, one in its start sequence goes on, a resting FOC axis without an encoder angle probes, any other begins its ramp with START_DONE_EV; at a limit a start beyond it is one to zero speed, one away clears AT_LIMIT. START_N starts exactly the axes that wait for it. A stop of a moving axis is STOPPING, of one in its sequence turns the bridges off with STOPPED_EV, of any other nothing. (R18, R111, R475, R480, R482, R484, R485, R486, R487, R495, R499) -/
def Obligations.AxisCommands : Prop :=
  ∀ (s : State) (a : Nat), a < 20 → s.eng ≠ engReady → s.eng ≠ engRunOut →
    let p := s.axPhase a; let x := s.axis a; let en := s.axEnable a; let status := axr FOC.AXIS_STATUS STEP.AXIS_STATUS a
    let startDone := fun (t : State) => t.on (axf FOC.INT_STAT_START_DONE_EV STEP.INT_STAT_START_DONE_EV a) = true
    let stopped := fun (t : State) => t.on (axf FOC.INT_STAT_STOPPED_EV STEP.INT_STAT_STOPPED_EV a) = true
    let sp := s.sfld (axf FOC.TARGET_SPEED_SPEED STEP.TARGET_SPEED_SPEED a); let pending := fun (t : State) => t.on (axf FOC.STATUS_DISABLE_PENDING STEP.STATUS_DISABLE_PENDING a)
    let tp := sext 64 (s.pair (axr FOC.TARGET_POS_LO STEP.TARGET_POS_LO a) (axr FOC.TARGET_POS_HI STEP.TARGET_POS_HI a))
    let sequence := p = phProbing ∨ p = phBraking ∨ p = phAligning ∨ p = phOpenLoop; let sensorless := a < 12 ∧ s.encoderAxis a = false
    let moving := p = phRamp ∨ p = phAtTarget ∨ p = phStopping ∨ p = phHold; let resting := p = phIdle ∨ p = phCoast
    let begun := fun (t : State) => t.atSpeed a = false ∧ (sequence → t.axPhase a = p) ∧ (moving → t.axPhase a = phRamp) ∧ (resting → sensorless → t.axPhase a = phProbing) ∧
      (resting → ¬ sensorless → t.axPhase a = phRamp ∧ startDone t)
    let applied := fun (t : State) => (t.axis a).accel = s.fld (axf FOC.ACCEL_RATE STEP.ACCEL_RATE a) ∧ (t.axis a).decel = s.fld (axf FOC.DECEL_RATE STEP.DECEL_RATE a) ∧
      (x.limit = 0 → (t.axis a).speed = sp ∧ (t.axis a).pos = tp)
    (en = true → exec (.axisEnable a) s = .next s) ∧
    (en = false → p = phDisabling → Answers (.axisEnable a) s (fun t => t.axPhase a = phStopping ∧ t.axEnable a = true ∧ pending t = false ∧ t.axes = s.axes)) ∧
    (en = false → p ≠ phDisabling → s.pwmOk a = true → Answers (.axisEnable a) s (fun t => t.axPhase a = phIdle ∧ t.axEnable a = true ∧ t.axEnabled a = true ∧ t.axes = s.axes)) ∧
    (en = false → p ≠ phDisabling → s.pwmOk a = false → Answers (.axisEnable a) s (fun t => OnlyRegs s t [status] ∧ t.axPhase a = p ∧ t.axes = s.axes ∧
      t.on (axf FOC.AXIS_STATUS_CFG_ERR STEP.AXIS_STATUS_CFG_ERR a) = true ∧ Tbl.get (fun _ => false) t.obj.refusals (axIndex a) = true)) ∧
    (en = false → exec (.axisDisable a) s = .next s) ∧
    (en = true → runningPhase p = true → x.ref ≠ 0 → s.on (axf FOC.CFG_COAST_DIS STEP.CFG_COAST_DIS a) = false → Answers (.axisDisable a) s (fun t =>
      t.axPhase a = phDisabling ∧ t.axEnable a = false ∧ pending t = true ∧ t.axis a = { x with declared := none })) ∧
    (en = true → p ≠ phOff → (runningPhase p = false ∨ x.ref = 0 ∨ s.on (axf FOC.CFG_COAST_DIS STEP.CFG_COAST_DIS a) = true) → Answers (.axisDisable a) s (fun t =>
      t.axPhase a = phOff ∧ t.axEnable a = false ∧ t.axEnabled a = false ∧ pending t = false ∧ stopped t)) ∧
    (s.drivesHeld = true → exec (.axisStart a) s = .next s ∧ exec .startNEdge s = .next s) ∧
    (s.drivesHeld = false →
      (s.axStartN a = true → exec (.axisStart a) s = .next s) ∧
      (s.axStartN a = false →
        (en = false ∨ p = phOff ∨ p = phDisabling → Answers (.axisStart a) s (fun t => OnlyRegs s t [status] ∧ t.axPhase a = p ∧ t.axes = s.axes ∧
          t.on (axf FOC.AXIS_STATUS_REFUSED STEP.AXIS_STATUS_REFUSED a) = true ∧ Tbl.get (fun _ => false) t.obj.refusals (axIndex a) = true)) ∧
        (en = true → sequence ∨ moving ∨ resting → Answers (.axisStart a) s (fun t => begun t ∧ applied t ∧ (∀ j, j ≠ a → t.axis j = s.axis j) ∧
          (s.axPosMode a = false → (x.limit = 1 ∧ 0 < sp) ∨ (x.limit = 2 ∧ sp < 0) → (t.axis a).speed = 0 ∧ (t.axis a).limit = x.limit) ∧
          (s.axPosMode a = false → (x.limit = 1 ∧ sp < 0) ∨ (x.limit = 2 ∧ 0 < sp) → (t.axis a).speed = sp ∧ (t.axis a).limit = 0 ∧
            t.on (axf FOC.AXIS_STATUS_AT_LIMIT STEP.AXIS_STATUS_AT_LIMIT a) = false)))) ∧
      Answers .startNEdge s (fun t => (s.axStartN a = false → t.axis a = s.axis a ∧ t.axPhase a = p) ∧
        (s.axStartN a = true → en = true → sequence ∨ moving ∨ resting → begun t ∧ applied t))) ∧
    (p = phRamp ∨ p = phOpenLoop ∨ p = phAtTarget ∨ p = phHold → Answers (.axisStop a) s (fun t => t.axPhase a = phStopping ∧ t.atSpeed a = false ∧
      t.axis a = { x with declared := none } ∧ OnlyRegs s t [status])) ∧
    (p = phProbing ∨ p = phBraking ∨ p = phAligning → en = true → Answers (.axisStop a) s (fun t => t.axPhase a = phCoast ∧ stopped t ∧ t.atSpeed a = false)) ∧
    (p = phOff ∨ p = phIdle ∨ p = phStopping ∨ p = phCoast ∨ p = phDisabling ∨ p = phStalled → exec (.axisStop a) s = .next s)

/-- Outside READY and RUN_OUT: an update stores the currents and the speed and position, measured or from the encoder gauge of an axis that takes its angle there, counts to the fourth, which ramps the reference at the staged rate to AT_TARGET, and drops AT_SPEED outside the tolerance; 10 ms within it sets AT_SPEED. The twelve align pulses find the angle of the largest rise, two more its polarity, then OPEN_LOOP. A probe's second pulse counts and starts alignment, a later probe, braking or the ramp by its speed. An overcurrent, or a time-out of probing or braking, turns the bridges off with its fault. Outside TINDER with the outputs free a bus sample sets BRAKE at CHOP_ON and clears it at CHOP_OFF, trips at TRIP with every axis of the group off, and raises CHOP_FAIL on a rise while braking. A stepper beyond its window stalls; an adaptive one takes a current between HOLD and RUN by its load angle and counts its full steps at the maximum. The end of an acceleration learns its ratio. (R473, R474, R476, R478, R479, R482, R483, R488, R490, R491, R493, R528) -/
def Obligations.AxisEvents : Prop :=
  ∀ (s : State) (a b k speed pos id iq peak len angle code measured : Nat) (theta : Int), s.eng ≠ engReady → s.eng ≠ engRunOut →
    let p := s.axPhase a; let x := s.axis a; let calm := s.eng = engTinder ∧ s.linkUp = false; let axisOnly := fun (t : State) => t = { s with axes := t.axes, freeCtr := t.freeCtr }
    let off := fun (t : State) i => t.axPhase i = if s.axPhase i = phOff then phOff else if s.axEnable i then phCoast else phOff
    let measuredNow := fun (t : State) => t.reg (FOC.SPEED a) = BitVec.ofNat 32 speed ∧ t.pair (FOC.POS_LO a) (FOC.POS_HI a) = pos % 2 ^ 64 ∧
      t.fld (FOC.IDQ_ID a) = id % 2 ^ 16 ∧ t.fld (FOC.IDQ_IQ a) = iq % 2 ^ 16
    (20 ≤ a ∨ p = phOff → exec (.focCurrentUpdate a speed pos id iq) s = .next s) ∧
    (a < 12 → p ≠ phOff → s.encoderAxis a = true → x.updates ≠ 3 → Answers (.focCurrentUpdate a speed pos id iq) s (fun t => let m := (s.encoderMotion a).1
      t.reg (FOC.SPEED a) = BitVec.ofInt 32 m.1 ∧ t.pair (FOC.POS_LO a) (FOC.POS_HI a) = wrap 64 m.2.1 ∧ t.fld (FOC.IDQ_ID a) = id % 2 ^ 16 ∧
      t.fld (FOC.IDQ_IQ a) = iq % 2 ^ 16 ∧ t.axis a = { x with updates := (x.updates + 1) % 4, elec := m.2.2 } ∧ t.axPhase a = p)) ∧
    (12 ≤ a → a < 20 → p ≠ phOff → x.updates ≠ 3 → Answers (.focCurrentUpdate a speed pos id iq) s (fun t => t.axis a = { x with updates := (x.updates + 1) % 4 } ∧
      OnlyRegs s t [STEP.AXIS_STATUS (a - 12)] ∧ t.axPhase a = p)) ∧
    (a < 12 → p ≠ phOff → s.encoderAxis a = false → x.updates ≠ 3 → Answers (.focCurrentUpdate a speed pos id iq) s (fun t => measuredNow t ∧ t.axis a = { x with updates := (x.updates + 1) % 4 } ∧
      t.axPhase a = p ∧ t.atSpeed a = (s.atSpeed a && (s.axPosMode a || decide ((sext 32 speed - x.speed).natAbs ≤ s.fld (FOC.SPEED_TOL_TOL a) * 256))))) ∧
    (a < 12 → p = phRamp → s.encoderAxis a = false → x.updates = 3 → s.axPosMode a = false → s.fld (FOC.JERK_JERK a) = 0 → s.on (FOC.CFG_LIM_EN a) = false → s.on (FOC.AXIS_STATUS_DERATED a) = false →
      s.on (FOC.AXIS_STATUS_ZV_BRAKE a) = false → 0 ≤ x.ref → x.ref < x.speed * 1000000000 → Answers (.focCurrentUpdate a speed pos id iq) s (fun t => measuredNow t ∧
        (t.axis a).ref = min (x.ref + (x.accel : Int) * (4 * s.loopTime a)) (x.speed * 1000000000) ∧ (t.axis a).updates = 0 ∧
        t.axPhase a = if x.speed * 1000000000 ≤ x.ref + (x.accel : Int) * (4 * s.loopTime a) then phAtTarget else phRamp)) ∧
    (a < 20 →
      (p = phRamp ∨ p = phAtTarget → s.axPosMode a = false → s.speedWithin a = true → s.atSpeed a = false → Answers (.atSpeed a) s (fun t => t.atSpeed a = true ∧
        t.on (axf FOC.INT_STAT_AT_SPEED_EV STEP.INT_STAT_AT_SPEED_EV a) = true ∧ t.axes = s.axes)) ∧
      ((p ≠ phRamp ∧ p ≠ phAtTarget) ∨ s.axPosMode a = true ∨ s.speedWithin a = false ∨ s.atSpeed a = true → exec (.atSpeed a) s = .next s) ∧
      (calm → Answers (.overcurrent a) s (fun t => t.faultBit (axCode a) 0 = true ∧ off t a))) ∧
    (a < 12 →
      (calm → p = phProbing ∨ p = phBraking → Answers (.startTimeout a) s (fun t => t.faultBit (axCode a) 1 = true ∧ off t a)) ∧
      (p ≠ phProbing → p ≠ phBraking → exec (.startTimeout a) s = .next s) ∧
      (p ≠ phAligning → exec (.alignPulseEnd a peak len) s = .next s) ∧
      (p = phAligning →
        (x.pulses < 12 → Answers (.alignPulseEnd a peak len) s (fun t => axisOnly t ∧ (t.axis a).pulses = x.pulses + 1 ∧
          (x.best = none ∨ (∃ n p l, x.best = some (n, p, l) ∧ p * max 1 len < peak * l) → (t.axis a).best = some (x.pulses, peak, max 1 len) ∧ (t.axis a).angle = 30 * x.pulses) ∧
          (∀ n p l, x.best = some (n, p, l) → peak * l < p * max 1 len → (t.axis a).best = x.best ∧ (t.axis a).angle = 30 * n))) ∧
        (x.pulses = 12 → Answers (.alignPulseEnd a peak len) s (fun t => axisOnly t ∧ t.axis a = { x with pulses := 13, north := peak })) ∧
        (12 < x.pulses → x.north ≠ peak → Answers (.alignPulseEnd a peak len) s (fun t => t.axPhase a = phOpenLoop ∧
          (t.axis a).angle = (x.angle + if x.north < peak then 180 else 0) % 360 ∧ (t.axis a).ref = 0))) ∧
      (p = phProbing → x.reprobe = false →
        (x.pulses = 0 → Answers (.probePulseEnd a speed angle) s (fun t => axisOnly t ∧ t.axis a = { x with pulses := 1 })) ∧
        (x.pulses ≠ 0 →
          let v := sext 32 speed; let rated := s.fld (FOC.RATED_RATED a); let m := v.natAbs * 100
          let probed := fun (t : State) => t.fld (FOC.PROBE_RESULT_PROBES a) = satAdd 8 (s.fld (FOC.PROBE_RESULT_PROBES a)) 1 ∧ t.fld (FOC.PROBE_RESULT_ANGLE a) = angle % 256 ∧
            (t.axis a).pulses = 0
          (m < rated → Answers (.probePulseEnd a speed angle) s (fun t => probed t ∧ t.axPhase a = phAligning ∧ (t.axis a).ref = 0)) ∧
          (rated ≤ m → m ≤ 5 * rated → Answers (.probePulseEnd a speed angle) s (fun t => probed t ∧ t.axPhase a = phProbing ∧ (t.axis a).reprobe = true)) ∧
          (rated ≤ m → 5 * rated < m → 0 < v → Answers (.probePulseEnd a speed angle) s (fun t => probed t ∧ t.axPhase a = phRamp ∧ (t.axis a).ref = v * 1000000000 ∧
            t.on (FOC.INT_STAT_START_DONE_EV a) = true)) ∧
          (rated ≤ m → 5 * rated < m → v < 0 → Answers (.probePulseEnd a speed angle) s (fun t => probed t ∧ t.axPhase a = phBraking ∧ (t.axis a).ref = v * 1000000000)))) ∧
      (p = phProbing → x.reprobe = true → Answers (.probeRepeat a) s (fun t => axisOnly t ∧ t.axis a = { x with reprobe := false, pulses := 0 }) ∧
        exec (.probePulseEnd a speed angle) s = .next s)) ∧
    (b < 8 →
      let v := code * s.fld (FOC.BUS_GAIN_GAIN b); let was := s.on (FOC.BUS_STATUS_BRAKE b); let held := fun (t : State) => (t.bus b).volts = v
      let trips := s.fld (FOC.BUS_LIMITS_TRIP b) * 65536 ≤ v; let rise := s.fld (FOC.BUS_LIMITS_CHOP_RISE b) * 65536; let busEv := fun (t : State) => t.on (FOC.INT_STAT_BUS_EV b) = true
      let live := s.eng ≠ engTinder ∧ s.eng ≠ engOff ∧ s.tinder.outputsHeld = false
      (trips → calm → Answers (.busVoltageSample b code) s (fun t => held t ∧ t.faultBit (0x200 + b) 5 = true ∧ ∀ i, i ∈ s.groupAxes b → off t i)) ∧
      (¬ trips → live → s.on (FOC.BUS_CFG_CHOP_EN b) = true → was = false → s.fld (FOC.BUS_CHOP_CHOP_ON b) * 65536 ≤ v → 0 < rise → Answers (.busVoltageSample b code) s (fun t =>
        held t ∧ t.on (FOC.BUS_STATUS_BRAKE b) = true ∧ busEv t ∧ (t.bus b).noted = v)) ∧
      (¬ trips → was = true → ¬ live ∨ s.on (FOC.BUS_CFG_CHOP_EN b) = false ∨ v ≤ s.fld (FOC.BUS_CHOP_CHOP_OFF b) * 65536 → Answers (.busVoltageSample b code) s (fun t =>
        held t ∧ t.on (FOC.BUS_STATUS_BRAKE b) = false ∧ busEv t)) ∧
      (¬ trips → was = true → s.on (FOC.BUS_CFG_CHOP_EN b) = true → s.fld (FOC.BUS_CHOP_CHOP_OFF b) * 65536 < v → (s.bus b).noted + rise ≤ v → live → s.eng = engBanked → s.linkUp = false →
        Answers (.busVoltageSample b code) s (fun t => held t ∧ t.faultBit (0x200 + b) 4 = true ∧ t.on (FOC.BUS_STATUS_CHOP_FAILED b) = true))) ∧
    (k < 8 → s.axPhase (12 + k) ≠ phOff →
      let scale := s.fld (STEP.FB_SCALE_SCALE k); let fb := s.on (STEP.FB_CFG_FB_EN k); let adaptive := s.fld (STEP.CFG_CUR_MODE k) = 1
      let num := (s.axPos (12 + k) * scale - sext 64 (s.gauge (s.fld (STEP.FB_CFG_GAUGE k))).value * 65536) * 2 ^ min 8 (s.fld (STEP.CFG_MICRO_LOG2 k))
      let beyond := s.fld (STEP.FB_CFG_DEV_WINDOW k) * (65536 * scale) < num.natAbs; let lo : Int := s.fld (STEP.ADAPT_THETA_LO k); let hi : Int := s.fld (STEP.ADAPT_THETA_HI k)
      let full := s.fld (STEP.CURRENT_RUN k) = s.fld (STEP.CURRENT_HOLD k) ∨ (if lo < hi then hi ≤ theta else theta ≤ hi)
      let n := satAdd 24 (s.fld (STEP.LOAD_AT_MAX k)) 1; let run := s.fld (STEP.CURRENT_RUN k); let hold := s.fld (STEP.CURRENT_HOLD k)
      (¬ adaptive → fb = false → exec (.stepperFullStep k theta) s = .next s) ∧
      (¬ adaptive → fb = true → scale ≠ 0 → beyond → Answers (.stepperFullStep k theta) s (fun t => t.axPhase (12 + k) = phStalled ∧ t.faultBit (0x210 + k) 1 = true ∧
        t.reg (STEP.SPEED k) = 0 ∧ (t.axis (12 + k)).ref = 0)) ∧
      (¬ adaptive → fb = true → scale ≠ 0 → ¬ beyond → Answers (.stepperFullStep k theta) s (fun t => OnlyRegs s t [STEP.DEVIATION k] ∧ t.axes = s.axes)) ∧
      (adaptive → lo ≠ hi ∨ s.fld (STEP.CURRENT_RUN k) = s.fld (STEP.CURRENT_HOLD k) → Answers (.stepperFullStep k theta) s (fun t => t.fld (STEP.LOAD_LOAD_ANGLE k) = wrap 8 theta ∧ (full → t.fld (STEP.LOAD_AT_MAX k) = n) ∧
        t.axis (12 + k) = { s.axis (12 + k) with cur := (t.axis (12 + k)).cur } ∧ (full → (t.axis (12 + k)).cur = run) ∧ min hold run ≤ (t.axis (12 + k)).cur ∧
        (t.axis (12 + k)).cur ≤ max hold run ∧
        (¬ full → t.fld (STEP.LOAD_AT_MAX k) = 0) ∧ (full → n = max 1 (s.fld (STEP.ADAPT_MAX_STEPS k)) → t.on (STEP.INT_STAT_MAX_CURRENT_EV k) = true))) ∧
      (adaptive → Answers (.stepperFullStep k theta) s (fun t => t.fld (STEP.LOAD_LOAD_ANGLE k) = wrap 8 theta ∧ ∀ j, j ≠ 12 + k → t.axis j = s.axis j))) ∧
    (x.declared = none → exec (.accelerationEnd a measured) s = .next s) ∧
    (∀ w, x.declared = some w →
      let g := s.axBus a; let total := (pick 20 (fun i => decide (s.axBus i = g))).foldl (fun y i => y + (match (s.axis i).declared with
        | some w => w
        | none => if s.axPhase i = phOff ∨ s.axPhase i = phIdle ∨ s.axPhase i = phCoast then 0 else s.fld (axf FOC.FORECAST_BASE STEP.FORECAST_BASE i))) 0
      let l := (min 0xFFFF (max 256 (ceilDiv (256 * measured) total)) :: Tbl.get (fun _ => []) s.ratios g).take 10
      total ≠ 0 → g < 8 → Answers (.accelerationEnd a measured) s (fun t => t.axis a = { x with declared := none } ∧ Tbl.get (fun _ => []) t.ratios g = l ∧
        t.fld (CORD.BUS_LEARN_SCALE g) = l.foldl max 256 % 2 ^ 16 ∧ t.fld (CORD.BUS_LEARN_RAMPS g) = min 10 (s.fld (CORD.BUS_LEARN_RAMPS g) + 1) ∧
        (s.fld (CORD.BUS_LEARN_RAMPS g) = 9 → t.on CORD.INT_STAT_LEARNED_EV = true)))

/-- At a gate point a granted lamp of a good phase conducts, after a long dark spell in soft start, and its grant is spent; an ungranted one counts its dark half-cycles; a later point lights the lamps of that soft-start step. The gate-off point takes every HTR of the phase low. A PID update of an enabled zone with a set-point integrates while unclamped and sets U within 0 to U_MAX. A decision adds U to the accumulator of each lamp in an enabled zone; those that reach 65,536 request. On a bad phase nothing is granted; with a BUDGET of 0 every request is; a lone request, while no lamp conducts, is granted exactly where it fits beside the fixed draw, else denied and counted. A grant takes 65,536 off. (R503, R504, R505, R506, R512, R527, R530, R531) -/
def Obligations.LampsAndCord : Prop :=
  ∀ (s : State) (p : Nat), p < 3 →
    let lamps := s.phaseLamps p; let ok := s.phaseOk p = true; let zoned := lamps.filter (fun n => (s.zoneOf n).isSome)
    let want := fun n z => 65536 ≤ (s.lamp n).acc + (s.fld (HEARTH.Z_STATUS_U z) : Int); let wants := fun n => ∃ z, n ∈ zoned ∧ s.zoneOf n = some z ∧ want n z
    let left := fun n z (lit : Bool) => min (131072 : Int) ((s.lamp n).acc + (s.fld (HEARTH.Z_STATUS_U z) : Int)) - if lit then 65536 else 0
    let decided := fun (t : State) n z lit => (t.lamp n).granted = lit ∧ (t.lamp n).acc = left n z lit ∧ t.on (HEARTH.H_STATUS_LAST_DENIED n) =
      (if want n z then !lit else s.on (HEARTH.H_STATUS_LAST_DENIED n)) ∧
      t.fld (HEARTH.H_STATUS_DENIED n) = if want n z ∧ lit = false then satAdd 16 (s.fld (HEARTH.H_STATUS_DENIED n)) 1 else s.fld (HEARTH.H_STATUS_DENIED n)
    let hv := if (List.range 32).any (fun n => s.on (HV.V_STATUS_OUTPUT n)) then s.fld (CORD.P_LOADS_HV_LOAD p) else 0
    let fixed := s.fld (CORD.P_LOADS_FIXED p) + hv + (List.range 8).foldl (fun x b => x + s.busCurrent p b) 0
    Answers (.hearthGateOn p 0) s (fun t => (∀ n, n ∈ lamps →
        let x := s.lamp n; let y := t.lamp n; let lights := x.granted = true ∧ ok
        (t.on (HEARTH.H_STATUS_ON n) = true ↔ lights) ∧ y.granted = false ∧ y.acc = x.acc ∧ (lights → y.gap = 0) ∧
        (¬ lights → y.htr = false ∧ y.soft = 0 ∧ y.gap = min 255 (x.gap + 1)) ∧
        (lights → x.soft = 0 → s.on (HEARTH.H_STATUS_ON n) = false → s.fld (HEARTH.H_CFG_SOFT_GAP n) ≤ x.gap → y.soft = 1 ∧ y.htr = false) ∧
        (lights → x.soft = 0 → (s.on (HEARTH.H_STATUS_ON n) = true ∨ x.gap < s.fld (HEARTH.H_CFG_SOFT_GAP n)) → y.soft = 0 ∧ y.htr = true) ∧
        (lights → 1 ≤ x.soft → x.soft ≤ 7 → y.soft = x.soft + 1 ∧ y.htr = false)) ∧
      (∀ n, n ∉ lamps → t.lamp n = s.lamp n) ∧ t.fld (CORD.P_OVER_LAMPS_ON p) = (List.range 8).countP (fun n => decide (n ∈ lamps ∧ (s.lamp n).granted = true ∧ ok))) ∧
    (∀ i, i ≠ 0 → Answers (.hearthGateOn p i) s (fun t => t = { s with lamps := t.lamps } ∧ ∀ n, t.lamp n =
      if n ∈ lamps ∧ (s.lamp n).soft = i ∧ s.on (HEARTH.H_STATUS_ON n) = true ∧ ok then { s.lamp n with htr := true } else s.lamp n)) ∧
    Answers (.hearthGateOff p) s (fun t => t = { s with lamps := t.lamps } ∧ ∀ n, t.lamp n = if n ∈ lamps then { s.lamp n with htr := false } else s.lamp n) ∧
    (s.eng ≠ engReady → Answers (.zonePidUpdate p) s (fun t => ∀ z, z < 8 → s.zoneOn z = true → s.fld (HEARTH.Z_CFG_REF_PHASE z) = p →
      let sp := s.setPoint z; let now : Int := s.zoneTemp z; let x := s.zone z; let e := (sp : Int) - now; let ki := (s.fld (HEARTH.Z_GAIN1_KI z) : Int) * e
      let d := (s.fld (HEARTH.Z_GAIN2_KD z) : Int) * (now - x.prev); let pr := (s.fld (HEARTH.Z_GAIN1_KP z) : Int) * e; let m : Int := s.fld (HEARTH.Z_GAIN2_U_MAX z)
      let integ := if 0 ≤ pr + x.integ + ki - d ∧ pr + x.integ + ki - d ≤ m then x.integ + ki else x.integ
      (t.zone z).prev = s.zoneTemp z ∧ (sp = 0 → t.fld (HEARTH.Z_STATUS_U z) = 0 ∧ (t.zone z).integ = x.integ) ∧
      (sp ≠ 0 → (t.zone z).integ = integ ∧ (t.fld (HEARTH.Z_STATUS_U z) : Int) = max 0 (min m (pr + integ - d))))) ∧
    (¬ ok → s.budget p = 0 → Answers (.cordDecision p) s (fun t => (∀ n z, n ∈ zoned → s.zoneOf n = some z → decided t n z false) ∧ ∀ n, n ∉ zoned → t.lamp n = s.lamp n)) ∧
    (ok → s.budget p = 0 → Answers (.cordDecision p) s (fun t => (∀ n z, n ∈ zoned → s.zoneOf n = some z → decided t n z (decide (want n z))) ∧
      (∀ n, n ∉ zoned → t.lamp n = s.lamp n) ∧ t.on (CORD.P_OVER_OVERDRAWN p) = false ∧ t.fld (CORD.P_STATUS_GRANTED p) = 0)) ∧
    (ok → s.budget p ≠ 0 → fixed ≤ s.budget p → (∀ n, n ∈ lamps → s.on (HEARTH.H_STATUS_ON n) = false) → ∀ n z, n ∈ zoned → s.zoneOf n = some z → want n z →
      (∀ m, wants m → m = n) → s.lampPriority n ≠ 1 →
        (fixed + s.lampCurrent p n ≤ s.budget p → Answers (.cordDecision p) s (fun t => decided t n z true ∧ t.on (CORD.P_OVER_OVERDRAWN p) = false ∧
          t.fld (CORD.P_STATUS_GRANTED p) = min 0xFFFF (fixed + s.lampCurrent p n))) ∧
        (s.budget p < fixed + s.lampCurrent p n → Answers (.cordDecision p) s (fun t => decided t n z false ∧ t.on CORD.INT_STAT_DENY_EV = true ∧
          t.fld (CORD.P_STATUS_GRANTED p) = min 0xFFFF fixed)))

/-- In TINDER with no ring: a broken enabled input reads 0xFFF, raising SENSOR on a monitor and a thermal trip on a guarded input; a diode reads its temperature, with 0.03 °C for each ohm above 60 in series; a ratio in 16 bits outside 0.02 to 0.98 is a broken input. A rate window with a failing guarded input trips on the lowest, else begins the next. A zone enable is refused while a trip is latched or a lamp is taken, else starts its zone afresh; a disable takes U and its HTR low. A written journal entry lands in slot HEAD under the next sequence number, the header in the other copy, and a trip makes TRIP_SEQ. An acknowledgement is answered by its first reason, or queues its entry. A die sample warns once and raises HOT. With HV on, a window sets the mean and counts the pulses of 250 ns above ARC_THRESH, and raises ARC or OVERVOLT past its limits with the channel unarmed. HV ENABLE arms a good channel with no fault held, and refuses bad AC settings. (R507, R508, R509, R510, R514, R517, R519, R520, R521, R523, R525, R526) -/
def Obligations.HearthAndHv : Prop :=
  ∀ (s : State) (n z k num den rs v code sum : Nat) (spikes : List (Nat × Nat)), s.eng = engTinder → s.linkUp = false →
    let tripped := fun (t : State) kind i => t.on HEARTH.ACK_STATUS_LATCHED = true ∧ t.tinder.trip = true ∧ t.faultBit 0xD 0 = true ∧ t.fld HEARTH.TRIP_INFO_KIND = kind ∧
      t.fld HEARTH.TRIP_INFO_INPUT = i ∧ ∀ m, m < 8 → (t.lamp m).htr = false
    let guarded := fun i => (s.guardedBy i).isSome = true; let live := fun i => s.on (HEARTH.TH_CFG_EN i) = true ∧ s.on (HEARTH.TH_VALUE_BROKEN i) = false
    let top := 16 * (100 * num + 3 * (rs - 60) * den)
    let fast := fun i => ∃ w, (s.therm i).windowStart = some w ∧ w + s.fld (HEARTH.TH_RATE_RISE_MAX i) < s.reading i
    (n < 16 → s.fabric = true →
      (s.on (HEARTH.TH_CFG_EN n) = false → exec (.thSample n ⟨num, den⟩ rs) s = .next s) ∧
      (s.on (HEARTH.TH_CFG_EN n) = true → Answers (.thSample n ⟨num, 0⟩ rs) s (fun t => t.on (HEARTH.TH_VALUE_BROKEN n) = true ∧ t.reading n = 0xFFF ∧
        (¬ guarded n → s.on (HEARTH.TH_VALUE_BROKEN n) = false → t.faultBit 0xD 1 = true) ∧ (guarded n → (s.therm n).bad = false → tripped t 2 n))) ∧
      (s.on (HEARTH.TH_CFG_EN n) = true → s.on (HEARTH.TH_CFG_MODE n) = true → 0 < den → top % (100 * den) = 0 → Answers (.thSample n ⟨num, den⟩ rs) s (fun t =>
        t.on (HEARTH.TH_VALUE_BROKEN n) = false ∧ t.reading n = min 0xFFE (top / (100 * den)) ∧
        (guarded n → (s.therm n).bad = false → s.fld (HEARTH.TH_CFG_TRIP n) ≤ t.reading n → tripped t 1 n))) ∧
      (s.on (HEARTH.TH_CFG_EN n) = true → s.on (HEARTH.TH_CFG_MODE n) = false → 0 < den → 65536 * num % den = 0 → let rho := min 65535 (65536 * num / den)
        Answers (.thSample n ⟨num, den⟩ rs) s (fun t => if 98 * 65536 < 100 * rho ∨ 100 * rho < 2 * 65536 then t.on (HEARTH.TH_VALUE_BROKEN n) = true ∧ t.reading n = 0xFFF
          else t.on (HEARTH.TH_VALUE_BROKEN n) = false ∧ t.reading n ≤ 0xFFE))) ∧
    ((∀ i, i < 16 → s.fld (HEARTH.TH_RATE_NORISE_N i) = 0) →
      ((∀ i, i < 16 → live i → guarded i → ¬ fast i) → Answers .rateWindow s (fun t => t = { s with therms := t.therms } ∧
        ∀ i, i < 16 → (live i → (t.therm i).windowStart = some (s.reading i)) ∧ (¬ live i → (t.therm i).windowStart = none))) ∧
      (∀ i, i < 16 → live i → guarded i → fast i → (∀ j, j < i → ¬ (live j ∧ guarded j ∧ fast j)) → Answers .rateWindow s (fun t => tripped t 3 i ∧
        t.fld HEARTH.TRIP_INFO_TEMP = s.reading i))) ∧
    (z < 8 →
      let refused := fun (t : State) b => Tbl.get (fun _ => false) t.obj.refusals (zoneIndex z) = b
      let taken := ∃ m y, m ∈ s.zoneLamps z ∧ y < 8 ∧ y ≠ z ∧ s.zoneOn y = true ∧ s.fbit (HEARTH.Z_CFG_LAMPS y) m = true
      (s.on HEARTH.ACK_STATUS_LATCHED = true → Answers (.zoneEnable z true) s (fun t => refused t true ∧ t.regs = s.regs ∧ t.zones = s.zones)) ∧
      (s.on HEARTH.ACK_STATUS_LATCHED = false → s.zoneOn z = false → taken → Answers (.zoneEnable z true) s (fun t => refused t true ∧ t.zoneOn z = false ∧
        t.on (HEARTH.Z_CFG_CFG_ERR z) = true)) ∧
      (s.on HEARTH.ACK_STATUS_LATCHED = false → s.zoneOn z = false → ¬ taken → Answers (.zoneEnable z true) s (fun t => refused t false ∧ t.zoneOn z = true ∧
        (t.zone z).integ = 0 ∧ (t.zone z).prev = s.zoneTemp z ∧ ∀ m, m ∈ s.zoneLamps z → (t.lamp m).acc = 8192 * m)) ∧
      Answers (.zoneEnable z false) s (fun t => refused t false ∧ t.zoneOn z = false ∧ t.fld (HEARTH.Z_STATUS_U z) = 0 ∧ ∀ m, m ∈ s.zoneLamps z → (t.lamp m).htr = false)) ∧
    (s.journal.writing = none → exec .journalEntryWritten s = .next s) ∧
    (∀ e h, s.journal.writing = some e → s.header = some h → h.copy < 2 → h.head < 2046 → h.trip < 2 ^ 32 → 0 < h.nextSeq → h.nextSeq + 1 < 2 ^ 32 → Answers .journalEntryWritten s (fun t =>
      let b := e.image h.nextSeq; let l := s.journal.queue
      t.fld HEARTH.JNL_SEQ_SEQ = h.nextSeq ∧ (∀ i, i < b.length → t.mramByte (0x40 + 32 * h.head + i) = b.getD i 0 % 256) ∧
      (e.kind = 2 → t.fld HEARTH.TRIP_SEQ_SEQ = h.nextSeq) ∧ (e.kind ≠ 2 → e.kind ≠ 3 → t.fld HEARTH.TRIP_SEQ_SEQ = h.trip ∧ t.tinder.trip = s.tinder.trip) ∧
      t.journal.lost = 0 ∧ t.journal.writing = l.head? ∧
      (e.kind = 3 → t.fld HEARTH.ACK_STATUS_RESULT = 2 ∧ t.on HEARTH.INT_STAT_ACK_DONE = true ∧
        (h.trip = e.detail → (∀ x, x ∈ l ++ s.journal.held → x.kind ≠ 2) → t.on HEARTH.ACK_STATUS_LATCHED = false ∧ t.tinder.trip = false)))) ∧
    (let busy := v.testBit 0 = false ∨ s.fld HEARTH.ACK_STATUS_RESULT = 1; let key := bits v 20 12 = 0xAC5; let latched := s.on HEARTH.ACK_STATUS_LATCHED = true
      let same := s.fld HEARTH.ACK_SEQ_SEQ = s.fld HEARTH.TRIP_SEQ_SEQ; let hot := ∃ z, z < 8 ∧ s.zoneUsed z = true ∧ s.fld (HEARTH.Z_BAND_REARM z) ≤ s.zoneTemp z
      let result := fun c => Answers (.tripAck v) s (fun t => t.fld HEARTH.ACK_STATUS_RESULT = c ∧ t.on HEARTH.INT_STAT_ACK_DONE = true ∧ t.journal = s.journal)
      (busy → exec (.tripAck v) s = .next s) ∧ (¬ busy → ¬ key → result 6) ∧ (¬ busy → key → ¬ latched → result 5) ∧ (¬ busy → key → latched → ¬ same → result 3) ∧
      (¬ busy → key → latched → same → hot → result 4) ∧
      (¬ busy → key → latched → same → ¬ hot → s.journal.queue.length < 16 → Answers (.tripAck v) s (fun t => t.fld HEARTH.ACK_STATUS_RESULT = 1 ∧
        ∃ e, e.kind = 3 ∧ e.detail = s.fld HEARTH.TRIP_SEQ_SEQ ∧ (e ∈ t.journal.queue ∨ t.journal.writing = some e)))) ∧
    (k < 4 → code < 4096 → Answers (.dieSample k code) s (fun t => t.fld (if k % 2 = 0 then HEARTH.DIE_TEMP_LO (k / 2) else HEARTH.DIE_TEMP_HI (k / 2)) = code ∧
      (s.fld HEARTH.DIE_CFG_DIE_HOT ≤ code → t.faultBit 0xD 2 = true) ∧ (s.fld HEARTH.DIE_CFG_DIE_WARN ≤ code → 
        s.fld (if k % 2 = 0 then HEARTH.DIE_TEMP_LO (k / 2) else HEARTH.DIE_TEMP_HI (k / 2)) < s.fld HEARTH.DIE_CFG_DIE_WARN → t.on HEARTH.INT_STAT_DIE_WARN_EV = true))) ∧
    (n < 32 →
      let pulses := spikes.countP (fun x => decide (s.fld (HV.V_ARC_THRESH n) < x.1) && decide (250 ≤ x.2))
      let recent := ((pulses :: (s.hvc n).pulses).take (max 1 (s.fld (HV.V_ARC_WINDOW n)))).foldl (· + ·) 0
      (s.fabric = true → s.on HV.STATUS_ENABLED = true → sum % 20 = 0 → sum / 20 < 4096 → s.on (HV.V_CFG_LOOP_EN n) = false → s.on (HV.V_CFG_AC_EN n) = false → Answers (.hvWindow n sum spikes) s (fun t =>
        t.fld (HV.V_STATUS_MONITOR n) = sum / 20 ∧ t.fld (HV.V_STATUS_ARCS n) = satAdd 16 (s.fld (HV.V_STATUS_ARCS n)) pulses ∧
        (s.fld (HV.V_ARC_LIMIT n) < recent → t.faultBit 0xE 0 = true ∧ t.on (HV.V_STATUS_ARC_FLT n) = true ∧ (t.hvc n).armed = false) ∧
        (20 * s.fld (HV.V_CFG_MON_MAX n) < sum → t.faultBit 0xE 1 = true ∧ t.on (HV.V_STATUS_OV_FLT n) = true ∧ (t.hvc n).armed = false) ∧
        (recent ≤ s.fld (HV.V_ARC_LIMIT n) → sum ≤ 20 * s.fld (HV.V_CFG_MON_MAX n) → (t.hvc n).armed = (s.hvc n).armed))) ∧
      (s.fabric = false ∨ s.on HV.STATUS_ENABLED = false → exec (.hvWindow n sum spikes) s = .next s) ∧
      (s.hvCfgOk n = true → Answers (.hvEnable n true) s (fun t => t.on (HV.V_CFG_ENABLE n) = true ∧
        ((t.hvc n).armed = true ↔ s.on (HV.V_STATUS_ARC_FLT n) = false ∧ s.on (HV.V_STATUS_OV_FLT n) = false) ∧ t.on (HV.V_STATUS_OUTPUT n) = t.hvLevel n)) ∧
      (s.hvCfgOk n = false → Answers (.hvEnable n true) s (fun t => t.on (HV.V_CFG_ENABLE n) = false ∧ t.on (HV.V_CFG_CFG_ERR n) = true ∧
        t.on (HV.V_STATUS_OUTPUT n) = false)) ∧
      Answers (.hvEnable n false) s (fun t => t.on (HV.V_CFG_ENABLE n) = false ∧ (t.hvc n).armed = false ∧ t.on (HV.V_STATUS_OUTPUT n) = false))

/-- With standby power present, a monitor sample of a good rail sets the rail's WARN bit to 1 where VMn reads below WARN_LO, and STBY_ALERT_N is then low; otherwise it sets it to 0. The WARN bit of every other rail, the state and level of every rail, the enables, the phase, the engine state and the engine's requests, and every page, axis, zone and core keep their values. (R99) -/
def Obligations.WarningChangesNothingElse : Prop :=
  ∀ (s : State) (n vm us : Nat) (pg : Bool), n < 16 → s.tinder.vstby = true → s.rail n = railGood →
    let low := decide (vm < s.fld (TINDER.RAIL_LEVELS_WARN_LO n))
    Answers (.railMonitorSample n vm pg us) s (fun t =>
      t.fbit TINDER.SEQ_STATUS_WARN n = low ∧ (low = true → t.stbyAlertN = false) ∧
      (∀ m, m < 16 → m ≠ n → t.fbit TINDER.SEQ_STATUS_WARN m = s.fbit TINDER.SEQ_STATUS_WARN m) ∧
      (∀ m, m < 16 → t.rail m = s.rail m) ∧ t.tinder.en = s.tinder.en ∧ t.phase = s.phase ∧ t.eng = s.eng ∧ t.engine = s.engine ∧
      t.page = s.page ∧ t.axes = s.axes ∧ t.zones = s.zones ∧ t.cores = s.cores)

/-- Every command, in every state whose BAR0 registers are listed at strictly rising offsets with none at its reset value and whose MRAM partitions are listed at strictly rising addresses with none zero, answers a next state of that form, and so does every step: no command ends in a fault or a refusal, and equal registers and equal MRAM are equal data. The canonical form is the model's; the rules cited lay out the registers and the MRAM. (R26, R27, R109) -/
def Obligations.StepKeepsCanonicalForm : Prop :=
  ∀ s : State, s.regsWf → s.mramWf →
    (∀ c : Instr, ∃ t, exec c s = .next t ∧ t.regsWf ∧ t.mramWf) ∧ ∃ t, step s = .next t ∧ t.regsWf ∧ t.mramWf

/-- After reset the engine is in TINDER, the Ember domain reads count 1, cause 0b01 and VBAT_LOST 1, every register of BAR0 reads its reset value, MRAM reads zero, every core is halted with reason RESET at pc 0 with its registers 0 and its mailbox empty, no object exists, no command waits, and the registers and the MRAM are in canonical form. The register reset of R109 leaves the cores in the same state. (R18, R26, R92, R109, R210, R563) -/
def Obligations.ResetState : Prop :=
  let s := State.reset
  s.eng = engTinder ∧ s.tinder.count = 1 ∧ s.tinder.cause = 1 ∧ s.tinder.vbatLost = true ∧ (∀ a, s.reg a = resetWord a) ∧
  (∀ b, s.mramByte b = 0) ∧ s.pending = [] ∧ s.obj.objs = [] ∧ s.regsWf ∧ s.mramWf ∧
  (∀ t : State, t.registerReset.cores = s.cores) ∧
  ∀ n, n < 34 → let c := s.core n
    c.halted = true ∧ c.haltReason = 0 ∧ c.pc = 0 ∧ (∀ i, c.gr i = 0) ∧ (∀ i, c.pr i = 0) ∧ c.mail = []
end

