-- ==== Sys2Proof/Laws/Tbl.lean ====
section
/-!
SUPPORT. Laws of the sparse tables and of bit fields: what a read finds after a write, and that a write keeps the canonical form.
-/

namespace Sys2Proof

variable {α : Type}

/-! ## Reads after writes -/

theorem Tbl.get_insert (d : Nat → α) (t : Tbl α) (k j : Nat) (v : α) :
    Tbl.get d (Tbl.insert k v t) j = if k = j then v else Tbl.get d t j := by
  induction t with
  | nil => simp [Tbl.insert, Tbl.get]
  | cons p t ih =>
    obtain ⟨a, u⟩ := p
    unfold Tbl.insert
    split
    · simp [Tbl.get]
    · split
      · next h => subst h; by_cases hj : k = j <;> simp [Tbl.get, hj]
      · simp only [Tbl.get, ih]
        by_cases ha : a = j <;> by_cases hk : k = j <;> simp_all

theorem Tbl.get_remove (d : Nat → α) (t : Tbl α) (k j : Nat) :
    Tbl.get d (Tbl.remove k t) j = if k = j then d j else Tbl.get d t j := by
  induction t with
  | nil => simp [Tbl.remove, Tbl.get]
  | cons p t ih =>
    obtain ⟨a, u⟩ := p
    unfold Tbl.remove
    split
    · next h => subst h; rw [ih]; by_cases hj : a = j <;> simp [Tbl.get, hj]
    · simp only [Tbl.get, ih]
      by_cases ha : a = j <;> by_cases hk : k = j <;> simp_all

/-- A read after a write: the written index holds the value, every other index what it held. -/
theorem Tbl.get_put [DecidableEq α] (d : Nat → α) (t : Tbl α) (k j : Nat) (v : α) :
    Tbl.get d (Tbl.put d t k v) j = if k = j then v else Tbl.get d t j := by
  unfold Tbl.put
  split
  · next h => rw [Tbl.get_remove]; split <;> simp_all
  · rw [Tbl.get_insert]

@[simp] theorem Tbl.get_put_same [DecidableEq α] (d : Nat → α) (t : Tbl α) (k : Nat) (v : α) :
    Tbl.get d (Tbl.put d t k v) k = v := by simp [Tbl.get_put]

theorem Tbl.get_put_other [DecidableEq α] (d : Nat → α) (t : Tbl α) {k j : Nat} (v : α) (h : k ≠ j) :
    Tbl.get d (Tbl.put d t k v) j = Tbl.get d t j := by simp [Tbl.get_put, h]

@[simp] theorem Tbl.get_nil (d : Nat → α) (j : Nat) : Tbl.get d [] j = d j := rfl

/-! ## The canonical form -/

theorem Tbl.above_insert {t : Tbl α} {b k : Nat} {v : α} (h : Tbl.above b t = true) (hk : b < k) :
    Tbl.above b (Tbl.insert k v t) = true := by
  induction t with
  | nil => simp [Tbl.insert, Tbl.above, hk]
  | cons p t ih =>
    obtain ⟨a, u⟩ := p
    simp only [Tbl.above, Bool.and_eq_true, decide_eq_true_eq] at h
    unfold Tbl.insert
    split
    · simp [Tbl.above, hk, h]
    · split <;> simp [Tbl.above, hk, h, ih]

theorem Tbl.above_remove {t : Tbl α} {b k : Nat} (h : Tbl.above b t = true) : Tbl.above b (Tbl.remove k t) = true := by
  induction t with
  | nil => rfl
  | cons p t ih =>
    obtain ⟨a, u⟩ := p
    simp only [Tbl.above, Bool.and_eq_true, decide_eq_true_eq] at h
    unfold Tbl.remove
    split <;> simp [Tbl.above, h, ih]

theorem Tbl.above_trans {t : Tbl α} {b c : Nat} (h : Tbl.above c t = true) (hb : b < c) : Tbl.above b t = true := by
  induction t with
  | nil => rfl
  | cons p t ih =>
    obtain ⟨a, u⟩ := p
    simp only [Tbl.above, Bool.and_eq_true, decide_eq_true_eq] at h ⊢
    exact ⟨by omega, ih h.2⟩

theorem Tbl.wf_insert [DecidableEq α] (d : Nat → α) {t : Tbl α} {k : Nat} {v : α} (h : Tbl.wf d t = true) (hv : v ≠ d k) :
    Tbl.wf d (Tbl.insert k v t) = true := by
  induction t with
  | nil => simp [Tbl.insert, Tbl.wf, Tbl.above, hv]
  | cons p t ih =>
    obtain ⟨a, u⟩ := p
    simp only [Tbl.wf, Bool.and_eq_true, decide_eq_true_eq] at h
    unfold Tbl.insert
    split
    · next hk =>
      simp only [Tbl.wf, Tbl.above, Bool.and_eq_true, decide_eq_true_eq]
      exact ⟨⟨⟨hk, Tbl.above_trans h.1.1 hk⟩, hv⟩, ⟨h.1.1, h.1.2⟩, h.2⟩
    · split
      · next hk => subst hk; simp only [Tbl.wf, Bool.and_eq_true, decide_eq_true_eq]; exact ⟨⟨h.1.1, hv⟩, h.2⟩
      · simp only [Tbl.wf, Bool.and_eq_true, decide_eq_true_eq]
        exact ⟨⟨Tbl.above_insert h.1.1 (by omega), h.1.2⟩, ih h.2⟩

theorem Tbl.wf_remove [DecidableEq α] (d : Nat → α) {t : Tbl α} {k : Nat} (h : Tbl.wf d t = true) :
    Tbl.wf d (Tbl.remove k t) = true := by
  induction t with
  | nil => rfl
  | cons p t ih =>
    obtain ⟨a, u⟩ := p
    simp only [Tbl.wf, Bool.and_eq_true, decide_eq_true_eq] at h
    unfold Tbl.remove
    split
    · exact ih h.2
    · simp only [Tbl.wf, Bool.and_eq_true, decide_eq_true_eq]
      exact ⟨⟨Tbl.above_remove h.1.1, h.1.2⟩, ih h.2⟩

/-- A write keeps the canonical form. -/
theorem Tbl.wf_put [DecidableEq α] (d : Nat → α) {t : Tbl α} (k : Nat) (v : α) (h : Tbl.wf d t = true) :
    Tbl.wf d (Tbl.put d t k v) = true := by
  unfold Tbl.put
  split
  · exact Tbl.wf_remove d h
  · next hv => exact Tbl.wf_insert d h hv

@[simp] theorem Tbl.wf_nil [DecidableEq α] (d : Nat → α) : Tbl.wf d [] = true := rfl

/-! ## Bit fields -/

theorem testBit_bits (x lo w i : Nat) : (bits x lo w).testBit i = (decide (i < w) && x.testBit (lo + i)) := by
  simp [bits, Nat.testBit_mod_two_pow, Nat.testBit_shiftRight]

theorem setBits_eq (x lo w v : Nat) : setBits x lo w v = x % 2 ^ lo + 2 ^ lo * (v % 2 ^ w + 2 ^ w * (x >>> (lo + w))) := by
  unfold setBits
  rw [Nat.pow_add]
  ring

theorem testBit_setBits (x lo w v i : Nat) :
    (setBits x lo w v).testBit i = if i < lo then x.testBit i else if i < lo + w then v.testBit (i - lo) else x.testBit i := by
  rw [setBits_eq, Nat.add_comm, Nat.testBit_two_pow_mul_add _ (Nat.mod_lt _ (Nat.two_pow_pos lo)), Nat.testBit_mod_two_pow]
  split
  · simp_all
  · rw [Nat.add_comm (v % 2 ^ w), Nat.testBit_two_pow_mul_add _ (Nat.mod_lt _ (Nat.two_pow_pos w)), Nat.testBit_mod_two_pow,
      Nat.testBit_shiftRight]
    by_cases h : i - lo < w
    · have h2 : i < lo + w := by omega
      simp [h, h2]
    · have h2 : ¬ i < lo + w := by omega
      simp only [h, h2, if_false]
      congr 1
      omega

/-- The field that was stored reads back. -/
theorem bits_setBits_same (x lo w v : Nat) : bits (setBits x lo w v) lo w = v % 2 ^ w := by
  apply Nat.eq_of_testBit_eq
  intro i
  rw [testBit_bits, testBit_setBits, Nat.testBit_mod_two_pow]
  by_cases h : i < w
  · simp [h, show ¬ lo + i < lo by omega, show lo + i - lo = i by omega]
  · simp [h]

/-- A field beside the stored one reads as before. -/
theorem bits_setBits_apart {x lo w v lo' w' : Nat} (h : lo' + w' ≤ lo ∨ lo + w ≤ lo') :
    bits (setBits x lo w v) lo' w' = bits x lo' w' := by
  apply Nat.eq_of_testBit_eq
  intro i
  rw [testBit_bits, testBit_setBits, testBit_bits]
  by_cases h' : i < w'
  · rcases h with h | h
    · simp [show lo' + i < lo by omega]
    · simp [show ¬ lo' + i < lo by omega, show ¬ lo' + i < lo + w by omega]
  · simp [h']

theorem bits_mod {x lo w k : Nat} (h : lo + w ≤ k) : bits (x % 2 ^ k) lo w = bits x lo w := by
  apply Nat.eq_of_testBit_eq
  intro i
  rw [testBit_bits, testBit_bits, Nat.testBit_mod_two_pow]
  by_cases h' : i < w
  · simp [show lo + i < k by omega]
  · simp [h']

theorem bits_lt (x lo w : Nat) : bits x lo w < 2 ^ w := Nat.mod_lt _ (Nat.two_pow_pos w)

@[simp] theorem bits_zero (lo w : Nat) : bits 0 lo w = 0 := by simp [bits]

theorem testBit_withBit (x i j : Nat) (b : Bool) : (withBit x i b).testBit j = if i = j then b else x.testBit j := by
  unfold withBit
  rw [testBit_setBits]
  by_cases h : i = j
  · subst h; cases b <;> simp [bit]
  · by_cases h1 : j < i
    · simp [h, h1]
    · simp [h, h1, show ¬ j < i + 1 by omega]

end Sys2Proof
end

