-- ==== Sys2Proof/Laws/State.lean ====
section
/-!
SUPPORT. One lemma per field and per accessor for each update of the state: what it leaves alone, and what it stores.
-/

namespace Sys2Proof.Machine

/-! ## setReg -/

@[simp] theorem State.setReg_classes_field (s : State) (a : Nat) (w : Word) : (s.setReg a w).classes = s.classes := rfl
@[simp] theorem State.setReg_tinder_field (s : State) (a : Nat) (w : Word) : (s.setReg a w).tinder = s.tinder := rfl
@[simp] theorem State.setReg_engine_field (s : State) (a : Nat) (w : Word) : (s.setReg a w).engine = s.engine := rfl
@[simp] theorem State.setReg_clock_field (s : State) (a : Nat) (w : Word) : (s.setReg a w).clock = s.clock := rfl
@[simp] theorem State.setReg_gc_field (s : State) (a : Nat) (w : Word) : (s.setReg a w).gc = s.gc := rfl
@[simp] theorem State.setReg_cores_field (s : State) (a : Nat) (w : Word) : (s.setReg a w).cores = s.cores := rfl
@[simp] theorem State.setReg_obj_field (s : State) (a : Nat) (w : Word) : (s.setReg a w).obj = s.obj := rfl
@[simp] theorem State.setReg_host_field (s : State) (a : Nat) (w : Word) : (s.setReg a w).host = s.host := rfl
@[simp] theorem State.setReg_dec_field (s : State) (a : Nat) (w : Word) : (s.setReg a w).dec = s.dec := rfl
@[simp] theorem State.setReg_encFor_field (s : State) (a : Nat) (w : Word) : (s.setReg a w).encFor = s.encFor := rfl
@[simp] theorem State.setReg_encJobs_field (s : State) (a : Nat) (w : Word) : (s.setReg a w).encJobs = s.encJobs := rfl
@[simp] theorem State.setReg_dram_field (s : State) (a : Nat) (w : Word) : (s.setReg a w).dram = s.dram := rfl
@[simp] theorem State.setReg_grav_field (s : State) (a : Nat) (w : Word) : (s.setReg a w).grav = s.grav := rfl
@[simp] theorem State.setReg_marks_field (s : State) (a : Nat) (w : Word) : (s.setReg a w).marks = s.marks := rfl
@[simp] theorem State.setReg_calPorts_field (s : State) (a : Nat) (w : Word) : (s.setReg a w).calPorts = s.calPorts := rfl
@[simp] theorem State.setReg_page_field (s : State) (a : Nat) (w : Word) : (s.setReg a w).page = s.page := rfl
@[simp] theorem State.setReg_axes_field (s : State) (a : Nat) (w : Word) : (s.setReg a w).axes = s.axes := rfl
@[simp] theorem State.setReg_buses_field (s : State) (a : Nat) (w : Word) : (s.setReg a w).buses = s.buses := rfl
@[simp] theorem State.setReg_therms_field (s : State) (a : Nat) (w : Word) : (s.setReg a w).therms = s.therms := rfl
@[simp] theorem State.setReg_zones_field (s : State) (a : Nat) (w : Word) : (s.setReg a w).zones = s.zones := rfl
@[simp] theorem State.setReg_lamps_field (s : State) (a : Nat) (w : Word) : (s.setReg a w).lamps = s.lamps := rfl
@[simp] theorem State.setReg_journal_field (s : State) (a : Nat) (w : Word) : (s.setReg a w).journal = s.journal := rfl
@[simp] theorem State.setReg_hv_field (s : State) (a : Nat) (w : Word) : (s.setReg a w).hv = s.hv := rfl
@[simp] theorem State.setReg_ratios_field (s : State) (a : Nat) (w : Word) : (s.setReg a w).ratios = s.ratios := rfl
@[simp] theorem State.setReg_serving_field (s : State) (a : Nat) (w : Word) : (s.setReg a w).serving = s.serving := rfl
@[simp] theorem State.setReg_latched_field (s : State) (a : Nat) (w : Word) : (s.setReg a w).latched = s.latched := rfl
@[simp] theorem State.setReg_reply_field (s : State) (a : Nat) (w : Word) : (s.setReg a w).reply = s.reply := rfl
@[simp] theorem State.setReg_freeCtr_field (s : State) (a : Nat) (w : Word) : (s.setReg a w).freeCtr = s.freeCtr := rfl
@[simp] theorem State.setReg_pending_field (s : State) (a : Nat) (w : Word) : (s.setReg a w).pending = s.pending := rfl
@[simp] theorem State.core_setReg (s : State) (a : Nat) (w : Word) (m : Nat) : (s.setReg a w).core m = s.core m := rfl
@[simp] theorem State.gauge_setReg (s : State) (a : Nat) (w : Word) (m : Nat) : (s.setReg a w).gauge m = s.gauge m := rfl
@[simp] theorem State.entry_setReg (s : State) (a : Nat) (w : Word) (i : Nat) : (s.setReg a w).entry i = s.entry i := rfl
@[simp] theorem State.syn_setReg (s : State) (a : Nat) (w : Word) (j : Nat) : (s.setReg a w).syn j = s.syn j := rfl
@[simp] theorem State.object_setReg (s : State) (a : Nat) (w : Word) (j : Nat) : (s.setReg a w).object j = s.object j := rfl
@[simp] theorem State.station_setReg (s : State) (a : Nat) (w : Word) (j : Nat) : (s.setReg a w).station j = s.station j := rfl
@[simp] theorem State.chan_setReg (s : State) (a : Nat) (w : Word) (j : Nat) : (s.setReg a w).chan j = s.chan j := rfl
@[simp] theorem State.dq_setReg (s : State) (a : Nat) (w : Word) (j : Nat) : (s.setReg a w).dq j = s.dq j := rfl
@[simp] theorem State.mramByte_setReg (s : State) (a : Nat) (w : Word) (b : Nat) : (s.setReg a w).mramByte b = s.mramByte b := rfl
@[simp] theorem State.gv_setReg (s : State) (a : Nat) (w : Word) (j : Nat) : (s.setReg a w).gv j = s.gv j := rfl
@[simp] theorem State.axis_setReg (s : State) (a : Nat) (w : Word) (j : Nat) : (s.setReg a w).axis j = s.axis j := rfl

/-! ## setCore -/

@[simp] theorem State.setCore_regs_field (s : State) (n : Nat) (c : Core) : (s.setCore n c).regs = s.regs := rfl
@[simp] theorem State.setCore_classes_field (s : State) (n : Nat) (c : Core) : (s.setCore n c).classes = s.classes := rfl
@[simp] theorem State.setCore_tinder_field (s : State) (n : Nat) (c : Core) : (s.setCore n c).tinder = s.tinder := rfl
@[simp] theorem State.setCore_engine_field (s : State) (n : Nat) (c : Core) : (s.setCore n c).engine = s.engine := rfl
@[simp] theorem State.setCore_clock_field (s : State) (n : Nat) (c : Core) : (s.setCore n c).clock = s.clock := rfl
@[simp] theorem State.setCore_gc_field (s : State) (n : Nat) (c : Core) : (s.setCore n c).gc = s.gc := rfl
@[simp] theorem State.setCore_obj_field (s : State) (n : Nat) (c : Core) : (s.setCore n c).obj = s.obj := rfl
@[simp] theorem State.setCore_host_field (s : State) (n : Nat) (c : Core) : (s.setCore n c).host = s.host := rfl
@[simp] theorem State.setCore_dec_field (s : State) (n : Nat) (c : Core) : (s.setCore n c).dec = s.dec := rfl
@[simp] theorem State.setCore_encFor_field (s : State) (n : Nat) (c : Core) : (s.setCore n c).encFor = s.encFor := rfl
@[simp] theorem State.setCore_encJobs_field (s : State) (n : Nat) (c : Core) : (s.setCore n c).encJobs = s.encJobs := rfl
@[simp] theorem State.setCore_dram_field (s : State) (n : Nat) (c : Core) : (s.setCore n c).dram = s.dram := rfl
@[simp] theorem State.setCore_grav_field (s : State) (n : Nat) (c : Core) : (s.setCore n c).grav = s.grav := rfl
@[simp] theorem State.setCore_marks_field (s : State) (n : Nat) (c : Core) : (s.setCore n c).marks = s.marks := rfl
@[simp] theorem State.setCore_calPorts_field (s : State) (n : Nat) (c : Core) : (s.setCore n c).calPorts = s.calPorts := rfl
@[simp] theorem State.setCore_page_field (s : State) (n : Nat) (c : Core) : (s.setCore n c).page = s.page := rfl
@[simp] theorem State.setCore_axes_field (s : State) (n : Nat) (c : Core) : (s.setCore n c).axes = s.axes := rfl
@[simp] theorem State.setCore_buses_field (s : State) (n : Nat) (c : Core) : (s.setCore n c).buses = s.buses := rfl
@[simp] theorem State.setCore_therms_field (s : State) (n : Nat) (c : Core) : (s.setCore n c).therms = s.therms := rfl
@[simp] theorem State.setCore_zones_field (s : State) (n : Nat) (c : Core) : (s.setCore n c).zones = s.zones := rfl
@[simp] theorem State.setCore_lamps_field (s : State) (n : Nat) (c : Core) : (s.setCore n c).lamps = s.lamps := rfl
@[simp] theorem State.setCore_journal_field (s : State) (n : Nat) (c : Core) : (s.setCore n c).journal = s.journal := rfl
@[simp] theorem State.setCore_hv_field (s : State) (n : Nat) (c : Core) : (s.setCore n c).hv = s.hv := rfl
@[simp] theorem State.setCore_ratios_field (s : State) (n : Nat) (c : Core) : (s.setCore n c).ratios = s.ratios := rfl
@[simp] theorem State.setCore_serving_field (s : State) (n : Nat) (c : Core) : (s.setCore n c).serving = s.serving := rfl
@[simp] theorem State.setCore_latched_field (s : State) (n : Nat) (c : Core) : (s.setCore n c).latched = s.latched := rfl
@[simp] theorem State.setCore_reply_field (s : State) (n : Nat) (c : Core) : (s.setCore n c).reply = s.reply := rfl
@[simp] theorem State.setCore_freeCtr_field (s : State) (n : Nat) (c : Core) : (s.setCore n c).freeCtr = s.freeCtr := rfl
@[simp] theorem State.setCore_pending_field (s : State) (n : Nat) (c : Core) : (s.setCore n c).pending = s.pending := rfl
@[simp] theorem State.reg_setCore (s : State) (n : Nat) (c : Core) (b : Nat) : (s.setCore n c).reg b = s.reg b := rfl
@[simp] theorem State.fld_setCore (s : State) (n : Nat) (c : Core) (f : Fld) : (s.setCore n c).fld f = s.fld f := rfl
@[simp] theorem State.gauge_setCore (s : State) (n : Nat) (c : Core) (m : Nat) : (s.setCore n c).gauge m = s.gauge m := rfl
@[simp] theorem State.entry_setCore (s : State) (n : Nat) (c : Core) (i : Nat) : (s.setCore n c).entry i = s.entry i := rfl
@[simp] theorem State.syn_setCore (s : State) (n : Nat) (c : Core) (j : Nat) : (s.setCore n c).syn j = s.syn j := rfl
@[simp] theorem State.object_setCore (s : State) (n : Nat) (c : Core) (j : Nat) : (s.setCore n c).object j = s.object j := rfl
@[simp] theorem State.station_setCore (s : State) (n : Nat) (c : Core) (j : Nat) : (s.setCore n c).station j = s.station j := rfl
@[simp] theorem State.chan_setCore (s : State) (n : Nat) (c : Core) (j : Nat) : (s.setCore n c).chan j = s.chan j := rfl
@[simp] theorem State.dq_setCore (s : State) (n : Nat) (c : Core) (j : Nat) : (s.setCore n c).dq j = s.dq j := rfl
@[simp] theorem State.mramByte_setCore (s : State) (n : Nat) (c : Core) (b : Nat) : (s.setCore n c).mramByte b = s.mramByte b := rfl
@[simp] theorem State.gv_setCore (s : State) (n : Nat) (c : Core) (j : Nat) : (s.setCore n c).gv j = s.gv j := rfl
@[simp] theorem State.axis_setCore (s : State) (n : Nat) (c : Core) (j : Nat) : (s.setCore n c).axis j = s.axis j := rfl

/-! ## setTinder -/

@[simp] theorem State.setTinder_regs_field (s : State) (t : Tinder) : (s.setTinder t).regs = s.regs := rfl
@[simp] theorem State.setTinder_classes_field (s : State) (t : Tinder) : (s.setTinder t).classes = s.classes := rfl
@[simp] theorem State.setTinder_engine_field (s : State) (t : Tinder) : (s.setTinder t).engine = s.engine := rfl
@[simp] theorem State.setTinder_clock_field (s : State) (t : Tinder) : (s.setTinder t).clock = s.clock := rfl
@[simp] theorem State.setTinder_gc_field (s : State) (t : Tinder) : (s.setTinder t).gc = s.gc := rfl
@[simp] theorem State.setTinder_cores_field (s : State) (t : Tinder) : (s.setTinder t).cores = s.cores := rfl
@[simp] theorem State.setTinder_obj_field (s : State) (t : Tinder) : (s.setTinder t).obj = s.obj := rfl
@[simp] theorem State.setTinder_host_field (s : State) (t : Tinder) : (s.setTinder t).host = s.host := rfl
@[simp] theorem State.setTinder_dec_field (s : State) (t : Tinder) : (s.setTinder t).dec = s.dec := rfl
@[simp] theorem State.setTinder_encFor_field (s : State) (t : Tinder) : (s.setTinder t).encFor = s.encFor := rfl
@[simp] theorem State.setTinder_encJobs_field (s : State) (t : Tinder) : (s.setTinder t).encJobs = s.encJobs := rfl
@[simp] theorem State.setTinder_dram_field (s : State) (t : Tinder) : (s.setTinder t).dram = s.dram := rfl
@[simp] theorem State.setTinder_grav_field (s : State) (t : Tinder) : (s.setTinder t).grav = s.grav := rfl
@[simp] theorem State.setTinder_marks_field (s : State) (t : Tinder) : (s.setTinder t).marks = s.marks := rfl
@[simp] theorem State.setTinder_calPorts_field (s : State) (t : Tinder) : (s.setTinder t).calPorts = s.calPorts := rfl
@[simp] theorem State.setTinder_page_field (s : State) (t : Tinder) : (s.setTinder t).page = s.page := rfl
@[simp] theorem State.setTinder_axes_field (s : State) (t : Tinder) : (s.setTinder t).axes = s.axes := rfl
@[simp] theorem State.setTinder_buses_field (s : State) (t : Tinder) : (s.setTinder t).buses = s.buses := rfl
@[simp] theorem State.setTinder_therms_field (s : State) (t : Tinder) : (s.setTinder t).therms = s.therms := rfl
@[simp] theorem State.setTinder_zones_field (s : State) (t : Tinder) : (s.setTinder t).zones = s.zones := rfl
@[simp] theorem State.setTinder_lamps_field (s : State) (t : Tinder) : (s.setTinder t).lamps = s.lamps := rfl
@[simp] theorem State.setTinder_journal_field (s : State) (t : Tinder) : (s.setTinder t).journal = s.journal := rfl
@[simp] theorem State.setTinder_hv_field (s : State) (t : Tinder) : (s.setTinder t).hv = s.hv := rfl
@[simp] theorem State.setTinder_ratios_field (s : State) (t : Tinder) : (s.setTinder t).ratios = s.ratios := rfl
@[simp] theorem State.setTinder_serving_field (s : State) (t : Tinder) : (s.setTinder t).serving = s.serving := rfl
@[simp] theorem State.setTinder_latched_field (s : State) (t : Tinder) : (s.setTinder t).latched = s.latched := rfl
@[simp] theorem State.setTinder_reply_field (s : State) (t : Tinder) : (s.setTinder t).reply = s.reply := rfl
@[simp] theorem State.setTinder_freeCtr_field (s : State) (t : Tinder) : (s.setTinder t).freeCtr = s.freeCtr := rfl
@[simp] theorem State.setTinder_pending_field (s : State) (t : Tinder) : (s.setTinder t).pending = s.pending := rfl
@[simp] theorem State.reg_setTinder (s : State) (t : Tinder) (b : Nat) : (s.setTinder t).reg b = s.reg b := rfl
@[simp] theorem State.fld_setTinder (s : State) (t : Tinder) (f : Fld) : (s.setTinder t).fld f = s.fld f := rfl
@[simp] theorem State.core_setTinder (s : State) (t : Tinder) (m : Nat) : (s.setTinder t).core m = s.core m := rfl
@[simp] theorem State.gauge_setTinder (s : State) (t : Tinder) (m : Nat) : (s.setTinder t).gauge m = s.gauge m := rfl
@[simp] theorem State.entry_setTinder (s : State) (t : Tinder) (i : Nat) : (s.setTinder t).entry i = s.entry i := rfl
@[simp] theorem State.syn_setTinder (s : State) (t : Tinder) (j : Nat) : (s.setTinder t).syn j = s.syn j := rfl
@[simp] theorem State.object_setTinder (s : State) (t : Tinder) (j : Nat) : (s.setTinder t).object j = s.object j := rfl
@[simp] theorem State.station_setTinder (s : State) (t : Tinder) (j : Nat) : (s.setTinder t).station j = s.station j := rfl
@[simp] theorem State.chan_setTinder (s : State) (t : Tinder) (j : Nat) : (s.setTinder t).chan j = s.chan j := rfl
@[simp] theorem State.dq_setTinder (s : State) (t : Tinder) (j : Nat) : (s.setTinder t).dq j = s.dq j := rfl
@[simp] theorem State.gv_setTinder (s : State) (t : Tinder) (j : Nat) : (s.setTinder t).gv j = s.gv j := rfl
@[simp] theorem State.axis_setTinder (s : State) (t : Tinder) (j : Nat) : (s.setTinder t).axis j = s.axis j := rfl

/-! ## answer -/

@[simp] theorem State.answer_regs_field (s : State) (l : List Nat) : (s.answer l).regs = s.regs := rfl
@[simp] theorem State.answer_classes_field (s : State) (l : List Nat) : (s.answer l).classes = s.classes := rfl
@[simp] theorem State.answer_tinder_field (s : State) (l : List Nat) : (s.answer l).tinder = s.tinder := rfl
@[simp] theorem State.answer_engine_field (s : State) (l : List Nat) : (s.answer l).engine = s.engine := rfl
@[simp] theorem State.answer_clock_field (s : State) (l : List Nat) : (s.answer l).clock = s.clock := rfl
@[simp] theorem State.answer_gc_field (s : State) (l : List Nat) : (s.answer l).gc = s.gc := rfl
@[simp] theorem State.answer_cores_field (s : State) (l : List Nat) : (s.answer l).cores = s.cores := rfl
@[simp] theorem State.answer_obj_field (s : State) (l : List Nat) : (s.answer l).obj = s.obj := rfl
@[simp] theorem State.answer_host_field (s : State) (l : List Nat) : (s.answer l).host = s.host := rfl
@[simp] theorem State.answer_dec_field (s : State) (l : List Nat) : (s.answer l).dec = s.dec := rfl
@[simp] theorem State.answer_encFor_field (s : State) (l : List Nat) : (s.answer l).encFor = s.encFor := rfl
@[simp] theorem State.answer_encJobs_field (s : State) (l : List Nat) : (s.answer l).encJobs = s.encJobs := rfl
@[simp] theorem State.answer_dram_field (s : State) (l : List Nat) : (s.answer l).dram = s.dram := rfl
@[simp] theorem State.answer_grav_field (s : State) (l : List Nat) : (s.answer l).grav = s.grav := rfl
@[simp] theorem State.answer_marks_field (s : State) (l : List Nat) : (s.answer l).marks = s.marks := rfl
@[simp] theorem State.answer_calPorts_field (s : State) (l : List Nat) : (s.answer l).calPorts = s.calPorts := rfl
@[simp] theorem State.answer_page_field (s : State) (l : List Nat) : (s.answer l).page = s.page := rfl
@[simp] theorem State.answer_axes_field (s : State) (l : List Nat) : (s.answer l).axes = s.axes := rfl
@[simp] theorem State.answer_buses_field (s : State) (l : List Nat) : (s.answer l).buses = s.buses := rfl
@[simp] theorem State.answer_therms_field (s : State) (l : List Nat) : (s.answer l).therms = s.therms := rfl
@[simp] theorem State.answer_zones_field (s : State) (l : List Nat) : (s.answer l).zones = s.zones := rfl
@[simp] theorem State.answer_lamps_field (s : State) (l : List Nat) : (s.answer l).lamps = s.lamps := rfl
@[simp] theorem State.answer_journal_field (s : State) (l : List Nat) : (s.answer l).journal = s.journal := rfl
@[simp] theorem State.answer_hv_field (s : State) (l : List Nat) : (s.answer l).hv = s.hv := rfl
@[simp] theorem State.answer_ratios_field (s : State) (l : List Nat) : (s.answer l).ratios = s.ratios := rfl
@[simp] theorem State.answer_serving_field (s : State) (l : List Nat) : (s.answer l).serving = s.serving := rfl
@[simp] theorem State.answer_latched_field (s : State) (l : List Nat) : (s.answer l).latched = s.latched := rfl
@[simp] theorem State.answer_freeCtr_field (s : State) (l : List Nat) : (s.answer l).freeCtr = s.freeCtr := rfl
@[simp] theorem State.answer_pending_field (s : State) (l : List Nat) : (s.answer l).pending = s.pending := rfl
@[simp] theorem State.reg_answer (s : State) (l : List Nat) (b : Nat) : (s.answer l).reg b = s.reg b := rfl
@[simp] theorem State.fld_answer (s : State) (l : List Nat) (f : Fld) : (s.answer l).fld f = s.fld f := rfl
@[simp] theorem State.core_answer (s : State) (l : List Nat) (m : Nat) : (s.answer l).core m = s.core m := rfl
@[simp] theorem State.gauge_answer (s : State) (l : List Nat) (m : Nat) : (s.answer l).gauge m = s.gauge m := rfl
@[simp] theorem State.entry_answer (s : State) (l : List Nat) (i : Nat) : (s.answer l).entry i = s.entry i := rfl
@[simp] theorem State.syn_answer (s : State) (l : List Nat) (j : Nat) : (s.answer l).syn j = s.syn j := rfl
@[simp] theorem State.object_answer (s : State) (l : List Nat) (j : Nat) : (s.answer l).object j = s.object j := rfl
@[simp] theorem State.station_answer (s : State) (l : List Nat) (j : Nat) : (s.answer l).station j = s.station j := rfl
@[simp] theorem State.chan_answer (s : State) (l : List Nat) (j : Nat) : (s.answer l).chan j = s.chan j := rfl
@[simp] theorem State.dq_answer (s : State) (l : List Nat) (j : Nat) : (s.answer l).dq j = s.dq j := rfl
@[simp] theorem State.mramByte_answer (s : State) (l : List Nat) (b : Nat) : (s.answer l).mramByte b = s.mramByte b := rfl
@[simp] theorem State.gv_answer (s : State) (l : List Nat) (j : Nat) : (s.answer l).gv j = s.gv j := rfl
@[simp] theorem State.axis_answer (s : State) (l : List Nat) (j : Nat) : (s.answer l).axis j = s.axis j := rfl

/-! ## send -/

@[simp] theorem State.send_regs_field (s : State) (x : Sent) : (s.send x).regs = s.regs := rfl
@[simp] theorem State.send_classes_field (s : State) (x : Sent) : (s.send x).classes = s.classes := rfl
@[simp] theorem State.send_tinder_field (s : State) (x : Sent) : (s.send x).tinder = s.tinder := rfl
@[simp] theorem State.send_engine_field (s : State) (x : Sent) : (s.send x).engine = s.engine := rfl
@[simp] theorem State.send_clock_field (s : State) (x : Sent) : (s.send x).clock = s.clock := rfl
@[simp] theorem State.send_gc_field (s : State) (x : Sent) : (s.send x).gc = s.gc := rfl
@[simp] theorem State.send_cores_field (s : State) (x : Sent) : (s.send x).cores = s.cores := rfl
@[simp] theorem State.send_obj_field (s : State) (x : Sent) : (s.send x).obj = s.obj := rfl
@[simp] theorem State.send_dec_field (s : State) (x : Sent) : (s.send x).dec = s.dec := rfl
@[simp] theorem State.send_encFor_field (s : State) (x : Sent) : (s.send x).encFor = s.encFor := rfl
@[simp] theorem State.send_encJobs_field (s : State) (x : Sent) : (s.send x).encJobs = s.encJobs := rfl
@[simp] theorem State.send_dram_field (s : State) (x : Sent) : (s.send x).dram = s.dram := rfl
@[simp] theorem State.send_grav_field (s : State) (x : Sent) : (s.send x).grav = s.grav := rfl
@[simp] theorem State.send_marks_field (s : State) (x : Sent) : (s.send x).marks = s.marks := rfl
@[simp] theorem State.send_calPorts_field (s : State) (x : Sent) : (s.send x).calPorts = s.calPorts := rfl
@[simp] theorem State.send_page_field (s : State) (x : Sent) : (s.send x).page = s.page := rfl
@[simp] theorem State.send_axes_field (s : State) (x : Sent) : (s.send x).axes = s.axes := rfl
@[simp] theorem State.send_buses_field (s : State) (x : Sent) : (s.send x).buses = s.buses := rfl
@[simp] theorem State.send_therms_field (s : State) (x : Sent) : (s.send x).therms = s.therms := rfl
@[simp] theorem State.send_zones_field (s : State) (x : Sent) : (s.send x).zones = s.zones := rfl
@[simp] theorem State.send_lamps_field (s : State) (x : Sent) : (s.send x).lamps = s.lamps := rfl
@[simp] theorem State.send_journal_field (s : State) (x : Sent) : (s.send x).journal = s.journal := rfl
@[simp] theorem State.send_hv_field (s : State) (x : Sent) : (s.send x).hv = s.hv := rfl
@[simp] theorem State.send_ratios_field (s : State) (x : Sent) : (s.send x).ratios = s.ratios := rfl
@[simp] theorem State.send_serving_field (s : State) (x : Sent) : (s.send x).serving = s.serving := rfl
@[simp] theorem State.send_latched_field (s : State) (x : Sent) : (s.send x).latched = s.latched := rfl
@[simp] theorem State.send_reply_field (s : State) (x : Sent) : (s.send x).reply = s.reply := rfl
@[simp] theorem State.send_freeCtr_field (s : State) (x : Sent) : (s.send x).freeCtr = s.freeCtr := rfl
@[simp] theorem State.send_pending_field (s : State) (x : Sent) : (s.send x).pending = s.pending := rfl
@[simp] theorem State.reg_send (s : State) (x : Sent) (b : Nat) : (s.send x).reg b = s.reg b := rfl
@[simp] theorem State.fld_send (s : State) (x : Sent) (f : Fld) : (s.send x).fld f = s.fld f := rfl
@[simp] theorem State.core_send (s : State) (x : Sent) (m : Nat) : (s.send x).core m = s.core m := rfl
@[simp] theorem State.gauge_send (s : State) (x : Sent) (m : Nat) : (s.send x).gauge m = s.gauge m := rfl
@[simp] theorem State.entry_send (s : State) (x : Sent) (i : Nat) : (s.send x).entry i = s.entry i := rfl
@[simp] theorem State.syn_send (s : State) (x : Sent) (j : Nat) : (s.send x).syn j = s.syn j := rfl
@[simp] theorem State.object_send (s : State) (x : Sent) (j : Nat) : (s.send x).object j = s.object j := rfl
@[simp] theorem State.station_send (s : State) (x : Sent) (j : Nat) : (s.send x).station j = s.station j := rfl
@[simp] theorem State.mramByte_send (s : State) (x : Sent) (b : Nat) : (s.send x).mramByte b = s.mramByte b := rfl
@[simp] theorem State.gv_send (s : State) (x : Sent) (j : Nat) : (s.send x).gv j = s.gv j := rfl
@[simp] theorem State.axis_send (s : State) (x : Sent) (j : Nat) : (s.send x).axis j = s.axis j := rfl

/-! ## setGauge -/

@[simp] theorem State.setGauge_regs_field (s : State) (n : Nat) (g : Gauge) : (s.setGauge n g).regs = s.regs := rfl
@[simp] theorem State.setGauge_classes_field (s : State) (n : Nat) (g : Gauge) : (s.setGauge n g).classes = s.classes := rfl
@[simp] theorem State.setGauge_tinder_field (s : State) (n : Nat) (g : Gauge) : (s.setGauge n g).tinder = s.tinder := rfl
@[simp] theorem State.setGauge_engine_field (s : State) (n : Nat) (g : Gauge) : (s.setGauge n g).engine = s.engine := rfl
@[simp] theorem State.setGauge_clock_field (s : State) (n : Nat) (g : Gauge) : (s.setGauge n g).clock = s.clock := rfl
@[simp] theorem State.setGauge_cores_field (s : State) (n : Nat) (g : Gauge) : (s.setGauge n g).cores = s.cores := rfl
@[simp] theorem State.setGauge_obj_field (s : State) (n : Nat) (g : Gauge) : (s.setGauge n g).obj = s.obj := rfl
@[simp] theorem State.setGauge_host_field (s : State) (n : Nat) (g : Gauge) : (s.setGauge n g).host = s.host := rfl
@[simp] theorem State.setGauge_dec_field (s : State) (n : Nat) (g : Gauge) : (s.setGauge n g).dec = s.dec := rfl
@[simp] theorem State.setGauge_encFor_field (s : State) (n : Nat) (g : Gauge) : (s.setGauge n g).encFor = s.encFor := rfl
@[simp] theorem State.setGauge_encJobs_field (s : State) (n : Nat) (g : Gauge) : (s.setGauge n g).encJobs = s.encJobs := rfl
@[simp] theorem State.setGauge_dram_field (s : State) (n : Nat) (g : Gauge) : (s.setGauge n g).dram = s.dram := rfl
@[simp] theorem State.setGauge_grav_field (s : State) (n : Nat) (g : Gauge) : (s.setGauge n g).grav = s.grav := rfl
@[simp] theorem State.setGauge_marks_field (s : State) (n : Nat) (g : Gauge) : (s.setGauge n g).marks = s.marks := rfl
@[simp] theorem State.setGauge_calPorts_field (s : State) (n : Nat) (g : Gauge) : (s.setGauge n g).calPorts = s.calPorts := rfl
@[simp] theorem State.setGauge_page_field (s : State) (n : Nat) (g : Gauge) : (s.setGauge n g).page = s.page := rfl
@[simp] theorem State.setGauge_axes_field (s : State) (n : Nat) (g : Gauge) : (s.setGauge n g).axes = s.axes := rfl
@[simp] theorem State.setGauge_buses_field (s : State) (n : Nat) (g : Gauge) : (s.setGauge n g).buses = s.buses := rfl
@[simp] theorem State.setGauge_therms_field (s : State) (n : Nat) (g : Gauge) : (s.setGauge n g).therms = s.therms := rfl
@[simp] theorem State.setGauge_zones_field (s : State) (n : Nat) (g : Gauge) : (s.setGauge n g).zones = s.zones := rfl
@[simp] theorem State.setGauge_lamps_field (s : State) (n : Nat) (g : Gauge) : (s.setGauge n g).lamps = s.lamps := rfl
@[simp] theorem State.setGauge_journal_field (s : State) (n : Nat) (g : Gauge) : (s.setGauge n g).journal = s.journal := rfl
@[simp] theorem State.setGauge_hv_field (s : State) (n : Nat) (g : Gauge) : (s.setGauge n g).hv = s.hv := rfl
@[simp] theorem State.setGauge_ratios_field (s : State) (n : Nat) (g : Gauge) : (s.setGauge n g).ratios = s.ratios := rfl
@[simp] theorem State.setGauge_serving_field (s : State) (n : Nat) (g : Gauge) : (s.setGauge n g).serving = s.serving := rfl
@[simp] theorem State.setGauge_latched_field (s : State) (n : Nat) (g : Gauge) : (s.setGauge n g).latched = s.latched := rfl
@[simp] theorem State.setGauge_reply_field (s : State) (n : Nat) (g : Gauge) : (s.setGauge n g).reply = s.reply := rfl
@[simp] theorem State.setGauge_freeCtr_field (s : State) (n : Nat) (g : Gauge) : (s.setGauge n g).freeCtr = s.freeCtr := rfl
@[simp] theorem State.setGauge_pending_field (s : State) (n : Nat) (g : Gauge) : (s.setGauge n g).pending = s.pending := rfl
@[simp] theorem State.reg_setGauge (s : State) (n : Nat) (g : Gauge) (b : Nat) : (s.setGauge n g).reg b = s.reg b := rfl
@[simp] theorem State.fld_setGauge (s : State) (n : Nat) (g : Gauge) (f : Fld) : (s.setGauge n g).fld f = s.fld f := rfl
@[simp] theorem State.core_setGauge (s : State) (n : Nat) (g : Gauge) (m : Nat) : (s.setGauge n g).core m = s.core m := rfl
@[simp] theorem State.syn_setGauge (s : State) (n : Nat) (g : Gauge) (j : Nat) : (s.setGauge n g).syn j = s.syn j := rfl
@[simp] theorem State.object_setGauge (s : State) (n : Nat) (g : Gauge) (j : Nat) : (s.setGauge n g).object j = s.object j := rfl
@[simp] theorem State.station_setGauge (s : State) (n : Nat) (g : Gauge) (j : Nat) : (s.setGauge n g).station j = s.station j := rfl
@[simp] theorem State.chan_setGauge (s : State) (n : Nat) (g : Gauge) (j : Nat) : (s.setGauge n g).chan j = s.chan j := rfl
@[simp] theorem State.dq_setGauge (s : State) (n : Nat) (g : Gauge) (j : Nat) : (s.setGauge n g).dq j = s.dq j := rfl
@[simp] theorem State.mramByte_setGauge (s : State) (n : Nat) (g : Gauge) (b : Nat) : (s.setGauge n g).mramByte b = s.mramByte b := rfl
@[simp] theorem State.gv_setGauge (s : State) (n : Nat) (g : Gauge) (j : Nat) : (s.setGauge n g).gv j = s.gv j := rfl
@[simp] theorem State.axis_setGauge (s : State) (n : Nat) (g : Gauge) (j : Nat) : (s.setGauge n g).axis j = s.axis j := rfl

/-! ## setEntry -/

@[simp] theorem State.setEntry_regs_field (s : State) (e : Nat) (x : Option Entry) : (s.setEntry e x).regs = s.regs := rfl
@[simp] theorem State.setEntry_classes_field (s : State) (e : Nat) (x : Option Entry) : (s.setEntry e x).classes = s.classes := rfl
@[simp] theorem State.setEntry_tinder_field (s : State) (e : Nat) (x : Option Entry) : (s.setEntry e x).tinder = s.tinder := rfl
@[simp] theorem State.setEntry_engine_field (s : State) (e : Nat) (x : Option Entry) : (s.setEntry e x).engine = s.engine := rfl
@[simp] theorem State.setEntry_clock_field (s : State) (e : Nat) (x : Option Entry) : (s.setEntry e x).clock = s.clock := rfl
@[simp] theorem State.setEntry_cores_field (s : State) (e : Nat) (x : Option Entry) : (s.setEntry e x).cores = s.cores := rfl
@[simp] theorem State.setEntry_obj_field (s : State) (e : Nat) (x : Option Entry) : (s.setEntry e x).obj = s.obj := rfl
@[simp] theorem State.setEntry_host_field (s : State) (e : Nat) (x : Option Entry) : (s.setEntry e x).host = s.host := rfl
@[simp] theorem State.setEntry_dec_field (s : State) (e : Nat) (x : Option Entry) : (s.setEntry e x).dec = s.dec := rfl
@[simp] theorem State.setEntry_encFor_field (s : State) (e : Nat) (x : Option Entry) : (s.setEntry e x).encFor = s.encFor := rfl
@[simp] theorem State.setEntry_encJobs_field (s : State) (e : Nat) (x : Option Entry) : (s.setEntry e x).encJobs = s.encJobs := rfl
@[simp] theorem State.setEntry_dram_field (s : State) (e : Nat) (x : Option Entry) : (s.setEntry e x).dram = s.dram := rfl
@[simp] theorem State.setEntry_grav_field (s : State) (e : Nat) (x : Option Entry) : (s.setEntry e x).grav = s.grav := rfl
@[simp] theorem State.setEntry_marks_field (s : State) (e : Nat) (x : Option Entry) : (s.setEntry e x).marks = s.marks := rfl
@[simp] theorem State.setEntry_calPorts_field (s : State) (e : Nat) (x : Option Entry) : (s.setEntry e x).calPorts = s.calPorts := rfl
@[simp] theorem State.setEntry_page_field (s : State) (e : Nat) (x : Option Entry) : (s.setEntry e x).page = s.page := rfl
@[simp] theorem State.setEntry_axes_field (s : State) (e : Nat) (x : Option Entry) : (s.setEntry e x).axes = s.axes := rfl
@[simp] theorem State.setEntry_buses_field (s : State) (e : Nat) (x : Option Entry) : (s.setEntry e x).buses = s.buses := rfl
@[simp] theorem State.setEntry_therms_field (s : State) (e : Nat) (x : Option Entry) : (s.setEntry e x).therms = s.therms := rfl
@[simp] theorem State.setEntry_zones_field (s : State) (e : Nat) (x : Option Entry) : (s.setEntry e x).zones = s.zones := rfl
@[simp] theorem State.setEntry_lamps_field (s : State) (e : Nat) (x : Option Entry) : (s.setEntry e x).lamps = s.lamps := rfl
@[simp] theorem State.setEntry_journal_field (s : State) (e : Nat) (x : Option Entry) : (s.setEntry e x).journal = s.journal := rfl
@[simp] theorem State.setEntry_hv_field (s : State) (e : Nat) (x : Option Entry) : (s.setEntry e x).hv = s.hv := rfl
@[simp] theorem State.setEntry_ratios_field (s : State) (e : Nat) (x : Option Entry) : (s.setEntry e x).ratios = s.ratios := rfl
@[simp] theorem State.setEntry_serving_field (s : State) (e : Nat) (x : Option Entry) : (s.setEntry e x).serving = s.serving := rfl
@[simp] theorem State.setEntry_latched_field (s : State) (e : Nat) (x : Option Entry) : (s.setEntry e x).latched = s.latched := rfl
@[simp] theorem State.setEntry_reply_field (s : State) (e : Nat) (x : Option Entry) : (s.setEntry e x).reply = s.reply := rfl
@[simp] theorem State.setEntry_freeCtr_field (s : State) (e : Nat) (x : Option Entry) : (s.setEntry e x).freeCtr = s.freeCtr := rfl
@[simp] theorem State.setEntry_pending_field (s : State) (e : Nat) (x : Option Entry) : (s.setEntry e x).pending = s.pending := rfl
@[simp] theorem State.reg_setEntry (s : State) (e : Nat) (x : Option Entry) (b : Nat) : (s.setEntry e x).reg b = s.reg b := rfl
@[simp] theorem State.fld_setEntry (s : State) (e : Nat) (x : Option Entry) (f : Fld) : (s.setEntry e x).fld f = s.fld f := rfl
@[simp] theorem State.core_setEntry (s : State) (e : Nat) (x : Option Entry) (m : Nat) : (s.setEntry e x).core m = s.core m := rfl
@[simp] theorem State.syn_setEntry (s : State) (e : Nat) (x : Option Entry) (j : Nat) : (s.setEntry e x).syn j = s.syn j := rfl
@[simp] theorem State.object_setEntry (s : State) (e : Nat) (x : Option Entry) (j : Nat) : (s.setEntry e x).object j = s.object j := rfl
@[simp] theorem State.station_setEntry (s : State) (e : Nat) (x : Option Entry) (j : Nat) : (s.setEntry e x).station j = s.station j := rfl
@[simp] theorem State.chan_setEntry (s : State) (e : Nat) (x : Option Entry) (j : Nat) : (s.setEntry e x).chan j = s.chan j := rfl
@[simp] theorem State.dq_setEntry (s : State) (e : Nat) (x : Option Entry) (j : Nat) : (s.setEntry e x).dq j = s.dq j := rfl
@[simp] theorem State.mramByte_setEntry (s : State) (e : Nat) (x : Option Entry) (b : Nat) : (s.setEntry e x).mramByte b = s.mramByte b := rfl
@[simp] theorem State.gv_setEntry (s : State) (e : Nat) (x : Option Entry) (j : Nat) : (s.setEntry e x).gv j = s.gv j := rfl
@[simp] theorem State.axis_setEntry (s : State) (e : Nat) (x : Option Entry) (j : Nat) : (s.setEntry e x).axis j = s.axis j := rfl

/-! ## setObject -/

@[simp] theorem State.setObject_regs_field (s : State) (i : Nat) (o : Option Obj) : (s.setObject i o).regs = s.regs := rfl
@[simp] theorem State.setObject_classes_field (s : State) (i : Nat) (o : Option Obj) : (s.setObject i o).classes = s.classes := rfl
@[simp] theorem State.setObject_tinder_field (s : State) (i : Nat) (o : Option Obj) : (s.setObject i o).tinder = s.tinder := rfl
@[simp] theorem State.setObject_engine_field (s : State) (i : Nat) (o : Option Obj) : (s.setObject i o).engine = s.engine := rfl
@[simp] theorem State.setObject_clock_field (s : State) (i : Nat) (o : Option Obj) : (s.setObject i o).clock = s.clock := rfl
@[simp] theorem State.setObject_gc_field (s : State) (i : Nat) (o : Option Obj) : (s.setObject i o).gc = s.gc := rfl
@[simp] theorem State.setObject_cores_field (s : State) (i : Nat) (o : Option Obj) : (s.setObject i o).cores = s.cores := rfl
@[simp] theorem State.setObject_host_field (s : State) (i : Nat) (o : Option Obj) : (s.setObject i o).host = s.host := rfl
@[simp] theorem State.setObject_dec_field (s : State) (i : Nat) (o : Option Obj) : (s.setObject i o).dec = s.dec := rfl
@[simp] theorem State.setObject_encFor_field (s : State) (i : Nat) (o : Option Obj) : (s.setObject i o).encFor = s.encFor := rfl
@[simp] theorem State.setObject_encJobs_field (s : State) (i : Nat) (o : Option Obj) : (s.setObject i o).encJobs = s.encJobs := rfl
@[simp] theorem State.setObject_dram_field (s : State) (i : Nat) (o : Option Obj) : (s.setObject i o).dram = s.dram := rfl
@[simp] theorem State.setObject_grav_field (s : State) (i : Nat) (o : Option Obj) : (s.setObject i o).grav = s.grav := rfl
@[simp] theorem State.setObject_marks_field (s : State) (i : Nat) (o : Option Obj) : (s.setObject i o).marks = s.marks := rfl
@[simp] theorem State.setObject_calPorts_field (s : State) (i : Nat) (o : Option Obj) : (s.setObject i o).calPorts = s.calPorts := rfl
@[simp] theorem State.setObject_page_field (s : State) (i : Nat) (o : Option Obj) : (s.setObject i o).page = s.page := rfl
@[simp] theorem State.setObject_axes_field (s : State) (i : Nat) (o : Option Obj) : (s.setObject i o).axes = s.axes := rfl
@[simp] theorem State.setObject_buses_field (s : State) (i : Nat) (o : Option Obj) : (s.setObject i o).buses = s.buses := rfl
@[simp] theorem State.setObject_therms_field (s : State) (i : Nat) (o : Option Obj) : (s.setObject i o).therms = s.therms := rfl
@[simp] theorem State.setObject_zones_field (s : State) (i : Nat) (o : Option Obj) : (s.setObject i o).zones = s.zones := rfl
@[simp] theorem State.setObject_lamps_field (s : State) (i : Nat) (o : Option Obj) : (s.setObject i o).lamps = s.lamps := rfl
@[simp] theorem State.setObject_journal_field (s : State) (i : Nat) (o : Option Obj) : (s.setObject i o).journal = s.journal := rfl
@[simp] theorem State.setObject_hv_field (s : State) (i : Nat) (o : Option Obj) : (s.setObject i o).hv = s.hv := rfl
@[simp] theorem State.setObject_ratios_field (s : State) (i : Nat) (o : Option Obj) : (s.setObject i o).ratios = s.ratios := rfl
@[simp] theorem State.setObject_serving_field (s : State) (i : Nat) (o : Option Obj) : (s.setObject i o).serving = s.serving := rfl
@[simp] theorem State.setObject_latched_field (s : State) (i : Nat) (o : Option Obj) : (s.setObject i o).latched = s.latched := rfl
@[simp] theorem State.setObject_reply_field (s : State) (i : Nat) (o : Option Obj) : (s.setObject i o).reply = s.reply := rfl
@[simp] theorem State.setObject_freeCtr_field (s : State) (i : Nat) (o : Option Obj) : (s.setObject i o).freeCtr = s.freeCtr := rfl
@[simp] theorem State.setObject_pending_field (s : State) (i : Nat) (o : Option Obj) : (s.setObject i o).pending = s.pending := rfl
@[simp] theorem State.reg_setObject (s : State) (i : Nat) (o : Option Obj) (b : Nat) : (s.setObject i o).reg b = s.reg b := rfl
@[simp] theorem State.fld_setObject (s : State) (i : Nat) (o : Option Obj) (f : Fld) : (s.setObject i o).fld f = s.fld f := rfl
@[simp] theorem State.core_setObject (s : State) (i : Nat) (o : Option Obj) (m : Nat) : (s.setObject i o).core m = s.core m := rfl
@[simp] theorem State.gauge_setObject (s : State) (i : Nat) (o : Option Obj) (m : Nat) : (s.setObject i o).gauge m = s.gauge m := rfl
@[simp] theorem State.entry_setObject (s : State) (i : Nat) (o : Option Obj) (i2 : Nat) : (s.setObject i o).entry i2 = s.entry i2 := rfl
@[simp] theorem State.syn_setObject (s : State) (i : Nat) (o : Option Obj) (j : Nat) : (s.setObject i o).syn j = s.syn j := rfl
@[simp] theorem State.chan_setObject (s : State) (i : Nat) (o : Option Obj) (j : Nat) : (s.setObject i o).chan j = s.chan j := rfl
@[simp] theorem State.dq_setObject (s : State) (i : Nat) (o : Option Obj) (j : Nat) : (s.setObject i o).dq j = s.dq j := rfl
@[simp] theorem State.mramByte_setObject (s : State) (i : Nat) (o : Option Obj) (b : Nat) : (s.setObject i o).mramByte b = s.mramByte b := rfl
@[simp] theorem State.gv_setObject (s : State) (i : Nat) (o : Option Obj) (j : Nat) : (s.setObject i o).gv j = s.gv j := rfl
@[simp] theorem State.axis_setObject (s : State) (i : Nat) (o : Option Obj) (j : Nat) : (s.setObject i o).axis j = s.axis j := rfl

/-! ## setStation -/

@[simp] theorem State.setStation_regs_field (s : State) (k : Nat) (t : Station) : (s.setStation k t).regs = s.regs := rfl
@[simp] theorem State.setStation_classes_field (s : State) (k : Nat) (t : Station) : (s.setStation k t).classes = s.classes := rfl
@[simp] theorem State.setStation_tinder_field (s : State) (k : Nat) (t : Station) : (s.setStation k t).tinder = s.tinder := rfl
@[simp] theorem State.setStation_engine_field (s : State) (k : Nat) (t : Station) : (s.setStation k t).engine = s.engine := rfl
@[simp] theorem State.setStation_clock_field (s : State) (k : Nat) (t : Station) : (s.setStation k t).clock = s.clock := rfl
@[simp] theorem State.setStation_gc_field (s : State) (k : Nat) (t : Station) : (s.setStation k t).gc = s.gc := rfl
@[simp] theorem State.setStation_cores_field (s : State) (k : Nat) (t : Station) : (s.setStation k t).cores = s.cores := rfl
@[simp] theorem State.setStation_host_field (s : State) (k : Nat) (t : Station) : (s.setStation k t).host = s.host := rfl
@[simp] theorem State.setStation_dec_field (s : State) (k : Nat) (t : Station) : (s.setStation k t).dec = s.dec := rfl
@[simp] theorem State.setStation_encFor_field (s : State) (k : Nat) (t : Station) : (s.setStation k t).encFor = s.encFor := rfl
@[simp] theorem State.setStation_encJobs_field (s : State) (k : Nat) (t : Station) : (s.setStation k t).encJobs = s.encJobs := rfl
@[simp] theorem State.setStation_dram_field (s : State) (k : Nat) (t : Station) : (s.setStation k t).dram = s.dram := rfl
@[simp] theorem State.setStation_grav_field (s : State) (k : Nat) (t : Station) : (s.setStation k t).grav = s.grav := rfl
@[simp] theorem State.setStation_marks_field (s : State) (k : Nat) (t : Station) : (s.setStation k t).marks = s.marks := rfl
@[simp] theorem State.setStation_calPorts_field (s : State) (k : Nat) (t : Station) : (s.setStation k t).calPorts = s.calPorts := rfl
@[simp] theorem State.setStation_page_field (s : State) (k : Nat) (t : Station) : (s.setStation k t).page = s.page := rfl
@[simp] theorem State.setStation_axes_field (s : State) (k : Nat) (t : Station) : (s.setStation k t).axes = s.axes := rfl
@[simp] theorem State.setStation_buses_field (s : State) (k : Nat) (t : Station) : (s.setStation k t).buses = s.buses := rfl
@[simp] theorem State.setStation_therms_field (s : State) (k : Nat) (t : Station) : (s.setStation k t).therms = s.therms := rfl
@[simp] theorem State.setStation_zones_field (s : State) (k : Nat) (t : Station) : (s.setStation k t).zones = s.zones := rfl
@[simp] theorem State.setStation_lamps_field (s : State) (k : Nat) (t : Station) : (s.setStation k t).lamps = s.lamps := rfl
@[simp] theorem State.setStation_journal_field (s : State) (k : Nat) (t : Station) : (s.setStation k t).journal = s.journal := rfl
@[simp] theorem State.setStation_hv_field (s : State) (k : Nat) (t : Station) : (s.setStation k t).hv = s.hv := rfl
@[simp] theorem State.setStation_ratios_field (s : State) (k : Nat) (t : Station) : (s.setStation k t).ratios = s.ratios := rfl
@[simp] theorem State.setStation_serving_field (s : State) (k : Nat) (t : Station) : (s.setStation k t).serving = s.serving := rfl
@[simp] theorem State.setStation_latched_field (s : State) (k : Nat) (t : Station) : (s.setStation k t).latched = s.latched := rfl
@[simp] theorem State.setStation_reply_field (s : State) (k : Nat) (t : Station) : (s.setStation k t).reply = s.reply := rfl
@[simp] theorem State.setStation_freeCtr_field (s : State) (k : Nat) (t : Station) : (s.setStation k t).freeCtr = s.freeCtr := rfl
@[simp] theorem State.setStation_pending_field (s : State) (k : Nat) (t : Station) : (s.setStation k t).pending = s.pending := rfl
@[simp] theorem State.reg_setStation (s : State) (k : Nat) (t : Station) (b : Nat) : (s.setStation k t).reg b = s.reg b := rfl
@[simp] theorem State.fld_setStation (s : State) (k : Nat) (t : Station) (f : Fld) : (s.setStation k t).fld f = s.fld f := rfl
@[simp] theorem State.core_setStation (s : State) (k : Nat) (t : Station) (m : Nat) : (s.setStation k t).core m = s.core m := rfl
@[simp] theorem State.gauge_setStation (s : State) (k : Nat) (t : Station) (m : Nat) : (s.setStation k t).gauge m = s.gauge m := rfl
@[simp] theorem State.entry_setStation (s : State) (k : Nat) (t : Station) (i : Nat) : (s.setStation k t).entry i = s.entry i := rfl
@[simp] theorem State.syn_setStation (s : State) (k : Nat) (t : Station) (j : Nat) : (s.setStation k t).syn j = s.syn j := rfl
@[simp] theorem State.chan_setStation (s : State) (k : Nat) (t : Station) (j : Nat) : (s.setStation k t).chan j = s.chan j := rfl
@[simp] theorem State.dq_setStation (s : State) (k : Nat) (t : Station) (j : Nat) : (s.setStation k t).dq j = s.dq j := rfl
@[simp] theorem State.mramByte_setStation (s : State) (k : Nat) (t : Station) (b : Nat) : (s.setStation k t).mramByte b = s.mramByte b := rfl
@[simp] theorem State.gv_setStation (s : State) (k : Nat) (t : Station) (j : Nat) : (s.setStation k t).gv j = s.gv j := rfl
@[simp] theorem State.axis_setStation (s : State) (k : Nat) (t : Station) (j : Nat) : (s.setStation k t).axis j = s.axis j := rfl

/-! ## setSyn -/

@[simp] theorem State.setSyn_regs_field (s : State) (k : Nat) (y : Syn) : (s.setSyn k y).regs = s.regs := rfl
@[simp] theorem State.setSyn_classes_field (s : State) (k : Nat) (y : Syn) : (s.setSyn k y).classes = s.classes := rfl
@[simp] theorem State.setSyn_tinder_field (s : State) (k : Nat) (y : Syn) : (s.setSyn k y).tinder = s.tinder := rfl
@[simp] theorem State.setSyn_engine_field (s : State) (k : Nat) (y : Syn) : (s.setSyn k y).engine = s.engine := rfl
@[simp] theorem State.setSyn_gc_field (s : State) (k : Nat) (y : Syn) : (s.setSyn k y).gc = s.gc := rfl
@[simp] theorem State.setSyn_cores_field (s : State) (k : Nat) (y : Syn) : (s.setSyn k y).cores = s.cores := rfl
@[simp] theorem State.setSyn_obj_field (s : State) (k : Nat) (y : Syn) : (s.setSyn k y).obj = s.obj := rfl
@[simp] theorem State.setSyn_host_field (s : State) (k : Nat) (y : Syn) : (s.setSyn k y).host = s.host := rfl
@[simp] theorem State.setSyn_dec_field (s : State) (k : Nat) (y : Syn) : (s.setSyn k y).dec = s.dec := rfl
@[simp] theorem State.setSyn_encFor_field (s : State) (k : Nat) (y : Syn) : (s.setSyn k y).encFor = s.encFor := rfl
@[simp] theorem State.setSyn_encJobs_field (s : State) (k : Nat) (y : Syn) : (s.setSyn k y).encJobs = s.encJobs := rfl
@[simp] theorem State.setSyn_dram_field (s : State) (k : Nat) (y : Syn) : (s.setSyn k y).dram = s.dram := rfl
@[simp] theorem State.setSyn_grav_field (s : State) (k : Nat) (y : Syn) : (s.setSyn k y).grav = s.grav := rfl
@[simp] theorem State.setSyn_marks_field (s : State) (k : Nat) (y : Syn) : (s.setSyn k y).marks = s.marks := rfl
@[simp] theorem State.setSyn_calPorts_field (s : State) (k : Nat) (y : Syn) : (s.setSyn k y).calPorts = s.calPorts := rfl
@[simp] theorem State.setSyn_page_field (s : State) (k : Nat) (y : Syn) : (s.setSyn k y).page = s.page := rfl
@[simp] theorem State.setSyn_axes_field (s : State) (k : Nat) (y : Syn) : (s.setSyn k y).axes = s.axes := rfl
@[simp] theorem State.setSyn_buses_field (s : State) (k : Nat) (y : Syn) : (s.setSyn k y).buses = s.buses := rfl
@[simp] theorem State.setSyn_therms_field (s : State) (k : Nat) (y : Syn) : (s.setSyn k y).therms = s.therms := rfl
@[simp] theorem State.setSyn_zones_field (s : State) (k : Nat) (y : Syn) : (s.setSyn k y).zones = s.zones := rfl
@[simp] theorem State.setSyn_lamps_field (s : State) (k : Nat) (y : Syn) : (s.setSyn k y).lamps = s.lamps := rfl
@[simp] theorem State.setSyn_journal_field (s : State) (k : Nat) (y : Syn) : (s.setSyn k y).journal = s.journal := rfl
@[simp] theorem State.setSyn_hv_field (s : State) (k : Nat) (y : Syn) : (s.setSyn k y).hv = s.hv := rfl
@[simp] theorem State.setSyn_ratios_field (s : State) (k : Nat) (y : Syn) : (s.setSyn k y).ratios = s.ratios := rfl
@[simp] theorem State.setSyn_serving_field (s : State) (k : Nat) (y : Syn) : (s.setSyn k y).serving = s.serving := rfl
@[simp] theorem State.setSyn_latched_field (s : State) (k : Nat) (y : Syn) : (s.setSyn k y).latched = s.latched := rfl
@[simp] theorem State.setSyn_reply_field (s : State) (k : Nat) (y : Syn) : (s.setSyn k y).reply = s.reply := rfl
@[simp] theorem State.setSyn_freeCtr_field (s : State) (k : Nat) (y : Syn) : (s.setSyn k y).freeCtr = s.freeCtr := rfl
@[simp] theorem State.setSyn_pending_field (s : State) (k : Nat) (y : Syn) : (s.setSyn k y).pending = s.pending := rfl
@[simp] theorem State.reg_setSyn (s : State) (k : Nat) (y : Syn) (b : Nat) : (s.setSyn k y).reg b = s.reg b := rfl
@[simp] theorem State.fld_setSyn (s : State) (k : Nat) (y : Syn) (f : Fld) : (s.setSyn k y).fld f = s.fld f := rfl
@[simp] theorem State.core_setSyn (s : State) (k : Nat) (y : Syn) (m : Nat) : (s.setSyn k y).core m = s.core m := rfl
@[simp] theorem State.gauge_setSyn (s : State) (k : Nat) (y : Syn) (m : Nat) : (s.setSyn k y).gauge m = s.gauge m := rfl
@[simp] theorem State.entry_setSyn (s : State) (k : Nat) (y : Syn) (i : Nat) : (s.setSyn k y).entry i = s.entry i := rfl
@[simp] theorem State.object_setSyn (s : State) (k : Nat) (y : Syn) (j : Nat) : (s.setSyn k y).object j = s.object j := rfl
@[simp] theorem State.station_setSyn (s : State) (k : Nat) (y : Syn) (j : Nat) : (s.setSyn k y).station j = s.station j := rfl
@[simp] theorem State.chan_setSyn (s : State) (k : Nat) (y : Syn) (j : Nat) : (s.setSyn k y).chan j = s.chan j := rfl
@[simp] theorem State.dq_setSyn (s : State) (k : Nat) (y : Syn) (j : Nat) : (s.setSyn k y).dq j = s.dq j := rfl
@[simp] theorem State.mramByte_setSyn (s : State) (k : Nat) (y : Syn) (b : Nat) : (s.setSyn k y).mramByte b = s.mramByte b := rfl
@[simp] theorem State.gv_setSyn (s : State) (k : Nat) (y : Syn) (j : Nat) : (s.setSyn k y).gv j = s.gv j := rfl
@[simp] theorem State.axis_setSyn (s : State) (k : Nat) (y : Syn) (j : Nat) : (s.setSyn k y).axis j = s.axis j := rfl

/-! ## setChan -/

@[simp] theorem State.setChan_regs_field (s : State) (c : Nat) (x : Chan) : (s.setChan c x).regs = s.regs := rfl
@[simp] theorem State.setChan_classes_field (s : State) (c : Nat) (x : Chan) : (s.setChan c x).classes = s.classes := rfl
@[simp] theorem State.setChan_tinder_field (s : State) (c : Nat) (x : Chan) : (s.setChan c x).tinder = s.tinder := rfl
@[simp] theorem State.setChan_engine_field (s : State) (c : Nat) (x : Chan) : (s.setChan c x).engine = s.engine := rfl
@[simp] theorem State.setChan_clock_field (s : State) (c : Nat) (x : Chan) : (s.setChan c x).clock = s.clock := rfl
@[simp] theorem State.setChan_gc_field (s : State) (c : Nat) (x : Chan) : (s.setChan c x).gc = s.gc := rfl
@[simp] theorem State.setChan_cores_field (s : State) (c : Nat) (x : Chan) : (s.setChan c x).cores = s.cores := rfl
@[simp] theorem State.setChan_obj_field (s : State) (c : Nat) (x : Chan) : (s.setChan c x).obj = s.obj := rfl
@[simp] theorem State.setChan_dec_field (s : State) (c : Nat) (x : Chan) : (s.setChan c x).dec = s.dec := rfl
@[simp] theorem State.setChan_encFor_field (s : State) (c : Nat) (x : Chan) : (s.setChan c x).encFor = s.encFor := rfl
@[simp] theorem State.setChan_encJobs_field (s : State) (c : Nat) (x : Chan) : (s.setChan c x).encJobs = s.encJobs := rfl
@[simp] theorem State.setChan_dram_field (s : State) (c : Nat) (x : Chan) : (s.setChan c x).dram = s.dram := rfl
@[simp] theorem State.setChan_grav_field (s : State) (c : Nat) (x : Chan) : (s.setChan c x).grav = s.grav := rfl
@[simp] theorem State.setChan_marks_field (s : State) (c : Nat) (x : Chan) : (s.setChan c x).marks = s.marks := rfl
@[simp] theorem State.setChan_calPorts_field (s : State) (c : Nat) (x : Chan) : (s.setChan c x).calPorts = s.calPorts := rfl
@[simp] theorem State.setChan_page_field (s : State) (c : Nat) (x : Chan) : (s.setChan c x).page = s.page := rfl
@[simp] theorem State.setChan_axes_field (s : State) (c : Nat) (x : Chan) : (s.setChan c x).axes = s.axes := rfl
@[simp] theorem State.setChan_buses_field (s : State) (c : Nat) (x : Chan) : (s.setChan c x).buses = s.buses := rfl
@[simp] theorem State.setChan_therms_field (s : State) (c : Nat) (x : Chan) : (s.setChan c x).therms = s.therms := rfl
@[simp] theorem State.setChan_zones_field (s : State) (c : Nat) (x : Chan) : (s.setChan c x).zones = s.zones := rfl
@[simp] theorem State.setChan_lamps_field (s : State) (c : Nat) (x : Chan) : (s.setChan c x).lamps = s.lamps := rfl
@[simp] theorem State.setChan_journal_field (s : State) (c : Nat) (x : Chan) : (s.setChan c x).journal = s.journal := rfl
@[simp] theorem State.setChan_hv_field (s : State) (c : Nat) (x : Chan) : (s.setChan c x).hv = s.hv := rfl
@[simp] theorem State.setChan_ratios_field (s : State) (c : Nat) (x : Chan) : (s.setChan c x).ratios = s.ratios := rfl
@[simp] theorem State.setChan_serving_field (s : State) (c : Nat) (x : Chan) : (s.setChan c x).serving = s.serving := rfl
@[simp] theorem State.setChan_latched_field (s : State) (c : Nat) (x : Chan) : (s.setChan c x).latched = s.latched := rfl
@[simp] theorem State.setChan_reply_field (s : State) (c : Nat) (x : Chan) : (s.setChan c x).reply = s.reply := rfl
@[simp] theorem State.setChan_freeCtr_field (s : State) (c : Nat) (x : Chan) : (s.setChan c x).freeCtr = s.freeCtr := rfl
@[simp] theorem State.setChan_pending_field (s : State) (c : Nat) (x : Chan) : (s.setChan c x).pending = s.pending := rfl
@[simp] theorem State.reg_setChan (s : State) (c : Nat) (x : Chan) (b : Nat) : (s.setChan c x).reg b = s.reg b := rfl
@[simp] theorem State.fld_setChan (s : State) (c : Nat) (x : Chan) (f : Fld) : (s.setChan c x).fld f = s.fld f := rfl
@[simp] theorem State.core_setChan (s : State) (c : Nat) (x : Chan) (m : Nat) : (s.setChan c x).core m = s.core m := rfl
@[simp] theorem State.gauge_setChan (s : State) (c : Nat) (x : Chan) (m : Nat) : (s.setChan c x).gauge m = s.gauge m := rfl
@[simp] theorem State.entry_setChan (s : State) (c : Nat) (x : Chan) (i : Nat) : (s.setChan c x).entry i = s.entry i := rfl
@[simp] theorem State.syn_setChan (s : State) (c : Nat) (x : Chan) (j : Nat) : (s.setChan c x).syn j = s.syn j := rfl
@[simp] theorem State.object_setChan (s : State) (c : Nat) (x : Chan) (j : Nat) : (s.setChan c x).object j = s.object j := rfl
@[simp] theorem State.station_setChan (s : State) (c : Nat) (x : Chan) (j : Nat) : (s.setChan c x).station j = s.station j := rfl
@[simp] theorem State.mramByte_setChan (s : State) (c : Nat) (x : Chan) (b : Nat) : (s.setChan c x).mramByte b = s.mramByte b := rfl
@[simp] theorem State.gv_setChan (s : State) (c : Nat) (x : Chan) (j : Nat) : (s.setChan c x).gv j = s.gv j := rfl
@[simp] theorem State.axis_setChan (s : State) (c : Nat) (x : Chan) (j : Nat) : (s.setChan c x).axis j = s.axis j := rfl

/-! ## setDq -/

@[simp] theorem State.setDq_regs_field (s : State) (q : Nat) (l : List Record) : (s.setDq q l).regs = s.regs := rfl
@[simp] theorem State.setDq_classes_field (s : State) (q : Nat) (l : List Record) : (s.setDq q l).classes = s.classes := rfl
@[simp] theorem State.setDq_tinder_field (s : State) (q : Nat) (l : List Record) : (s.setDq q l).tinder = s.tinder := rfl
@[simp] theorem State.setDq_engine_field (s : State) (q : Nat) (l : List Record) : (s.setDq q l).engine = s.engine := rfl
@[simp] theorem State.setDq_clock_field (s : State) (q : Nat) (l : List Record) : (s.setDq q l).clock = s.clock := rfl
@[simp] theorem State.setDq_gc_field (s : State) (q : Nat) (l : List Record) : (s.setDq q l).gc = s.gc := rfl
@[simp] theorem State.setDq_cores_field (s : State) (q : Nat) (l : List Record) : (s.setDq q l).cores = s.cores := rfl
@[simp] theorem State.setDq_obj_field (s : State) (q : Nat) (l : List Record) : (s.setDq q l).obj = s.obj := rfl
@[simp] theorem State.setDq_dec_field (s : State) (q : Nat) (l : List Record) : (s.setDq q l).dec = s.dec := rfl
@[simp] theorem State.setDq_encFor_field (s : State) (q : Nat) (l : List Record) : (s.setDq q l).encFor = s.encFor := rfl
@[simp] theorem State.setDq_encJobs_field (s : State) (q : Nat) (l : List Record) : (s.setDq q l).encJobs = s.encJobs := rfl
@[simp] theorem State.setDq_dram_field (s : State) (q : Nat) (l : List Record) : (s.setDq q l).dram = s.dram := rfl
@[simp] theorem State.setDq_grav_field (s : State) (q : Nat) (l : List Record) : (s.setDq q l).grav = s.grav := rfl
@[simp] theorem State.setDq_marks_field (s : State) (q : Nat) (l : List Record) : (s.setDq q l).marks = s.marks := rfl
@[simp] theorem State.setDq_calPorts_field (s : State) (q : Nat) (l : List Record) : (s.setDq q l).calPorts = s.calPorts := rfl
@[simp] theorem State.setDq_page_field (s : State) (q : Nat) (l : List Record) : (s.setDq q l).page = s.page := rfl
@[simp] theorem State.setDq_axes_field (s : State) (q : Nat) (l : List Record) : (s.setDq q l).axes = s.axes := rfl
@[simp] theorem State.setDq_buses_field (s : State) (q : Nat) (l : List Record) : (s.setDq q l).buses = s.buses := rfl
@[simp] theorem State.setDq_therms_field (s : State) (q : Nat) (l : List Record) : (s.setDq q l).therms = s.therms := rfl
@[simp] theorem State.setDq_zones_field (s : State) (q : Nat) (l : List Record) : (s.setDq q l).zones = s.zones := rfl
@[simp] theorem State.setDq_lamps_field (s : State) (q : Nat) (l : List Record) : (s.setDq q l).lamps = s.lamps := rfl
@[simp] theorem State.setDq_journal_field (s : State) (q : Nat) (l : List Record) : (s.setDq q l).journal = s.journal := rfl
@[simp] theorem State.setDq_hv_field (s : State) (q : Nat) (l : List Record) : (s.setDq q l).hv = s.hv := rfl
@[simp] theorem State.setDq_ratios_field (s : State) (q : Nat) (l : List Record) : (s.setDq q l).ratios = s.ratios := rfl
@[simp] theorem State.setDq_serving_field (s : State) (q : Nat) (l : List Record) : (s.setDq q l).serving = s.serving := rfl
@[simp] theorem State.setDq_latched_field (s : State) (q : Nat) (l : List Record) : (s.setDq q l).latched = s.latched := rfl
@[simp] theorem State.setDq_reply_field (s : State) (q : Nat) (l : List Record) : (s.setDq q l).reply = s.reply := rfl
@[simp] theorem State.setDq_freeCtr_field (s : State) (q : Nat) (l : List Record) : (s.setDq q l).freeCtr = s.freeCtr := rfl
@[simp] theorem State.setDq_pending_field (s : State) (q : Nat) (l : List Record) : (s.setDq q l).pending = s.pending := rfl
@[simp] theorem State.reg_setDq (s : State) (q : Nat) (l : List Record) (b : Nat) : (s.setDq q l).reg b = s.reg b := rfl
@[simp] theorem State.fld_setDq (s : State) (q : Nat) (l : List Record) (f : Fld) : (s.setDq q l).fld f = s.fld f := rfl
@[simp] theorem State.core_setDq (s : State) (q : Nat) (l : List Record) (m : Nat) : (s.setDq q l).core m = s.core m := rfl
@[simp] theorem State.gauge_setDq (s : State) (q : Nat) (l : List Record) (m : Nat) : (s.setDq q l).gauge m = s.gauge m := rfl
@[simp] theorem State.entry_setDq (s : State) (q : Nat) (l : List Record) (i : Nat) : (s.setDq q l).entry i = s.entry i := rfl
@[simp] theorem State.syn_setDq (s : State) (q : Nat) (l : List Record) (j : Nat) : (s.setDq q l).syn j = s.syn j := rfl
@[simp] theorem State.object_setDq (s : State) (q : Nat) (l : List Record) (j : Nat) : (s.setDq q l).object j = s.object j := rfl
@[simp] theorem State.station_setDq (s : State) (q : Nat) (l : List Record) (j : Nat) : (s.setDq q l).station j = s.station j := rfl
@[simp] theorem State.mramByte_setDq (s : State) (q : Nat) (l : List Record) (b : Nat) : (s.setDq q l).mramByte b = s.mramByte b := rfl
@[simp] theorem State.gv_setDq (s : State) (q : Nat) (l : List Record) (j : Nat) : (s.setDq q l).gv j = s.gv j := rfl
@[simp] theorem State.axis_setDq (s : State) (q : Nat) (l : List Record) (j : Nat) : (s.setDq q l).axis j = s.axis j := rfl

/-! ## setGv -/

@[simp] theorem State.setGv_regs_field (s : State) (k : Nat) (g : Grav) : (s.setGv k g).regs = s.regs := rfl
@[simp] theorem State.setGv_classes_field (s : State) (k : Nat) (g : Grav) : (s.setGv k g).classes = s.classes := rfl
@[simp] theorem State.setGv_tinder_field (s : State) (k : Nat) (g : Grav) : (s.setGv k g).tinder = s.tinder := rfl
@[simp] theorem State.setGv_engine_field (s : State) (k : Nat) (g : Grav) : (s.setGv k g).engine = s.engine := rfl
@[simp] theorem State.setGv_clock_field (s : State) (k : Nat) (g : Grav) : (s.setGv k g).clock = s.clock := rfl
@[simp] theorem State.setGv_gc_field (s : State) (k : Nat) (g : Grav) : (s.setGv k g).gc = s.gc := rfl
@[simp] theorem State.setGv_cores_field (s : State) (k : Nat) (g : Grav) : (s.setGv k g).cores = s.cores := rfl
@[simp] theorem State.setGv_obj_field (s : State) (k : Nat) (g : Grav) : (s.setGv k g).obj = s.obj := rfl
@[simp] theorem State.setGv_host_field (s : State) (k : Nat) (g : Grav) : (s.setGv k g).host = s.host := rfl
@[simp] theorem State.setGv_dec_field (s : State) (k : Nat) (g : Grav) : (s.setGv k g).dec = s.dec := rfl
@[simp] theorem State.setGv_encFor_field (s : State) (k : Nat) (g : Grav) : (s.setGv k g).encFor = s.encFor := rfl
@[simp] theorem State.setGv_encJobs_field (s : State) (k : Nat) (g : Grav) : (s.setGv k g).encJobs = s.encJobs := rfl
@[simp] theorem State.setGv_dram_field (s : State) (k : Nat) (g : Grav) : (s.setGv k g).dram = s.dram := rfl
@[simp] theorem State.setGv_marks_field (s : State) (k : Nat) (g : Grav) : (s.setGv k g).marks = s.marks := rfl
@[simp] theorem State.setGv_calPorts_field (s : State) (k : Nat) (g : Grav) : (s.setGv k g).calPorts = s.calPorts := rfl
@[simp] theorem State.setGv_page_field (s : State) (k : Nat) (g : Grav) : (s.setGv k g).page = s.page := rfl
@[simp] theorem State.setGv_axes_field (s : State) (k : Nat) (g : Grav) : (s.setGv k g).axes = s.axes := rfl
@[simp] theorem State.setGv_buses_field (s : State) (k : Nat) (g : Grav) : (s.setGv k g).buses = s.buses := rfl
@[simp] theorem State.setGv_therms_field (s : State) (k : Nat) (g : Grav) : (s.setGv k g).therms = s.therms := rfl
@[simp] theorem State.setGv_zones_field (s : State) (k : Nat) (g : Grav) : (s.setGv k g).zones = s.zones := rfl
@[simp] theorem State.setGv_lamps_field (s : State) (k : Nat) (g : Grav) : (s.setGv k g).lamps = s.lamps := rfl
@[simp] theorem State.setGv_journal_field (s : State) (k : Nat) (g : Grav) : (s.setGv k g).journal = s.journal := rfl
@[simp] theorem State.setGv_hv_field (s : State) (k : Nat) (g : Grav) : (s.setGv k g).hv = s.hv := rfl
@[simp] theorem State.setGv_ratios_field (s : State) (k : Nat) (g : Grav) : (s.setGv k g).ratios = s.ratios := rfl
@[simp] theorem State.setGv_serving_field (s : State) (k : Nat) (g : Grav) : (s.setGv k g).serving = s.serving := rfl
@[simp] theorem State.setGv_latched_field (s : State) (k : Nat) (g : Grav) : (s.setGv k g).latched = s.latched := rfl
@[simp] theorem State.setGv_reply_field (s : State) (k : Nat) (g : Grav) : (s.setGv k g).reply = s.reply := rfl
@[simp] theorem State.setGv_freeCtr_field (s : State) (k : Nat) (g : Grav) : (s.setGv k g).freeCtr = s.freeCtr := rfl
@[simp] theorem State.setGv_pending_field (s : State) (k : Nat) (g : Grav) : (s.setGv k g).pending = s.pending := rfl
@[simp] theorem State.reg_setGv (s : State) (k : Nat) (g : Grav) (b : Nat) : (s.setGv k g).reg b = s.reg b := rfl
@[simp] theorem State.fld_setGv (s : State) (k : Nat) (g : Grav) (f : Fld) : (s.setGv k g).fld f = s.fld f := rfl
@[simp] theorem State.core_setGv (s : State) (k : Nat) (g : Grav) (m : Nat) : (s.setGv k g).core m = s.core m := rfl
@[simp] theorem State.gauge_setGv (s : State) (k : Nat) (g : Grav) (m : Nat) : (s.setGv k g).gauge m = s.gauge m := rfl
@[simp] theorem State.entry_setGv (s : State) (k : Nat) (g : Grav) (i : Nat) : (s.setGv k g).entry i = s.entry i := rfl
@[simp] theorem State.syn_setGv (s : State) (k : Nat) (g : Grav) (j : Nat) : (s.setGv k g).syn j = s.syn j := rfl
@[simp] theorem State.object_setGv (s : State) (k : Nat) (g : Grav) (j : Nat) : (s.setGv k g).object j = s.object j := rfl
@[simp] theorem State.station_setGv (s : State) (k : Nat) (g : Grav) (j : Nat) : (s.setGv k g).station j = s.station j := rfl
@[simp] theorem State.chan_setGv (s : State) (k : Nat) (g : Grav) (j : Nat) : (s.setGv k g).chan j = s.chan j := rfl
@[simp] theorem State.dq_setGv (s : State) (k : Nat) (g : Grav) (j : Nat) : (s.setGv k g).dq j = s.dq j := rfl
@[simp] theorem State.mramByte_setGv (s : State) (k : Nat) (g : Grav) (b : Nat) : (s.setGv k g).mramByte b = s.mramByte b := rfl
@[simp] theorem State.axis_setGv (s : State) (k : Nat) (g : Grav) (j : Nat) : (s.setGv k g).axis j = s.axis j := rfl

/-! ## setAxis -/

@[simp] theorem State.setAxis_regs_field (s : State) (a : Nat) (x : Axis) : (s.setAxis a x).regs = s.regs := rfl
@[simp] theorem State.setAxis_classes_field (s : State) (a : Nat) (x : Axis) : (s.setAxis a x).classes = s.classes := rfl
@[simp] theorem State.setAxis_tinder_field (s : State) (a : Nat) (x : Axis) : (s.setAxis a x).tinder = s.tinder := rfl
@[simp] theorem State.setAxis_engine_field (s : State) (a : Nat) (x : Axis) : (s.setAxis a x).engine = s.engine := rfl
@[simp] theorem State.setAxis_clock_field (s : State) (a : Nat) (x : Axis) : (s.setAxis a x).clock = s.clock := rfl
@[simp] theorem State.setAxis_gc_field (s : State) (a : Nat) (x : Axis) : (s.setAxis a x).gc = s.gc := rfl
@[simp] theorem State.setAxis_cores_field (s : State) (a : Nat) (x : Axis) : (s.setAxis a x).cores = s.cores := rfl
@[simp] theorem State.setAxis_obj_field (s : State) (a : Nat) (x : Axis) : (s.setAxis a x).obj = s.obj := rfl
@[simp] theorem State.setAxis_host_field (s : State) (a : Nat) (x : Axis) : (s.setAxis a x).host = s.host := rfl
@[simp] theorem State.setAxis_dec_field (s : State) (a : Nat) (x : Axis) : (s.setAxis a x).dec = s.dec := rfl
@[simp] theorem State.setAxis_encFor_field (s : State) (a : Nat) (x : Axis) : (s.setAxis a x).encFor = s.encFor := rfl
@[simp] theorem State.setAxis_encJobs_field (s : State) (a : Nat) (x : Axis) : (s.setAxis a x).encJobs = s.encJobs := rfl
@[simp] theorem State.setAxis_dram_field (s : State) (a : Nat) (x : Axis) : (s.setAxis a x).dram = s.dram := rfl
@[simp] theorem State.setAxis_grav_field (s : State) (a : Nat) (x : Axis) : (s.setAxis a x).grav = s.grav := rfl
@[simp] theorem State.setAxis_marks_field (s : State) (a : Nat) (x : Axis) : (s.setAxis a x).marks = s.marks := rfl
@[simp] theorem State.setAxis_calPorts_field (s : State) (a : Nat) (x : Axis) : (s.setAxis a x).calPorts = s.calPorts := rfl
@[simp] theorem State.setAxis_page_field (s : State) (a : Nat) (x : Axis) : (s.setAxis a x).page = s.page := rfl
@[simp] theorem State.setAxis_buses_field (s : State) (a : Nat) (x : Axis) : (s.setAxis a x).buses = s.buses := rfl
@[simp] theorem State.setAxis_therms_field (s : State) (a : Nat) (x : Axis) : (s.setAxis a x).therms = s.therms := rfl
@[simp] theorem State.setAxis_zones_field (s : State) (a : Nat) (x : Axis) : (s.setAxis a x).zones = s.zones := rfl
@[simp] theorem State.setAxis_lamps_field (s : State) (a : Nat) (x : Axis) : (s.setAxis a x).lamps = s.lamps := rfl
@[simp] theorem State.setAxis_journal_field (s : State) (a : Nat) (x : Axis) : (s.setAxis a x).journal = s.journal := rfl
@[simp] theorem State.setAxis_hv_field (s : State) (a : Nat) (x : Axis) : (s.setAxis a x).hv = s.hv := rfl
@[simp] theorem State.setAxis_ratios_field (s : State) (a : Nat) (x : Axis) : (s.setAxis a x).ratios = s.ratios := rfl
@[simp] theorem State.setAxis_serving_field (s : State) (a : Nat) (x : Axis) : (s.setAxis a x).serving = s.serving := rfl
@[simp] theorem State.setAxis_latched_field (s : State) (a : Nat) (x : Axis) : (s.setAxis a x).latched = s.latched := rfl
@[simp] theorem State.setAxis_reply_field (s : State) (a : Nat) (x : Axis) : (s.setAxis a x).reply = s.reply := rfl
@[simp] theorem State.setAxis_freeCtr_field (s : State) (a : Nat) (x : Axis) : (s.setAxis a x).freeCtr = s.freeCtr := rfl
@[simp] theorem State.setAxis_pending_field (s : State) (a : Nat) (x : Axis) : (s.setAxis a x).pending = s.pending := rfl
@[simp] theorem State.reg_setAxis (s : State) (a : Nat) (x : Axis) (b : Nat) : (s.setAxis a x).reg b = s.reg b := rfl
@[simp] theorem State.fld_setAxis (s : State) (a : Nat) (x : Axis) (f : Fld) : (s.setAxis a x).fld f = s.fld f := rfl
@[simp] theorem State.core_setAxis (s : State) (a : Nat) (x : Axis) (m : Nat) : (s.setAxis a x).core m = s.core m := rfl
@[simp] theorem State.gauge_setAxis (s : State) (a : Nat) (x : Axis) (m : Nat) : (s.setAxis a x).gauge m = s.gauge m := rfl
@[simp] theorem State.entry_setAxis (s : State) (a : Nat) (x : Axis) (i : Nat) : (s.setAxis a x).entry i = s.entry i := rfl
@[simp] theorem State.syn_setAxis (s : State) (a : Nat) (x : Axis) (j : Nat) : (s.setAxis a x).syn j = s.syn j := rfl
@[simp] theorem State.object_setAxis (s : State) (a : Nat) (x : Axis) (j : Nat) : (s.setAxis a x).object j = s.object j := rfl
@[simp] theorem State.station_setAxis (s : State) (a : Nat) (x : Axis) (j : Nat) : (s.setAxis a x).station j = s.station j := rfl
@[simp] theorem State.chan_setAxis (s : State) (a : Nat) (x : Axis) (j : Nat) : (s.setAxis a x).chan j = s.chan j := rfl
@[simp] theorem State.dq_setAxis (s : State) (a : Nat) (x : Axis) (j : Nat) : (s.setAxis a x).dq j = s.dq j := rfl
@[simp] theorem State.mramByte_setAxis (s : State) (a : Nat) (x : Axis) (b : Nat) : (s.setAxis a x).mramByte b = s.mramByte b := rfl
@[simp] theorem State.gv_setAxis (s : State) (a : Nat) (x : Axis) (j : Nat) : (s.setAxis a x).gv j = s.gv j := rfl

/-! ## setGclk -/

@[simp] theorem State.setGclk_regs_field (s : State) (k : Nat) (x : Gclk) : (s.setGclk k x).regs = s.regs := rfl
@[simp] theorem State.setGclk_classes_field (s : State) (k : Nat) (x : Gclk) : (s.setGclk k x).classes = s.classes := rfl
@[simp] theorem State.setGclk_tinder_field (s : State) (k : Nat) (x : Gclk) : (s.setGclk k x).tinder = s.tinder := rfl
@[simp] theorem State.setGclk_engine_field (s : State) (k : Nat) (x : Gclk) : (s.setGclk k x).engine = s.engine := rfl
@[simp] theorem State.setGclk_gc_field (s : State) (k : Nat) (x : Gclk) : (s.setGclk k x).gc = s.gc := rfl
@[simp] theorem State.setGclk_cores_field (s : State) (k : Nat) (x : Gclk) : (s.setGclk k x).cores = s.cores := rfl
@[simp] theorem State.setGclk_obj_field (s : State) (k : Nat) (x : Gclk) : (s.setGclk k x).obj = s.obj := rfl
@[simp] theorem State.setGclk_host_field (s : State) (k : Nat) (x : Gclk) : (s.setGclk k x).host = s.host := rfl
@[simp] theorem State.setGclk_dec_field (s : State) (k : Nat) (x : Gclk) : (s.setGclk k x).dec = s.dec := rfl
@[simp] theorem State.setGclk_encFor_field (s : State) (k : Nat) (x : Gclk) : (s.setGclk k x).encFor = s.encFor := rfl
@[simp] theorem State.setGclk_encJobs_field (s : State) (k : Nat) (x : Gclk) : (s.setGclk k x).encJobs = s.encJobs := rfl
@[simp] theorem State.setGclk_dram_field (s : State) (k : Nat) (x : Gclk) : (s.setGclk k x).dram = s.dram := rfl
@[simp] theorem State.setGclk_grav_field (s : State) (k : Nat) (x : Gclk) : (s.setGclk k x).grav = s.grav := rfl
@[simp] theorem State.setGclk_marks_field (s : State) (k : Nat) (x : Gclk) : (s.setGclk k x).marks = s.marks := rfl
@[simp] theorem State.setGclk_calPorts_field (s : State) (k : Nat) (x : Gclk) : (s.setGclk k x).calPorts = s.calPorts := rfl
@[simp] theorem State.setGclk_page_field (s : State) (k : Nat) (x : Gclk) : (s.setGclk k x).page = s.page := rfl
@[simp] theorem State.setGclk_buses_field (s : State) (k : Nat) (x : Gclk) : (s.setGclk k x).buses = s.buses := rfl
@[simp] theorem State.setGclk_therms_field (s : State) (k : Nat) (x : Gclk) : (s.setGclk k x).therms = s.therms := rfl
@[simp] theorem State.setGclk_zones_field (s : State) (k : Nat) (x : Gclk) : (s.setGclk k x).zones = s.zones := rfl
@[simp] theorem State.setGclk_lamps_field (s : State) (k : Nat) (x : Gclk) : (s.setGclk k x).lamps = s.lamps := rfl
@[simp] theorem State.setGclk_journal_field (s : State) (k : Nat) (x : Gclk) : (s.setGclk k x).journal = s.journal := rfl
@[simp] theorem State.setGclk_hv_field (s : State) (k : Nat) (x : Gclk) : (s.setGclk k x).hv = s.hv := rfl
@[simp] theorem State.setGclk_ratios_field (s : State) (k : Nat) (x : Gclk) : (s.setGclk k x).ratios = s.ratios := rfl
@[simp] theorem State.setGclk_serving_field (s : State) (k : Nat) (x : Gclk) : (s.setGclk k x).serving = s.serving := rfl
@[simp] theorem State.setGclk_latched_field (s : State) (k : Nat) (x : Gclk) : (s.setGclk k x).latched = s.latched := rfl
@[simp] theorem State.setGclk_reply_field (s : State) (k : Nat) (x : Gclk) : (s.setGclk k x).reply = s.reply := rfl
@[simp] theorem State.setGclk_freeCtr_field (s : State) (k : Nat) (x : Gclk) : (s.setGclk k x).freeCtr = s.freeCtr := rfl
@[simp] theorem State.setGclk_pending_field (s : State) (k : Nat) (x : Gclk) : (s.setGclk k x).pending = s.pending := rfl
@[simp] theorem State.reg_setGclk (s : State) (k : Nat) (x : Gclk) (b : Nat) : (s.setGclk k x).reg b = s.reg b := rfl
@[simp] theorem State.fld_setGclk (s : State) (k : Nat) (x : Gclk) (f : Fld) : (s.setGclk k x).fld f = s.fld f := rfl
@[simp] theorem State.core_setGclk (s : State) (k : Nat) (x : Gclk) (m : Nat) : (s.setGclk k x).core m = s.core m := rfl
@[simp] theorem State.gauge_setGclk (s : State) (k : Nat) (x : Gclk) (m : Nat) : (s.setGclk k x).gauge m = s.gauge m := rfl
@[simp] theorem State.entry_setGclk (s : State) (k : Nat) (x : Gclk) (i : Nat) : (s.setGclk k x).entry i = s.entry i := rfl
@[simp] theorem State.syn_setGclk (s : State) (k : Nat) (x : Gclk) (j : Nat) : (s.setGclk k x).syn j = s.syn j := rfl
@[simp] theorem State.object_setGclk (s : State) (k : Nat) (x : Gclk) (j : Nat) : (s.setGclk k x).object j = s.object j := rfl
@[simp] theorem State.station_setGclk (s : State) (k : Nat) (x : Gclk) (j : Nat) : (s.setGclk k x).station j = s.station j := rfl
@[simp] theorem State.chan_setGclk (s : State) (k : Nat) (x : Gclk) (j : Nat) : (s.setGclk k x).chan j = s.chan j := rfl
@[simp] theorem State.dq_setGclk (s : State) (k : Nat) (x : Gclk) (j : Nat) : (s.setGclk k x).dq j = s.dq j := rfl
@[simp] theorem State.mramByte_setGclk (s : State) (k : Nat) (x : Gclk) (b : Nat) : (s.setGclk k x).mramByte b = s.mramByte b := rfl
@[simp] theorem State.gv_setGclk (s : State) (k : Nat) (x : Gclk) (j : Nat) : (s.setGclk k x).gv j = s.gv j := rfl
@[simp] theorem State.setGclk_axes_field (s : State) (k : Nat) (x : Gclk) : (s.setGclk k x).axes = s.axes := rfl
@[simp] theorem State.axis_setGclk (s : State) (k : Nat) (x : Gclk) (j : Nat) : (s.setGclk k x).axis j = s.axis j := rfl

/-! ## What is stored -/

theorem State.reg_setReg (s : State) (a b : Nat) (w : Word) : (s.setReg a w).reg b = if a = b then w else s.reg b := Tbl.get_put _ _ _ _ _
@[simp] theorem State.reg_setReg_same (s : State) (a : Nat) (w : Word) : (s.setReg a w).reg a = w := Tbl.get_put_same _ _ _ _
theorem State.core_setCore (s : State) (n m : Nat) (c : Core) : (s.setCore n c).core m = if n = m then c else s.core m := Tbl.get_put _ _ _ _ _
@[simp] theorem State.core_setCore_same (s : State) (n : Nat) (c : Core) : (s.setCore n c).core n = c := Tbl.get_put_same _ _ _ _
theorem State.gauge_setGauge (s : State) (n m : Nat) (g : Gauge) : (s.setGauge n g).gauge m = if n = m then g else s.gauge m := Tbl.get_put _ _ _ _ _
@[simp] theorem State.gauge_setGauge_same (s : State) (n : Nat) (g : Gauge) : (s.setGauge n g).gauge n = g := Tbl.get_put_same _ _ _ _
theorem State.entry_setEntry (s : State) (e i : Nat) (x : Option Entry) : (s.setEntry e x).entry i = if e = i then x else s.entry i := Tbl.get_put _ _ _ _ _
@[simp] theorem State.entry_setEntry_same (s : State) (e : Nat) (x : Option Entry) : (s.setEntry e x).entry e = x := Tbl.get_put_same _ _ _ _
theorem State.object_setObject (s : State) (i j : Nat) (o : Option Obj) : (s.setObject i o).object j = if i = j then o else s.object j := Tbl.get_put _ _ _ _ _
@[simp] theorem State.object_setObject_same (s : State) (i : Nat) (o : Option Obj) : (s.setObject i o).object i = o := Tbl.get_put_same _ _ _ _
theorem State.station_setStation (s : State) (k j : Nat) (t : Station) : (s.setStation k t).station j = if k = j then t else s.station j := Tbl.get_put _ _ _ _ _
@[simp] theorem State.station_setStation_same (s : State) (k : Nat) (t : Station) : (s.setStation k t).station k = t := Tbl.get_put_same _ _ _ _
theorem State.syn_setSyn (s : State) (k j : Nat) (y : Syn) : (s.setSyn k y).syn j = if k = j then y else s.syn j := Tbl.get_put _ _ _ _ _
@[simp] theorem State.syn_setSyn_same (s : State) (k : Nat) (y : Syn) : (s.setSyn k y).syn k = y := Tbl.get_put_same _ _ _ _
theorem State.chan_setChan (s : State) (c j : Nat) (x : Chan) : (s.setChan c x).chan j = if c = j then x else s.chan j := Tbl.get_put _ _ _ _ _
@[simp] theorem State.chan_setChan_same (s : State) (c : Nat) (x : Chan) : (s.setChan c x).chan c = x := Tbl.get_put_same _ _ _ _
theorem State.dq_setDq (s : State) (q j : Nat) (l : List Record) : (s.setDq q l).dq j = if q = j then l else s.dq j := Tbl.get_put _ _ _ _ _
@[simp] theorem State.dq_setDq_same (s : State) (q : Nat) (l : List Record) : (s.setDq q l).dq q = l := Tbl.get_put_same _ _ _ _
theorem State.gv_setGv (s : State) (k j : Nat) (g : Grav) : (s.setGv k g).gv j = if k = j then g else s.gv j := Tbl.get_put _ _ _ _ _
@[simp] theorem State.gv_setGv_same (s : State) (k : Nat) (g : Grav) : (s.setGv k g).gv k = g := Tbl.get_put_same _ _ _ _
theorem State.axis_setAxis (s : State) (a j : Nat) (x : Axis) : (s.setAxis a x).axis j = if a = j then x else s.axis j := Tbl.get_put _ _ _ _ _
@[simp] theorem State.axis_setAxis_same (s : State) (a : Nat) (x : Axis) : (s.setAxis a x).axis a = x := Tbl.get_put_same _ _ _ _
theorem State.gclk_setGclk (s : State) (k j : Nat) (x : Gclk) : (s.setGclk k x).gclk j = if k = j then x else s.gclk j := Tbl.get_put _ _ _ _ _
@[simp] theorem State.gclk_setGclk_same (s : State) (k : Nat) (x : Gclk) : (s.setGclk k x).gclk k = x := Tbl.get_put_same _ _ _ _

end Sys2Proof.Machine
end

