-- ==== Sys2Proof/Laws/Cores.lean ====
section
/-!
SUPPORT. What the shared operations of the cores can do: registers, local memory, cycles, completion and exception entry.
-/

namespace Sys2Proof.Machine

/-! ## Registers -/

/-- g0 reads zero and a write to it is discarded; any other register reads what was written (R190). -/
theorem Core.gr_setG (c : Core) (i j : Nat) (w : Word) :
    (c.setG i w).gr j = if j = 0 then 0 else if i = j then w else c.gr j := by
  unfold Core.setG Core.gr
  by_cases hj : j = 0
  · simp [hj]
  · by_cases hi : i = 0
    · have : ¬ (0 = j) := fun h => hj h.symm
      simp [hi, hj, this]
    · simp [hi, hj, Tbl.get_put]

theorem Core.pr_setP (c : Core) (i j : Nat) (v : DWord) : (c.setP i v).pr j = if i = j then v else c.pr j := by
  simp [Core.pr, Core.setP, Tbl.get_put]

@[simp] theorem Core.setG_pc (c : Core) (i : Nat) (w : Word) : (c.setG i w).pc = c.pc := by unfold Core.setG; split <;> rfl
@[simp] theorem Core.setG_retired (c : Core) (i : Nat) (w : Word) : (c.setG i w).retired = c.retired := by
  unfold Core.setG; split <;> rfl
@[simp] theorem Core.setG_cycle (c : Core) (i : Nat) (w : Word) : (c.setG i w).cycle = c.cycle := by
  unfold Core.setG; split <;> rfl
@[simp] theorem Core.setP_pc (c : Core) (i : Nat) (v : DWord) : (c.setP i v).pc = c.pc := rfl
@[simp] theorem Core.setP_retired (c : Core) (i : Nat) (v : DWord) : (c.setP i v).retired = c.retired := rfl
@[simp] theorem Core.setP_cycle (c : Core) (i : Nat) (v : DWord) : (c.setP i v).cycle = c.cycle := rfl

/-! ## Cycles and completion -/

/-- Spending cycles changes the cores and the counter of free values alone. -/
theorem State.spend_frame (s : State) (n k : Nat) :
    s.spend n k = { s with cores := (s.spend n k).cores, freeCtr := (s.spend n k).freeCtr } := by
  unfold State.spend
  split <;> rfl

theorem State.core_spend_other (s : State) {n m : Nat} (k : Nat) (h : m ≠ n) : (s.spend n k).core m = s.core m := by
  unfold State.spend
  split
  · simp only [State.core_setCore, h.symm, if_false]; rfl
  · simp only [State.core_setCore, h.symm, if_false]

/-- Of the core itself only CYCLE changes. -/
theorem State.core_spend_same (s : State) (n k : Nat) :
    (s.spend n k).core n = { s.core n with cycle := ((s.spend n k).core n).cycle } := by
  unfold State.spend
  split
  · simp only [State.core_setCore, if_true]; rfl
  · simp only [State.core_setCore, if_true]

/-- A Scriber spends exactly `k` cycles (R184). -/
theorem State.spend_cycle (s : State) {n : Nat} (k : Nat) (h : n < 32) :
    ((s.spend n k).core n).cycle = (s.core n).cycle + BitVec.ofNat 64 k := by
  have : isSteward n = false := by simp [isSteward]; omega
  simp [State.spend, this]

/-- Writing a core twice is writing it once, up to what its table reads. -/
theorem State.setCore_frame (s : State) (n : Nat) (c : Core) : s.setCore n c = { s with cores := (s.setCore n c).cores } := rfl

/-- An instruction that may begin and whose pc lies in local memory applies its effect. -/
theorem State.instr_runs {s : State} {n : Nat} (w : Nat) (eff : State → Effect) (h : s.canBegin n = true)
    (hp : (s.core n).pc.toNat < memSize n) : s.instr n w eff = .next (s.apply n w (eff s)) := by
  have : ¬ memSize n ≤ (s.core n).pc.toNat := by omega
  simp [State.instr, State.perform, h, this]

end Sys2Proof.Machine
end

