-- ==== Sys2Proof/Laws/Ops.lean ====
section
/-!
SUPPORT. What the shared register and interrupt operations can do: a field reads back what was stored, a field beside it reads as
before, and an interrupt event touches one register and the host link alone.
-/

namespace Sys2Proof.Machine

/-! ## Fields -/

theorem State.setFld_frame (s : State) (f : Fld) (v : Nat) : s.setFld f v = { s with regs := (s.setFld f v).regs } := rfl

/-- A stored field reads back, cut to its width. -/
theorem State.fld_setFld (s : State) (f : Fld) (v : Nat) (h : f.lo + f.width ≤ 32) :
    (s.setFld f v).fld f = v % 2 ^ f.width := by
  unfold State.fld State.setFld
  rw [State.reg_setReg_same, BitVec.toNat_ofNat, bits_mod h, bits_setBits_same]

/-- A field in another register, or beside the stored one, reads as before. -/
theorem State.fld_setFld_apart (s : State) (f g : Fld) (v : Nat) (hf : g.lo + g.width ≤ 32)
    (h : f.off ≠ g.off ∨ g.lo + g.width ≤ f.lo ∨ f.lo + f.width ≤ g.lo) : (s.setFld f v).fld g = s.fld g := by
  unfold State.fld State.setFld
  rw [State.reg_setReg]
  split
  · next he =>
    rw [BitVec.toNat_ofNat, bits_mod hf, bits_setBits_apart, he]
    rcases h with h | h
    · exact absurd he h
    · exact h
  · rfl

theorem State.reg_setFld_other (s : State) (f : Fld) (v a : Nat) (h : f.off ≠ a) : (s.setFld f v).reg a = s.reg a := by
  simp [State.setFld, State.reg_setReg, h]

@[simp] theorem State.core_setFld (s : State) (f : Fld) (v n : Nat) : (s.setFld f v).core n = s.core n := rfl
@[simp] theorem State.gauge_setFld (s : State) (f : Fld) (v n : Nat) : (s.setFld f v).gauge n = s.gauge n := rfl
@[simp] theorem State.entry_setFld (s : State) (f : Fld) (v n : Nat) : (s.setFld f v).entry n = s.entry n := rfl
@[simp] theorem State.object_setFld (s : State) (f : Fld) (v n : Nat) : (s.setFld f v).object n = s.object n := rfl

/-! ## Interrupts -/

theorem State.msix_frame (s : State) (v : Nat) : s.msix v = { s with host := (s.msix v).host } := by
  unfold State.msix; split <;> rfl

theorem State.vecEval_frame (p : Nat) (s : State) (v : Nat) : s.vecEval p v = { s with host := (s.vecEval p v).host } := by
  unfold State.vecEval
  simp only
  split
  · rw [State.msix_frame]
  · split <;> rfl

theorem State.vecEvals_frame (p : Nat) (l : List Nat) (s : State) :
    l.foldl (State.vecEval p) s = { s with host := (l.foldl (State.vecEval p) s).host } := by
  induction l generalizing s with
  | nil => rfl
  | cons v l ih =>
    rw [List.foldl_cons, ih, State.vecEval_frame p s v]

/-- Re-evaluating the interrupts changes the host link alone. -/
theorem State.irqEval_frame (s : State) : s.irqEval = { s with host := s.irqEval.host } := by
  unfold State.irqEval
  simp only
  split
  · rfl
  · exact State.vecEvals_frame _ _ _

@[simp] theorem State.irqEval_regs (s : State) : s.irqEval.regs = s.regs := by rw [State.irqEval_frame]
@[simp] theorem State.irqEval_cores (s : State) : s.irqEval.cores = s.cores := by rw [State.irqEval_frame]
@[simp] theorem State.irqEval_gc (s : State) : s.irqEval.gc = s.gc := by rw [State.irqEval_frame]
@[simp] theorem State.irqEval_obj (s : State) : s.irqEval.obj = s.obj := by rw [State.irqEval_frame]
@[simp] theorem State.irqEval_tinder (s : State) : s.irqEval.tinder = s.tinder := by rw [State.irqEval_frame]
@[simp] theorem State.irqEval_engine (s : State) : s.irqEval.engine = s.engine := by rw [State.irqEval_frame]
@[simp] theorem State.irqEval_clock (s : State) : s.irqEval.clock = s.clock := by rw [State.irqEval_frame]
@[simp] theorem State.irqEval_grav (s : State) : s.irqEval.grav = s.grav := by rw [State.irqEval_frame]
@[simp] theorem State.irqEval_axes (s : State) : s.irqEval.axes = s.axes := by rw [State.irqEval_frame]
@[simp] theorem State.irqEval_page (s : State) : s.irqEval.page = s.page := by rw [State.irqEval_frame]
@[simp] theorem State.irqEval_pending (s : State) : s.irqEval.pending = s.pending := by rw [State.irqEval_frame]

@[simp] theorem State.fld_irqEval (s : State) (f : Fld) : s.irqEval.fld f = s.fld f := by
  unfold State.fld State.reg; rw [State.irqEval_regs]
@[simp] theorem State.reg_irqEval (s : State) (a : Nat) : s.irqEval.reg a = s.reg a := by
  unfold State.reg; rw [State.irqEval_regs]
@[simp] theorem State.core_irqEval (s : State) (n : Nat) : s.irqEval.core n = s.core n := by
  unfold State.core; rw [State.irqEval_cores]
@[simp] theorem State.gauge_irqEval (s : State) (n : Nat) : s.irqEval.gauge n = s.gauge n := by
  unfold State.gauge; rw [State.irqEval_gc]
@[simp] theorem State.entry_irqEval (s : State) (n : Nat) : s.irqEval.entry n = s.entry n := by
  unfold State.entry; rw [State.irqEval_gc]
@[simp] theorem State.object_irqEval (s : State) (n : Nat) : s.irqEval.object n = s.object n := by
  unfold State.object; rw [State.irqEval_obj]
@[simp] theorem State.gv_irqEval (s : State) (n : Nat) : s.irqEval.gv n = s.gv n := by
  unfold State.gv; rw [State.irqEval_grav]
@[simp] theorem State.axis_irqEval (s : State) (n : Nat) : s.irqEval.axis n = s.axis n := by
  unfold State.axis; rw [State.irqEval_axes]

/-- An event changes its register and the host link alone (R33). -/
theorem State.event_frame (s : State) (f : Fld) : s.event f = { s with regs := (s.setFld f 1).regs, host := (s.event f).host } := by
  unfold State.event; rw [State.irqEval_frame]; rfl

@[simp] theorem State.core_event (s : State) (f : Fld) (n : Nat) : (s.event f).core n = s.core n := by
  rw [State.event_frame]; rfl
@[simp] theorem State.gauge_event (s : State) (f : Fld) (n : Nat) : (s.event f).gauge n = s.gauge n := by
  rw [State.event_frame]; rfl
@[simp] theorem State.entry_event (s : State) (f : Fld) (n : Nat) : (s.event f).entry n = s.entry n := by
  rw [State.event_frame]; rfl
@[simp] theorem State.object_event (s : State) (f : Fld) (n : Nat) : (s.event f).object n = s.object n := by
  rw [State.event_frame]; rfl
@[simp] theorem State.gv_event (s : State) (f : Fld) (n : Nat) : (s.event f).gv n = s.gv n := by
  rw [State.event_frame]; rfl
@[simp] theorem State.axis_event (s : State) (f : Fld) (n : Nat) : (s.event f).axis n = s.axis n := by
  rw [State.event_frame]; rfl
@[simp] theorem State.tinder_event (s : State) (f : Fld) : (s.event f).tinder = s.tinder := by
  rw [State.event_frame]
@[simp] theorem State.engine_event (s : State) (f : Fld) : (s.event f).engine = s.engine := by
  rw [State.event_frame]
@[simp] theorem State.clock_event (s : State) (f : Fld) : (s.event f).clock = s.clock := by
  rw [State.event_frame]
@[simp] theorem State.page_event (s : State) (f : Fld) : (s.event f).page = s.page := by
  rw [State.event_frame]
@[simp] theorem State.gc_event (s : State) (f : Fld) : (s.event f).gc = s.gc := by
  rw [State.event_frame]
@[simp] theorem State.obj_event (s : State) (f : Fld) : (s.event f).obj = s.obj := by
  rw [State.event_frame]
theorem State.fld_event (s : State) (f g : Fld) : (s.event f).fld g = (s.setFld f 1).fld g := by
  unfold State.event; rw [State.fld_irqEval]
theorem State.reg_event_other (s : State) (f : Fld) (a : Nat) (h : f.off ≠ a) : (s.event f).reg a = s.reg a := by
  unfold State.event; rw [State.reg_irqEval, State.reg_setFld_other _ _ _ _ h]
theorem State.fld_event_other (s : State) (f g : Fld) (h : f.off ≠ g.off) : (s.event f).fld g = s.fld g := by
  unfold State.fld; rw [State.reg_event_other _ _ _ h]

end Sys2Proof.Machine
end

