-- ==== Sys2Proof/Laws/Keeps.lean ====
section
/-!
SUPPORT. Which operations keep the canonical forms of the registers, the MRAM and the memories, and how a property is carried
through a repeated update.
-/

namespace Sys2Proof.Machine

/-! ## Repeated updates -/

/-- What every single update keeps, the updates of a list keep. -/
theorem State.each_keeps {P : State → Prop} {f : State → Nat → State} (h : ∀ t i, P t → P (f t i)) (l : List Nat) {s : State}
    (hs : P s) : P (s.each l f) := by
  unfold State.each
  induction l generalizing s with
  | nil => exact hs
  | cons a l ih => exact ih (h s a hs)

/-- The same for a fold over any list. -/
theorem State.foldl_keeps {α : Type} {P : State → Prop} {f : State → α → State} (h : ∀ t x, P t → P (f t x)) (l : List α) {s : State}
    (hs : P s) : P (l.foldl f s) := by
  induction l generalizing s with
  | nil => exact hs
  | cons a l ih => exact ih (h s a hs)

/-! ## The registers -/

theorem State.setReg_regsWf {s : State} (a : Nat) (w : Word) (h : s.regsWf) : (s.setReg a w).regsWf := Tbl.wf_put resetWord a w h

theorem State.setFld_regsWf {s : State} (f : Fld) (v : Nat) (h : s.regsWf) : (s.setFld f v).regsWf := State.setReg_regsWf _ _ h

theorem State.event_regsWf {s : State} (f : Fld) (h : s.regsWf) : (s.event f).regsWf := by
  rw [State.event_frame]; exact State.setFld_regsWf f 1 h

theorem State.registerReset_regsWf (s : State) : s.registerReset.regsWf := rfl

/-! ## The MRAM -/

theorem State.setReg_mramWf {s : State} (a : Nat) (w : Word) (h : s.mramWf) : (s.setReg a w).mramWf := h

theorem State.event_mramWf {s : State} (f : Fld) (h : s.mramWf) : (s.event f).mramWf := by
  rw [State.event_frame]; exact h

theorem State.setMramByte_mramWf {s : State} (a v : Nat) (h : s.mramWf) : (s.setMramByte a v).mramWf := Tbl.wf_put _ a _ h

theorem State.setMram_mramWf {s : State} (a : Nat) (l : List Nat) (h : s.mramWf) : (s.setMram a l).mramWf := by
  induction l generalizing s a with
  | nil => exact h
  | cons b l ih => exact ih (a + 1) (State.setMramByte_mramWf a b h)

theorem State.registerReset_mramWf {s : State} (h : s.mramWf) : s.registerReset.mramWf := h

/-- A read of MRAM after a write. -/
theorem State.mramByte_setMramByte (s : State) (a b v : Nat) :
    (s.setMramByte a v).mramByte b = if a = b then v % 256 else s.mramByte b := Tbl.get_put _ _ _ _ _

/-! ## Local memories -/

/-- The local memory of a core is listed at rising addresses with no zero byte. -/
def Core.memWf (c : Core) : Prop := Tbl.wf (fun _ => 0) c.mem = true

theorem Core.poke_memWf {c : Core} (a : Nat) (l : List Nat) (h : c.memWf) : (c.poke a l).memWf := by
  induction l generalizing c a with
  | nil => exact h
  | cons b l ih => exact ih (a + 1) (Tbl.wf_put _ _ _ h)

theorem Core.age_mem (c : Core) (a : Nat) : (c.age a).mem = c.mem := by unfold Core.age; dsimp only; split <;> rfl

theorem Core.store_memWf {c : Core} (a k v : Nat) (h : c.memWf) : (c.store a k v).memWf := by
  have fold : ∀ (l : List (Nat × Nat)) (m : Tbl Nat), Tbl.wf (fun _ => 0) m = true →
      Tbl.wf (fun _ => 0) (l.foldl (fun m p => Tbl.put (fun _ => 0) m (a + p.1) p.2) m) = true := by
    intro l
    induction l with
    | nil => exact fun _ h => h
    | cons p l ih => exact fun m h => ih _ (Tbl.wf_put _ _ _ h)
  unfold Core.memWf Core.store
  refine fold _ _ ?_
  have h : Tbl.wf (fun _ => 0) c.mem = true := h
  split <;> simpa [Core.age_mem] using h

/-- The bytes of an object are listed at rising addresses with no zero byte. -/
def Obj.bytesWf (o : Obj) : Prop := Tbl.wf (fun _ => 0) o.bytes = true

theorem Obj.setByte_bytesWf {o : Obj} (a v : Nat) (h : o.bytesWf) : (o.setByte a v).bytesWf := by
  unfold Obj.setByte
  split
  · exact h
  · exact Tbl.wf_put _ _ _ h

theorem Obj.setBytes_bytesWf {o : Obj} (a : Nat) (l : List Nat) (h : o.bytesWf) : (o.setBytes a l).bytesWf := by
  induction l generalizing o a with
  | nil => exact h
  | cons b l ih => exact ih (a + 1) (Obj.setByte_bytesWf a b h)

end Sys2Proof.Machine
end

