-- ==== Sys2Proof/Laws/PerInstr.lean ====
section
/-!
SUPPORT. The family `Encoding`: the word of a well-formed Scriber instruction fits 32 bits (R189); every other command has the word 0,
which the instruction set reserves (R195).
-/

namespace Sys2Proof.Laws.Encoding

/-- The word of a well-formed command fits 32 bits. -/
def Statement (i : Instr) : Prop := wellFormed i = true → encodeScriber i < 2 ^ 32

/-- A word of format R whose fields fit. -/
theorem encR_lt {op a b c fn : Nat} (ho : op < 64) (ha : a < 32) (hb : b < 32) (hc : c < 32) (hf : fn < 2048) :
    encR op a b c fn < 2 ^ 32 := by unfold encR; omega

/-- A word of format I, S or B whose fields fit. -/
theorem encI_lt {op a b imm : Nat} (ho : op < 64) (ha : a < 32) (hb : b < 32) (hi : imm < 65536) : encI op a b imm < 2 ^ 32 := by
  unfold encI; omega

theorem vstbyRise (x0 : StandbyLevels) : Statement (.vstbyRise x0) := fun _ => Nat.two_pow_pos 32
theorem powerOnReset : Statement .powerOnReset := fun _ => Nat.two_pow_pos 32
theorem vstbyLost : Statement (.vstbyLost) := fun _ => Nat.two_pow_pos 32
theorem porEnd : Statement (.porEnd) := fun _ => Nat.two_pow_pos 32
theorem xtalMissing : Statement (.xtalMissing) := fun _ => Nat.two_pow_pos 32
theorem sequenceStart : Statement (.sequenceStart) := fun _ => Nat.two_pow_pos 32
theorem railOnDelayExpiry (x0 : Nat) : Statement (.railOnDelayExpiry x0) := fun _ => Nat.two_pow_pos 32
theorem railGood (x0 : Nat) : Statement (.railGood x0) := fun _ => Nat.two_pow_pos 32
theorem railTimeout (x0 : Nat) : Statement (.railTimeout x0) := fun _ => Nat.two_pow_pos 32
theorem railMonitorSample (x0 x1 : Nat) (x2 : Bool) (x3 : Nat) : Statement (.railMonitorSample x0 x1 x2 x3) := fun _ => Nat.two_pow_pos 32
theorem railFail (x0 : Nat) : Statement (.railFail x0) := fun _ => Nat.two_pow_pos 32
theorem inputReturnRestart : Statement (.inputReturnRestart) := fun _ => Nat.two_pow_pos 32
theorem railDischargeTimeout (x0 : Nat) : Statement (.railDischargeTimeout x0) := fun _ => Nat.two_pow_pos 32
theorem holdOffEnd : Statement (.holdOffEnd) := fun _ => Nat.two_pow_pos 32
theorem railRetry (x0 : Nat) : Statement (.railRetry x0) := fun _ => Nat.two_pow_pos 32
theorem pbShortPress : Statement (.pbShortPress) := fun _ => Nat.two_pow_pos 32
theorem pbLongPress : Statement (.pbLongPress) := fun _ => Nat.two_pow_pos 32
theorem pbWake : Statement (.pbWake) := fun _ => Nat.two_pow_pos 32
theorem shutdownReq : Statement (.shutdownReq) := fun _ => Nat.two_pow_pos 32
theorem powerDown : Statement (.powerDown) := fun _ => Nat.two_pow_pos 32
theorem shutdownTimeout : Statement (.shutdownTimeout) := fun _ => Nat.two_pow_pos 32
theorem resetNAssert : Statement (.resetNAssert) := fun _ => Nat.two_pow_pos 32
theorem domainRelease (x0 : Nat) : Statement (.domainRelease x0) := fun _ => Nat.two_pow_pos 32
theorem clockHold (x0 : HeldDomain) : Statement (.clockHold x0) := fun _ => Nat.two_pow_pos 32
theorem imageLoaded (x0 : Option FlashPart) : Statement (.imageLoaded x0) := fun _ => Nat.two_pow_pos 32
theorem bootReady (x0 : Option FlashPart) : Statement (.bootReady x0) := fun _ => Nat.two_pow_pos 32
theorem uartIdent : Statement (.uartIdent) := fun _ => Nat.two_pow_pos 32
theorem uartMramRead (x0 x1 x2 : Nat) : Statement (.uartMramRead x0 x1 x2) := fun _ => Nat.two_pow_pos 32
theorem uartMramWrite (x0 x1 : Nat) (x2 : List Nat) (x3 : Bool) : Statement (.uartMramWrite x0 x1 x2 x3) := fun _ => Nat.two_pow_pos 32
theorem uartFlashRead (x0 x1 : Nat) (x2 : Bool) : Statement (.uartFlashRead x0 x1 x2) := fun _ => Nat.two_pow_pos 32
theorem uartFlashErase (x0 : Nat) (x1 : Bool) : Statement (.uartFlashErase x0 x1) := fun _ => Nat.two_pow_pos 32
theorem uartFlashWrite (x0 : Nat) (x1 : List Nat) (x2 : Bool) : Statement (.uartFlashWrite x0 x1 x2) := fun _ => Nat.two_pow_pos 32
theorem uartFrameRefused (x0 : List Nat) : Statement (.uartFrameRefused x0) := fun _ => Nat.two_pow_pos 32
theorem uartFrameGap : Statement (.uartFrameGap) := fun _ => Nat.two_pow_pos 32
theorem mramWordWrite (x0 : Nat) : Statement (.mramWordWrite x0) := fun _ => Nat.two_pow_pos 32
theorem mramWriteDone (x0 : Bool) : Statement (.mramWriteDone x0) := fun _ => Nat.two_pow_pos 32
theorem flashRead (x0 : Nat) : Statement (.flashRead x0) := fun _ => Nat.two_pow_pos 32
theorem flashErase (x0 : Nat) : Statement (.flashErase x0) := fun _ => Nat.two_pow_pos 32
theorem flashProgram (x0 x1 : Nat) : Statement (.flashProgram x0 x1) := fun _ => Nat.two_pow_pos 32
theorem flashOpDone : Statement (.flashOpDone) := fun _ => Nat.two_pow_pos 32
theorem flashOpTimeout : Statement (.flashOpTimeout) := fun _ => Nat.two_pow_pos 32
theorem run : Statement (.run) := fun _ => Nat.two_pow_pos 32
theorem bank : Statement (.bank) := fun _ => Nat.two_pow_pos 32
theorem stop : Statement (.stop) := fun _ => Nat.two_pow_pos 32
theorem clear : Statement (.clear) := fun _ => Nat.two_pow_pos 32
theorem engineReady : Statement (.engineReady) := fun _ => Nat.two_pow_pos 32
theorem orderlyShutdownFinish : Statement (.orderlyShutdownFinish) := fun _ => Nat.two_pow_pos 32
theorem faultClear (x0 x1 : Nat) : Statement (.faultClear x0 x1) := fun _ => Nat.two_pow_pos 32
theorem faultForce (x0 x1 : Nat) : Statement (.faultForce x0 x1) := fun _ => Nat.two_pow_pos 32
theorem intStatClear (x0 x1 : Nat) : Statement (.intStatClear x0 x1) := fun _ => Nat.two_pow_pos 32
theorem w1cClear (x0 x1 : Nat) : Statement (.w1cClear x0 x1) := fun _ => Nat.two_pow_pos 32
theorem registerWrite (x0 x1 : Nat) (x2 : WriteAccess) : Statement (.registerWrite x0 x1 x2) := fun _ => Nat.two_pow_pos 32
theorem loReadLatch (x0 : ReadAccess) : Statement (.loReadLatch x0) := fun _ => Nat.two_pow_pos 32
theorem capPosHiRead (x0 : Nat) : Statement (.capPosHiRead x0) := fun _ => Nat.two_pow_pos 32
theorem evictLogRead : Statement (.evictLogRead) := fun _ => Nat.two_pow_pos 32
theorem poisonOffsetRead : Statement (.poisonOffsetRead) := fun _ => Nat.two_pow_pos 32
theorem pllReacquire (x0 : Nat) (x1 : Bool) (x2 : Nat) : Statement (.pllReacquire x0 x1 x2) := fun _ => Nat.two_pow_pos 32
theorem pllLock (x0 : Nat) : Statement (.pllLock x0) := fun _ => Nat.two_pow_pos 32
theorem pllUnlock (x0 : Nat) (x1 : Bool) : Statement (.pllUnlock x0 x1) := fun _ => Nat.two_pow_pos 32
theorem xtalLost : Statement (.xtalLost) := fun _ => Nat.two_pow_pos 32
theorem bdEdge (x0 x1 x2 : Nat) : Statement (.bdEdge x0 x1 x2) := fun _ => Nat.two_pow_pos 32
theorem bdWindowMissed (x0 : Nat) : Statement (.bdWindowMissed x0) := fun _ => Nat.two_pow_pos 32
theorem predictedSyncEvent (x0 x1 : Nat) : Statement (.predictedSyncEvent x0 x1) := fun _ => Nat.two_pow_pos 32
theorem gclkDivWrite (x0 x1 : Nat) (x2 : Bool) : Statement (.gclkDivWrite x0 x1 x2) := fun _ => Nat.two_pow_pos 32
theorem syncInEdge : Statement (.syncInEdge) := fun _ => Nat.two_pow_pos 32
theorem phaseReset (x0 : Nat) : Statement (.phaseReset x0) := fun _ => Nat.two_pow_pos 32
theorem gclkEnable (x0 : Nat) (x1 : Bool) : Statement (.gclkEnable x0 x1) := fun _ => Nat.two_pow_pos 32
theorem gclkGatedClear (x0 : Nat) : Statement (.gclkGatedClear x0) := fun _ => Nat.two_pow_pos 32
theorem encoderEdge (x0 : Nat) (x1 x2 : Bool) (x3 x4 : Nat) : Statement (.encoderEdge x0 x1 x2 x3 x4) := fun _ => Nat.two_pow_pos 32
theorem indexEdge (x0 : Nat) : Statement (.indexEdge x0) := fun _ => Nat.two_pow_pos 32
theorem auxEdge (x0 x1 x2 : Nat) : Statement (.auxEdge x0 x1 x2) := fun _ => Nat.two_pow_pos 32
theorem zcEdge (x0 : Nat) (x1 : Bool) (x2 x3 : Nat) : Statement (.zcEdge x0 x1 x2 x3) := fun _ => Nat.two_pow_pos 32
theorem gaugeCoastStart (x0 : Nat) : Statement (.gaugeCoastStart x0) := fun _ => Nat.two_pow_pos 32
theorem signalLost (x0 : Nat) : Statement (.signalLost x0) := fun _ => Nat.two_pow_pos 32
theorem remoteStamp (x0 x1 x2 : Nat) (x3 : Bool) : Statement (.remoteStamp x0 x1 x2 x3) := fun _ => Nat.two_pow_pos 32
theorem remoteLost (x0 : Nat) : Statement (.remoteLost x0) := fun _ => Nat.two_pow_pos 32
theorem resume (x0 : Nat) : Statement (.resume x0) := fun _ => Nat.two_pow_pos 32
theorem flush (x0 : Nat) : Statement (.flush x0) := fun _ => Nat.two_pow_pos 32
theorem preset (x0 : Nat) : Statement (.preset x0) := fun _ => Nat.two_pow_pos 32
theorem vgCommit (x0 : Nat) : Statement (.vgCommit x0) := fun _ => Nat.two_pow_pos 32
theorem rgSrcWrite (x0 x1 x2 x3 : Nat) : Statement (.rgSrcWrite x0 x1 x2 x3) := fun _ => Nat.two_pow_pos 32
theorem captureEdge (x0 : Nat) (x1 : Bool) : Statement (.captureEdge x0 x1) := fun _ => Nat.two_pow_pos 32
theorem facetIdRunEnd (x0 : Nat) : Statement (.facetIdRunEnd x0) := fun _ => Nat.two_pow_pos 32
theorem assume (x0 : Nat) : Statement (.assume x0) := fun _ => Nat.two_pow_pos 32
theorem restart (x0 : Nat) : Statement (.restart x0) := fun _ => Nat.two_pow_pos 32
theorem armGoArm : Statement (.armGoArm) := fun _ => Nat.two_pow_pos 32
theorem armGoDisarm : Statement (.armGoDisarm) := fun _ => Nat.two_pow_pos 32
theorem calendarAccept : Statement (.calendarAccept) := fun _ => Nat.two_pow_pos 32
theorem calendarInsertDone (x0 : Nat) : Statement (.calendarInsertDone x0) := fun _ => Nat.two_pow_pos 32
theorem entryCrossing (x0 x1 : Nat) : Statement (.entryCrossing x0 x1) := fun _ => Nat.two_pow_pos 32
theorem calendarFireDeferred (x0 : Nat) : Statement (.calendarFireDeferred x0) := fun _ => Nat.two_pow_pos 32
theorem haltEntryRemoval (x0 : Nat) : Statement (.haltEntryRemoval x0) := fun _ => Nat.two_pow_pos 32
theorem entrySel (x0 : Nat) : Statement (.entrySel x0) := fun _ => Nat.two_pow_pos 32
theorem add (x0 x1 x2 x3 : Nat) : Statement (.add x0 x1 x2 x3) := by
  intro h
  have h : (decide (x0 < 34) && decide (x1 < 32) && decide (x2 < 32) && decide (x3 < 32)) = true := h
  simp only [Bool.and_eq_true, decide_eq_true_eq] at h
  show encR 0x01 x1 x2 x3 0x000 < _
  apply encR_lt <;> omega
theorem sub (x0 x1 x2 x3 : Nat) : Statement (.sub x0 x1 x2 x3) := by
  intro h
  have h : (decide (x0 < 34) && decide (x1 < 32) && decide (x2 < 32) && decide (x3 < 32)) = true := h
  simp only [Bool.and_eq_true, decide_eq_true_eq] at h
  show encR 0x01 x1 x2 x3 0x001 < _
  apply encR_lt <;> omega
theorem and (x0 x1 x2 x3 : Nat) : Statement (.and x0 x1 x2 x3) := by
  intro h
  have h : (decide (x0 < 34) && decide (x1 < 32) && decide (x2 < 32) && decide (x3 < 32)) = true := h
  simp only [Bool.and_eq_true, decide_eq_true_eq] at h
  show encR 0x01 x1 x2 x3 0x002 < _
  apply encR_lt <;> omega
theorem or (x0 x1 x2 x3 : Nat) : Statement (.or x0 x1 x2 x3) := by
  intro h
  have h : (decide (x0 < 34) && decide (x1 < 32) && decide (x2 < 32) && decide (x3 < 32)) = true := h
  simp only [Bool.and_eq_true, decide_eq_true_eq] at h
  show encR 0x01 x1 x2 x3 0x003 < _
  apply encR_lt <;> omega
theorem xor (x0 x1 x2 x3 : Nat) : Statement (.xor x0 x1 x2 x3) := by
  intro h
  have h : (decide (x0 < 34) && decide (x1 < 32) && decide (x2 < 32) && decide (x3 < 32)) = true := h
  simp only [Bool.and_eq_true, decide_eq_true_eq] at h
  show encR 0x01 x1 x2 x3 0x004 < _
  apply encR_lt <;> omega
theorem andn (x0 x1 x2 x3 : Nat) : Statement (.andn x0 x1 x2 x3) := by
  intro h
  have h : (decide (x0 < 34) && decide (x1 < 32) && decide (x2 < 32) && decide (x3 < 32)) = true := h
  simp only [Bool.and_eq_true, decide_eq_true_eq] at h
  show encR 0x01 x1 x2 x3 0x005 < _
  apply encR_lt <;> omega
theorem sll (x0 x1 x2 x3 : Nat) : Statement (.sll x0 x1 x2 x3) := by
  intro h
  have h : (decide (x0 < 34) && decide (x1 < 32) && decide (x2 < 32) && decide (x3 < 32)) = true := h
  simp only [Bool.and_eq_true, decide_eq_true_eq] at h
  show encR 0x01 x1 x2 x3 0x006 < _
  apply encR_lt <;> omega
theorem srl (x0 x1 x2 x3 : Nat) : Statement (.srl x0 x1 x2 x3) := by
  intro h
  have h : (decide (x0 < 34) && decide (x1 < 32) && decide (x2 < 32) && decide (x3 < 32)) = true := h
  simp only [Bool.and_eq_true, decide_eq_true_eq] at h
  show encR 0x01 x1 x2 x3 0x007 < _
  apply encR_lt <;> omega
theorem sra (x0 x1 x2 x3 : Nat) : Statement (.sra x0 x1 x2 x3) := by
  intro h
  have h : (decide (x0 < 34) && decide (x1 < 32) && decide (x2 < 32) && decide (x3 < 32)) = true := h
  simp only [Bool.and_eq_true, decide_eq_true_eq] at h
  show encR 0x01 x1 x2 x3 0x008 < _
  apply encR_lt <;> omega
theorem lts (x0 x1 x2 x3 : Nat) : Statement (.lts x0 x1 x2 x3) := by
  intro h
  have h : (decide (x0 < 34) && decide (x1 < 32) && decide (x2 < 32) && decide (x3 < 32)) = true := h
  simp only [Bool.and_eq_true, decide_eq_true_eq] at h
  show encR 0x01 x1 x2 x3 0x009 < _
  apply encR_lt <;> omega
theorem ltu (x0 x1 x2 x3 : Nat) : Statement (.ltu x0 x1 x2 x3) := by
  intro h
  have h : (decide (x0 < 34) && decide (x1 < 32) && decide (x2 < 32) && decide (x3 < 32)) = true := h
  simp only [Bool.and_eq_true, decide_eq_true_eq] at h
  show encR 0x01 x1 x2 x3 0x00A < _
  apply encR_lt <;> omega
theorem min (x0 x1 x2 x3 : Nat) : Statement (.min x0 x1 x2 x3) := by
  intro h
  have h : (decide (x0 < 34) && decide (x1 < 32) && decide (x2 < 32) && decide (x3 < 32)) = true := h
  simp only [Bool.and_eq_true, decide_eq_true_eq] at h
  show encR 0x01 x1 x2 x3 0x00B < _
  apply encR_lt <;> omega
theorem max (x0 x1 x2 x3 : Nat) : Statement (.max x0 x1 x2 x3) := by
  intro h
  have h : (decide (x0 < 34) && decide (x1 < 32) && decide (x2 < 32) && decide (x3 < 32)) = true := h
  simp only [Bool.and_eq_true, decide_eq_true_eq] at h
  show encR 0x01 x1 x2 x3 0x00C < _
  apply encR_lt <;> omega
theorem minu (x0 x1 x2 x3 : Nat) : Statement (.minu x0 x1 x2 x3) := by
  intro h
  have h : (decide (x0 < 34) && decide (x1 < 32) && decide (x2 < 32) && decide (x3 < 32)) = true := h
  simp only [Bool.and_eq_true, decide_eq_true_eq] at h
  show encR 0x01 x1 x2 x3 0x00D < _
  apply encR_lt <;> omega
theorem maxu (x0 x1 x2 x3 : Nat) : Statement (.maxu x0 x1 x2 x3) := by
  intro h
  have h : (decide (x0 < 34) && decide (x1 < 32) && decide (x2 < 32) && decide (x3 < 32)) = true := h
  simp only [Bool.and_eq_true, decide_eq_true_eq] at h
  show encR 0x01 x1 x2 x3 0x00E < _
  apply encR_lt <;> omega
theorem clz (x0 x1 x2 : Nat) : Statement (.clz x0 x1 x2) := by
  intro h
  have h : (decide (x0 < 34) && decide (x1 < 32) && decide (x2 < 32)) = true := h
  simp only [Bool.and_eq_true, decide_eq_true_eq] at h
  show encR 0x01 x1 x2 0 0x00F < _
  apply encR_lt <;> omega
theorem popc (x0 x1 x2 : Nat) : Statement (.popc x0 x1 x2) := by
  intro h
  have h : (decide (x0 < 34) && decide (x1 < 32) && decide (x2 < 32)) = true := h
  simp only [Bool.and_eq_true, decide_eq_true_eq] at h
  show encR 0x01 x1 x2 0 0x010 < _
  apply encR_lt <;> omega
theorem slli (x0 x1 x2 x3 : Nat) : Statement (.slli x0 x1 x2 x3) := by
  intro h
  have h : (decide (x0 < 34) && decide (x1 < 32) && decide (x2 < 32) && decide (x3 < 32)) = true := h
  simp only [Bool.and_eq_true, decide_eq_true_eq] at h
  show encR 0x01 x1 x2 x3 0x011 < _
  apply encR_lt <;> omega
theorem srli (x0 x1 x2 x3 : Nat) : Statement (.srli x0 x1 x2 x3) := by
  intro h
  have h : (decide (x0 < 34) && decide (x1 < 32) && decide (x2 < 32) && decide (x3 < 32)) = true := h
  simp only [Bool.and_eq_true, decide_eq_true_eq] at h
  show encR 0x01 x1 x2 x3 0x012 < _
  apply encR_lt <;> omega
theorem srai (x0 x1 x2 x3 : Nat) : Statement (.srai x0 x1 x2 x3) := by
  intro h
  have h : (decide (x0 < 34) && decide (x1 < 32) && decide (x2 < 32) && decide (x3 < 32)) = true := h
  simp only [Bool.and_eq_true, decide_eq_true_eq] at h
  show encR 0x01 x1 x2 x3 0x013 < _
  apply encR_lt <;> omega
theorem mullo (x0 x1 x2 x3 : Nat) : Statement (.mullo x0 x1 x2 x3) := by
  intro h
  have h : (decide (x0 < 34) && decide (x1 < 32) && decide (x2 < 32) && decide (x3 < 32)) = true := h
  simp only [Bool.and_eq_true, decide_eq_true_eq] at h
  show encR 0x02 x1 x2 x3 0 < _
  apply encR_lt <;> omega
theorem mulhs (x0 x1 x2 x3 : Nat) : Statement (.mulhs x0 x1 x2 x3) := by
  intro h
  have h : (decide (x0 < 34) && decide (x1 < 32) && decide (x2 < 32) && decide (x3 < 32)) = true := h
  simp only [Bool.and_eq_true, decide_eq_true_eq] at h
  show encR 0x02 x1 x2 x3 1 < _
  apply encR_lt <;> omega
theorem mulhu (x0 x1 x2 x3 : Nat) : Statement (.mulhu x0 x1 x2 x3) := by
  intro h
  have h : (decide (x0 < 34) && decide (x1 < 32) && decide (x2 < 32) && decide (x3 < 32)) = true := h
  simp only [Bool.and_eq_true, decide_eq_true_eq] at h
  show encR 0x02 x1 x2 x3 2 < _
  apply encR_lt <;> omega
theorem mulhm (x0 x1 x2 x3 : Nat) : Statement (.mulhm x0 x1 x2 x3) := by
  intro h
  have h : (decide (x0 < 34) && decide (x1 < 32) && decide (x2 < 32) && decide (x3 < 32)) = true := h
  simp only [Bool.and_eq_true, decide_eq_true_eq] at h
  show encR 0x02 x1 x2 x3 3 < _
  apply encR_lt <;> omega
theorem divs (x0 x1 x2 x3 : Nat) : Statement (.divs x0 x1 x2 x3) := by
  intro h
  have h : (decide (x0 < 34) && decide (x1 < 32) && decide (x2 < 32) && decide (x3 < 32)) = true := h
  simp only [Bool.and_eq_true, decide_eq_true_eq] at h
  show encR 0x02 x1 x2 x3 4 < _
  apply encR_lt <;> omega
theorem divu (x0 x1 x2 x3 : Nat) : Statement (.divu x0 x1 x2 x3) := by
  intro h
  have h : (decide (x0 < 34) && decide (x1 < 32) && decide (x2 < 32) && decide (x3 < 32)) = true := h
  simp only [Bool.and_eq_true, decide_eq_true_eq] at h
  show encR 0x02 x1 x2 x3 5 < _
  apply encR_lt <;> omega
theorem mods (x0 x1 x2 x3 : Nat) : Statement (.mods x0 x1 x2 x3) := by
  intro h
  have h : (decide (x0 < 34) && decide (x1 < 32) && decide (x2 < 32) && decide (x3 < 32)) = true := h
  simp only [Bool.and_eq_true, decide_eq_true_eq] at h
  show encR 0x02 x1 x2 x3 6 < _
  apply encR_lt <;> omega
theorem modu (x0 x1 x2 x3 : Nat) : Statement (.modu x0 x1 x2 x3) := by
  intro h
  have h : (decide (x0 < 34) && decide (x1 < 32) && decide (x2 < 32) && decide (x3 < 32)) = true := h
  simp only [Bool.and_eq_true, decide_eq_true_eq] at h
  show encR 0x02 x1 x2 x3 7 < _
  apply encR_lt <;> omega
theorem addi (x0 x1 x2 x3 : Nat) : Statement (.addi x0 x1 x2 x3) := by
  intro h
  have h : (decide (x0 < 34) && decide (x1 < 32) && decide (x2 < 32) && decide (x3 < 65536)) = true := h
  simp only [Bool.and_eq_true, decide_eq_true_eq] at h
  show encI 0x03 x1 x2 x3 < _
  apply encI_lt <;> omega
theorem andi (x0 x1 x2 x3 : Nat) : Statement (.andi x0 x1 x2 x3) := by
  intro h
  have h : (decide (x0 < 34) && decide (x1 < 32) && decide (x2 < 32) && decide (x3 < 65536)) = true := h
  simp only [Bool.and_eq_true, decide_eq_true_eq] at h
  show encI 0x04 x1 x2 x3 < _
  apply encI_lt <;> omega
theorem ori (x0 x1 x2 x3 : Nat) : Statement (.ori x0 x1 x2 x3) := by
  intro h
  have h : (decide (x0 < 34) && decide (x1 < 32) && decide (x2 < 32) && decide (x3 < 65536)) = true := h
  simp only [Bool.and_eq_true, decide_eq_true_eq] at h
  show encI 0x05 x1 x2 x3 < _
  apply encI_lt <;> omega
theorem xori (x0 x1 x2 x3 : Nat) : Statement (.xori x0 x1 x2 x3) := by
  intro h
  have h : (decide (x0 < 34) && decide (x1 < 32) && decide (x2 < 32) && decide (x3 < 65536)) = true := h
  simp only [Bool.and_eq_true, decide_eq_true_eq] at h
  show encI 0x06 x1 x2 x3 < _
  apply encI_lt <;> omega
theorem ltsi (x0 x1 x2 x3 : Nat) : Statement (.ltsi x0 x1 x2 x3) := by
  intro h
  have h : (decide (x0 < 34) && decide (x1 < 32) && decide (x2 < 32) && decide (x3 < 65536)) = true := h
  simp only [Bool.and_eq_true, decide_eq_true_eq] at h
  show encI 0x07 x1 x2 x3 < _
  apply encI_lt <;> omega
theorem ltui (x0 x1 x2 x3 : Nat) : Statement (.ltui x0 x1 x2 x3) := by
  intro h
  have h : (decide (x0 < 34) && decide (x1 < 32) && decide (x2 < 32) && decide (x3 < 65536)) = true := h
  simp only [Bool.and_eq_true, decide_eq_true_eq] at h
  show encI 0x08 x1 x2 x3 < _
  apply encI_lt <;> omega
theorem lui (x0 x1 x2 : Nat) : Statement (.lui x0 x1 x2) := by
  intro h
  have h : (decide (x0 < 34) && decide (x1 < 32) && decide (x2 < 65536)) = true := h
  simp only [Bool.and_eq_true, decide_eq_true_eq] at h
  show encI 0x09 x1 0 x2 < _
  apply encI_lt <;> omega
theorem lb (x0 x1 x2 x3 : Nat) : Statement (.lb x0 x1 x2 x3) := by
  intro h
  have h : (decide (x0 < 34) && decide (x1 < 32) && decide (x2 < 32) && decide (x3 < 65536)) = true := h
  simp only [Bool.and_eq_true, decide_eq_true_eq] at h
  show encI 0x10 x1 x2 x3 < _
  apply encI_lt <;> omega
theorem lbu (x0 x1 x2 x3 : Nat) : Statement (.lbu x0 x1 x2 x3) := by
  intro h
  have h : (decide (x0 < 34) && decide (x1 < 32) && decide (x2 < 32) && decide (x3 < 65536)) = true := h
  simp only [Bool.and_eq_true, decide_eq_true_eq] at h
  show encI 0x11 x1 x2 x3 < _
  apply encI_lt <;> omega
theorem lh (x0 x1 x2 x3 : Nat) : Statement (.lh x0 x1 x2 x3) := by
  intro h
  have h : (decide (x0 < 34) && decide (x1 < 32) && decide (x2 < 32) && decide (x3 < 65536)) = true := h
  simp only [Bool.and_eq_true, decide_eq_true_eq] at h
  show encI 0x12 x1 x2 x3 < _
  apply encI_lt <;> omega
theorem lhu (x0 x1 x2 x3 : Nat) : Statement (.lhu x0 x1 x2 x3) := by
  intro h
  have h : (decide (x0 < 34) && decide (x1 < 32) && decide (x2 < 32) && decide (x3 < 65536)) = true := h
  simp only [Bool.and_eq_true, decide_eq_true_eq] at h
  show encI 0x13 x1 x2 x3 < _
  apply encI_lt <;> omega
theorem lw (x0 x1 x2 x3 : Nat) : Statement (.lw x0 x1 x2 x3) := by
  intro h
  have h : (decide (x0 < 34) && decide (x1 < 32) && decide (x2 < 32) && decide (x3 < 65536)) = true := h
  simp only [Bool.and_eq_true, decide_eq_true_eq] at h
  show encI 0x14 x1 x2 x3 < _
  apply encI_lt <;> omega
theorem pld (x0 x1 x2 x3 : Nat) : Statement (.pld x0 x1 x2 x3) := by
  intro h
  have h : (decide (x0 < 34) && decide (x1 < 8) && decide (x2 < 32) && decide (x3 < 65536)) = true := h
  simp only [Bool.and_eq_true, decide_eq_true_eq] at h
  show encI 0x15 x1 x2 x3 < _
  apply encI_lt <;> omega
theorem sb (x0 x1 x2 x3 : Nat) : Statement (.sb x0 x1 x2 x3) := by
  intro h
  have h : (decide (x0 < 34) && decide (x1 < 32) && decide (x2 < 32) && decide (x3 < 65536)) = true := h
  simp only [Bool.and_eq_true, decide_eq_true_eq] at h
  show encI 0x18 x1 x2 x3 < _
  apply encI_lt <;> omega
theorem sh (x0 x1 x2 x3 : Nat) : Statement (.sh x0 x1 x2 x3) := by
  intro h
  have h : (decide (x0 < 34) && decide (x1 < 32) && decide (x2 < 32) && decide (x3 < 65536)) = true := h
  simp only [Bool.and_eq_true, decide_eq_true_eq] at h
  show encI 0x19 x1 x2 x3 < _
  apply encI_lt <;> omega
theorem sw (x0 x1 x2 x3 : Nat) : Statement (.sw x0 x1 x2 x3) := by
  intro h
  have h : (decide (x0 < 34) && decide (x1 < 32) && decide (x2 < 32) && decide (x3 < 65536)) = true := h
  simp only [Bool.and_eq_true, decide_eq_true_eq] at h
  show encI 0x1A x1 x2 x3 < _
  apply encI_lt <;> omega
theorem pst (x0 x1 x2 x3 : Nat) : Statement (.pst x0 x1 x2 x3) := by
  intro h
  have h : (decide (x0 < 34) && decide (x1 < 8) && decide (x2 < 32) && decide (x3 < 65536)) = true := h
  simp only [Bool.and_eq_true, decide_eq_true_eq] at h
  show encI 0x1B x1 x2 x3 < _
  apply encI_lt <;> omega
theorem beq (x0 x1 x2 x3 : Nat) : Statement (.beq x0 x1 x2 x3) := by
  intro h
  have h : (decide (x0 < 34) && decide (x1 < 32) && decide (x2 < 32) && decide (x3 < 65536)) = true := h
  simp only [Bool.and_eq_true, decide_eq_true_eq] at h
  show encI 0x20 x1 x2 x3 < _
  apply encI_lt <;> omega
theorem bne (x0 x1 x2 x3 : Nat) : Statement (.bne x0 x1 x2 x3) := by
  intro h
  have h : (decide (x0 < 34) && decide (x1 < 32) && decide (x2 < 32) && decide (x3 < 65536)) = true := h
  simp only [Bool.and_eq_true, decide_eq_true_eq] at h
  show encI 0x21 x1 x2 x3 < _
  apply encI_lt <;> omega
theorem blt (x0 x1 x2 x3 : Nat) : Statement (.blt x0 x1 x2 x3) := by
  intro h
  have h : (decide (x0 < 34) && decide (x1 < 32) && decide (x2 < 32) && decide (x3 < 65536)) = true := h
  simp only [Bool.and_eq_true, decide_eq_true_eq] at h
  show encI 0x22 x1 x2 x3 < _
  apply encI_lt <;> omega
theorem bge (x0 x1 x2 x3 : Nat) : Statement (.bge x0 x1 x2 x3) := by
  intro h
  have h : (decide (x0 < 34) && decide (x1 < 32) && decide (x2 < 32) && decide (x3 < 65536)) = true := h
  simp only [Bool.and_eq_true, decide_eq_true_eq] at h
  show encI 0x23 x1 x2 x3 < _
  apply encI_lt <;> omega
theorem bltu (x0 x1 x2 x3 : Nat) : Statement (.bltu x0 x1 x2 x3) := by
  intro h
  have h : (decide (x0 < 34) && decide (x1 < 32) && decide (x2 < 32) && decide (x3 < 65536)) = true := h
  simp only [Bool.and_eq_true, decide_eq_true_eq] at h
  show encI 0x24 x1 x2 x3 < _
  apply encI_lt <;> omega
theorem bgeu (x0 x1 x2 x3 : Nat) : Statement (.bgeu x0 x1 x2 x3) := by
  intro h
  have h : (decide (x0 < 34) && decide (x1 < 32) && decide (x2 < 32) && decide (x3 < 65536)) = true := h
  simp only [Bool.and_eq_true, decide_eq_true_eq] at h
  show encI 0x25 x1 x2 x3 < _
  apply encI_lt <;> omega
theorem jal (x0 x1 x2 : Nat) : Statement (.jal x0 x1 x2) := by
  intro h
  have h : (decide (x0 < 34) && decide (x1 < 32) && decide (x2 < 65536)) = true := h
  simp only [Bool.and_eq_true, decide_eq_true_eq] at h
  show encI 0x26 x1 0 x2 < _
  apply encI_lt <;> omega
theorem jalr (x0 x1 x2 x3 : Nat) : Statement (.jalr x0 x1 x2 x3) := by
  intro h
  have h : (decide (x0 < 34) && decide (x1 < 32) && decide (x2 < 32) && decide (x3 < 65536)) = true := h
  simp only [Bool.and_eq_true, decide_eq_true_eq] at h
  show encI 0x27 x1 x2 x3 < _
  apply encI_lt <;> omega
theorem padd (x0 x1 x2 x3 : Nat) : Statement (.padd x0 x1 x2 x3) := by
  intro h
  have h : (decide (x0 < 34) && decide (x1 < 8) && decide (x2 < 8) && decide (x3 < 8)) = true := h
  simp only [Bool.and_eq_true, decide_eq_true_eq] at h
  show encR 0x28 x1 x2 x3 0x0 < _
  apply encR_lt <;> omega
theorem psub (x0 x1 x2 x3 : Nat) : Statement (.psub x0 x1 x2 x3) := by
  intro h
  have h : (decide (x0 < 34) && decide (x1 < 8) && decide (x2 < 8) && decide (x3 < 8)) = true := h
  simp only [Bool.and_eq_true, decide_eq_true_eq] at h
  show encR 0x28 x1 x2 x3 0x1 < _
  apply encR_lt <;> omega
theorem paddc (x0 x1 x2 x3 : Nat) : Statement (.paddc x0 x1 x2 x3) := by
  intro h
  have h : (decide (x0 < 34) && decide (x1 < 8) && decide (x2 < 8) && decide (x3 < 32)) = true := h
  simp only [Bool.and_eq_true, decide_eq_true_eq] at h
  show encR 0x28 x1 x2 x3 0x2 < _
  apply encR_lt <;> omega
theorem paddf (x0 x1 x2 x3 : Nat) : Statement (.paddf x0 x1 x2 x3) := by
  intro h
  have h : (decide (x0 < 34) && decide (x1 < 8) && decide (x2 < 8) && decide (x3 < 32)) = true := h
  simp only [Bool.and_eq_true, decide_eq_true_eq] at h
  show encR 0x28 x1 x2 x3 0x3 < _
  apply encR_lt <;> omega
theorem pmov (x0 x1 x2 : Nat) : Statement (.pmov x0 x1 x2) := by
  intro h
  have h : (decide (x0 < 34) && decide (x1 < 8) && decide (x2 < 8)) = true := h
  simp only [Bool.and_eq_true, decide_eq_true_eq] at h
  show encR 0x28 x1 x2 0 0x4 < _
  apply encR_lt <;> omega
theorem psetc (x0 x1 x2 : Nat) : Statement (.psetc x0 x1 x2) := by
  intro h
  have h : (decide (x0 < 34) && decide (x1 < 8) && decide (x2 < 32)) = true := h
  simp only [Bool.and_eq_true, decide_eq_true_eq] at h
  show encR 0x28 x1 x2 0 0x5 < _
  apply encR_lt <;> omega
theorem plo (x0 x1 x2 : Nat) : Statement (.plo x0 x1 x2) := by
  intro h
  have h : (decide (x0 < 34) && decide (x1 < 32) && decide (x2 < 8)) = true := h
  simp only [Bool.and_eq_true, decide_eq_true_eq] at h
  show encR 0x28 x1 x2 0 0x6 < _
  apply encR_lt <;> omega
theorem phi (x0 x1 x2 : Nat) : Statement (.phi x0 x1 x2) := by
  intro h
  have h : (decide (x0 < 34) && decide (x1 < 32) && decide (x2 < 8)) = true := h
  simp only [Bool.and_eq_true, decide_eq_true_eq] at h
  show encR 0x28 x1 x2 0 0x7 < _
  apply encR_lt <;> omega
theorem psetlo (x0 x1 x2 : Nat) : Statement (.psetlo x0 x1 x2) := by
  intro h
  have h : (decide (x0 < 34) && decide (x1 < 8) && decide (x2 < 32)) = true := h
  simp only [Bool.and_eq_true, decide_eq_true_eq] at h
  show encR 0x28 x1 x2 0 0x8 < _
  apply encR_lt <;> omega
theorem psethi (x0 x1 x2 : Nat) : Statement (.psethi x0 x1 x2) := by
  intro h
  have h : (decide (x0 < 34) && decide (x1 < 8) && decide (x2 < 32)) = true := h
  simp only [Bool.and_eq_true, decide_eq_true_eq] at h
  show encR 0x28 x1 x2 0 0x9 < _
  apply encR_lt <;> omega
theorem pcmp (x0 x1 x2 x3 : Nat) : Statement (.pcmp x0 x1 x2 x3) := by
  intro h
  have h : (decide (x0 < 34) && decide (x1 < 32) && decide (x2 < 8) && decide (x3 < 8)) = true := h
  simp only [Bool.and_eq_true, decide_eq_true_eq] at h
  show encR 0x28 x1 x2 x3 0xA < _
  apply encR_lt <;> omega
theorem pmulc (x0 x1 x2 x3 : Nat) : Statement (.pmulc x0 x1 x2 x3) := by
  intro h
  have h : (decide (x0 < 34) && decide (x1 < 8) && decide (x2 < 8) && decide (x3 < 32)) = true := h
  simp only [Bool.and_eq_true, decide_eq_true_eq] at h
  show encR 0x28 x1 x2 x3 0xB < _
  apply encR_lt <;> omega
theorem crr (x0 x1 x2 : Nat) : Statement (.crr x0 x1 x2) := by
  intro h
  have h : (decide (x0 < 34) && decide (x1 < 32) && decide (x2 < 256)) = true := h
  simp only [Bool.and_eq_true, decide_eq_true_eq] at h
  show encI 0x2A x1 0 x2 < _
  apply encI_lt <;> omega
theorem crw (x0 x1 x2 x3 : Nat) : Statement (.crw x0 x1 x2 x3) := by
  intro h
  have h : (decide (x0 < 34) && decide (x1 < 32) && decide (x2 < 256) && decide (x3 < 32)) = true := h
  simp only [Bool.and_eq_true, decide_eq_true_eq] at h
  show encI 0x2B x1 x3 x2 < _
  apply encI_lt <;> omega
theorem crs (x0 x1 x2 x3 : Nat) : Statement (.crs x0 x1 x2 x3) := by
  intro h
  have h : (decide (x0 < 34) && decide (x1 < 32) && decide (x2 < 256) && decide (x3 < 32)) = true := h
  simp only [Bool.and_eq_true, decide_eq_true_eq] at h
  show encI 0x2C x1 x3 x2 < _
  apply encI_lt <;> omega
theorem crc (x0 x1 x2 x3 : Nat) : Statement (.crc x0 x1 x2 x3) := by
  intro h
  have h : (decide (x0 < 34) && decide (x1 < 32) && decide (x2 < 256) && decide (x3 < 32)) = true := h
  simp only [Bool.and_eq_true, decide_eq_true_eq] at h
  show encI 0x2D x1 x3 x2 < _
  apply encI_lt <;> omega
theorem nop (x0 : Nat) : Statement (.nop x0) := by
  intro h
  have h : (decide (x0 < 34)) = true := h
  simp only [decide_eq_true_eq] at h
  show encR 0x29 0 0 0 0 < _
  apply encR_lt <;> omega
theorem eret (x0 : Nat) : Statement (.eret x0) := by
  intro h
  have h : (decide (x0 < 34)) = true := h
  simp only [decide_eq_true_eq] at h
  show encR 0x29 0 0 0 1 < _
  apply encR_lt <;> omega
theorem brk (x0 x1 : Nat) : Statement (.brk x0 x1) := by
  intro h
  have h : (decide (x0 < 34) && decide (x1 < 1024)) = true := h
  simp only [Bool.and_eq_true, decide_eq_true_eq] at h
  show encR 0x29 (x1 / 32) (x1 % 32) 0 2 < _
  apply encR_lt <;> omega
theorem halt (x0 : Nat) : Statement (.halt x0) := by
  intro h
  have h : (decide (x0 < 34)) = true := h
  simp only [decide_eq_true_eq] at h
  show encR 0x29 0 0 0 3 < _
  apply encR_lt <;> omega
theorem isync (x0 : Nat) : Statement (.isync x0) := by
  intro h
  have h : (decide (x0 < 34)) = true := h
  simp only [decide_eq_true_eq] at h
  show encR 0x29 0 0 0 4 < _
  apply encR_lt <;> omega
theorem gaugeFaultException (x0 : Nat) : Statement (.gaugeFaultException x0) := fun _ => Nat.two_pow_pos 32
theorem breakpointHit (x0 : Nat) : Statement (.breakpointHit x0) := fun _ => Nat.two_pow_pos 32
theorem coreRun (x0 : Nat) : Statement (.coreRun x0) := fun _ => Nat.two_pow_pos 32
theorem coreHaltReq (x0 : Nat) : Statement (.coreHaltReq x0) := fun _ => Nat.two_pow_pos 32
theorem haltComplete (x0 : Nat) : Statement (.haltComplete x0) := fun _ => Nat.two_pow_pos 32
theorem coreStep (x0 : Nat) : Statement (.coreStep x0) := fun _ => Nat.two_pow_pos 32
theorem coreReinit (x0 : Nat) : Statement (.coreReinit x0) := fun _ => Nat.two_pow_pos 32
theorem debugRegisterWrite (x0 x1 : Nat) : Statement (.debugRegisterWrite x0 x1) := fun _ => Nat.two_pow_pos 32
theorem debugRegisterRead (x0 : Nat) : Statement (.debugRegisterRead x0) := fun _ => Nat.two_pow_pos 32
theorem arm (x0 x1 x2 x3 x4 x5 : Nat) (x6 : Bool) : Statement (.arm x0 x1 x2 x3 x4 x5 x6) := by
  intro h
  have h : (decide (x0 < 34) && decide (x1 < 32) && decide (x2 < 8) && decide (x3 < 32) && decide (x4 < 64) && decide (x5 < 4)) = true := h
  simp only [Bool.and_eq_true, decide_eq_true_eq] at h
  show encR 0x30 x1 x2 x3 (x4 + x5 * 64 + bit x6 * 256) < _
  have hb : bit x6 ≤ 1 := by cases x6 <;> decide
  apply encR_lt <;> omega
theorem disarm (x0 x1 x2 : Nat) : Statement (.disarm x0 x1 x2) := by
  intro h
  have h : (decide (x0 < 34) && decide (x1 < 32) && decide (x2 < 32)) = true := h
  simp only [Bool.and_eq_true, decide_eq_true_eq] at h
  show encR 0x31 x1 x2 0 0 < _
  apply encR_lt <;> omega
theorem waitp (x0 x1 x2 x3 x4 : Nat) (x5 : Bool) : Statement (.waitp x0 x1 x2 x3 x4 x5) := by
  intro h
  have h : (decide (x0 < 34) && decide (x1 < 32) && decide (x2 < 8) && decide (x3 < 64) && decide (x4 < 4)) = true := h
  simp only [Bool.and_eq_true, decide_eq_true_eq] at h
  show encR 0x32 x1 x2 0 (x3 + x4 * 64 + bit x5 * 256) < _
  have hb : bit x5 ≤ 1 := by cases x5 <;> decide
  apply encR_lt <;> omega
theorem waitev (x0 x1 x2 : Nat) : Statement (.waitev x0 x1 x2) := by
  intro h
  have h : (decide (x0 < 34) && decide (x1 < 32) && decide (x2 < 16)) = true := h
  simp only [Bool.and_eq_true, decide_eq_true_eq] at h
  show encI 0x33 x1 0 x2 < _
  apply encI_lt <;> omega
theorem grd (x0 x1 x2 : Nat) : Statement (.grd x0 x1 x2) := by
  intro h
  have h : (decide (x0 < 34) && decide (x1 < 8) && decide (x2 < 64)) = true := h
  simp only [Bool.and_eq_true, decide_eq_true_eq] at h
  show encR 0x34 x1 0 0 x2 < _
  apply encR_lt <;> omega
theorem gst (x0 x1 x2 : Nat) : Statement (.gst x0 x1 x2) := by
  intro h
  have h : (decide (x0 < 34) && decide (x1 < 32) && decide (x2 < 64)) = true := h
  simp only [Bool.and_eq_true, decide_eq_true_eq] at h
  show encR 0x34 x1 0 0 (0x100 + x2) < _
  apply encR_lt <;> omega
theorem gsrc (x0 x1 x2 : Nat) : Statement (.gsrc x0 x1 x2) := by
  intro h
  have h : (decide (x0 < 34) && decide (x1 < 64) && decide (x2 < 32)) = true := h
  simp only [Bool.and_eq_true, decide_eq_true_eq] at h
  show encR 0x34 0 x2 0 (0x200 + x1) < _
  apply encR_lt <;> omega
theorem gc1 (x0 x1 x2 : Nat) : Statement (.gc1 x0 x1 x2) := by
  intro h
  have h : (decide (x0 < 34) && decide (x1 < 64) && decide (x2 < 32)) = true := h
  simp only [Bool.and_eq_true, decide_eq_true_eq] at h
  show encR 0x34 0 x2 0 (0x300 + x1) < _
  apply encR_lt <;> omega
theorem gc2 (x0 x1 x2 : Nat) : Statement (.gc2 x0 x1 x2) := by
  intro h
  have h : (decide (x0 < 34) && decide (x1 < 64) && decide (x2 < 32)) = true := h
  simp only [Bool.and_eq_true, decide_eq_true_eq] at h
  show encR 0x34 0 x2 0 (0x400 + x1) < _
  apply encR_lt <;> omega
theorem goff (x0 x1 x2 : Nat) : Statement (.goff x0 x1 x2) := by
  intro h
  have h : (decide (x0 < 34) && decide (x1 < 64) && decide (x2 < 8)) = true := h
  simp only [Bool.and_eq_true, decide_eq_true_eq] at h
  show encR 0x34 0 x2 0 (0x500 + x1) < _
  apply encR_lt <;> omega
theorem gcommit (x0 x1 x2 : Nat) : Statement (.gcommit x0 x1 x2) := by
  intro h
  have h : (decide (x0 < 34) && decide (x1 < 32) && decide (x2 < 64)) = true := h
  simp only [Bool.and_eq_true, decide_eq_true_eq] at h
  show encR 0x34 x1 0 0 (0x600 + x2) < _
  apply encR_lt <;> omega
theorem objrd (x0 x1 x2 x3 : Nat) : Statement (.objrd x0 x1 x2 x3) := by
  intro h
  have h : (decide (x0 < 34) && decide (x1 < 32) && decide (x2 < 32) && decide (x3 < 65536)) = true := h
  simp only [Bool.and_eq_true, decide_eq_true_eq] at h
  show encI 0x35 x1 x2 x3 < _
  apply encI_lt <;> omega
theorem objrdp (x0 x1 x2 x3 : Nat) : Statement (.objrdp x0 x1 x2 x3) := by
  intro h
  have h : (decide (x0 < 34) && decide (x1 < 8) && decide (x2 < 32) && decide (x3 < 65536)) = true := h
  simp only [Bool.and_eq_true, decide_eq_true_eq] at h
  show encI 0x36 x1 x2 x3 < _
  apply encI_lt <;> omega
theorem objwr (x0 x1 x2 x3 : Nat) : Statement (.objwr x0 x1 x2 x3) := by
  intro h
  have h : (decide (x0 < 34) && decide (x1 < 32) && decide (x2 < 32) && decide (x3 < 65536)) = true := h
  simp only [Bool.and_eq_true, decide_eq_true_eq] at h
  show encI 0x37 x1 x2 x3 < _
  apply encI_lt <;> omega
theorem objwrp (x0 x1 x2 x3 : Nat) : Statement (.objwrp x0 x1 x2 x3) := by
  intro h
  have h : (decide (x0 < 34) && decide (x1 < 8) && decide (x2 < 32) && decide (x3 < 65536)) = true := h
  simp only [Bool.and_eq_true, decide_eq_true_eq] at h
  show encI 0x38 x1 x2 x3 < _
  apply encI_lt <;> omega
theorem objectWriteDelivery (x0 : Nat) : Statement (.objectWriteDelivery x0) := fun _ => Nat.two_pow_pos 32
theorem send (x0 x1 x2 x3 : Nat) : Statement (.send x0 x1 x2 x3) := by
  intro h
  have h : (decide (x0 < 34) && decide (x1 < 32) && decide (x2 < 32) && decide (x3 < 8)) = true := h
  simp only [Bool.and_eq_true, decide_eq_true_eq] at h
  show encR 0x39 x1 x2 x3 0 < _
  apply encR_lt <;> omega
theorem remoteMessageArrival (x0 x1 x2 : Nat) : Statement (.remoteMessageArrival x0 x1 x2) := fun _ => Nat.two_pow_pos 32
theorem recv (x0 x1 x2 : Nat) (x3 : Bool) : Statement (.recv x0 x1 x2 x3) := by
  intro h
  have h : (decide (x0 < 34) && decide (x1 < 32) && decide (x2 < 8)) = true := h
  simp only [Bool.and_eq_true, decide_eq_true_eq] at h
  show encR 0x3A x1 x2 0 (bit x3) < _
  have hb : bit x3 ≤ 1 := by cases x3 <;> decide
  apply encR_lt <;> omega
theorem slotw (x0 x1 x2 x3 : Nat) : Statement (.slotw x0 x1 x2 x3) := by
  intro h
  have h : (decide (x0 < 34) && decide (x1 < 32) && decide (x2 < 32) && decide (x3 < 8)) = true := h
  simp only [Bool.and_eq_true, decide_eq_true_eq] at h
  show encR 0x3B x1 x2 x3 0 < _
  apply encR_lt <;> omega
theorem objld (x0 x1 x2 x3 x4 : Nat) : Statement (.objld x0 x1 x2 x3 x4) := by
  intro h
  have h : (decide (x0 < 34) && decide (x1 < 32) && decide (x2 < 32) && decide (x3 < 32) && decide (x4 ≤ 5) && (x4 != 5 || decide (x1 < 8))) = true := h
  simp only [Bool.and_eq_true, Bool.or_eq_true, decide_eq_true_eq] at h
  show encR 0x3C x1 x2 x3 x4 < _
  apply encR_lt <;> omega
theorem objst (x0 x1 x2 x3 x4 : Nat) : Statement (.objst x0 x1 x2 x3 x4) := by
  intro h
  have h : (decide (x0 < 34) && decide (x1 < 32) && decide (x2 < 32) && decide (x3 < 32) && decide (x4 ≤ 3) && (x4 != 3 || decide (x1 < 8))) = true := h
  simp only [Bool.and_eq_true, Bool.or_eq_true, decide_eq_true_eq] at h
  show encR 0x3D x1 x2 x3 x4 < _
  apply encR_lt <;> omega
theorem qpop (x0 x1 x2 x3 : Nat) : Statement (.qpop x0 x1 x2 x3) := by
  intro h
  have h : (decide (x0 < 34) && decide (x1 < 32) && decide (x2 < 32) && decide (x3 < 64)) = true := h
  simp only [Bool.and_eq_true, decide_eq_true_eq] at h
  show encR 0x3E x1 x2 0 x3 < _
  apply encR_lt <;> omega
theorem qpush (x0 x1 x2 x3 : Nat) : Statement (.qpush x0 x1 x2 x3) := by
  intro h
  have h : (decide (x0 < 34) && decide (x1 < 32) && decide (x2 < 32) && decide (x3 < 64)) = true := h
  simp only [Bool.and_eq_true, decide_eq_true_eq] at h
  show encR 0x3E x1 x2 0 (0x40 + x3) < _
  apply encR_lt <;> omega
theorem create (x0 : Nat) : Statement (.create x0) := fun _ => Nat.two_pow_pos 32
theorem free (x0 : Nat) : Statement (.free x0) := fun _ => Nat.two_pow_pos 32
theorem group (x0 : Nat) : Statement (.group x0) := fun _ => Nat.two_pow_pos 32
theorem placeProgram (x0 : Nat) : Statement (.placeProgram x0) := fun _ => Nat.two_pow_pos 32
theorem removeProgram (x0 : Nat) : Statement (.removeProgram x0) := fun _ => Nat.two_pow_pos 32
theorem bindAffinity (x0 : Nat) : Statement (.bindAffinity x0) := fun _ => Nat.two_pow_pos 32
theorem placerMoveDone : Statement (.placerMoveDone) := fun _ => Nat.two_pow_pos 32
theorem deferredFreeDone (x0 : Nat) : Statement (.deferredFreeDone x0) := fun _ => Nat.two_pow_pos 32
theorem stationEnable (x0 : Nat) (x1 : Bool) : Statement (.stationEnable x0 x1) := fun _ => Nat.two_pow_pos 32
theorem gpioSet (x0 : Nat) : Statement (.gpioSet x0) := fun _ => Nat.two_pow_pos 32
theorem gpioClr (x0 : Nat) : Statement (.gpioClr x0) := fun _ => Nat.two_pow_pos 32
theorem endpointReset (x0 : Nat) : Statement (.endpointReset x0) := fun _ => Nat.two_pow_pos 32
theorem busMasterEnable (x0 x1 x2 : Bool) : Statement (.busMasterEnable x0 x1 x2) := fun _ => Nat.two_pow_pos 32
theorem windowRead (x0 x1 : Nat) : Statement (.windowRead x0 x1) := fun _ => Nat.two_pow_pos 32
theorem windowWrite (x0 : Nat) (x1 : List Nat) : Statement (.windowWrite x0 x1) := fun _ => Nat.two_pow_pos 32
theorem ringEnable (x0 : Bool) (x1 x2 : Nat) : Statement (.ringEnable x0 x1 x2) := fun _ => Nat.two_pow_pos 32
theorem sqDoorbell (x0 x1 : Nat) : Statement (.sqDoorbell x0 x1) := fun _ => Nat.two_pow_pos 32
theorem intakeFetch (x0 : Nat) (x1 : List Nat) (x2 : Bool) : Statement (.intakeFetch x0 x1 x2) := fun _ => Nat.two_pow_pos 32
theorem cqHeadDoorbell (x0 x1 : Nat) : Statement (.cqHeadDoorbell x0 x1) := fun _ => Nat.two_pow_pos 32
theorem intakeCompletionWrite (x0 : Nat) : Statement (.intakeCompletionWrite x0) := fun _ => Nat.two_pow_pos 32
theorem msixUnmask (x0 : Nat) : Statement (.msixUnmask x0) := fun _ => Nat.two_pow_pos 32
theorem sqNop (x0 : Nat) : Statement (.sqNop x0) := fun _ => Nat.two_pow_pos 32
theorem page (x0 : Nat) : Statement (.page x0) := fun _ => Nat.two_pow_pos 32
theorem configure (x0 : Nat) : Statement (.configure x0) := fun _ => Nat.two_pow_pos 32
theorem withdraw (x0 : Nat) : Statement (.withdraw x0) := fun _ => Nat.two_pow_pos 32
theorem request (x0 : Nat) : Statement (.request x0) := fun _ => Nat.two_pow_pos 32
theorem purge (x0 : Nat) : Statement (.purge x0) := fun _ => Nat.two_pow_pos 32
theorem moverStart (x0 x1 : Nat) : Statement (.moverStart x0 x1) := fun _ => Nat.two_pow_pos 32
theorem channelResume (x0 x1 : Nat) : Statement (.channelResume x0 x1) := fun _ => Nat.two_pow_pos 32
theorem channelDisable (x0 x1 : Nat) : Statement (.channelDisable x0 x1) := fun _ => Nat.two_pow_pos 32
theorem drainComplete (x0 : Nat) : Statement (.drainComplete x0) := fun _ => Nat.two_pow_pos 32
theorem descriptorRead (x0 : Nat) (x1 : List Nat) : Statement (.descriptorRead x0 x1) := fun _ => Nat.two_pow_pos 32
theorem readCompletion (x0 : Nat) (x1 : List Nat) : Statement (.readCompletion x0 x1) := fun _ => Nat.two_pow_pos 32
theorem busError (x0 x1 : Nat) (x2 : FailedRead) : Statement (.busError x0 x1 x2) := fun _ => Nat.two_pow_pos 32
theorem runPush (x0 : Nat) : Statement (.runPush x0) := fun _ => Nat.two_pow_pos 32
theorem decodeBlockStart (x0 : Nat) : Statement (.decodeBlockStart x0) := fun _ => Nat.two_pow_pos 32
theorem decodeBlockEnd (x0 : Nat) : Statement (.decodeBlockEnd x0) := fun _ => Nat.two_pow_pos 32
theorem decoderDisable (x0 : Nat) : Statement (.decoderDisable x0) := fun _ => Nat.two_pow_pos 32
theorem decoderFlush (x0 : Nat) : Statement (.decoderFlush x0) := fun _ => Nat.two_pow_pos 32
theorem encoderGo (x0 : Nat) : Statement (.encoderGo x0) := fun _ => Nat.two_pow_pos 32
theorem encoderJobEnd (x0 : Nat) (x1 : List (List Nat)) : Statement (.encoderJobEnd x0 x1) := fun _ => Nat.two_pow_pos 32
theorem trainGo : Statement (.trainGo) := fun _ => Nat.two_pow_pos 32
theorem trainComplete (x0 : Nat) : Statement (.trainComplete x0) := fun _ => Nat.two_pow_pos 32
theorem fullRetrain : Statement (.fullRetrain) := fun _ => Nat.two_pow_pos 32
theorem refreshInterval (x0 x1 : Nat) : Statement (.refreshInterval x0 x1) := fun _ => Nat.two_pow_pos 32
theorem mr4Poll (x0 x1 : Bool) : Statement (.mr4Poll x0 x1) := fun _ => Nat.two_pow_pos 32
theorem retrainSlice (x0 : Nat) : Statement (.retrainSlice x0) := fun _ => Nat.two_pow_pos 32
theorem retrainSliceForced (x0 : Nat) : Statement (.retrainSliceForced x0) := fun _ => Nat.two_pow_pos 32
theorem dramRead (x0 x1 x2 x3 x4 x5 x6 x7 x8 x9 x10 : Nat) : Statement (.dramRead x0 x1 x2 x3 x4 x5 x6 x7 x8 x9 x10) := fun _ => Nat.two_pow_pos 32
theorem patrolScrubRead (x0 x1 x2 x3 x4 x5 x6 x7 x8 : Nat) : Statement (.patrolScrubRead x0 x1 x2 x3 x4 x5 x6 x7 x8) := fun _ => Nat.two_pow_pos 32
theorem ddrAlert (x0 x1 : Nat) (x2 : Bool) : Statement (.ddrAlert x0 x1 x2) := fun _ => Nat.two_pow_pos 32
theorem migrationCopy (x0 : Nat) : Statement (.migrationCopy x0) := fun _ => Nat.two_pow_pos 32
theorem scanStart (x0 : Nat) : Statement (.scanStart x0) := fun _ => Nat.two_pow_pos 32
theorem bdGateOpen (x0 : Nat) : Statement (.bdGateOpen x0) := fun _ => Nat.two_pow_pos 32
theorem frameSendStart (x0 x1 : Nat) (x2 : List Int) : Statement (.frameSendStart x0 x1 x2) := fun _ => Nat.two_pow_pos 32
theorem frameComplete (x0 : Nat) : Statement (.frameComplete x0) := fun _ => Nat.two_pow_pos 32
theorem alignBlocks (x0 : Nat) : Statement (.alignBlocks x0) := fun _ => Nat.two_pow_pos 32
theorem drvStatusWord (x0 x1 : Nat) : Statement (.drvStatusWord x0 x1) := fun _ => Nat.two_pow_pos 32
theorem ctrlPush (x0 : Nat) : Statement (.ctrlPush x0) := fun _ => Nat.two_pow_pos 32
theorem ctrlDmaGo (x0 : Nat) : Statement (.ctrlDmaGo x0) := fun _ => Nat.two_pow_pos 32
theorem ctrlDmaDone (x0 : Nat) : Statement (.ctrlDmaDone x0) := fun _ => Nat.two_pow_pos 32
theorem bankNext (x0 x1 : Nat) : Statement (.bankNext x0 x1) := fun _ => Nat.two_pow_pos 32
theorem pageqPush (x0 : Nat) : Statement (.pageqPush x0) := fun _ => Nat.two_pow_pos 32
theorem pageqWithdraw (x0 : Nat) : Statement (.pageqWithdraw x0) := fun _ => Nat.two_pow_pos 32
theorem lutBuildGo (x0 : Nat) : Statement (.lutBuildGo x0) := fun _ => Nat.two_pow_pos 32
theorem lutBuildDone (x0 : Nat) : Statement (.lutBuildDone x0) := fun _ => Nat.two_pow_pos 32
theorem interlockAssert : Statement (.interlockAssert) := fun _ => Nat.two_pow_pos 32
theorem interlockQualified : Statement (.interlockQualified) := fun _ => Nat.two_pow_pos 32
theorem markSample (x0 x1 x2 : Nat) : Statement (.markSample x0 x1 x2) := fun _ => Nat.two_pow_pos 32
theorem markDestEnable (x0 x1 : Nat) : Statement (.markDestEnable x0 x1) := fun _ => Nat.two_pow_pos 32
theorem calWordWrite (x0 x1 : Nat) : Statement (.calWordWrite x0 x1) := fun _ => Nat.two_pow_pos 32
theorem calWriteDone (x0 : Nat) (x1 : Bool) : Statement (.calWriteDone x0 x1) := fun _ => Nat.two_pow_pos 32
theorem pagePlan (x0 : Nat) : Statement (.pagePlan x0) := fun _ => Nat.two_pow_pos 32
theorem admissionDeadline (x0 : Nat) : Statement (.admissionDeadline x0) := fun _ => Nat.two_pow_pos 32
theorem sheetStart (x0 : Nat) : Statement (.sheetStart x0) := fun _ => Nat.two_pow_pos 32
theorem transferPost (x0 : Nat) : Statement (.transferPost x0) := fun _ => Nat.two_pow_pos 32
theorem fuserPost (x0 : Nat) : Statement (.fuserPost x0) := fun _ => Nat.two_pow_pos 32
theorem sensorEdgeCapture (x0 : Nat) (x1 : Bool) : Statement (.sensorEdgeCapture x0 x1) := fun _ => Nat.two_pow_pos 32
theorem jamWindowClose (x0 x1 : Nat) (x2 : Bool) : Statement (.jamWindowClose x0 x1 x2) := fun _ => Nat.two_pow_pos 32
theorem feedFail : Statement (.feedFail) := fun _ => Nat.two_pow_pos 32
theorem pathFault : Statement (.pathFault) := fun _ => Nat.two_pow_pos 32
theorem purgeDone : Statement (.purgeDone) := fun _ => Nat.two_pow_pos 32
theorem pageReport : Statement (.pageReport) := fun _ => Nat.two_pow_pos 32
theorem axisStart (x0 : Nat) : Statement (.axisStart x0) := fun _ => Nat.two_pow_pos 32
theorem startNEdge : Statement (.startNEdge) := fun _ => Nat.two_pow_pos 32
theorem axisStop (x0 : Nat) : Statement (.axisStop x0) := fun _ => Nat.two_pow_pos 32
theorem axisDisable (x0 : Nat) : Statement (.axisDisable x0) := fun _ => Nat.two_pow_pos 32
theorem axisEnable (x0 : Nat) : Statement (.axisEnable x0) := fun _ => Nat.two_pow_pos 32
theorem focCurrentUpdate (x0 x1 x2 x3 x4 : Nat) : Statement (.focCurrentUpdate x0 x1 x2 x3 x4) := fun _ => Nat.two_pow_pos 32
theorem overcurrent (x0 : Nat) : Statement (.overcurrent x0) := fun _ => Nat.two_pow_pos 32
theorem alignPulseEnd (x0 x1 x2 : Nat) : Statement (.alignPulseEnd x0 x1 x2) := fun _ => Nat.two_pow_pos 32
theorem probePulseEnd (x0 x1 x2 : Nat) : Statement (.probePulseEnd x0 x1 x2) := fun _ => Nat.two_pow_pos 32
theorem probeRepeat (x0 : Nat) : Statement (.probeRepeat x0) := fun _ => Nat.two_pow_pos 32
theorem startTimeout (x0 : Nat) : Statement (.startTimeout x0) := fun _ => Nat.two_pow_pos 32
theorem atSpeed (x0 : Nat) : Statement (.atSpeed x0) := fun _ => Nat.two_pow_pos 32
theorem busVoltageSample (x0 x1 : Nat) : Statement (.busVoltageSample x0 x1) := fun _ => Nat.two_pow_pos 32
theorem stepperFullStep (x0 : Nat) (x1 : Int) : Statement (.stepperFullStep x0 x1) := fun _ => Nat.two_pow_pos 32
theorem accelerationEnd (x0 x1 : Nat) : Statement (.accelerationEnd x0 x1) := fun _ => Nat.two_pow_pos 32
theorem hearthGateOn (x0 x1 : Nat) : Statement (.hearthGateOn x0 x1) := fun _ => Nat.two_pow_pos 32
theorem zonePidUpdate (x0 : Nat) : Statement (.zonePidUpdate x0) := fun _ => Nat.two_pow_pos 32
theorem cordDecision (x0 : Nat) : Statement (.cordDecision x0) := fun _ => Nat.two_pow_pos 32
theorem hearthGateOff (x0 : Nat) : Statement (.hearthGateOff x0) := fun _ => Nat.two_pow_pos 32
theorem thSample (x0 : Nat) (x1 : Ratio) (x2 : Nat) : Statement (.thSample x0 x1 x2) := fun _ => Nat.two_pow_pos 32
theorem rateWindow : Statement (.rateWindow) := fun _ => Nat.two_pow_pos 32
theorem zoneEnable (x0 : Nat) (x1 : Bool) : Statement (.zoneEnable x0 x1) := fun _ => Nat.two_pow_pos 32
theorem journalEntryWritten : Statement (.journalEntryWritten) := fun _ => Nat.two_pow_pos 32
theorem tripAck (x0 : Nat) : Statement (.tripAck x0) := fun _ => Nat.two_pow_pos 32
theorem dieSample (x0 x1 : Nat) : Statement (.dieSample x0 x1) := fun _ => Nat.two_pow_pos 32
theorem hvWindow (x0 x1 : Nat) (x2 : List (Nat × Nat)) : Statement (.hvWindow x0 x1 x2) := fun _ => Nat.two_pow_pos 32
theorem hvEnable (x0 : Nat) (x1 : Bool) : Statement (.hvEnable x0 x1) := fun _ => Nat.two_pow_pos 32
theorem thaiqEnable : Statement (.thaiqEnable) := fun _ => Nat.two_pow_pos 32
theorem linkTrained (x0 x1 x2 : Nat) : Statement (.linkTrained x0 x1 x2) := fun _ => Nat.two_pow_pos 32
theorem hopDown (x0 : Nat) : Statement (.hopDown x0) := fun _ => Nat.two_pow_pos 32
theorem broadcastArrival (x0 x1 x2 x3 : Nat) : Statement (.broadcastArrival x0 x1 x2 x3) := fun _ => Nat.two_pow_pos 32
theorem mramRewrite : Statement (.mramRewrite) := fun _ => Nat.two_pow_pos 32
theorem vbatLoss : Statement (.vbatLoss) := fun _ => Nat.two_pow_pos 32
theorem resetNRelease : Statement (.resetNRelease) := fun _ => Nat.two_pow_pos 32
theorem pcieLinkUp (x0 x1 : Nat) : Statement (.pcieLinkUp x0 x1) := fun _ => Nat.two_pow_pos 32
theorem receiveLaneLock (x0 : Nat) : Statement (.receiveLaneLock x0) := fun _ => Nat.two_pow_pos 32

end Sys2Proof.Laws.Encoding
end

