-- ==== Sys2Proof/Machine/Balls.lean ====
section
/-!
DEFINITION. The levels of the balls the device drives, from their supplies and from the blocks behind them (R54, R57, R60, R61, R102,
R111, R112). What the rest of the state means at the package; no command reads it.
-/

namespace Sys2Proof.Machine

/-- A ball the device can drive, or a group of balls that go together; a differential pair is one. -/
inductive Ball where
  | laserEn (k : Nat)
  | pwm (a : Nat)         -- every PWM ball of an axis, numbered as in `AxisOps`
  | htr (n : Nat)
  | hvEn (n : Nat)
  | hvRef (n : Nat)
  | dsclk (n : Nat)
  | clkoutMon
  | beamLane (k : Nat)    -- the four lanes of station k
  | thaiqTx
  | dotclk (k : Nat)
  | sos (k : Nat)
  | pcieTx
  | ddrData               -- DQ, CB, DQS
  | ddrClock              -- CK
  | ddrCommand            -- CA
  | ddrSelect             -- CS_N
  | ddrReset              -- DRST_N
  | en (n : Nat)
  | pseqOut
  | faultN
  | thermTripN
  | stbyAlertN
  | startN
  | gpio (n : Nat)
  | fsck
  | fcsN
  | fio
  | uartTx
  | tdo
  | wakeN                 -- WAKE_N and CLKREQ_N
  | i2c
deriving DecidableEq, Repr

/-- What a ball does. -/
inductive Level where
  /-- High-impedance: the board's resistor or another driver sets the level; an open-drain ball that is released. -/
  | undriven
  | low
  | high
  /-- Both legs of a pair at one level without transitions. -/
  | idle
  /-- It carries the signal its block makes. -/
  | signal
deriving DecidableEq, Repr

/-- High or low. -/
def Level.ofBool (b : Bool) : Level := if b then .high else .low

/-- An open-drain ball: low, or released. -/
def Level.pull (b : Bool) : Level := if b then .low else .undriven

/-- The own rail that feeds a ball (R52, R54): 2 VDDIO33, 3 VDDS, 4 VDDS18, 5 VDDQ; none for a ball of the standby supply. -/
def Ball.rail : Ball → Option Nat
  | .laserEn _ | .dotclk _ | .sos _ => some 4
  | .beamLane _ | .thaiqTx | .pcieTx => some 3
  | .ddrData | .ddrClock | .ddrCommand | .ddrSelect | .ddrReset => some 5
  | .en _ | .pseqOut | .faultN | .thermTripN | .stbyAlertN => none
  | .pwm _ | .htr _ | .hvEn _ | .hvRef _ | .dsclk _ | .clkoutMon | .startN | .gpio _ | .fsck | .fcsN | .fio | .uartTx | .tdo | .wakeN | .i2c => some 2

/-- Is the ball's supply on (R57, R112)? -/
def State.supplied (s : State) (b : Ball) : Bool :=
  s.tinder.vstby && (match b.rail with
    | none => true
    | some n => !s.railDown n)

/-- The level from reset assertion to configuration (R54). -/
def Ball.resetLevel : Ball → Level
  | .laserEn _ | .pwm _ | .htr _ | .hvEn _ | .hvRef _ | .dsclk _ | .clkoutMon | .ddrClock | .ddrCommand | .ddrReset | .fsck | .en _ | .pseqOut => .low
  | .ddrSelect | .fcsN | .uartTx => .high
  | .beamLane _ | .thaiqTx | .dotclk _ | .sos _ | .pcieTx => .idle
  | .faultN | .thermTripN => .low
  | .ddrData | .stbyAlertN | .startN | .gpio _ | .fio | .tdo | .wakeN | .i2c => .undriven

/-- Does a bridge of the axis switch in this phase? -/
def bridgesOn (p : Nat) : Bool := !(p == phOff || p == phIdle || p == phCoast)

/-- CLKOUT_MON: the selected clock divided, low where none runs or the result would pass 100 MHz (R147). -/
def State.monLevel (s : State) : Level :=
  let d := s.fld CLOCK.MON_CTRL_MON_DIV + 1
  let sel := s.fld CLOCK.MON_CTRL_MON_SEL
  let at' := fun (running slow : Bool) => if running && slow then Level.signal else .low
  if 1 ≤ sel ∧ sel ≤ 5 then
    let p := sel - 1
    -- the PCIe PLL's frequency is not visible (R127)
    at' (s.domain p) (decide (p = 3) ||
      decide (25 * (s.fld (CLOCK.PLL_CFG_NINT p) * 2 ^ 24 + s.fld (CLOCK.PLL_CFG_FRAC p)) ≤ 100 * d * 2 ^ 24))
  else if 6 ≤ sel ∧ sel ≤ 11 then
    let k := sel - 6
    at' (!(s.syn k).idle && !s.on (CLOCK.SYN_STATUS_GATED k)) (decide ((s.syn k).fcw * 10 ≤ d * 2 ^ 48))
  else if sel = 12 then at' s.tinder.crystal true
  else .low

/-- Do the dot clock and the strobe of station `k` run (R18, R132, R134, R143)? -/
def State.dotRuns (s : State) (k : Nat) : Bool :=
  s.on (CLOCK.SYN_CTRL_ENABLE k) && !(s.syn k).idle && !s.on (CLOCK.SYN_STATUS_GATED k) && decide (s.eng ≠ engSafe)

/-- The level that the block behind a ball gives it, once reset is released. -/
def State.liveLevel (s : State) : Ball → Level
  | .laserEn k => .ofBool (s.on (GRAVER.LASER_CTRL_LEVEL k))
  | .pwm a => if bridgesOn (s.axPhase a) then .signal else .low
  | .htr n => .ofBool (s.lamp n).htr
  | .hvEn n => .ofBool (s.on (HV.V_STATUS_OUTPUT n))
  | .hvRef n => if s.on (HV.V_STATUS_OUTPUT n) then .signal else .low
  | .dsclk n => .ofBool (s.on (CLOCK.GCLK_CTRL_ENABLE n) && (s.gclk n).high)
  | .clkoutMon => s.monLevel
  | .beamLane k => if s.lanesOn k then .signal else .idle
  | .thaiqTx => if s.on THAIQ.CTRL_ENABLE && s.domain 4 then .signal else .idle
  | .dotclk k => if s.dotRuns k then .signal else .idle
  | .sos k => if s.on (GRAVER.STATUS_BD_GATE k) then .high else if s.dotRuns k then .low else .idle
  | .pcieTx => if s.domain 3 && s.on INTAKE.EP_STATUS_PERST_N then .signal else .idle
  | .ddrData | .ddrClock | .ddrCommand | .ddrSelect => .signal
  | .ddrReset => .ofBool (decide (2 ≤ s.fld DRAMC.TRAIN_STATE))
  | .startN => .pull s.engine.startN
  | .gpio n => (match s.gpioDriven n with
      | some v => .ofBool v
      | none => .undriven)
  | .fsck | .fcsN | .fio => .signal
  | .uartTx => if s.uartServes then .signal else .high
  | .en n => .ofBool (s.tinder.en.testBit n)
  | .pseqOut => .ofBool (s.on TINDER.SEQ_STATUS_PSEQ_OUT)
  | .faultN => .pull (!s.faultN)
  | .thermTripN => .ofBool s.thermTripN
  | .stbyAlertN => .pull (!s.stbyAlertN)
  | .tdo | .wakeN | .i2c => .undriven

/-- Does a ball keep its reset level although reset is released: the flash balls while nothing accesses the flash, the DDR5 balls until
training starts (R112)? -/
def State.keepsReset (s : State) : Ball → Bool
  | .fsck | .fcsN | .fio => !(s.tinder.flashOp.isSome || (decide (s.bootSource = bootFlash) && decide (s.bootStage < 3)))
  | .ddrData | .ddrClock | .ddrCommand | .ddrSelect | .ddrReset => decide (s.fld DRAMC.TRAIN_STATE = 0)
  | _ => false

/-- Is a ball of Tinder's own, which follows its state through a reset (R54, R112)? -/
def Ball.standby (b : Ball) : Bool := b.rail.isNone

/-- The level at a ball (R54, R57, R112): undriven without its supply, Tinder's as its state has it, the others at their reset levels from
reset assertion to the release and while the outputs are held. -/
def State.ballLevel (s : State) (b : Ball) : Level :=
  if !s.supplied b then .undriven
  else if b.standby then s.liveLevel b
  else if s.tinder.inReset || s.tinder.outputsHeld || s.keepsReset b then b.resetLevel
  else s.liveLevel b

end Sys2Proof.Machine
end

