-- ==== Sys2Proof/Machine/Lanes.lean ====
section
/-!
DEFINITION. What a station's beam lanes carry for what the Graver sends: 66-bit blocks, their types and layouts, and the scrambler
(R395–R397). No command reads it.
-/

namespace Sys2Proof.Machine

/-- A block: its sync header is 0b01 for data and 0b10 for control; its payload is eight bytes, byte `j` at bits 8j + 7 : 8j (R395). -/
structure Block where
  control : Bool
  bytes : List Nat
deriving DecidableEq, Repr

def idleBlock : Block := ⟨true, [0x1E, 0, 0, 0, 0, 0, 0, 0]⟩

/-- A CTRL block: its CRC-8 is taken over bytes 2 to 7. -/
def ctrlBlock (addr data : Nat) : Block :=
  let b := leBytes 2 addr ++ leBytes 4 data
  ⟨true, [0x2D, crc8 b] ++ b⟩

/-- The ALIGN block of a lane. -/
def alignBlock (lane station count : Nat) : Block := ⟨true, [0x4B, lane, station] ++ leBytes 2 count ++ [0, 0, 0]⟩

/-- The END block of a lane: the CRC-32C and the number of its data blocks. -/
def endBlock (crc count : Nat) : Block := ⟨true, [0x7C] ++ leBytes 4 crc ++ leBytes 3 count⟩

/-- What lane `lane` carries for one thing the Graver of station `k` sends (R396, R397, R400): its header block, every fourth data word,
its END block; a CTRL block on lane 0 alone. -/
def laneBlocks (k lane : Nat) : Sent → List Block
  | .frame j header words crcs =>
    if j = k then
      let mine := (List.range (words.length / 4)).map (fun i => words.getD (4 * i + lane) 0)
      [⟨true, (header.drop (8 * lane)).take 8⟩] ++ mine.map (fun w => ⟨false, leBytes 8 w⟩) ++ [endBlock (crcs.getD lane 0) mine.length]
    else []
  | .ctrl j addr data => if j = k ∧ lane = 0 then [ctrlBlock addr data] else []
  | .align j count => if j = k then [alignBlock lane k count] else []
  | .msix _ => []
  | .hostWrite _ _ => []
  | .hostRead _ _ => []
  | .message _ _ _ _ => []
  | .broadcast _ _ _ => []
  | .forwarded _ _ _ _ => []
  | .startEvent => []
  | .remoteWrite _ _ _ _ => []
  | .sos _ _ => []

/-- The scrambler x^58 + x^39 + 1 over bits in the order they are sent; its state is the last 58 bits sent, the newest in bit 0. -/
def scramble (st : Nat) : List Bool → List Bool × Nat
  | [] => ([], st)
  | b :: l =>
    let o := b ^^ (st.testBit 38) ^^ (st.testBit 57)
    let r := scramble ((2 * st + bit o) % 2 ^ 58) l
    (o :: r.1, r.2)

/-- The 66 bits of a block, first bit first, and the scrambler's state after it: the sync header goes out unscrambled. -/
def Block.send (x : Block) (st : Nat) : List Bool × Nat :=
  let r := scramble st (x.bytes.flatMap (fun b => (List.range 8).map (fun i => b.testBit i)))
  ([x.control, !x.control] ++ r.1, r.2)

/-- The bits of a list of blocks on lane `lane` of station `k`; POL inverts the lane (R406). -/
def State.laneBits (s : State) (k lane : Nat) : Nat → List Block → List Bool
  | _, [] => []
  | st, x :: l =>
    let r := x.send st
    r.1.map (fun b => b ^^ (s.fld (GRAVER.LANE_CFG_POL k)).testBit lane) ++ s.laneBits k lane r.2 l

end Sys2Proof.Machine
end

