-- ==== Sys2Proof/Tests/Slice0.lean ====
section
/-!
SUPPORT. Tests of the model on small states, and for every statement with hypotheses a state and operands that meet them.
-/

open Sys2Proof Sys2Proof.Machine Sys2Proof.Statements

namespace Sys2Proof.Tests

set_option Elab.async false

/-! ## Well-formedness -/

/-- Commands at the top of every range are well formed. -/
theorem test_well_formed_0 : List.all (α := Instr) [
    .railOnDelayExpiry 15, .railGood 15, .railTimeout 15, .railMonitorSample 15 1023 false 0, .railFail 15, .railDischargeTimeout 15, .railRetry 15,
    .domainRelease 4, .clockHold ⟨4, some ⟨true, true, 2 ^ 32⟩⟩, .uartMramRead 255 4294967295 4294967295, .uartMramWrite 255 4294967295 [] false,
    .uartFlashRead 4294967295 4294967295 false, .uartFlashErase 4294967295 false, .uartFlashWrite 4294967295 [] false, .uartFrameRefused [],
    .mramWordWrite 4294967295, .flashRead 511, .flashErase 4095, .flashProgram 4095 511, .faultClear 1 4294967295, .faultForce 1 4294967295,
    .intStatClear 0 4294967295, .w1cClear 0 4294967295, .registerWrite 16777215 (2 ^ 64 - 1) ⟨255, .host⟩, .loReadLatch ⟨0xFFFFF8, 8, .jtag⟩, .capPosHiRead 15,
    .pllReacquire 4 false 4294967295, .pllLock 4, .pllUnlock 4 false, .bdEdge 5 0 0, .bdWindowMissed 5, .predictedSyncEvent 5 0,
    .gclkDivWrite 23 4294967295 false, .phaseReset 23, .gclkEnable 23 false, .gclkGatedClear 23, .encoderEdge 15 false false 0 0, .indexEdge 15,
    .auxEdge 22 0 0, .zcEdge 26 false 0 0] wellFormed = true := by decide

/-- Commands at the top of every range are well formed. -/
theorem test_well_formed_1 : List.all (α := Instr) [
    .gaugeCoastStart 63, .signalLost 63, .remoteStamp 15 18446744073709551615 4294967295 false, .remoteLost 15, .resume 63, .flush 63, .preset 63,
    .vgCommit 15, .rgSrcWrite 15 4294967295 0 0, .captureEdge 15 false, .facetIdRunEnd 5, .assume 5, .restart 5, .calendarInsertDone 8191,
    .entryCrossing 63 18446744073709551615, .calendarFireDeferred 63, .haltEntryRemoval 33, .entrySel 8191, .add 33 31 31 31, .sub 33 31 31 31,
    .and 33 31 31 31, .or 33 31 31 31, .xor 33 31 31 31, .andn 33 31 31 31, .sll 33 31 31 31, .srl 33 31 31 31, .sra 33 31 31 31, .lts 33 31 31 31,
    .ltu 33 31 31 31, .min 33 31 31 31, .max 33 31 31 31, .minu 33 31 31 31, .maxu 33 31 31 31, .clz 33 31 31, .popc 33 31 31, .slli 33 31 31 31,
    .srli 33 31 31 31, .srai 33 31 31 31, .mullo 33 31 31 31, .mulhs 33 31 31 31] wellFormed = true := by decide

/-- Commands at the top of every range are well formed. -/
theorem test_well_formed_2 : List.all (α := Instr) [
    .mulhu 33 31 31 31, .mulhm 33 31 31 31, .divs 33 31 31 31, .divu 33 31 31 31, .mods 33 31 31 31, .modu 33 31 31 31, .addi 33 31 31 65535,
    .andi 33 31 31 65535, .ori 33 31 31 65535, .xori 33 31 31 65535, .ltsi 33 31 31 65535, .ltui 33 31 31 65535, .lui 33 31 65535,
    .lb 33 31 31 65535, .lbu 33 31 31 65535, .lh 33 31 31 65535, .lhu 33 31 31 65535, .lw 33 31 31 65535, .pld 33 7 31 65535, .sb 33 31 31 65535,
    .sh 33 31 31 65535, .sw 33 31 31 65535, .pst 33 7 31 65535, .beq 33 31 31 65535, .bne 33 31 31 65535, .blt 33 31 31 65535, .bge 33 31 31 65535,
    .bltu 33 31 31 65535, .bgeu 33 31 31 65535, .jal 33 31 65535, .jalr 33 31 31 65535, .padd 33 7 7 7, .psub 33 7 7 7, .paddc 33 7 7 31,
    .paddf 33 7 7 31, .pmov 33 7 7, .psetc 33 7 31, .plo 33 31 7, .phi 33 31 7, .psetlo 33 7 31] wellFormed = true := by decide

/-- Commands at the top of every range are well formed. -/
theorem test_well_formed_3 : List.all (α := Instr) [
    .psethi 33 7 31, .pcmp 33 31 7 7, .pmulc 33 7 7 31, .crr 33 31 255, .crw 33 31 255 31, .crs 33 31 255 31, .crc 33 31 255 31, .nop 33, .eret 33,
    .brk 33 1023, .halt 33, .isync 33, .gaugeFaultException 33, .breakpointHit 33, .coreRun 33, .coreHaltReq 33, .haltComplete 33, .coreStep 33,
    .coreReinit 33, .debugRegisterWrite 33 4294967295, .debugRegisterRead 33, .arm 33 31 7 31 63 3 false, .disarm 33 31 31,
    .waitp 33 31 7 63 3 false, .waitev 33 31 15, .grd 33 7 63, .gst 33 31 63, .gsrc 33 63 31, .gc1 33 63 31, .gc2 33 63 31, .goff 33 63 7,
    .gcommit 33 31 63, .objrd 33 31 31 65535, .objrdp 33 7 31 65535, .objwr 33 31 31 65535, .objwrp 33 7 31 65535, .objectWriteDelivery 33,
    .send 33 31 31 7, .remoteMessageArrival 33 18446744073709551615 65535, .recv 33 31 7 false] wellFormed = true := by decide

/-- Commands at the top of every range are well formed. -/
theorem test_well_formed_4 : List.all (α := Instr) [
    .slotw 33 31 31 7, .objld 33 31 31 31 4, .objst 33 31 31 31 2, .qpop 33 31 31 63, .qpush 33 31 31 63, .create 2, .free 2, .group 2,
    .placeProgram 2, .removeProgram 2, .bindAffinity 2, .deferredFreeDone 4095, .stationEnable 5 false, .gpioSet 4294967295, .gpioClr 4294967295,
    .endpointReset 3, .windowRead 0 4294967295, .windowWrite 0 [], .ringEnable false 15 4294967295, .sqDoorbell 15 4294967295,
    .intakeFetch 15 [] false, .cqHeadDoorbell 15 4294967295, .intakeCompletionWrite 15, .msixUnmask 32, .sqNop 15, .page 15, .configure 15,
    .withdraw 15, .request 15, .purge 15, .moverStart 31 4294967295, .channelResume 31 4294967295, .channelDisable 31 4294967295, .drainComplete 31,
    .descriptorRead 31 [], .readCompletion 31 [], .busError 31 0 ⟨18446744073709551615, some (31, [255])⟩, .runPush 5, .decodeBlockStart 5, .decodeBlockEnd 5] wellFormed = true := by decide

/-- Commands at the top of every range are well formed. -/
theorem test_well_formed_5 : List.all (α := Instr) [
    .decoderDisable 5, .decoderFlush 5, .encoderGo 1, .encoderJobEnd 1 [[255]], .trainComplete 255, .refreshInterval 1 0, .retrainSlice 1,
    .retrainSliceForced 1, .dramRead 11 4095 7 0 4294967295 7 1 31 0 1023 0, .patrolScrubRead 0 4294967295 7 0 1 31 0 1023 0, .ddrAlert 7 1 false,
    .migrationCopy 1, .scanStart 5, .bdGateOpen 5, .frameSendStart 5 0 [], .frameComplete 5, .alignBlocks 5, .drvStatusWord 5 1099511627775,
    .ctrlPush 5, .ctrlDmaGo 5, .ctrlDmaDone 5, .bankNext 5 1, .pageqPush 5, .pageqWithdraw 5, .lutBuildGo 5, .lutBuildDone 5, .markSample 7 4095 0,
    .markDestEnable 7 4294967295, .calWordWrite 5 4294967295, .calWriteDone 5 false, .transferPost 63, .fuserPost 63, .sensorEdgeCapture 23 false,
    .jamWindowClose 63 23 false, .axisStart 19, .axisStop 19, .axisDisable 19, .axisEnable 19, .focCurrentUpdate 19 0 0 0 0, .overcurrent 19] wellFormed = true := by decide

/-- Commands at the top of every range are well formed. -/
theorem test_well_formed_6 : List.all (α := Instr) [
    .alignPulseEnd 19 0 4294967295, .probePulseEnd 19 0 0, .probeRepeat 19, .startTimeout 19, .atSpeed 19, .busVoltageSample 7 65535,
    .stepperFullStep 7 0, .accelerationEnd 19 0, .hearthGateOn 2 7, .zonePidUpdate 2, .cordDecision 2, .hearthGateOff 2, .thSample 15 ⟨0, 0⟩ 100,
    .zoneEnable 7 false, .tripAck 4294967295, .dieSample 3 4095, .hvWindow 31 81900 [(255, 0)], .hvEnable 31 false, .linkTrained 3 4 0, .hopDown 1,
    .broadcastArrival 3 3 31 0, .pcieLinkUp 15 15, .receiveLaneLock 1] wellFormed = true := by decide

/-- One operand just outside its range makes a command ill formed. -/
theorem test_ill_formed_0 : List.all (α := Instr) [
    .railOnDelayExpiry 16, .railGood 16, .railTimeout 16, .railMonitorSample 16 0 false 0, .railMonitorSample 0 1024 false 0, .railFail 16,
    .railDischargeTimeout 16, .railRetry 16, .domainRelease 5, .clockHold ⟨5, none⟩, .uartMramRead 256 0 0, .uartMramRead 0 4294967296 0,
    .uartMramRead 0 0 4294967296, .uartMramWrite 256 0 [] false, .uartMramWrite 0 4294967296 [] false, .uartMramWrite 0 0 [256] false,
    .uartFlashRead 4294967296 0 false, .uartFlashRead 0 4294967296 false, .uartFlashErase 4294967296 false, .uartFlashWrite 4294967296 [] false,
    .uartFlashWrite 0 [256] false, .uartFrameRefused [256], .mramWordWrite 4294967296, .flashRead 512, .flashErase 4096, .flashProgram 4096 0,
    .flashProgram 0 512, .faultClear 22 0, .faultClear 524 0, .faultClear 1 4294967296, .faultForce 22 0, .faultForce 524 0,
    .faultForce 1 4294967296, .intStatClear 22 0, .intStatClear 0 4294967296, .w1cClear 16777216 0, .w1cClear 2 0, .w1cClear 0 4294967296,
    .registerWrite 16777216 0 ⟨0, .host⟩, .registerWrite 0 (2 ^ 64) ⟨0, .host⟩] (fun c => !wellFormed c) = true := by decide

/-- One operand just outside its range makes a command ill formed. -/
theorem test_ill_formed_1 : List.all (α := Instr) [
    .registerWrite 0 0 ⟨256, .host⟩, .loReadLatch ⟨16777216, 4, .host⟩, .loReadLatch ⟨2, 4, .host⟩, .loReadLatch ⟨0, 3, .host⟩, .capPosHiRead 16, .pllReacquire 5 false 0, .pllReacquire 0 false 4294967296,
    .pllLock 5, .pllUnlock 5 false, .bdEdge 6 0 0, .bdWindowMissed 6, .predictedSyncEvent 6 0, .gclkDivWrite 24 0 false,
    .gclkDivWrite 0 4294967296 false, .phaseReset 24, .gclkEnable 24 false, .gclkGatedClear 24, .encoderEdge 16 false false 0 0, .indexEdge 16,
    .auxEdge 21 0 0, .auxEdge 24 0 0, .zcEdge 23 false 0 0, .zcEdge 27 false 0 0, .gaugeCoastStart 64, .signalLost 64, .remoteStamp 16 0 0 false,
    .remoteStamp 0 18446744073709551616 0 false, .remoteStamp 0 0 4294967296 false, .remoteLost 16, .resume 64, .flush 64, .preset 64, .vgCommit 16,
    .rgSrcWrite 16 0 0 0, .rgSrcWrite 0 4294967296 0 0, .captureEdge 16 false, .facetIdRunEnd 6, .assume 6, .restart 6, .calendarInsertDone 8192,
    .entryCrossing 64 0] (fun c => !wellFormed c) = true := by decide

/-- One operand just outside its range makes a command ill formed. -/
theorem test_ill_formed_2 : List.all (α := Instr) [
    .entryCrossing 0 18446744073709551616, .calendarFireDeferred 64, .haltEntryRemoval 34, .entrySel 8192, .add 34 0 0 0, .add 0 32 0 0,
    .add 0 0 32 0, .add 0 0 0 32, .sub 34 0 0 0, .sub 0 32 0 0, .sub 0 0 32 0, .sub 0 0 0 32, .and 34 0 0 0, .and 0 32 0 0, .and 0 0 32 0,
    .and 0 0 0 32, .or 34 0 0 0, .or 0 32 0 0, .or 0 0 32 0, .or 0 0 0 32, .xor 34 0 0 0, .xor 0 32 0 0, .xor 0 0 32 0, .xor 0 0 0 32,
    .andn 34 0 0 0, .andn 0 32 0 0, .andn 0 0 32 0, .andn 0 0 0 32, .sll 34 0 0 0, .sll 0 32 0 0, .sll 0 0 32 0, .sll 0 0 0 32, .srl 34 0 0 0,
    .srl 0 32 0 0, .srl 0 0 32 0, .srl 0 0 0 32, .sra 34 0 0 0, .sra 0 32 0 0, .sra 0 0 32 0, .sra 0 0 0 32] (fun c => !wellFormed c) = true := by decide

/-- One operand just outside its range makes a command ill formed. -/
theorem test_ill_formed_3 : List.all (α := Instr) [
    .lts 34 0 0 0, .lts 0 32 0 0, .lts 0 0 32 0, .lts 0 0 0 32, .ltu 34 0 0 0, .ltu 0 32 0 0, .ltu 0 0 32 0, .ltu 0 0 0 32, .min 34 0 0 0,
    .min 0 32 0 0, .min 0 0 32 0, .min 0 0 0 32, .max 34 0 0 0, .max 0 32 0 0, .max 0 0 32 0, .max 0 0 0 32, .minu 34 0 0 0, .minu 0 32 0 0,
    .minu 0 0 32 0, .minu 0 0 0 32, .maxu 34 0 0 0, .maxu 0 32 0 0, .maxu 0 0 32 0, .maxu 0 0 0 32, .clz 34 0 0, .clz 0 32 0, .clz 0 0 32,
    .popc 34 0 0, .popc 0 32 0, .popc 0 0 32, .slli 34 0 0 0, .slli 0 32 0 0, .slli 0 0 32 0, .slli 0 0 0 32, .srli 34 0 0 0, .srli 0 32 0 0,
    .srli 0 0 32 0, .srli 0 0 0 32, .srai 34 0 0 0, .srai 0 32 0 0] (fun c => !wellFormed c) = true := by decide

/-- One operand just outside its range makes a command ill formed. -/
theorem test_ill_formed_4 : List.all (α := Instr) [
    .srai 0 0 32 0, .srai 0 0 0 32, .mullo 34 0 0 0, .mullo 0 32 0 0, .mullo 0 0 32 0, .mullo 0 0 0 32, .mulhs 34 0 0 0, .mulhs 0 32 0 0,
    .mulhs 0 0 32 0, .mulhs 0 0 0 32, .mulhu 34 0 0 0, .mulhu 0 32 0 0, .mulhu 0 0 32 0, .mulhu 0 0 0 32, .mulhm 34 0 0 0, .mulhm 0 32 0 0,
    .mulhm 0 0 32 0, .mulhm 0 0 0 32, .divs 34 0 0 0, .divs 0 32 0 0, .divs 0 0 32 0, .divs 0 0 0 32, .divu 34 0 0 0, .divu 0 32 0 0, .divu 0 0 32 0,
    .divu 0 0 0 32, .mods 34 0 0 0, .mods 0 32 0 0, .mods 0 0 32 0, .mods 0 0 0 32, .modu 34 0 0 0, .modu 0 32 0 0, .modu 0 0 32 0, .modu 0 0 0 32,
    .addi 34 0 0 0, .addi 0 32 0 0, .addi 0 0 32 0, .addi 0 0 0 65536, .andi 34 0 0 0, .andi 0 32 0 0] (fun c => !wellFormed c) = true := by decide

/-- One operand just outside its range makes a command ill formed. -/
theorem test_ill_formed_5 : List.all (α := Instr) [
    .andi 0 0 32 0, .andi 0 0 0 65536, .ori 34 0 0 0, .ori 0 32 0 0, .ori 0 0 32 0, .ori 0 0 0 65536, .xori 34 0 0 0, .xori 0 32 0 0, .xori 0 0 32 0,
    .xori 0 0 0 65536, .ltsi 34 0 0 0, .ltsi 0 32 0 0, .ltsi 0 0 32 0, .ltsi 0 0 0 65536, .ltui 34 0 0 0, .ltui 0 32 0 0, .ltui 0 0 32 0,
    .ltui 0 0 0 65536, .lui 34 0 0, .lui 0 32 0, .lui 0 0 65536, .lb 34 0 0 0, .lb 0 32 0 0, .lb 0 0 32 0, .lb 0 0 0 65536, .lbu 34 0 0 0,
    .lbu 0 32 0 0, .lbu 0 0 32 0, .lbu 0 0 0 65536, .lh 34 0 0 0, .lh 0 32 0 0, .lh 0 0 32 0, .lh 0 0 0 65536, .lhu 34 0 0 0, .lhu 0 32 0 0,
    .lhu 0 0 32 0, .lhu 0 0 0 65536, .lw 34 0 0 0, .lw 0 32 0 0, .lw 0 0 32 0] (fun c => !wellFormed c) = true := by decide

/-- One operand just outside its range makes a command ill formed. -/
theorem test_ill_formed_6 : List.all (α := Instr) [
    .lw 0 0 0 65536, .pld 34 0 0 0, .pld 0 8 0 0, .pld 0 0 32 0, .pld 0 0 0 65536, .sb 34 0 0 0, .sb 0 32 0 0, .sb 0 0 32 0, .sb 0 0 0 65536,
    .sh 34 0 0 0, .sh 0 32 0 0, .sh 0 0 32 0, .sh 0 0 0 65536, .sw 34 0 0 0, .sw 0 32 0 0, .sw 0 0 32 0, .sw 0 0 0 65536, .pst 34 0 0 0,
    .pst 0 8 0 0, .pst 0 0 32 0, .pst 0 0 0 65536, .beq 34 0 0 0, .beq 0 32 0 0, .beq 0 0 32 0, .beq 0 0 0 65536, .bne 34 0 0 0, .bne 0 32 0 0,
    .bne 0 0 32 0, .bne 0 0 0 65536, .blt 34 0 0 0, .blt 0 32 0 0, .blt 0 0 32 0, .blt 0 0 0 65536, .bge 34 0 0 0, .bge 0 32 0 0, .bge 0 0 32 0,
    .bge 0 0 0 65536, .bltu 34 0 0 0, .bltu 0 32 0 0, .bltu 0 0 32 0] (fun c => !wellFormed c) = true := by decide

/-- One operand just outside its range makes a command ill formed. -/
theorem test_ill_formed_7 : List.all (α := Instr) [
    .bltu 0 0 0 65536, .bgeu 34 0 0 0, .bgeu 0 32 0 0, .bgeu 0 0 32 0, .bgeu 0 0 0 65536, .jal 34 0 0, .jal 0 32 0, .jal 0 0 65536, .jalr 34 0 0 0,
    .jalr 0 32 0 0, .jalr 0 0 32 0, .jalr 0 0 0 65536, .padd 34 0 0 0, .padd 0 8 0 0, .padd 0 0 8 0, .padd 0 0 0 8, .psub 34 0 0 0, .psub 0 8 0 0,
    .psub 0 0 8 0, .psub 0 0 0 8, .paddc 34 0 0 0, .paddc 0 8 0 0, .paddc 0 0 8 0, .paddc 0 0 0 32, .paddf 34 0 0 0, .paddf 0 8 0 0, .paddf 0 0 8 0,
    .paddf 0 0 0 32, .pmov 34 0 0, .pmov 0 8 0, .pmov 0 0 8, .psetc 34 0 0, .psetc 0 8 0, .psetc 0 0 32, .plo 34 0 0, .plo 0 32 0, .plo 0 0 8,
    .phi 34 0 0, .phi 0 32 0, .phi 0 0 8] (fun c => !wellFormed c) = true := by decide

/-- One operand just outside its range makes a command ill formed. -/
theorem test_ill_formed_8 : List.all (α := Instr) [
    .psetlo 34 0 0, .psetlo 0 8 0, .psetlo 0 0 32, .psethi 34 0 0, .psethi 0 8 0, .psethi 0 0 32, .pcmp 34 0 0 0, .pcmp 0 32 0 0, .pcmp 0 0 8 0,
    .pcmp 0 0 0 8, .pmulc 34 0 0 0, .pmulc 0 8 0 0, .pmulc 0 0 8 0, .pmulc 0 0 0 32, .crr 34 0 0, .crr 0 32 0, .crr 0 0 256, .crw 34 0 0 0,
    .crw 0 32 0 0, .crw 0 0 256 0, .crw 0 0 0 32, .crs 34 0 0 0, .crs 0 32 0 0, .crs 0 0 256 0, .crs 0 0 0 32, .crc 34 0 0 0, .crc 0 32 0 0,
    .crc 0 0 256 0, .crc 0 0 0 32, .nop 34, .eret 34, .brk 34 0, .brk 0 1024, .halt 34, .isync 34, .gaugeFaultException 34, .breakpointHit 34,
    .coreRun 34, .coreHaltReq 34, .haltComplete 34] (fun c => !wellFormed c) = true := by decide

/-- One operand just outside its range makes a command ill formed. -/
theorem test_ill_formed_9 : List.all (α := Instr) [
    .coreStep 34, .coreReinit 34, .debugRegisterWrite 34 0, .debugRegisterWrite 0 4294967296, .debugRegisterRead 34, .arm 34 0 0 0 0 0 false,
    .arm 0 32 0 0 0 0 false, .arm 0 0 8 0 0 0 false, .arm 0 0 0 32 0 0 false, .arm 0 0 0 0 64 0 false, .arm 0 0 0 0 0 4 false, .disarm 34 0 0,
    .disarm 0 32 0, .disarm 0 0 32, .waitp 34 0 0 0 0 false, .waitp 0 32 0 0 0 false, .waitp 0 0 8 0 0 false, .waitp 0 0 0 64 0 false,
    .waitp 0 0 0 0 4 false, .waitev 34 0 0, .waitev 0 32 0, .waitev 0 0 16, .grd 34 0 0, .grd 0 8 0, .grd 0 0 64, .gst 34 0 0, .gst 0 32 0,
    .gst 0 0 64, .gsrc 34 0 0, .gsrc 0 64 0, .gsrc 0 0 32, .gc1 34 0 0, .gc1 0 64 0, .gc1 0 0 32, .gc2 34 0 0, .gc2 0 64 0, .gc2 0 0 32,
    .goff 34 0 0, .goff 0 64 0, .goff 0 0 8] (fun c => !wellFormed c) = true := by decide

/-- One operand just outside its range makes a command ill formed. -/
theorem test_ill_formed_10 : List.all (α := Instr) [
    .gcommit 34 0 0, .gcommit 0 32 0, .gcommit 0 0 64, .objrd 34 0 0 0, .objrd 0 32 0 0, .objrd 0 0 32 0, .objrd 0 0 0 65536, .objrdp 34 0 0 0,
    .objrdp 0 8 0 0, .objrdp 0 0 32 0, .objrdp 0 0 0 65536, .objwr 34 0 0 0, .objwr 0 32 0 0, .objwr 0 0 32 0, .objwr 0 0 0 65536, .objwrp 34 0 0 0,
    .objwrp 0 8 0 0, .objwrp 0 0 32 0, .objwrp 0 0 0 65536, .objectWriteDelivery 34, .send 34 0 0 0, .send 0 32 0 0, .send 0 0 32 0, .send 0 0 0 8,
    .remoteMessageArrival 34 0 0, .remoteMessageArrival 0 18446744073709551616 0, .remoteMessageArrival 0 0 65536, .recv 34 0 0 false,
    .recv 0 32 0 false, .recv 0 0 8 false, .slotw 34 0 0 0, .slotw 0 32 0 0, .slotw 0 0 32 0, .slotw 0 0 0 8, .objld 34 0 0 0 0, .objld 0 32 0 0 0,
    .objld 0 0 32 0 0, .objld 0 0 0 32 0, .objld 0 0 0 0 6, .objld 0 8 0 0 5] (fun c => !wellFormed c) = true := by decide

/-- One operand just outside its range makes a command ill formed. -/
theorem test_ill_formed_11 : List.all (α := Instr) [
    .objst 34 0 0 0 0, .objst 0 32 0 0 0, .objst 0 0 32 0 0, .objst 0 0 0 32 0, .objst 0 0 0 0 4, .objst 0 8 0 0 3, .qpop 34 0 0 0, .qpop 0 32 0 0,
    .qpop 0 0 32 0, .qpop 0 0 0 64, .qpush 34 0 0 0, .qpush 0 32 0 0, .qpush 0 0 32 0, .qpush 0 0 0 64, .create 3, .free 3, .group 3,
    .placeProgram 3, .removeProgram 3, .bindAffinity 3, .deferredFreeDone 4096, .stationEnable 6 false, .gpioSet 4294967296, .gpioClr 4294967296,
    .endpointReset 4, .windowRead 0 4294967296, .windowWrite 0 [256], .ringEnable false 16 0, .ringEnable false 0 4294967296, .sqDoorbell 16 0,
    .sqDoorbell 0 4294967296, .intakeFetch 16 [] false, .intakeFetch 0 [256] false, .cqHeadDoorbell 16 0, .cqHeadDoorbell 0 4294967296,
    .intakeCompletionWrite 16, .msixUnmask 33, .sqNop 16, .page 16, .configure 16] (fun c => !wellFormed c) = true := by decide

/-- One operand just outside its range makes a command ill formed. -/
theorem test_ill_formed_12 : List.all (α := Instr) [
    .withdraw 16, .request 16, .purge 16, .moverStart 32 0, .moverStart 0 4294967296, .channelResume 32 0, .channelResume 0 4294967296,
    .channelDisable 32 0, .channelDisable 0 4294967296, .drainComplete 32, .descriptorRead 32 [], .descriptorRead 0 [256], .readCompletion 32 [],
    .readCompletion 0 [256], .busError 32 0 ⟨0, none⟩, .busError 0 0 ⟨18446744073709551616, none⟩, .busError 0 0 ⟨0, some (32, [])⟩, .runPush 6, .decodeBlockStart 6, .decodeBlockEnd 6,
    .decoderDisable 6, .decoderFlush 6, .encoderGo 2, .encoderJobEnd 2 [], .encoderJobEnd 0 [[256]], .trainComplete 256, .refreshInterval 2 0, .retrainSlice 2,
    .retrainSliceForced 2, .dramRead 12 0 0 0 0 0 0 0 0 0 0, .dramRead 0 4096 0 0 0 0 0 0 0 0 0, .dramRead 0 0 0 0 4294967296 0 0 0 0 0 0,
    .dramRead 0 0 0 0 0 8 0 0 0 0 0, .dramRead 0 0 0 0 0 0 2 0 0 0 0, .dramRead 0 0 0 0 0 0 0 32 0 0 0, .dramRead 0 0 0 0 0 0 0 0 0 1024 0,
    .patrolScrubRead 0 0 8 0 0 0 0 0 0, .patrolScrubRead 0 4294967296 0 0 0 0 0 0 0, .patrolScrubRead 0 0 0 0 2 0 0 0 0, .patrolScrubRead 0 0 0 0 0 32 0 0 0, .patrolScrubRead 0 0 0 0 0 0 0 1024 0, .ddrAlert 8 0 false, .ddrAlert 0 2 false, .migrationCopy 2, .scanStart 6,
    .bdGateOpen 6] (fun c => !wellFormed c) = true := by decide

/-- One operand just outside its range makes a command ill formed. -/
theorem test_ill_formed_13 : List.all (α := Instr) [
    .frameSendStart 6 0 [], .frameComplete 6, .alignBlocks 6, .drvStatusWord 6 0, .drvStatusWord 0 1099511627776, .ctrlPush 6, .ctrlDmaGo 6,
    .ctrlDmaDone 6, .bankNext 6 0, .bankNext 0 2, .pageqPush 6, .pageqWithdraw 6, .lutBuildGo 6, .lutBuildDone 6, .markSample 8 0 0, .markSample 0 4096 0,
    .markDestEnable 8 0, .markDestEnable 0 4294967296, .calWordWrite 6 0, .calWordWrite 0 4294967296, .calWriteDone 6 false, .transferPost 64,
    .fuserPost 64, .sensorEdgeCapture 24 false, .jamWindowClose 64 0 false, .jamWindowClose 0 24 false, .axisStart 20, .axisStop 20, .axisDisable 20,
    .axisEnable 20, .focCurrentUpdate 20 0 0 0 0, .overcurrent 20, .alignPulseEnd 20 0 0, .alignPulseEnd 0 0 4294967296, .probePulseEnd 20 0 0,
    .probeRepeat 20, .startTimeout 20, .atSpeed 20, .busVoltageSample 8 0, .busVoltageSample 0 65536, .stepperFullStep 8 0] (fun c => !wellFormed c) = true := by decide

/-- One operand just outside its range makes a command ill formed. -/
theorem test_ill_formed_14 : List.all (α := Instr) [
    .accelerationEnd 20 0, .hearthGateOn 3 0, .hearthGateOn 0 8, .zonePidUpdate 3, .cordDecision 3, .hearthGateOff 3, .thSample 16 ⟨0, 0⟩ 0, .thSample 0 ⟨0, 0⟩ 101,
    .zoneEnable 8 false, .tripAck 4294967296, .dieSample 4 0, .dieSample 0 4096, .hvWindow 32 0 [], .hvWindow 0 81901 [], .hvWindow 0 0 [(256, 0)], .hvEnable 32 false, .linkTrained 4 0 0,
    .linkTrained 0 5 0, .hopDown 2, .broadcastArrival 4 0 0 0, .broadcastArrival 0 4 0 0, .broadcastArrival 0 0 32 0, .pcieLinkUp 16 0,
    .pcieLinkUp 0 16, .receiveLaneLock 2] (fun c => !wellFormed c) = true := by decide

/-! ## Scriber words, from the encodings of R189, R194–R204, R221–R239 -/

/-- The worked program of the spec (ADDI, ADD, LW, BNE, LUI, ORI, PADDF). -/
theorem test_worked_words_decode :
    decodeScriber 0 0x0C400400 = some (.addi 0 2 0 0x400) ∧ decodeScriber 0 0x04800000 = some (.add 0 4 0 0) ∧
    decodeScriber 0 0x50620000 = some (.lw 0 3 2 0) ∧ decodeScriber 0 0x04841800 = some (.add 0 4 4 3) ∧
    decodeScriber 0 0x8445FFFD = some (.bne 0 2 5 0xFFFD) ∧ decodeScriber 0 0x24205C46 = some (.lui 0 1 0x5C46) ∧
    decodeScriber 0 0x14210C18 = some (.ori 0 1 1 0x0C18) ∧ decodeScriber 0 0xA0200803 = some (.paddf 0 1 0 1) := by decide +kernel

/-- Opcodes 0x00 and 0x3F are reserved (R195). -/
theorem test_reserved_words : decodeScriber 0 0 = none ∧ decodeScriber 0 0xFFFFFFFF = none := by decide +kernel

/-! ## Small states -/

/-- A device after its boot: every domain released, reset over. -/
def lit : State := State.reset.setTinder { State.reset.tinder with released := 31, inReset := false, outputsHeld := false }

/-- A core that runs. -/
def awake : Core := { Core.reset with halted := false }

/-- `lit` with core 0 given. -/
def at0 (c : Core) : State := lit.setCore 0 c

/-- Core 0 runs at pc 0 with g1 = 5, g2 = 0x20. -/
def run0 : State := at0 ((awake.setG 1 5).setG 2 0x20)

/-- Every core instruction statement assumes a core that may begin. -/
theorem witness_Ready : Ready run0 0 ∧ Ready (lit.setCore 33 awake) 33 := by unfold Ready; decide +kernel

theorem witness_StepRunsFrontCommand : lit.pending = [] := rfl

theorem witness_ScriberDecodeEncode : scriberCore (.arm 33 31 7 31 63 3 true) = some 33 ∧ wellFormed (.arm 33 31 7 31 63 3 true) = true := by decide +kernel

/-- ADD wraps; MIN compares as signed; ADDI sign-extends. -/
theorem test_add_wraps : (((at0 ((awake.setG 1 0xFFFFFFFF).setG 2 2)).perform 0 0 (effAdd 0 3 1 2)).core 0).gr 3 = 1 := by decide +kernel
theorem test_min_signed : (((at0 ((awake.setG 1 0xFFFFFFFF).setG 2 2)).perform 0 0 (effMin 0 3 1 2)).core 0).gr 3 = 0xFFFFFFFF := by decide +kernel
theorem test_addi_sign : ((run0.perform 0 0 (effAddi 0 3 1 0xFFFF)).core 0).gr 3 = 4 := by decide +kernel

/-- Loads and stores: the last address of each size in local memory. -/
theorem witness_LoadResults : Ready run0 0 ∧ Fits 0 (ea run0 0 0 32767) 1 ∧ Fits 0 (ea run0 0 0 32766) 2 ∧ Fits 0 (ea run0 0 0 32764) 4 ∧
    Fits 0 (ea run0 0 0 32760) 8 ∧ Fits 0 (65535) 1 ∧ Fits 32 (2 ^ 18 - 8) 8 := by unfold Ready Fits ea; decide +kernel

theorem witness_StoreResults : Ready run0 0 ∧ Fits 0 (ea run0 0 2 0) 1 ∧ Fits 0 (ea run0 0 2 0) 2 ∧ Fits 0 (ea run0 0 2 0) 4 ∧ Fits 0 (ea run0 0 2 0) 8 := by
  unfold Ready Fits ea; decide +kernel

/-- Unaligned addresses in and out of a handler, the last byte of local memory, and aligned addresses beyond it. -/
theorem witness_MisalignedAccessTraps :
    let h := at0 ({ awake with exc := true }.setG 1 5)
    Ready run0 0 ∧ Ready h 0 ∧ h.on (SCRIBER.CORE_CTRL_CRITICAL 0) = false ∧ (h.core 0).exc = true ∧ (run0.core 0).exc = false ∧
    ea run0 0 1 0 % 2 ≠ 0 ∧ ea run0 0 1 1 % 4 ≠ 0 ∧ ea run0 0 2 4 % 8 ≠ 0 ∧ ea h 0 1 0 % 2 ≠ 0 ∧ memSize 0 = 65536 ∧
    ea run0 0 0 0xFFFF % 1 = 0 ∧ memSize 0 < ea run0 0 0 0xFFFF + 1 ∧ memSize 0 < ea run0 0 0 0xFFF8 + 8 ∧ ea run0 0 0 0xFFF8 % 8 = 0 := by
  unfold Ready ea; decide +kernel

theorem witness_BranchResults : Ready run0 0 ∧ (run0.gr 0 2 + (BitVec.ofNat 16 4).signExtend 32).toNat % 4 = 0 := by unfold Ready; decide +kernel

theorem witness_ControlRegisterAccess :
    Ready run0 0 ∧ run0.crGet 0 6 = some 0 ∧ run0.crGet 0 8 = some 0 ∧ run0.crGet 0 0x28 = some 0 ∧ (run0.core 0).exc = false ∧
    run0.crGet 0 0x29 = none ∧ crReadOnly 0 = true ∧ crReadOnly 0x28 = true := by unfold Ready; decide +kernel

theorem witness_SystemResults :
    let h := at0 { awake with exc := true }
    let b := (lit.setFld (SCRIBER.CORE_CTRL_BREAK_HALT 0) 1).setCore 0 awake
    Ready run0 0 ∧ Ready h 0 ∧ (h.core 0).exc = true ∧ (run0.core 0).exc = false ∧ Ready b 0 ∧ b.on (SCRIBER.CORE_CTRL_BREAK_HALT 0) = true ∧
    run0.on (SCRIBER.CORE_CTRL_BREAK_HALT 0) = false := by unfold Ready; decide +kernel

theorem witness_CoreRunHaltBreak :
    let b := (lit.setReg (SCRIBER.CORE_BP 0) 1).setCore 0 awake
    let x := lit.setCore 0 ({ Core.reset with mem := (Core.reset.poke 0 (leBytes 4 0x0C400400)).mem })
    lit.fabric = true ∧ (lit.core 33).halted = true ∧ run0.coreRuns 0 = true ∧ (run0.core 0).wait = .none ∧
    (at0 { awake with wait := .event 1 2 }).coreRuns 0 = true ∧ (at0 { awake with wait := .mail 1 2 }).coreRuns 0 = true ∧
    ((at0 { awake with halting := true }).core 0).halting = true ∧ lit.obj.cmds = [] ∧
    b.coreRuns 0 = true ∧ (b.core 0).faultDue = false ∧ b.atBreakpoint 0 = true ∧
    (at0 { awake with ie := true, gfault := 2 ^ 63 }).coreRuns 0 = true ∧ ((2 : Nat) ^ 63).testBit 63 = true ∧ (∀ j, j < 63 → ((2 : Nat) ^ 63).testBit j = false) ∧
    (x.core 0).faultDue = false ∧ (x.core 0).older 0 = [] ∧ decodeScriber 0 ((x.core 0).load 0 4) = some (.addi 0 2 0 0x400) := by decide +kernel

theorem witness_CoreReinitAndDebug :
    let sel := fun r => lit.setFld (SCRIBER.CORE_DBG_SEL_REG 33) r
    lit.fabric = true ∧ ((sel 0).core 33).halted = true ∧ (sel 0).fld (SCRIBER.CORE_DBG_SEL_REG 33) = 0 ∧ (sel 0x1F).fld (SCRIBER.CORE_DBG_SEL_REG 33) = 0x1F ∧
    (sel 1).fld (SCRIBER.CORE_DBG_SEL_REG 33) = 1 ∧ (sel 0x20).fld (SCRIBER.CORE_DBG_SEL_REG 33) = 0x20 ∧ (sel 0x27).fld (SCRIBER.CORE_DBG_SEL_REG 33) = 0x27 ∧
    (run0.core 0).halted = false := by decide +kernel

/-- Core 0 owns calendar entries 10 and 11; g3 asks for action 0. -/
def timed : State := (at0 { awake with calBase := 10, calCount := 2, wake := true }).setFld (GAUGE.G_CFG_ENABLE 0) 1

theorem witness_TimedResults :
    let full := at0 { awake with calPend := 4 }
    Ready timed 0 ∧ (timed.core 0).calPend < 4 ∧ timed.armValid 0 1 0 0 = true ∧ timed.entry 10 = none ∧ timed.entry 11 = none ∧
    timed.armValid 0 1 5 0 = true ∧ timed.armValid 0 1 7 0 = false ∧ Ready full 0 ∧ 4 ≤ (full.core 0).calPend ∧ (timed.core 0).wake = true ∧
    (run0.core 0).wake = false ∧ (timed.core 0).conditions &&& 1 ≠ 0 ∧ (run0.core 0).conditions &&& 1 = 0 := by unfold Ready; decide +kernel

/-! ## Cores, messages and services -/

/-- Entry 3 waits on gauge `g`. -/
def entryOn (g : Nat) : Entry :=
  { owner := 63, action := 0, arg := 0, dir := 1, gauge := g, pos := 100, discard := false, gen := 1, seq := 0, requested := false,
    inserting := false, below := true, crossed := false, late := false, resumed := false, doomed := false, engine := false }

theorem witness_GaugeInstructions :
    let on := run0.setFld (GAUGE.G_CFG_ENABLE 0) 1
    let busy := on.setEntry 3 (some (entryOn 32))
    Ready on 0 ∧ Ready busy 0 ∧ (on.entriesOn 32 = [] ∧ (on.staged 0).sources.all on.sourceOk = true) ∧ busy.entriesOn 32 ≠ [] ∧
    (run0.staged 15).sources.all run0.sourceOk = false ∧ (run0.core 0).exc = false ∧ ¬ (32 ≤ 48 ∧ 48 < 48) ∧ (32 ≤ 47 ∧ 47 < 48) := by
  unfold Ready; decide +kernel

/-- A 256-byte data object of kind RAW at index 0x200. -/
def raw : Obj := { Obj.empty 14 with size := 256 }

/-- Core 32 runs, g1 the raw object's handle, with one object write outstanding. -/
def steward : State := (lit.setObject 0x200 (some raw)).setCore 32 ((awake.setG 1 0xE200).setG 4 0x100)

theorem witness_ObjectInstructions :
    let w := lit.setCore 0 { (awake.setG 1 0x4000) with writes := [⟨0xE200, 0, 1⟩] }
    let v := (lit.setObject 0x200 (some raw)).setCore 0 { awake with writes := [⟨0x4000, 2, 1⟩] }
    let r := at0 (awake.setG 1 0x4000)
    Ready r 0 ∧ r.classOf 0x4000 = some .engine ∧ (∀ x, x ∈ (r.core 0).writes → x.handle ≠ 0x4000) ∧ r.fieldCheck 0x4000 0 0 false false = 0 ∧
    r.fieldCheck 0x4000 0 0 false true = 0 ∧ (r.core 0).writes.length < 8 ∧ (r.core 0).exc = false ∧ r.fieldCheck 0x4000 63 0 false false ≠ 0 ∧
    r.fieldCheck 0x4000 63 0 true true ≠ 0 ∧ w.classOf 0xE200 = none ∧ v.classOf 0x4000 = some .engine ∧ (v.fieldSpec 0x4000 .engine 2).isSome = true := by
  unfold Ready; decide +kernel

theorem witness_ServiceInstructions :
    let rec64 := List.replicate 64 0
    let q := steward.setDq 0 [rec64]; let u := steward.setDq 47 (List.replicate 63 rec64); let f := steward.setDq 16 (List.replicate 16 rec64)
    Ready steward 32 ∧ Ready q 32 ∧ Ready u 32 ∧ Ready f 32 ∧ steward.objCheck 0xE200 0xF8 8 false true = 0 ∧ 0xF8 % loadSize 5 = 0 ∧ 0xFF % loadSize 0 = 0 ∧
    steward.objCheck 0xE200 0xFF (loadSize 0) false true = 0 ∧ steward.objCheck 0xE200 0xF8 (2 ^ 3) false false = 0 ∧ steward.readOnlyData 0xE200 = false ∧
    steward.dataObj 0xE200 = some raw ∧ raw.poisoned = [] ∧ Fits 32 ((steward.gr 32 4).toNat) 64 ∧ q.dq 0 = rec64 :: [] ∧ steward.dq 47 = [] ∧
    (u.dq 47).length < queueDepth 47 ∧ queueDepth 16 ≤ (f.dq 16).length ∧ Ready run0 0 ∧ (run0.core 0).exc = false := by unfold Ready Fits; decide +kernel

/-- Core 0 runs with g1 = `w`; core 33's mailbox holds `k` messages. -/
def sender (w : Word) (k : Nat) : State := (at0 (awake.setG 1 w)).setCore 33 { awake with mail := List.replicate k ⟨0, 0⟩ }

theorem witness_MessageInstructions :
    let up := ((sender 33 15).setFld THAIQ.CTRL_ENABLE 1).setFld THAIQ.LINK_STATUS_LINK_UP 1
    let full := ((sender 33 16).setFld THAIQ.CTRL_ENABLE 1).setFld THAIQ.LINK_STATUS_LINK_UP 1
    let got := at0 { awake with mail := [⟨7, 62⟩] }
    Ready (sender 33 15) 0 ∧ ((sender 33 15).gr 0 1).toNat / 64 % 4 = (sender 33 15).position ∧ ((sender 33 15).core 33).wait = .none ∧
    ((sender 33 15).core 33).mail.length < 16 ∧ 16 ≤ ((sender 33 16).core 33).mail.length ∧ Ready (sender 33 16) 0 ∧ Ready (sender 34 0) 0 ∧
    34 ≤ ((sender 34 0).gr 0 1).toNat % 64 ∧ ((sender 34 0).core 0).exc = false ∧ Ready got 0 ∧ (got.core 0).mail = ⟨7, 62⟩ :: [] ∧
    (run0.core 0).mail = [] ∧ Ready up 33 ∧ up.linkUp = true ∧ (up.core 33).mail.length < 16 ∧ Ready full 33 ∧ full.linkUp = true ∧
    16 ≤ (full.core 33).mail.length := by unfold Ready; decide +kernel

/-! ## Supplies, rails, reset, boot -/

/-- `lit` with other Tinder state. -/
def tind (f : Tinder → Tinder) : State := lit.setTinder (f lit.tinder)

theorem witness_SupplyEvents :
    let dark := tind (fun t => { t with vstby := false }); let dead := tind (fun t => { t with vstby := false, emberValid := false })
    dark.tinder.vstby = false ∧ dark.tinder.emberValid = true ∧ dark.tinder.uncounted = false ∧ dead.tinder.emberValid = false ∧
    (dark.setEng engOff).eng = engOff ∧ lit.tinder.vstby = true ∧ lit.tinder.vbat = true ∧ lit.tinder.por = false ∧
    (tind (fun t => { t with por := true })).tinder.por = true ∧ (tind (fun t => { t with por := true })).tinder.vstby = true ∧
    (tind (fun t => { t with por := true })).tinder.vstbyHigh = true ∧ (tind (fun t => { t with vstbyHigh := false })).tinder.vstbyHigh = false ∧
    lit.tinder.uncounted = false ∧ lit.tinder.emberValid = true ∧ (lit.setRail 0 railGood).rail 0 = railGood ∧ (lit.setRail 0 railGood).tinder.vstby = true ∧
    (lit.setRail 0 railGood).tinder.rewriteOff = false ∧ (tind (fun t => { t with rewriteOff := true })).tinder.rewriteOff = true := by decide +kernel

theorem witness_RailSequence :
    let r := fun n v => lit.setRail n v
    let q := ((r 15 railQualify).setFilterUs 15 65535).setRail 14 railWait
    let kid := ((r 0 railQualify).setFilterUs 0 1000).setRail 1 railWait
    let g := (r 15 railGood).setDropUs 15 (max 1 (lit.fld (TINDER.RAIL_TIME_DROP 15)))
    (q.heldOff 15 = false ∧ kid.heldOff 0 = false ∧ kid.tinder.pbHeld = false) ∧
    ((List.range 16).all (fun k => !q.railUnder 15 16 k) = true ∧ (List.range 16).all (fun k => !g.railUnder 15 16 k) = true) ∧
    g.railInput 15 = false ∧ g.tinder.down.testBit 15 = false ∧
    State.reset.tinder.vstby = true ∧ State.reset.tinder.por = false ∧ State.reset.tinder.resetN = true ∧ State.reset.phase = 0 ∧
    (r 15 railDelay).rail 15 = railDelay ∧ q.rail 15 = railQualify ∧ max 1 (q.fld (TINDER.RAIL_CFG_FILTER 15)) ≤ q.filterUs 15 ∧ q.tinder.pbHeld = false ∧
    kid.rail 0 = railQualify ∧ max 1 (kid.fld (TINDER.RAIL_CFG_FILTER 0)) ≤ kid.filterUs 0 ∧ kid.railChild 0 1 = true ∧ kid.rail 1 = railWait ∧
    g.rail 15 = railGood ∧ q.railInput 15 = false ∧ q.tinder.down.testBit 15 = false ∧ max 1 (g.fld (TINDER.RAIL_TIME_DROP 15)) ≤ g.dropUs 15 ∧
    g.phase ≤ 5 ∧ (r 3 railDischarge).rail 3 = railDischarge ∧ (lit.setPhase 7).phase = 7 ∧ lit.tinder.after = .rest ∧
    ((tind (fun t => { t with after := .reset })).setPhase 7).tinder.after = .reset := by decide +kernel

/-- A dependant that is already off under a failing rail; an input entry; a slow discharge; retries; a lost input. -/
theorem witness_RailSequence_more :
    let r := fun n v => lit.setRail n v
    let g := (r 15 railGood).setDropUs 15 (max 1 (lit.fld (TINDER.RAIL_TIME_DROP 15))); let under := (g.setFld (TINDER.RAIL_CFG_RAIL_EN 7) 1).setFld (TINDER.RAIL_CFG_PARENT 7) 15
    let gIn := g.setFld (TINDER.RAIL_CFG_INPUT 15) 1; let slow := (tind (fun t => { t with draining := 8 })).setRail 3 railFailed
    let failed := ((r 0 railFailed).setPhase 4).setFld (TINDER.RAIL_CFG_RAIL_EN 0) 1
    let failedIn := (((r 1 railFailed).setRail 0 railGood).setPhase 4).setFld (TINDER.RAIL_CFG_RAIL_EN 1) 1
    let back := fun k => ((tind (fun t => { t with after := .inputBack })).setPhase k)
    let came := fun k => (((back k).setFld (TINDER.RAIL_CFG_INPUT 6) 1).setFld (TINDER.RAIL_CFG_RAIL_EN 6) 1).setRail 6 railGood
    (under.railUnder 15 16 7 = true ∧ under.tinder.en.testBit 7 = false ∧ under.tinder.draining.testBit 7 = false ∧ under.rail 7 ≤ railDelay) ∧
    (failed.heldOff 0 = false ∧ failedIn.heldOff 1 = false) ∧
    (gIn.railInput 15 = true ∧ gIn.rail 15 = railGood ∧ max 1 (gIn.fld (TINDER.RAIL_TIME_DROP 15)) ≤ gIn.dropUs 15 ∧ gIn.phase ≤ 5 ∧
      gIn.tinder.down.testBit 15 = false ∧ gIn.tinder.en.testBit 15 = false) ∧
    ((r 3 railDischarge).tinder.en.testBit 3 = false ∧ (r 3 railDischarge).tinder.failing.testBit 3 = false) ∧
    (slow.rail 3 = railFailed ∧ slow.tinder.draining.testBit 3 = true ∧ slow.tinder.en.testBit 3 = false ∧ slow.tinder.failing.testBit 3 = false) ∧
    (failed.railEn 0 = true ∧ 1 ≤ failed.phase ∧ failed.phase ≤ 5 ∧ failed.railInput 0 = false ∧ failedIn.railEn 1 = true ∧ 1 ≤ failedIn.phase ∧
      failedIn.phase ≤ 5 ∧ failedIn.railInput 1 = false ∧ failedIn.railInput 0 = false) ∧
    failed.rail 0 = railFailed ∧ failed.fld (TINDER.RAIL_CFG_PARENT 0) = 0x1F ∧ failedIn.rail 1 = railFailed ∧
    failedIn.fld (TINDER.RAIL_CFG_PARENT 1) < 16 ∧ failedIn.rail (failedIn.fld (TINDER.RAIL_CFG_PARENT 1)) = railGood ∧
    ((back 7).phase = 7 ∧ (back 7).tinder.after = .inputBack ∧ (back 7).inputGood = false ∧ (came 7).inputGood = true ∧ (came 7).phase = 7 ∧
      (came 8).phase = 8 ∧ (came 8).inputGood = true ∧ (came 8).tinder.por = false ∧ (came 8).tinder.en = 0) := by decide +kernel

theorem witness_InputReturn :
    let s := ((((tind (fun t => { t with after := .inputBack })).setPhase 8).setFld (TINDER.RAIL_CFG_INPUT 6) 1).setFld (TINDER.RAIL_CFG_RAIL_EN 6) 1).setRail 6 railGood
    s.phase = 8 ∧ s.tinder.after = .inputBack ∧ s.inputGood = true := by decide +kernel

theorem witness_ShutdownAndReset :
    let p := fun k => lit.setPhase k
    (p 4).phase = 4 ∧ (p 1).phase = 1 ∧ (p 3).phase = 3 ∧ (p 5).phase = 5 ∧ (p 5).committedLeft = false ∧ (p 8).phase = 8 ∧ (p 8).tinder.por = false ∧
    (p 8).tinder.en = 0 ∧ (p 5).warm = false ∧ (p 5).eng ≠ engRunOut ∧ (p 5).runAtRest = true ∧ (p 8).tinder.vstby = true ∧ (p 8).tinder.emberValid = true := by decide +kernel

theorem witness_EngineRequests :
    let e := fun k => lit.setEng k
    (e engBanked).eng = engBanked ∧ (e engBanked).faultOutstanding = false ∧ (e engBanked).requestPending = false ∧ (e engReady).warm = true ∧
    (e engReady).requestPending = false ∧ (e engTinder).eng = engTinder ∧ (e engSafe).eng = engSafe ∧ (e engRunOut).eng = engRunOut ∧
    (e engKindling).eng = engKindling ∧ (e engRunning).eng = engRunning ∧ (e engSafe).faultOutstanding = false ∧
    (e engSafe).on HEARTH.ACK_STATUS_LATCHED = false ∧ (e engSafe).journalTrip = false ∧
    ((e engKindling).setFld DRAMC.TRAIN_STATE 3).readyNow = true ∧ ((e engKindling).setFld DRAMC.TRAIN_STATE 3).eng = engKindling ∧
    (State.shutdownBegin ((e engRunning))).requestPending = true := by decide +kernel

/-- An ICX image of one 8-byte code section without file bytes per program, one program per target. -/
def icx (ts : List Nat) : List Nat :=
  let n := ts.length
  let body := leBytes 2 n ++ leBytes 2 n ++ leBytes 4 0x40 ++ leBytes 4 (0x40 + 24 * n) ++ List.replicate 36 0 ++
    ts.flatMap (fun _ => leBytes 4 1 ++ List.replicate 12 0 ++ leBytes 4 8 ++ leBytes 4 0) ++
    (List.range n).flatMap (fun j => leBytes 2 (j + 1) ++ [ts.getD j 0, 0] ++ List.replicate 12 0 ++ leBytes 2 j ++ leBytes 2 1 ++ List.replicate 12 0)
  leBytes 4 0x01584349 ++ [1, 0, 0, 0] ++ leBytes 4 (16 + body.length) ++ leBytes 4 (crc32c body) ++ body

/-- The program of that image. -/
def icxOf (j t : Nat) : IcxProgram :=
  { id := j, target := t, affinity := 0, entry := 0, vbase := 0, cal := 0, flags := 0, sections := [⟨1, 0, 0, 0, 8, 0⟩] }

/-- Own rails good, every PLL locked, no domain released, PHASE 4, reset asserted. -/
def booting : State :=
  let r := State.each (State.reset.setPhase 4) (List.range 6) (fun t n => t.setRail n railGood)
  r.each (List.range 5) (fun t p => t.setFld (CLOCK.PLL_STATUS_LOCKED p) 1)

/-- The boot at a stage with the source latched. -/
def staged (stage src : Nat) : State := (lit.setStage stage).setFld SYS.BOOT_STATUS_BOOT_PINS src

theorem witness_BootSteps :
    let held := { booting with tinder := { booting.tinder with inReset := false } }
    let fail := booting.setStage 0xF
    held.tinder.vstby = true ∧ held.tinder.por = false ∧ 1 ≤ held.phase ∧ held.phase ≤ 5 ∧ held.ownGood = true ∧ held.on (CLOCK.PLL_STATUS_LOCKED 4) = true ∧
    held.domain 4 = false ∧ held.tinder.inReset = false ∧ fail.ownGood = true ∧ fail.on (CLOCK.PLL_STATUS_LOCKED 0) = true ∧ fail.domain 0 = false ∧
    fail.tinder.inReset = true ∧ fail.bootStage = 0xF ∧ held.bootSource ≠ bootHost ∧ (held.setFld SYS.BOOT_STATUS_BOOT_PINS bootHost).bootSource = bootHost ∧
    (held.setFld SYS.BOOT_STATUS_BOOT_PINS bootHost).domain 3 = false ∧ (staged 1 bootFlash).bootStage = 1 ∧ (staged 1 bootFlash).bootSource = bootFlash ∧
    (staged 0 bootTest).tinder.inReset = false ∧ (staged 0 bootTest).bootStage = 0 ∧ (staged 0 bootTest).bootSource = bootTest ∧
    (staged 0 bootUart).bootSource = bootUart ∧ (staged 2 bootFlash).bootStage = 2 ∧ (staged 2 bootFlash).bootSource = bootFlash ∧
    (staged 2 bootHost).bootSource = bootHost := by decide +kernel

theorem witness_ImageLoaded :
    let s := (staged 1 bootFlash).setTinder { lit.tinder with flash := (List.range 176).zip (icx [32, 33]) }
    let u := s.setTinder { s.tinder with flashPart := some ⟨true, true, 2 ^ 24⟩ }
    s.tinder.cfgValid = false ∧ s.fabric = true ∧ (s.core 32).halted = true ∧ (s.core 33).halted = true ∧
    s.bootStage = 1 ∧ s.bootSource = bootFlash ∧ icxImage u.flashByte (2 ^ 32) u.calRun.2 = some [icxOf 1 32, icxOf 2 33] := by decide +kernel

/-! ## Registers, ports, recovery, clocks -/

/-- The device as shipped before its fabric is released. -/
def held : State := State.reset

theorem witness_RegisterWrites :
    let row := regRow CALENDAR.ARM_POS_LO; let ro := regRow CALENDAR.LATE_COUNT; let wc := regRow 0x4001C
    blockOf CALENDAR.ARM_POS_LO ≠ none ∧ CALENDAR.ARM_POS_LO % 4 = 0 ∧ 0x40001 % 4 ≠ 0 ∧ 14 % 16 ≠ 15 ∧ held.fabric = false ∧ lit.fabric = true ∧
    (blockOf 0x20000).map (fun x => x.1.code) = some 2 ∧ blockOf 0x6FFF0 ≠ none ∧ regRow 0x6FFF0 = none ∧
    (blockOf CALENDAR.ARM_POS_LO).map (fun x => x.1.code) = some 4 ∧
    row.map (fun w => decide (w.rw ≠ 0)) = some true ∧ wc.map (fun w => decide (w.w1c ≠ 0)) = some true ∧
    ro.map (fun w => decide (w.rw = 0 ∧ w.w1c = 0 ∧ w.w1p = 0)) = some true ∧
    blockOf 0x7FFFFC = none ∧ memWindow 0x7FFFFC = none ∧ blockOf 0x400000 = none ∧ memWindow 0x400000 = some (0, 0) ∧ memWindow 0x6FFFFC = some (33, 0x7FFFC) ∧
    blockOf 0x6FFFFC = none ∧ (lit.core 33).halted = true ∧ lit.reached .host = true ∧ lit.reached .jtag = true ∧ held.reached .jtag = true ∧
    held.reached .host = false ∧ 14 / 16 % 16 = 0 ∧ Via.jtag ≠ .config := by decide +kernel

theorem witness_FaultAndInterruptBits :
    let t := lit.setReg (faultReg 7 - 8) 2
    let c := (lit.setReg (faultReg 4 - 8) 2)
    lit.fabric = true ∧ t.fabric = true ∧ (t.reg (faultReg 7 - 8)).toNat.testBit 1 = true ∧ t.faultBit 7 1 = false ∧ (c.reg (faultReg 4 - 8)).toNat.testBit 1 = true ∧
    c.faultBit 4 0 = false ∧ 0x217 ∈ faultCodes ∧ 1 ∈ faultCodes ∧ (lit.reg (faultReg 0x217 - 8)).toNat.testBit 1 = false ∧
    regRow (intReg 0x217) ≠ none ∧ regRow (intReg 1) ≠ none := by decide +kernel

theorem witness_ReadsWithEffects :
    let c := ((lit.setFld (GAUGE.CAP_CFG_EDGE 15) 3).setFld (GAUGE.CAP_CFG_INPUT 15) 1).setFld (GAUGE.CAP_CFG_PIN 15) 15
    let e : State := { lit with obj := { lit.obj with evictLog := [0xE200, 0xE201] } }
    let p : State := { lit with obj := { lit.obj with poisonShown := true } }
    lit.fabric = true ∧ c.fabric = true ∧ (c.fld (GAUGE.CAP_CFG_EDGE 15)).testBit 0 = true ∧ (c.fld (GAUGE.CAP_CFG_EDGE 15)).testBit 1 = true ∧
    c.fld (GAUGE.CAP_CFG_INPUT 15) = 1 ∧ c.fld (GAUGE.CAP_CFG_PIN 15) < 16 ∧ c.on (GAUGE.CAP_CFG_MSG_EN 15) = false ∧
    ({ c with gc := { c.gc with capUnread := 2 ^ 15 } } : State).gc.capUnread.testBit 15 = true ∧ e.obj.evictLog = 0xE200 :: [0xE201] ∧ e.fabric = true ∧
    lit.reached .jtag = true ∧ memWindow 0x400008 = some (0, 8) ∧ lit.fld (GAUGE.CAP_CFG_INPUT 15) = 0 ∧
    lit.obj.evictLog = [] ∧ p.obj.poisonShown = true ∧ p.fabric = true := by decide +kernel

theorem witness_MramAndFlashPort :
    let w := (lit.setFld TINDER.MRAM_WADDR_PART 3).setFld TINDER.MRAM_WADDR_WORD 0x1FFF
    let open' := (staged 3 bootFlash).setTinder { lit.tinder with flashPart := some ⟨true, true, 2 ^ 32⟩ }
    let near := open'.setFld SYS.FLASH_ADDR_ADDR 0xFFFFF000
    (0x7A500001 : Nat).testBit 0 = true ∧ bits 0x7A500001 20 12 = 0x7A5 ∧ w.on TINDER.MRAM_WSTAT_BUSY = false ∧ 2 ≤ w.fld TINDER.MRAM_WADDR_PART ∧
    (lit.setFld TINDER.MRAM_WADDR_PART 1).fld TINDER.MRAM_WADDR_PART < 2 ∧ (tind (fun t => { t with mramWrite := some ⟨0x3FFFC, 5⟩ })).tinder.mramWrite = some ⟨0x3FFFC, 5⟩ ∧
    near.flashOpen = true ∧ near.on SYS.FLASH_STAT_BUSY = false ∧ near.fld SYS.FLASH_ADDR_ADDR % 4096 = 0 ∧ near.fld SYS.FLASH_ADDR_ADDR % 256 + max 1 (min 256 (256 % 512)) ≤ 256 ∧
    (tind (fun t => { t with flashOp := some ⟨1, 0xFFFFF000, 256⟩ })).tinder.flashOp = some ⟨1, 0xFFFFF000, 256⟩ ∧ 0xFFFFF000 + 4096 ≤ 2 ^ 32 := by decide +kernel

/-- UART recovery is open and a flash was found. -/
def uart : State := (staged 3 bootUart).setTinder { lit.tinder with flashPart := some ⟨true, true, 2 ^ 32⟩ }

theorem witness_RecoveryFrames :
    let data := [1, 0, 0, 1, 2, 3, 4]
    uart.uartOpen = true ∧ uart.tinder.flashPart = some ⟨true, true, 2 ^ 32⟩ ∧ 0x8000 - 1023 + 1023 ≤ 0x8000 ∧ uart.tinder.uartPartial = [] ∧ (∀ b, b ∈ data → b < 256) ∧
    3 ≤ data.length ∧ fieldAt data 1 2 ≤ 1024 ∧ data.length = fieldAt data 1 2 + 7 ∧ data.getD 0 0 < 128 ∧
    fieldAt data (data.length - 4) 4 ≠ crc32c (data.take (data.length - 4)) ∧ uart.flashByte 0xFFFFFFFF = 0xFF ∧ 0xFFFFF000 % 4096 = 0 ∧
    0xFFFFF000 + 4096 ≤ 2 ^ 32 ∧ 0xFFFFFFFF % 256 + 1 ≤ 256 := by decide +kernel

theorem witness_PllsAndCrystal :
    let cold := lit.setEng engTinder; let warm := lit.setEng engReady; let locked := cold.setFld (CLOCK.PLL_STATUS_LOCKED 4) 1
    cold.fabric = true ∧ cold.warm = false ∧ cold.eng ≠ engRunOut ∧ warm.fabric = true ∧ warm.warm = true ∧ (lit.setEng engRunOut).eng = engRunOut ∧
    held.fabric = false ∧ (lit.setFld DRAMC.TRAIN_STATE 1).fld DRAMC.TRAIN_STATE = 1 ∧ (lit.setFld DRAMC.TRAIN_STATE 1).domain 1 = true ∧ locked.eng = engTinder ∧ locked.linkUp = false ∧
    locked.on (CLOCK.PLL_STATUS_LOCKED 4) = true := by decide +kernel

theorem witness_GeneralClocks :
    let on := lit.setFld (CLOCK.GCLK_CTRL_ENABLE 23) 1; let gated := lit.setFld (CLOCK.GCLK_STATUS_GATED 23) 1
    let sync := on.setFld (CLOCK.GCLK_CTRL_SYNC_EN 23) 1; let both := gated.setFld (CLOCK.GCLK_CTRL_ENABLE 23) 1
    lit.fabric = true ∧ (on.on (CLOCK.GCLK_CTRL_ENABLE 23) = true ∧ on.on (CLOCK.GCLK_STATUS_GATED 23) = false) ∧ sync.on (CLOCK.GCLK_CTRL_SYNC_EN 23) = true ∧
    lit.on (CLOCK.GCLK_CTRL_ENABLE 23) = false ∧ lit.on (CLOCK.GCLK_STATUS_GATED 23) = false ∧ gated.on (CLOCK.GCLK_STATUS_GATED 23) = true ∧
    both.on (CLOCK.GCLK_STATUS_GATED 23) = true ∧ both.on (CLOCK.GCLK_CTRL_ENABLE 23) = true ∧ gated.on (CLOCK.GCLK_CTRL_ENABLE 23) = false ∧
    held.fabric = false := by decide +kernel

/-- Output 23 runs with its phase as given. -/
def running (high : Bool) (left : Nat) : State :=
  (lit.setFld (CLOCK.GCLK_STATUS_RUNNING 23) 1).setGclk 23 { high := high, left := left, low := 3, acc := 7, ending := false, firstDiv := none, resets := 0 }

/-- A cycle of an output: in its high half, at the end of it, at a rising edge; an output that stands still. -/
theorem witness_GeneralClocks_ticks :
    let s := running true 2; let e := running true 1; let up := running false 1
    s.pending = [] ∧ s.domain 4 = true ∧ s.on (CLOCK.GCLK_STATUS_RUNNING 23) = true ∧ (s.gclk 23).ending = false ∧ 1 < (s.gclk 23).left ∧
    (e.gclk 23).left ≤ 1 ∧ (e.gclk 23).high = true ∧ e.pending = [] ∧ e.domain 4 = true ∧ e.on (CLOCK.GCLK_STATUS_RUNNING 23) = true ∧
    (up.gclk 23).left ≤ 1 ∧ (up.gclk 23).high = false ∧ (up.gclk 23).firstDiv = none ∧ (up.gclk 23).ending = false ∧ up.pending = [] ∧ up.domain 4 = true ∧
    up.on (CLOCK.GCLK_STATUS_RUNNING 23) = true ∧ held.pending = [] ∧ held.domain 4 = false ∧ lit.on (CLOCK.GCLK_STATUS_RUNNING 23) = false ∧
    (lit.gclk 23).ending = false := by decide +kernel

/-- Synthesizer 5 enabled, 4 facets. -/
def syn5 : State := ((lit.setFld (CLOCK.SYN_CTRL_ENABLE 5) 1).setFld (CLOCK.SYN_CTRL_FACETS 5) 4)

/-- Synthesizer 5 coasting. -/
def coast5 : State := syn5.setFld (CLOCK.SYN_STATUS_COASTING 5) 1

theorem witness_SyncEvents :
    let run := syn5.setSyn 5 { Syn.reset with edges := 1, firstEdge := 10 }
    let locked := syn5.setFld (CLOCK.SYN_STATUS_LOCKED 5) 1; let priv := locked.setFld (GRAVER.STATUS_PRIVILEGED 5) 1
    let full := (((syn5.setFld (CLOCK.SYN_TOL_WINDOW 5) 100).setFld (CLOCK.SYN_TOL_UNLOCK_TOL 5) 10).setSyn 5 { Syn.reset with edges := 5, fcw := 2 ^ 40, syncs := [400, 300, 200, 100] }).setFld (CLOCK.SYN_STATUS_LOCKED 5) 1
    let gate := (syn5.setStation 5 { Station.reset with enabled := true }).setSyn 5 { Syn.reset with edges := 1 }
    lit.fabric = true ∧ lit.on (CLOCK.SYN_CTRL_ENABLE 5) = false ∧ syn5.fabric = true ∧ syn5.on (CLOCK.SYN_CTRL_ENABLE 5) = true ∧
    syn5.on (CLOCK.SYN_STATUS_COASTING 5) = false ∧ (syn5.syn 5).edges = 0 ∧ 1 ≤ (run.syn 5).edges ∧ (run.syn 5).edges < run.facets 5 ∧
    (syn5.synEdge 5 100).1 = .sync ∧ (lit.synEdge 5 100).1 = .ignored ∧
    locked.on (CLOCK.SYN_STATUS_LOCKED 5) = true ∧ locked.privileged 5 = false ∧ locked.eng ≠ engReady ∧
    priv.on (CLOCK.SYN_STATUS_LOCKED 5) = true ∧ priv.privileged 5 = true ∧ coast5.on (CLOCK.SYN_STATUS_COASTING 5) = true ∧ (coast5.syn 5).expiring = false ∧
    ((coast5.setSyn 5 { Syn.reset with expiring := true }).syn 5).expiring = true ∧ gate.on (CLOCK.SYN_CTRL_ENABLE 5) = true ∧
    (let cp := coast5.setFld (GRAVER.STATUS_PRIVILEGED 5) 1; let ex := cp.setSyn 5 { Syn.reset with expiring := true }
      cp.privileged 5 = true ∧ cp.on (CLOCK.SYN_STATUS_COASTING 5) = true ∧ (cp.syn 5).expiring = false ∧ ex.privileged 5 = true ∧
      ex.on (CLOCK.SYN_STATUS_COASTING 5) = true ∧ (ex.syn 5).expiring = true ∧ ex.eng = engTinder ∧ ex.linkUp = false ∧ coast5.privileged 5 = false ∧
      (cp.synEdge 5 100).1 = .sync) ∧
    (gate.station 5).enabled = true ∧ (gate.syn 5).edges ≠ 0 ∧ full.fabric = true ∧ (full.synEdge 5 6500).1 = .lost ∧ (full.synEdge 5 1000000).1 = .ignored := by decide +kernel

theorem witness_FacetIdentification :
    let x : FacetId := { FacetId.reset with revs := 64, sums := [10, 20, 20, 30] }
    let s := (lit.setFld (CLOCK.SYN_CTRL_FACETS 5) 4).setFid 5 x
    let tie := (lit.setFld (CLOCK.SYN_CTRL_FACETS 5) 4).setFid 5 { x with sums := [10, 10, 10, 10] }
    let last := tie.setFld (GAUGE.FID_STATUS_RUNS 5) 3
    64 ≤ (s.fid 5).revs ∧ s.on (GAUGE.FID_STATUS_FACET_VALID 5) = false ∧ s.facets 5 = 4 ∧
    (∀ j, j < 4 → j ≠ 0 → (s.fid 5).sums.getD 0 0 < (s.fid 5).sums.getD j 0 ∧ max 2 (s.fld (GAUGE.FID_CTRL_MARGIN 5)) * (s.fid 5).sums.getD 0 0 ≤ (s.fid 5).sums.getD j 0) ∧
    64 ≤ (tie.fid 5).revs ∧ (¬ ∃ h, h < 4 ∧ ∀ j, j < 4 → j ≠ h → (tie.fid 5).sums.getD h 0 < (tie.fid 5).sums.getD j 0) ∧
    tie.fld (GAUGE.FID_STATUS_RUNS 5) < 3 ∧ 3 ≤ last.fld (GAUGE.FID_STATUS_RUNS 5) ∧ s.fabric = true ∧ s.eng ≠ engReady := by decide +kernel

/-! ## Gauges and the calendar -/

/-- Gauge `n` enabled, the engine in TINDER. -/
def gauged (n : Nat) : State := (lit.setEng engTinder).setFld (GAUGE.G_CFG_ENABLE n) 1

/-- A table of one entry. -/
def withEntry (s : State) (x : Entry) : State := s.setEntry 3 (some x)

theorem witness_GaugeEdges :
    let g := gauged 15; let fwd := quadNext 0; let coast := g.setFld (GAUGE.G_STATUS_COASTING 15) 1
    let z := gauged 26; let slow := (z.setGauge 26 { Gauge.reset with outOfRange := 15 }).setFld (GAUGE.G_STATUS_COASTING 26) 1
    let i := (g.setFld (GAUGE.G_CFG_INDEX_PERIOD 15) 100).setFld (GAUGE.RAW_RAW 15) 101
    let ok := i.setGauge 15 { Gauge.reset with indexSeen := true }; let bad := (ok.setFld (GAUGE.RAW_RAW 15) 102)
    g.fabric = true ∧ g.gaugeOn 15 = true ∧ g.eng ≠ engReady ∧ fwd ≠ (g.gauge 15).ab ∧ fwd + (g.gauge 15).ab ≠ 3 ∧ g.fld (GAUGE.G_CFG_DIR_EXPECT 15) = 0 ∧
    3 ≠ (g.gauge 15).ab ∧ 3 + (g.gauge 15).ab = 3 ∧ g.eng = engTinder ∧ g.linkUp = false ∧ (gauged 22).gaugeOn 22 = true ∧ (gauged 23).gaugeOn 23 = true ∧
    z.gaugeOn 26 = true ∧ (z.gauge 26).outOfRange ≠ 15 ∧ (slow.gauge 26).outOfRange = 15 ∧ slow.gaugeOn 26 = true ∧
    slow.on (GAUGE.G_STATUS_COASTING 26) = true ∧ slow.sfld (GAUGE.G_RATE_RATE 26) * 1000 < 88 * 4096 ∧ slow.eng = engTinder ∧ slow.linkUp = false ∧ g.fld (GAUGE.G_CFG_INDEX_PERIOD 15) = 0 ∧ (ok.gauge 15).indexSeen = true ∧ ok.gaugeOn 15 = true ∧
    (((sext 32 (101 + 2 ^ 32 - ok.fld (GAUGE.INDEX_LATCH_LATCH 15))).natAbs : Int) - 100).natAbs ≤ 1 ∧ ok.fld (GAUGE.RAW_RAW 15) = 101 ∧
    1 < (((sext 32 (bad.fld (GAUGE.RAW_RAW 15) + 2 ^ 32 - bad.fld (GAUGE.INDEX_LATCH_LATCH 15))).natAbs : Int) - bad.fld (GAUGE.G_CFG_INDEX_PERIOD 15)).natAbs ∧
    bad.fld (GAUGE.G_CFG_INDEX_PERIOD 15) ≠ 0 ∧ g.on (GAUGE.G_STATUS_STILL 15) = false ∧ g.on (GAUGE.G_STATUS_COASTING 15) = false ∧
    coast.on (GAUGE.G_STATUS_COASTING 15) = true ∧ coast.eng = engTinder := by decide +kernel

theorem witness_GaugeCommands :
    let r := (((gauged 63).setFld (GAUGE.RG_SRC_EN 15) 1).setFld THAIQ.CTRL_ENABLE 1).setFld THAIQ.LINK_STATUS_LINK_UP 1
    let st := (gauged 63).setGauge 63 { Gauge.reset with stamped := true }
    let l := (gauged 0).setFld (GAUGE.G_STATUS_LOCKED 0) 1; let h := l.setFld (GAUGE.G_STATUS_HELD 0) 1; let busy := withEntry (gauged 0) (entryOn 0); let vb := withEntry (gauged 0) (entryOn 47)
    let q : Entry := { entryOn 0 with crossed := true }
    let one := withEntry h q; let quiet := withEntry h (entryOn 0)
    r.fabric = true ∧ r.gaugeOn 63 = true ∧ r.on (GAUGE.RG_SRC_EN 15) = true ∧ r.linkUp = true ∧ st.gaugeOn 63 = true ∧ (st.gauge 63).stamped = true ∧
    st.eng = engTinder ∧ st.linkUp = false ∧ (0x13F : Nat).testBit 8 = true ∧ (0x3F : Nat).testBit 8 = false ∧ (gauged 0).entriesOn 63 = [] ∧ busy.entriesOn 0 ≠ [] ∧
    ((gauged 0).entriesOn 47 = [] ∧ ((gauged 0).staged 15).sources.all (gauged 0).sourceOk = true) ∧ vb.entriesOn 47 ≠ [] ∧ h.mayRelease 0 = true ∧
    (lit.mayRelease 63 = false) ∧ h.on (GAUGE.G_STATUS_HELD 0) = true ∧ l.mayRelease 0 = true ∧ l.on (GAUGE.G_STATUS_HELD 0) = false ∧
    (∀ x, x ∈ quiet.entriesOn 0 → x.2.crossed = false ∧ x.2.resumed = false) ∧ quiet.mayRelease 0 = true ∧ quiet.on (GAUGE.G_STATUS_HELD 0) = true ∧
    Tbl.wf (fun _ => none) quiet.gc.entries = true ∧ one.gc.entries = [(3, some q)] ∧ one.mayRelease 0 = true ∧ one.on (GAUGE.G_STATUS_HELD 0) = true ∧
    quiet.followers 0 = [] ∧ q.engine = false ∧ (gauged 0).followers 0 = [] := by
  decide +kernel

/-- The host's arm with direction `d` is next. -/
def hostArm (d : Nat) : State :=
  let g := gauged 0
  { g with gc := { g.gc with reqs := [.hostArm 0 0 d 0 5 false] } }

theorem witness_CalendarRequests :
    let g := gauged 0
    let full := (hostArm 1).setCore 0 { Core.reset with calBase := 0, calCount := 8192 }
    let wait : Entry := { entryOn 0 with requested := true }
    let core := withEntry ({ g with gc := { g.gc with reqs := [.arm 3] } } : State) wait
    let dis := withEntry ({ g with gc := { g.gc with reqs := [.disarm 63 (3 + 1 * 2 ^ 13)] } } : State) (entryOn 0)
    let stale := withEntry ({ g with gc := { g.gc with reqs := [.disarm 63 3] } } : State) (entryOn 0)
    let ins : Entry := { entryOn 0 with inserting := true }; let drop : Entry := { ins with discard := true }
    let past := g.setGauge 0 { Gauge.reset with value := 100 }; let late := withEntry past ins; let lost := withEntry past drop
    g.fabric = true ∧ g.fld CALENDAR.ARM_RESULT_RESULT ≠ 1 ∧ (g.setFld CALENDAR.ARM_RESULT_RESULT 1).fld CALENDAR.ARM_RESULT_RESULT = 1 ∧
    (hostArm 0).armValid 0 0 0 0 = false ∧ (hostArm 1).armValid 0 1 0 0 = true ∧ (hostArm 1).freeForHost = some 0 ∧ full.freeForHost = none ∧
    full.armValid 0 1 0 0 = true ∧ core.gc.reqs = .arm 3 :: [] ∧ core.entry 3 = some wait ∧ core.gaugeOn wait.gauge = true ∧
    dis.entry 3 = some (entryOn 0) ∧ (entryOn 0).gen = (3 + 1 * 2 ^ 13) / 2 ^ 13 % 8 ∧ 3 = (3 + 1 * 2 ^ 13) % 2 ^ 13 ∧ stale.entry 3 = some (entryOn 0) ∧
    (entryOn 0).gen ≠ 3 / 2 ^ 13 % 8 ∧ (withEntry g ins).entry 3 = some ins ∧ posDiff (g.gauge 0).value ins.pos < 0 ∧ (g.gaugeHeld 0) = false ∧
    late.entry 3 = some ins ∧ ins.dir = 1 ∧ 0 ≤ posDiff (late.gauge 0).value ins.pos ∧ late.gaugeHeld 0 = false ∧ ins.doomed = false ∧ ins.discard = false ∧
    lost.entry 3 = some drop ∧ drop.discard = true ∧ ins.owner = 63 ∧ ins.engine = false ∧
    (withEntry ({ g with gc := { g.gc with reqs := [.disarm 63 (3 + 1 * 2 ^ 13)] } } : State) { entryOn 0 with crossed := true }).gaugeHeld 0 = false := by decide +kernel

theorem witness_CalendarFiring :
    let h := (gauged 15).setFld (GAUGE.G_STATUS_HELD 15) 1
    let lone := h.setEntry 3 (some (entryOn 15)); let far := (lone.setGauge 15 { Gauge.reset with value := 99, edgeVal := 99, fwd := true })
    let due : Entry := { entryOn 15 with crossed := true }
    let fire := fun (a arg : Nat) => (gauged 15).setEntry 3 (some { due with action := a, arg := arg })
    let awake33 := (fire 5 33).setCore 33 awake
    h.fabric = true ∧ h.gaugeOn 15 = true ∧ h.gaugeHeld 15 = true ∧ h.followers 15 = [] ∧ lone.followers 15 = [] ∧ isVirtual 15 = false ∧ lone.gc.entries = [(3, some (entryOn 15))] ∧
    (far.setFld (GAUGE.G_SCALE_SCALE 15) 0xFFFF).gaugeHeld 15 = true ∧
    (entryOn 15).crosses 99 (((far.setFld (GAUGE.G_SCALE_SCALE 15) 0xFFFF).confine 15 200) % 2 ^ 64) = true ∧
    (gauged 15).gaugeHeld 15 = false ∧ (fire 0 0).gc.entries = [(3, some { due with action := 0, arg := 0 })] ∧
    (fire 1 31).gc.entries = [(3, some { due with action := 1, arg := 31 })] ∧ 31 % 2 ^ 12 < 32 ∧ (fire 3 31).gaugeHeld 15 = false ∧
    (awake33.core 33).halted = false ∧ (awake33.core 33).wait = .none ∧ awake33.gaugeHeld 15 = false ∧ ((fire 5 33).core 33).halted = true ∧
    ((fire 6 33).core 33).mail.length < 16 ∧ ((fire 6 33).core 33).wait = .none ∧ due.owner = 63 ∧ due.engine = false ∧ due.crossed = true := by decide +kernel

/-! ## Objects, groups, programs, stations -/

/-- DRAM up, rank 0 in service, the Placer's arguments. -/
def placer (a0 a1 : Nat) : State :=
  (((lit.setFld DRAMC.TRAIN_STATE 3).setRankState 0 1).setReg (PLACER.ARG 0) (BitVec.ofNat 32 a0)).setReg (PLACER.ARG 1) (BitVec.ofNat 32 a1)

theorem witness_DataObjectCommands :
    let s := placer 0x2E 4096; let no := lit.setReg (PLACER.ARG 0) 0x2E; let plate := placer 0x13E 4096
    let full : State := { s with obj := { s.obj with fresh := 4096 } }
    let own := (placer 0xE200 0).setObject 0x200 (some raw); let used := (placer 0xE200 0).setObject 0x200 (some { raw with use := 1 })
    let last := s.setObject 4095 (some { raw with freePending := true })
    s.fabric = true ∧ s.plcCode 0 ≠ 1 ∧ s.plcCode 2 ≠ 1 ∧ s.obj.cmds = [] ∧ isDataKind 14 = true ∧ s.obj.fresh < 4096 ∧
    (s.placeDram (granules 4096) 2).1 = some [(0, 2)] ∧ ((placer 0x1E 4096).placeDram 1 1).1 = some [(0, 2)] ∧ (no.placeDram (granules 0xFFFFF000) 2).1 = none ∧ (0x2E : Nat).testBit 8 = false ∧
    bits 0x13E 4 4 = 3 ∧ (0x13E : Nat).testBit 8 = true ∧ plate.freePlate (granules 4096) = some 0 ∧ full.obj.fresh = 4096 ∧ full.obj.freed = [] ∧
    isDataKind (bits 0x2D 0 4) = true ∧ isDataKind 5 = false ∧ own.dataObj 0xE200 = some raw ∧ raw.freePending = false ∧ raw.use = 0 ∧
    used.dataObj 0xE200 = some { raw with use := 1 } ∧ own.validHandle 0xE201 = false ∧ own.validHandle 0x4000 = true ∧ 0x4000 % 4096 < 0x200 ∧
    last.object 4095 = some { raw with freePending := true } ∧ (s.setResult 0 1 0).plcCode 0 = 1 ∧ s.obj.moves = [] ∧
    no.obj.moves = [] ∧ no.compactPlan 1 0 = none ∧ no.compactPlan 1 1 = none := by decide +kernel

/-- A LOCAL object of three granules that a compaction makes room for: two granules are free on each channel. -/
theorem witness_DataObjectCommands_compaction :
    let o : Obj := { raw with size := 0xFFFFF000, cls := 2 }; let n : Nat := 2 ^ 23 - 4
    let s0 := ((placer 0x2E 12288).setFld DRAMC.CFG_CHB_EN 1).setRankState 4 1
    let s := ((s0.setObject 0x200 (some { o with spread := [(0, n - 2)] })).setObject 0x201 (some { o with spread := [(4, n)] })).setObject 0x202
      (some { raw with spread := [(0, 2)] })
    s.obj.cmds = [] ∧ s.plcCode 0 ≠ 1 ∧ s.fabric = true ∧ s.obj.moves = [] ∧ isDataKind 14 = true ∧ s.obj.fresh < 4096 ∧ (0x2E : Nat).testBit 8 = false ∧
    (s.placeDram (granules 12288) 2).1 = none ∧ s.compactPlan 3 s.obj.localNext = some [⟨0x202, 3, 0, 1⟩] := by decide +kernel

/-- A program object that holds an image for one target, and a placed program of ID 1 in it. -/
def programs (t : Nat) : State :=
  ((placer 0xB200 0).setObject 0x200 (some { Obj.empty 11 with size := 120, bytes := ((List.range 120).zip (icx [t])).filter (fun p => p.2 ≠ 0) }))

theorem witness_PlaceProgram :
    let s := programs 0xF0
    let o : Obj := { Obj.empty 11 with size := 120, bytes := ((List.range 120).zip (icx [0xF0])).filter (fun p => p.2 ≠ 0) }
    let bad := (placer 0xB200 0).setObject 0x200 (some { Obj.empty 11 with size := 120 })
    let busy := (programs 5).setCore 5 awake
    s.fabric = true ∧ s.plcCode 0 ≠ 1 ∧ s.obj.cmds = [] ∧ s.dataObj 0xB200 = some o ∧ o.kind = 11 ∧ o.freePending = false ∧ o.evicted = false ∧ o.poisoned = [] ∧
    icxImage o.byte o.size s.calRun.2 = some [icxOf 1 0xF0] ∧ s.coreFor 0xF0 = some 0 ∧ (icxOf 1 0xF0).affinity = 0 ∧
    icxImage (fun _ => 0) 120 bad.calRun.2 = none ∧ busy.coreFor 5 = none := by decide +kernel

theorem witness_GroupAndProgramCommands :
    let g := (placer (1 + 2 * 256) 0).setReg (PLACER.STAGE 0) 0x1100; let words := (List.range 2).map (fun j => ((g.setReg (PLACER.STAGE 1) 0x1101).reg (PLACER.STAGE j)).toNat)
    let h := g.setReg (PLACER.STAGE 1) 0x1101; let q : Placed := ⟨1, 0, 33, 0x200⟩
    let o : Obj := { Obj.empty 11 with size := 64, use := 1 }
    let r := { (placer 1 0).setObject 0x200 (some o) with obj := { ((placer 1 0).setObject 0x200 (some o)).obj with placed := [q] } }
    let deep := h.setObject 0x200 (some { Obj.empty 5 with level := 1, members := [0x1100], depth := 8, flat := 1 })
    let bad := (placer (1 + 1 * 256) 0).setReg (PLACER.STAGE 0) 0x2008
    h.fabric = true ∧ h.plcCode 0 ≠ 1 ∧ h.obj.cmds = [] ∧ 1 ≤ (h.reg (PLACER.ARG 0)).toNat % 8 ∧ words = [0x1100, 0x1101] ∧
    (∀ w, w ∈ words → w / 65536 = h.position ∧ h.validHandle (w % 65536) = true ∧ h.levelOf (w % 65536) = 1) ∧ h.obj.fresh < 4096 ∧
    (h.depthOf 0x1100) + 1 ≤ 8 ∧ h.flatOf 0x1100 + h.flatOf 0x1101 ≤ 1024 ∧ 8 < deep.depthOf 0x5200 + 1 ∧ deep.validHandle 0x5200 = true ∧
    deep.levelOf 0x5200 = 1 ∧ bad.levelOf 0x2008 ≠ 1 ∧ 0x2008 / 65536 = bad.position ∧
    r.obj.placed.find? (fun x => decide (x.programId = (r.reg (PLACER.ARG 0)).toNat % 65536)) = some q ∧ q.device = r.position ∧ r.object 0x200 = some o ∧
    isDataKind o.kind = true ∧ (r.core 33).halted = true ∧ (((r.setCore 33 awake)).core 33).halted = false ∧ (((r.setCore 33 awake)).core 33).halting = false ∧
    (lit.obj.placed.find? (fun x => decide (x.programId = 1))) = none ∧ ((placer 0xFF 0x300D).reg (PLACER.ARG 1)).toNat % 65536 < 0x300E ∧
    ((placer 0xFF 0x300D).reg (PLACER.ARG 0)).toNat % 256 ≠ 0 := by decide +kernel

theorem witness_StationAndMoves :
    let o : Obj := { raw with place := 3, plateStation := 5 }
    let inPlate := (placer 0 0).setObject 0x200 (some o); let on := lit.setStation 5 { Station.reset with enabled := true }
    let one := on.setGv 5 { Grav.reset with queue := [⟨0x300, 0, 1, true⟩] }
    let out := (inPlate.setStation 5 { Station.reset with plateBusy := true }).setMoves [⟨0x200, 2, 0, 1⟩]
    let stuck := (out.setRankState 0 0)
    let mig := ((((lit.setObject 0x200 (some { raw with spread := [(4, 2)] })).setFld (CLOCK.PLL_STATUS_LOCKED 1) 1).setFld (DRAMC.MIG_STATUS_ACTIVE 1) 1).setFld (DRAMC.MIG_STATUS_TO 1) 3).setMoves [⟨0x200, 1, 4, 1⟩]
    let two := mig.setMoves [⟨0x200, 1, 4, 2⟩]
    lit.fabric = true ∧ lit.eng ≠ engReady ∧ (lit.station 5).enabled = false ∧ lit.plateHeld 5 = [] ∧ inPlate.plateHeld 5 ≠ [] ∧ (inPlate.station 5).plateBusy = false ∧
    (on.station 5).enabled = true ∧ (on.gv 5).queue.any (·.committed) = false ∧ (one.gv 5).queue.any (·.committed) = true ∧
    out.obj.moves = ⟨0x200, 2, 0, 1⟩ :: [] ∧ out.object 0x200 = some { o with moving := true } ∧ (out.placeDram (granules o.size) o.cls).1 = some [(0, 2)] ∧ out.obj.cmds = [] ∧
    (stuck.placeDram (granules o.size) o.cls).1 = none ∧ stuck.object 0x200 ≠ none ∧ mig.domain 1 = true ∧ mig.on (CLOCK.PLL_STATUS_LOCKED 1) = true ∧ mig.on (DRAMC.MIG_STATUS_ACTIVE 1) = true ∧
    (mig.obj.moves.filter (fun m => decide (m.reason = 1) && decide (m.rank / 4 = 1))) = [⟨0x200, 1, 4, 1⟩] ∧ mig.object 0x200 ≠ none ∧
    4 + mig.fld (DRAMC.MIG_STATUS_FROM 1) ≠ 4 + mig.fld (DRAMC.MIG_STATUS_TO 1) ∧
    (two.obj.moves.filter (fun m => decide (m.reason = 1) && decide (m.rank / 4 = 1))) = [⟨0x200, 1, 4, 2⟩] := by decide +kernel

/-! ## Host link, Mover, Thaiq -/

theorem witness_EndpointAndWindow :
    let ap := (((lit.setObject 0x200 (some raw)).setFld (INTAKE.AP_HANDLE_EN 7) 1).setFld (INTAKE.AP_HANDLE_HANDLE 7) 0xE200)
    let x := 7 * 2 ^ 25 + 252; let busy := lit.setChState 31 1
    let up := lit.setFld INTAKE.EP_STATUS_LINK_UP 1
    let pend : State := { lit.setFld INTAKE.EP_STATUS_BME 1 with host := { lit.host with pba := 2 ^ 31 } }
    lit.fabric = true ∧ (List.range 32).filter lit.chActive = [] ∧ (List.range 32).filter busy.chActive = [31] ∧ lit.domain 3 = true ∧
    up.on INTAKE.EP_STATUS_LINK_UP = true ∧ (up.setStage 3).bootStage = 3 ∧ ap.aperture x = (7, 0xE200, 252) ∧ ap.on (INTAKE.AP_HANDLE_EN 7) = true ∧
    ap.objCheck 0xE200 252 4 false false = 0 ∧ ap.dataObj 0xE200 = some raw ∧ raw.poisoned = [] ∧ ap.objCheck 0xE200 252 5 false false ≠ 0 ∧
    lit.on (INTAKE.AP_HANDLE_EN 0) = false ∧ pend.host.pba.testBit 31 = true ∧ pend.canSend = true ∧ pend.host.fnMask = false ∧ lit.host.pba = 0 := by
  decide +kernel

/-- Ring 15 enabled with one record to fetch. -/
def ring15 : State := (((lit.setFld INTAKE.EP_STATUS_BME 1).setFld (INTAKE.SQ_CFG_EN 15) 1).setFld (INTAKE.SQ_CFG_SIZE_LOG2 15) 16).setFld (INTAKE.SQ_TAIL_TAIL 15) 1

theorem witness_Rings :
    let chain := [0, 1]; let bad := [0, 1, 0, 0, 0, 1]; let cq := ((lit.setFld INTAKE.EP_STATUS_BME 1).setFld (INTAKE.CQ_CFG_EN 15) 1).setFld (INTAKE.CQ_CFG_SIZE_LOG2 15) 1
    let c := List.replicate 64 0; let some1 := cq.setDq 31 [c]; let wrong := some1.setFld (INTAKE.CQ_NEXT_INDEX_INDEX 15) 0xFFFF
    let wrap1 := (some1.setFld (INTAKE.CQ_TAIL_TAIL 15) 1).setFld (INTAKE.CQ_HEAD_HEAD 15) 1
    lit.fabric = true ∧ lit.on (INTAKE.SQ_CFG_EN 15) = false ∧ lit.on (INTAKE.CQ_CFG_EN 15) = false ∧ ring15.sqSize 15 = 65536 ∧ 65535 % 65536 < ring15.sqSize 15 ∧
    lit.sqSize 15 ≤ 65535 % 65536 ∧
    (ring15.canSend = true ∧ ring15.on (INTAKE.SQ_CFG_EN 15) = true ∧ ring15.fld (INTAKE.SQ_HEAD_HEAD 15) ≠ ring15.fld (INTAKE.SQ_TAIL_TAIL 15) ∧
      (ring15.dq 15).length < 16 ∧ Tbl.get (fun _ => none) ring15.host.chainRec 15 = none ∧ ring15.sqTurn 15 = true) ∧ ring15.fabric = true ∧
    (fieldAt (record64 []) 1 1).testBit 0 = false ∧ (fieldAt (record64 chain) 1 1).testBit 0 = true ∧ badHeader (record64 chain) = false ∧
    badHeader (record64 bad) = true ∧ ring15.chState 15 = 0 ∧ ring15.moverStopped = false ∧ (ring15.setChState 15 1).chState 15 ≠ 0 ∧
    some1.dq (16 + 15) = c :: [] ∧ (some1.canSend = true ∧ some1.on (INTAKE.CQ_CFG_EN 15) = true ∧
      (some1.fld (INTAKE.CQ_TAIL_TAIL 15) + 1) % some1.cqSize 15 ≠ some1.fld (INTAKE.CQ_HEAD_HEAD 15)) ∧
    fieldAt c 2 2 = some1.fld (INTAKE.CQ_NEXT_INDEX_INDEX 15) ∧ fieldAt c 2 2 ≠ wrong.fld (INTAKE.CQ_NEXT_INDEX_INDEX 15) ∧
    (wrap1.fld (INTAKE.CQ_TAIL_TAIL 15) + 1) % wrap1.cqSize 15 = 0 := by decide +kernel

theorem witness_MoverChannels :
    let ch := fun n => lit.setChState 31 n; let stop := lit.setFaultBit 8 0
    let drain := (ch 2).setChan 31 { Chan.reset with desc := some ⟨0, 0, 64, 0xE200, 0, 0, 0⟩, issued := 0 }
    lit.fabric = true ∧ lit.moverStopped = false ∧ (1 : Nat).testBit 0 = true ∧ (1 : Nat).testBit 3 = false ∧ (1 : Nat).testBit 2 = false ∧
    (ch 0).chState 31 = 0 ∧ (ch 4).chState 31 = 4 ∧ (ch 3).chState 31 = 3 ∧ stop.moverStopped = true ∧ (ch 1).chState 31 = 1 ∧ (ch 5).chState 31 = 5 ∧
    (let last := (ch 3).setChan 31 { Chan.reset with ended := true }; (last.chan 31).ended = true ∧ last.chState 31 = 3) ∧ ((ch 3).chan 31).ended = false ∧
    (ch 2).chState 31 = 2 ∧ (drain.chan 31).fetching = false ∧ (drain.chan 31).issued ≤ drain.fld (MOVER.CH_DONE_BYTES 31) := by decide +kernel

/-- Channel 31 runs and waits for its descriptor at `a`. -/
def fetching (a : Nat) : State := ((lit.setObject 0x200 (some raw)).setChState 31 1).setChan 31 { Chan.reset with addr := a, fetching := true }

/-- Channel 31 runs a descriptor of `len` bytes with control `ctl` on the raw object. -/
def moving (len ctl : Nat) : State :=
  (((lit.setFld INTAKE.EP_STATUS_BME 1).setObject 0x200 (some raw)).setChState 31 1).setChan 31
    { Chan.reset with desc := some ⟨0, 192, len, 0xE200, ctl, 0, 0⟩, issued := len }

theorem witness_MoverTransfers :
    let good := leBytes 8 0 ++ leBytes 4 192 ++ leBytes 4 64 ++ leBytes 2 0xE200 ++ leBytes 2 8 ++ leBytes 12 0
    let s := fetching 32; let odd := fetching 8; let two := (moving 64 9).setChState 30 2
    ((s.chan 31).fetching = true ∧ s.chState 31 = 1 ∧ (s.chan 31).space = 0 ∧ (s.chan 31).addr % 32 = 0 ∧ s.descCheck (s.chan 31) (Desc.ofBytes good) = 0) ∧
    s.descCheck (s.chan 31) (Desc.ofBytes []) ≠ 0 ∧ (odd.chan 31).addr % 32 ≠ 0 ∧ (odd.chan 31).fetching = true ∧ odd.chState 31 = 1 ∧
    ((moving 64 8).chan 31).desc = some ⟨0, 192, 64, 0xE200, 8, 0, 0⟩ ∧ (moving 64 8).chState 31 = 1 ∧ (8 : Nat).testBit 0 = false ∧ (8 : Nat).testBit 3 = true ∧
    (moving 64 8).dataObj 0xE200 = some raw ∧ raw.evicted = false ∧ raw.poisoned = [] ∧ [1, 2].length ≤ ((moving 64 8).chan 31).issued - (moving 64 8).fld (MOVER.CH_DONE_BYTES 31) ∧
    (moving 64 8).fld (MOVER.CH_DONE_BYTES 31) + 2 < 64 ∧ 2 ≤ (moving 2 8).fld (MOVER.CH_DONE_BYTES 31) + [1, 2].length ∧ (moving 64 9).canSend = true ∧
    (9 : Nat).testBit 0 = true ∧ [1, 2].length < 64 - (moving 64 9).fld (MOVER.CH_DONE_BYTES 31) ∧ (moving 64 9).chActive 31 = true ∧ two.chActive 30 = true ∧
    (moving 64 9).beatOwner (moving 64 9).outReady = some 31 ∧ (2 : Nat).testBit 0 = false ∧ (moving 2 8).objCheck 0xE200 192 2 true false = 0 ∧
    (moving 2 8).fld (MOVER.CH_DONE_BYTES 31) + [1, 2].length = 2 ∧ ((moving 2 8).chan 31).issued = 2 ∧ (moving 2 8).chActive 31 = true ∧
    (List.range 31).all (fun j => !(moving 2 8).chActive j) = true := by
  decide +kernel

theorem witness_ThaiqRing :
    let on := (lit.setEng engTinder).setFld THAIQ.CTRL_ENABLE 1; let up := on.setFld THAIQ.LINK_STATUS_LINK_UP 1
    lit.fabric = true ∧ lit.on THAIQ.CTRL_ENABLE = false ∧ on.on THAIQ.CTRL_ENABLE = true ∧ on.fabric = true ∧ on.host.hopTrained = false ∧
    (max 1 (min 4 1) = on.ringSize ∧ 0 = (on.position + on.ringSize - 1) % on.ringSize) ∧ ¬ (max 1 (min 4 4) = on.ringSize) ∧ on.eng = engTinder ∧
    on.on THAIQ.LINK_STATUS_LINK_UP = false ∧ up.linkUp = true ∧ 3 ≠ up.position ∧ up.eng = engTinder ∧ (up.setEng engBanked).eng = engBanked ∧
    (up.setEng engBanked).linkUp = true ∧ up.faultBit 0xC 1 = false := by decide +kernel

/-! ## Codec -/

/-- An object of a kind with given bytes. -/
def objOf (kind : Nat) (l : List Nat) : Obj :=
  { Obj.empty kind with size := l.length, bytes := ((List.range l.length).zip l).filter (fun p => p.2 ≠ 0) }

/-- A separation of one stored block: one line of 64 one-bit dots. -/
def sep : Obj := objOf 9 (sepImage 0 [(0, 1, storedBlock [1, 2, 3, 4, 5, 6, 7, 8] 0 64 1 1)])

/-- The codec runs; object 0x200 is `o`; decoder 5 has the format of `sep`. -/
def codec (o : Obj) : State :=
  (((((lit.setFld CODEC.CTRL_ENABLE 1).setFld (CLOCK.PLL_STATUS_LOCKED 1) 1).setFld (CODEC.DEC_CTRL_ENABLE 5) 1).setFld (CODEC.DEC_FORMAT_DOTS 5) 64).setFld
    (CODEC.DEC_FORMAT_BPD 5) 1).setObject 0x200 (some o)

/-- A run of object 0x9200 for page 0x300 from entry `n`. -/
def runAt (n : Nat) : Run := ⟨0x9200, 0x8300, n, 2, true, true⟩

theorem witness_Decoders :
    let s := codec sep; let q := s.setDecoder 5 { Dec.reset with runs := [runAt 0] }; let far := s.setDecoder 5 { Dec.reset with runs := [runAt 1] }
    let cur := s.setDecoder 5 { Dec.reset with cur := some (runAt 0), block := some (0, 1) }
    let forced := s.setDecoder 5 { Dec.reset with cur := some (runAt 0), block := some (0, 1), forced := true }
    let near := q.setGv 5 { Grav.reset with queue := [⟨0x300, 383, 1, false⟩] }; let beyond := q.setGv 5 { Grav.reset with queue := [⟨0x300, 384, 1, false⟩] }
    let full := s.setDecoder 5 { Dec.reset with runs := List.replicate 8 (runAt 0) }; let off := s.setFld (CODEC.DEC_CTRL_ENABLE 5) 0
    (s.decoder 5).runs.length < 8 ∧ (s.setFld (CODEC.DEC_RUN_COUNT_COUNT 5) 1).fld (CODEC.DEC_RUN_COUNT_COUNT 5) ≠ 0 ∧ s.fld (CODEC.DEC_RUN_COUNT_COUNT 5) = 0 ∧
    8 ≤ (full.decoder 5).runs.length ∧ s.codecOn = true ∧ s.on (CODEC.DEC_CTRL_ENABLE 5) = true ∧ (s.decoder 5).block = none ∧ (s.decoder 5).cur = none ∧
    (s.decoder 5).runs = [] ∧ (q.decoder 5).cur = none ∧ (q.decoder 5).runs = runAt 0 :: [] ∧ (codec raw).blocksObj 0xE200 = none ∧ q.blocksObj 0x9200 = some sep ∧
    sep.readKind 0 16 = 0 ∧ sep.blockCount ≤ 1 ∧ (far.decoder 5).runs = runAt 1 :: [] ∧ 0 < sep.blockCount ∧ sep.readKind 0x10 8 = 0 ∧
    ((near.gv 5).queue.find? (fun q => decide (q.page = indexOf 0x8300))) = some ⟨0x300, 383, 1, false⟩ ∧
    (383 : Int) + ((sep.entry 0).first : Int) + (sep.entry 0).lines - 1 ≤ near.wb 5 + 383 ∧
    beyond.wb 5 + 383 < (384 : Int) + ((sep.entry 0).first : Int) + (sep.entry 0).lines - 1 ∧ s.on (CLOCK.PLL_STATUS_LOCKED 1) = true ∧
    (cur.decoder 5).cur = some (runAt 0) ∧ (cur.decoder 5).block = some (0, 1) ∧ (cur.decoder 5).forced = false ∧
    (match sep.block 0 64 1 0 with | .good _ x t => decide (x = [1, 2, 3, 4, 5, 6, 7, 8] ∧ t = 8) | .bad _ => false) = true ∧
    (forced.decoder 5).forced = true ∧ sep.block 0 64 2 0 = .bad 2 ∧ sep.block 0 64 1 1 = .bad 3 ∧
    off.on (CODEC.DEC_CTRL_ENABLE 5) = false ∧ off.decState 5 = 0 := by decide +kernel

/-- Encoder 1 set up: source 0xE200 (8 bytes of RAW), destination 0x9201. -/
def encoder (src dst : Obj) : State :=
  let s := ((codec src).setObject 0x201 (some dst)).setFld (CODEC.ENC_HANDLES_SRC 1) 0xE200
  let t := ((s.setFld (CODEC.ENC_HANDLES_DST 1) 0x9201).setFld (CODEC.ENC_COUNT_LINES 1) 1).setFld (CODEC.ENC_CFG_BLOCK_LINES 1) 1
  (t.setFld (CODEC.ENC_GEOM_DOTS 1) 64).setFld (CODEC.ENC_GEOM_BPD 1) 1

/-- A destination with room. -/
def dest : Obj := { Obj.empty 9 with size := 64, use := 1 }

theorem witness_Encoders :
    let src := objOf 14 [1, 2, 3, 4, 5, 6, 7, 8]; let s := encoder src dest; let r : State := { s.setFld (CODEC.ENC_STATUS_STATE 1) 1 with encJobs := [(1, s.encRegs 1)] }
    let ev := encoder { src with evicted := true } dest; let po := (encoder { src with poisoned := [0] } dest)
    let small := encoder src { dest with size := 63 }
    r.fld (CODEC.ENC_STATUS_STATE 1) = 1 ∧ s.fld (CODEC.ENC_STATUS_STATE 1) ≠ 1 ∧ (codec raw).fld (CODEC.ENC_HANDLES_SRC 1) = 0 ∧
    (kindOf (s.fld (CODEC.ENC_HANDLES_DST 1)) = 9 ∧ kindOf (s.fld (CODEC.ENC_HANDLES_SRC 1)) = 14 ∧ s.on (CODEC.ENC_CFG_SRC_KIND 1) = false) ∧
    s.objCheck 0xE200 0 0 false false = 0 ∧ s.objCheck 0x9201 0 0 false false = 0 ∧ ev.objCheck 0xE200 0 0 false false = 8 ∧
    geometryOk 64 1 1 8 = true ∧ s.fld (CODEC.ENC_CFG_LEVEL 1) ≤ 9 ∧ (s.setFld (CODEC.ENC_CFG_LEVEL 1) 10).fld (CODEC.ENC_CFG_LEVEL 1) = 10 ∧
    s.objCheck 0x9201 0 (encNeed 1 1 64 1) false false = 0 ∧ s.objCheck 0xE200 0 8 false false = 0 ∧ small.objCheck 0x9201 0 (encNeed 1 1 64 1) false false ≠ 0 ∧
    s.on CODEC.CTRL_ENABLE = true ∧ (s.setFld CODEC.CTRL_ENABLE 0).on CODEC.CTRL_ENABLE = false ∧ (r.encJob 1).src = 0xE200 ∧ (r.encJob 1).dst = 0x9201 ∧
    (r.encJob 1).blocks = false ∧ src.hits (r.encJob 1).offset (r.encJob 1).bytes = false ∧ r.objCheck 0x9201 0 0 true false = 0 ∧
    r.codecOn = true ∧ r.encFor = [] ∧ r.dataObj 0xE200 = some src ∧ r.dataObj 0x9201 = some dest ∧ indexOf 0xE200 ≠ indexOf 0x9201 ∧
    ({ src with evicted := true } : Obj).evicted = true ∧ ({ src with poisoned := [0] } : Obj).hits 0 8 = true ∧ po.dataObj 0xE200 ≠ none ∧ src.hits 0 8 = false ∧
    (r.encJob 1).bytes = 8 := by decide +kernel

/-! ## DRAMC -/

/-- Trained: rank 0 serves, rank 1 is a spare if `sp`; an object lies on rank 0. -/
def ranks (sp : Bool) : State :=
  let s := (((lit.setFld DRAMC.TRAIN_STATE 3).setRankState 0 1).setEng engTinder).setObject 0x200 (some { raw with spread := [(0, 2)] })
  if sp then s.setRankState 3 2 else s

theorem witness_DramController :
    let s := ranks false; let t := lit.setEng engTinder; let run := t.setFld DRAMC.TRAIN_STATE 2; let big := t.setFld DRAMC.CFG_RATE 4
    let hot := (s.setEng engBanked).setFld DRAMC.TEMP_CFG_MR4_EN 1; let src := hot.setFld DRAMC.TEMP_CFG_SRC_B_EN 1
    let drift := s.setFld (driftFld 1) 1; let many : State := { drift with dram := { drift.dram with slices := [(1, 2)] } }
    let panic := s.setFld (DRAMC.RT_STATUS_IN_PANIC 6) 1
    t.fabric = true ∧ t.trainAllowed = true ∧ t.fld DRAMC.TRAIN_STATE = 0 ∧ big.fld DRAMC.CFG_RATE = 4 ∧ (lit.setEng engReady).trainAllowed = false ∧
    s.fld DRAMC.TRAIN_STATE = 3 ∧ s.fld DRAMC.TRAIN_STATE ≠ 0 ∧ s.fld DRAMC.TRAIN_STATE ≠ 4 ∧ run.fld DRAMC.TRAIN_STATE = 2 ∧ run.domain 1 = true ∧
    run.chanFitted 0 = true ∧ run.chanFitted 1 = false ∧ run.trainedState 0 0 = 1 ∧ (∀ r ∈ List.range 4, run.trainedState 1 r ≠ 1) ∧
    s.dramRuns = true ∧ (run.setFld DRAMC.TRAIN_STATE 5).dramRuns = true ∧ s.dram.touched.testBit 0 = false ∧ s.rankLive (31 / 8) = false ∧ s.rankLive (7 / 8) = true ∧ (s.debt 7) = 0 ∧
    hot.eng ≠ engReady ∧ hot.on DRAMC.TEMP_CFG_MR4_EN = true ∧ hot.thSource 1 = none ∧ src.thSource 1 = some 0 ∧ hot.on (driftFld 0) = false ∧
    nextBand 2 (degC 93) = 1 ∧ nextBand 2 (degC 93 + 1) = 2 ∧ nextBand 1 (degC 83) = 0 ∧ nextBand 0 (degC 95) = 1 ∧
    drift.on (driftFld 1) = true ∧ Tbl.get (fun _ => 0) drift.dram.slices 1 ≤ 1 ∧ 1 < Tbl.get (fun _ => 0) many.dram.slices 1 ∧
    (∀ p ∈ List.range 7, drift.on (DRAMC.RT_STATUS_IN_PANIC p) = false) ∧ panic.on (DRAMC.RT_STATUS_IN_PANIC 6) = true ∧
    s.rankLive 0 = true ∧ s.on (DRAMC.RT_STATUS_IN_PANIC 6) = false := by decide +kernel

/-- Reads that are served and their errors: corrected, a storm of them, uncorrectable with and without a spare. -/
theorem witness_DramController_reads :
    let s := ranks false; let sp := ranks true; let scrub := s.setFld DRAMC.SCRUB_CFG_SCRUB_HOURS 1; let lim := s.setFld DRAMC.SCRUB_CFG_CE_LIMIT 1
    s.rankLive 0 = true ∧ s.rankState 0 = 1 ∧ s.domain 1 = true ∧ 255 < 256 * (s.setFld (DRAMC.RT_CFG_WATERMARK 6) 1).fld (DRAMC.RT_CFG_WATERMARK 6) ∧
    scrub.fld DRAMC.SCRUB_CFG_SCRUB_HOURS ≠ 0 ∧ scrub.scrubNext.map Prod.fst = some 0 ∧ (s.portLevel 6 255).dramServes 0 64 6 = true ∧ s.dramServes 0 (2 ^ 11) 11 = true ∧
    (lim.ceWithin 0 7200).length ≤ lim.fld DRAMC.SCRUB_CFG_CE_LIMIT ∧
    (s.setFld DRAMC.SCRUB_CFG_CE_LIMIT 0).fld DRAMC.SCRUB_CFG_CE_LIMIT < ((s.setFld DRAMC.SCRUB_CFG_CE_LIMIT 0).ceWithin 0 7200).length ∧ s.fld DRAMC.TRAIN_STATE ≠ 5 ∧ s.on DRAMC.MIG_CFG_CE_RETIRE = false ∧
    s.eng = engTinder ∧ s.page.pages = [] ∧ Tbl.wf (fun _ => none) s.obj.objs = true ∧ (s.dataObj 0xE200).isSome = true ∧ s.obj.poisonLog.length < 16 ∧
    (∀ r ∈ List.range 4, s.rankState r ≠ 2) ∧ sp.rankState 3 = 2 ∧ (∀ r ∈ List.range 3, sp.rankState r ≠ 2) ∧ sp.on (DRAMC.MIG_STATUS_ACTIVE 0) = false ∧ sp.onRank 0 ≠ [] ∧
    s.on DRAMC.FAULT_UE = false ∧ s.on DRAMC.FAULT_CA_ERR = false := by decide +kernel

/-! ## Gravers -/

/-- A frame of scan 0: first new line 96. -/
def frame0 : Frame :=
  { scan := 0, facet := 0, w := 0, first := 96, low := 0, row := 96, bank := 0, coasted := false, suppressed := false, blank := false, sets := [], band := 0,
    pages := [], commits := [], holes := [], ctrl := 0, started := false, complete := false, health := [], capped := false, clamped := false }

/-- A page of one separation in state `st`. -/
def pageIn (st : Nat) : Page :=
  { state := st, marks := 0, reason := 0, pitch := none, gauge := 0, attempt := 0, withdrawn := false, id := 7, flags := 0, lines := 1, sheetLines := 1, offset := 0,
    side := 0, source := 0, output := 0, media := 0, sheetId := 0, pitches := 1, seps := [0], queue := 0, sqIndex := 0, chain := 0, tag := 0, imaging := 1,
    started := false, gone := false, mate := none, holding := false, expansions := [] }

/-- Graver 5 of an enabled station with `g`, PLL 2 locked, its lanes on if `on`. -/
def graverOf (g : Grav) (on : Bool) : State :=
  (((lit.setStation 5 { Station.reset with enabled := true }).setFld (CLOCK.PLL_STATUS_LOCKED 2) 1).setFld (GRAVER.LANE_CFG_LANES_ON 5) (bit on)).setGv 5 g

/-- Graver 5 with a frame to send, one entry for page 0x300 in state `st` of lines 96 on, its line 96 in the Plate if `line`. -/
def graver (st : Nat) (line drum : Bool) : State :=
  let s := ((((((((graverOf Grav.reset true).setFld (CLOCK.SYN_STATUS_LOCKED 5) 1).setFld PLATE.STATUS_ENABLED 1).setFld (GAUGE.G_CFG_ENABLE 0) 1).setFld (GAUGE.G_STATUS_LOCKED 0) (bit drum)).setEng engRunning).setFld (GRAVER.STATUS_DRV_READY 5) 1).setFld
    (GRAVER.STATUS_LANES_UP 5) 1).setFld (GRAVER.GUARD_STATUS_LUT_VALID 5) 1
  let g := { Grav.reset with frames := [frame0], queue := [⟨0x300, 96, 1, isCommitted st⟩], lines := if line then [(96, some ⟨96, [], true⟩)] else [] }
  (s.setGv 5 g).setPg 0x300 (some (pageIn st))

/-- Graver 5 about to fire the frame `f`, page 0x300 in state `st`. -/
def firing (f : Frame) (st : Nat) : State :=
  let s := ((graver st true true).setFld PLATE.STATUS_ENABLED 1)
  s.setGv 5 { s.gv 5 with frames := [f] }

theorem witness_GraverFrames :
    let f1 := { frame0 with ctrl := 0 }; let c := graver pgCommitted true true; let u := graver pgCommitted false true; let a := graver pgAdmitted true true
    let m := graver pgAdmitted false true; let d := graver pgCommitted true false
    let sent := { frame0 with started := true, complete := true, pages := [0x300] }; let late := { frame0 with started := true, pages := [0x300] }
    let fire := firing sent pgCommitted; let com := firing { sent with commits := [0x300] } pgAdmitted
    let long := com.setGv 5 { com.gv 5 with queue := [⟨0x300, 96, 100, false⟩] }
    let gate := fire.setFld (CLOCK.SYN_STATUS_GATED 5) 1; let sup := firing { sent with commits := [0x300], suppressed := true } pgAdmitted
    let dark := c.setFld (CLOCK.PLL_STATUS_LOCKED 2) 0; let off := c.setFld PLATE.STATUS_ENABLED 0; let go := firing late pgCommitted
    (c.gv 5).frames.find? (fun f => !f.started) = some frame0 ∧ ((c.gv 5).switchQ = [] ∧ (c.gv 5).ctrlQ = [] ∧ (c.gv 5).stream = []) ∧ (c.gv 5).forced = 0 ∧
    (c.gv 5).plateForced = false ∧ c.drumOk 5 = true ∧ c.framePages 5 f1 = [⟨0x300, 96, 1, true⟩] ∧ c.linesMissing 5 f1 ⟨0x300, 96, 1, true⟩ = [] ∧ 96 ∈ c.linesRead 5 f1 ⟨0x300, 96, 1, true⟩ ∧
    u.drumOk 5 = true ∧ u.framePages 5 f1 = [⟨0x300, 96, 1, true⟩] ∧ u.linesMissing 5 f1 ⟨0x300, 96, 1, true⟩ = [96] ∧ a.framePages 5 f1 = [⟨0x300, 96, 1, false⟩] ∧
    a.pgState 0x300 = pgAdmitted ∧ a.mayCommit 5 f1 ⟨0x300, 96, 1, false⟩ = true ∧ m.pgState 0x300 = pgAdmitted ∧ m.framePages 5 f1 = [⟨0x300, 96, 1, false⟩] ∧
    m.mayCommit 5 f1 ⟨0x300, 96, 1, false⟩ = false ∧ d.drumOk 5 = false ∧ (d.framePages 5 { f1 with blank := true }).all (·.committed) = true ∧
    lit.gv 5 = Grav.reset ∧ fire.on (CLOCK.SYN_STATUS_COASTING 5) = false ∧ (List.range 6).all (fun j => !(fire.station j).busyCommitted) = true ∧
    (fire.gv 5).frames = [sent] ∧ sent.scan = (fire.gv 5).scan ∧ fire.on PLATE.STATUS_ENABLED = true ∧ ((firing late pgCommitted).gv 5).frames = [late] ∧
    late.complete = false ∧ (fire.window 5 : Int) - 1 + (fire.bows 5 0).foldl min ((fire.bows 5 0).headD 0) + 96 ≥ 96 + 1 - 1 ∧
    com.pgState 0x300 = pgAdmitted ∧ (fire.window 5 : Int) - 1 + (long.bows 5 0).foldl min ((long.bows 5 0).headD 0) + 96 < 96 + 100 - 1 ∧
    c.lanesOn 5 = true ∧ c.on PLATE.STATUS_ENABLED = true ∧ d.lanesOn 5 = true ∧ dark.lanesOn 5 = false ∧ off.on PLATE.STATUS_ENABLED = false ∧
    go.lanesOn 5 = true ∧ (go.gv 5).frames.find? (fun f => f.started && !f.complete) = some late ∧ frame0.blank = false ∧
    fire.on (CLOCK.SYN_STATUS_GATED 5) = false ∧ gate.on (CLOCK.SYN_STATUS_GATED 5) = true ∧ (sup.gv 5).frames = [{ sent with commits := [0x300], suppressed := true }] ∧
    sup.pgState 0x300 = pgAdmitted ∧ (List.range 6).all (fun j => !(sup.station j).busyCommitted) = true := by decide +kernel

/-- Graver 5 with object 0x200 a TABLE, named for the stream and for the build. -/
def graverTable (o : Obj) : State :=
  ((((graverOf Grav.reset true).setObject 0x200 (some o)).setFld (GRAVER.CTRL_DMA_HANDLE_HANDLE 5) 0xC200).setFld (GRAVER.LUT_CMD_HANDLE 5) 0xC200).setFld
    (GRAVER.LUT_SRC_FROM_MRAM 5) 0

theorem witness_GraverControl :
    let full := graverOf { Grav.reset with ctrlQ := List.replicate 64 (1, 2) } true; let off := graverOf { Grav.reset with ctrlQ := List.replicate 63 (1, 2) } false
    let idle := (graverOf Grav.reset true).setFld (GRAVER.CTRL_ADDR_ADDR 5) 0x67
    let tab := { Obj.empty 12 with size := 0x800, bytes := [(8, 1)] }; let s := (graverTable tab).setFld (GRAVER.CTRL_DMA_COUNT_PAIRS 5) 256
    let busy := s.setFld (GRAVER.CTRL_STATUS_DMA_BUSY 5) 1; let build := s.setFld (GRAVER.LUT_STATUS_BUSY 5) 1; let odd := s.setFld (GRAVER.CTRL_DMA_OFFSET_OFFSET 5) 4
    let push := ((s.setFld (GRAVER.PAGEQ_HANDLE_HANDLE 5) 0x8300).setReg (GRAVER.PAGEQ_BASE_LO 5) 287).setFld (GRAVER.PAGEQ_LINES_LINES 5) 1
    let near := push.setReg (GRAVER.PAGEQ_BASE_LO 5) 286; let after := push.setGv 5 { Grav.reset with queue := [⟨0x301, 280, 7, true⟩] }
    let lap := push.setGv 5 { Grav.reset with queue := [⟨0x301, 280, 8, true⟩] }
    let mine := push.setGv 5 { Grav.reset with queue := [⟨0x300, 280, 7, false⟩] }; let bad := graverTable { tab with bytes := [] }
    64 ≤ (full.gv 5).ctrlQ.length ∧ (off.gv 5).ctrlQ.length < 64 ∧ (idle.gv 5).frames = [] ∧
    idle.lanesOn 5 = true ∧ busy.lanesOn 5 = true ∧ build.lanesOn 5 = true ∧ off.lanesOn 5 = false ∧ ((idle.gv 5).switchQ = [] ∧ (idle.gv 5).ctrlQ = [] ∧ (idle.gv 5).stream = []) ∧ (idle.gv 5).building = false ∧
    idle.fld (GRAVER.CTRL_ADDR_ADDR 5) = 0x67 ∧ idle.fld (GRAVER.CTRL_DATA_DATA 5) < 2 ^ 12 ∧
    busy.on (GRAVER.CTRL_STATUS_DMA_BUSY 5) = true ∧ build.on (GRAVER.LUT_STATUS_BUSY 5) = true ∧ kindOf (idle.fld (GRAVER.CTRL_DMA_HANDLE_HANDLE 5)) ≠ 12 ∧
    odd.fld (GRAVER.CTRL_DMA_OFFSET_OFFSET 5) % 8 ≠ 0 ∧ s.on (GRAVER.CTRL_STATUS_DMA_BUSY 5) = false ∧ s.on (GRAVER.LUT_STATUS_BUSY 5) = false ∧
    kindOf (s.fld (GRAVER.CTRL_DMA_HANDLE_HANDLE 5)) = 12 ∧ s.fld (GRAVER.CTRL_DMA_OFFSET_OFFSET 5) % 8 = 0 ∧
    (List.range 256).all (fun i => decide (s.objCheck 0xC200 (8 * i) 8 false true = 0)) = true ∧ s.fld (GRAVER.CTRL_DMA_COUNT_PAIRS 5) = 256 ∧
    s.fld (GRAVER.CTRL_DMA_HANDLE_HANDLE 5) = 0xC200 ∧ s.object 0x200 = some tab ∧
    sext 48 (push.pair (GRAVER.PAGEQ_BASE_LO 5) (GRAVER.PAGEQ_BASE_HI 5)) = 287 ∧ (push.gv 5).next + 287 ≤ 287 ∧ (push.gv 5).queue = [] ∧
    push.fld (GRAVER.PAGEQ_LINES_LINES 5) ≠ 0 ∧ (push.station 5).busyCommitted = false ∧ (after.gv 5).queue.getLast? = some ⟨0x301, 280, 7, true⟩ ∧ (280 : Int) + 7 ≤ 287 ∧
    ¬ ((near.gv 5).next + 287 ≤ sext 48 (near.pair (GRAVER.PAGEQ_BASE_LO 5) (GRAVER.PAGEQ_BASE_HI 5))) ∧ (lap.gv 5).queue.getLast? = some ⟨0x301, 280, 8, true⟩ ∧
    (mine.gv 5).queue = [⟨0x300, 280, 7, false⟩] ∧ indexOf (mine.fld (GRAVER.PAGEQ_HANDLE_HANDLE 5)) = 0x300 ∧
    s.on (GRAVER.LUT_SRC_FROM_MRAM 5) = false ∧ s.lutSection 5 ≠ none ∧ (s.lutSection 5).map (fun l => (l.getD 8 0).testBit 0) = some true ∧
    (let more := graverOf { Grav.reset with stream := List.replicate 3 (1, 2), frames := [{ frame0 with started := true, complete := true }], ctrlSince := 2046 } true;
      more.ctrlRoom 5 = 2 ∧ 2 < (more.gv 5).stream.length ∧ (build.gv 5).stream = []) ∧
    (let mid := graverOf { Grav.reset with frames := [{ frame0 with started := true }] } true;
      mid.ctrlRoom 5 = 0 ∧ off.ctrlRoom 5 = 0 ∧ idle.ctrlRoom 5 = 2048) ∧
    (bad.lutSection 5).map (fun l => (l.getD 8 0).testBit 0) = some false ∧ (idle.setFld (GRAVER.LUT_SRC_FROM_MRAM 5) 0).lutSection 5 = none := by decide +kernel

/-- Station 5 enabled, everything calm. -/
def calm5 : State := (lit.setEng engTinder).setStation 5 { Station.reset with enabled := true }

/-- A valid word of temperature `t`. -/
def wordOf (t : Nat) : Nat := 1 + t * 256 + crc8 [1, t % 256, t / 256, 0] * 2 ^ 32

/-- Mark sensor 7 with its gate open: threshold 100, hysteresis 10, rising edges recorded to object 0x200. -/
def marking (o : Obj) (x : Mark) : State :=
  let s := (((lit.setFld (GAUGE.MK_CTRL_GATE 7) 1).setFld (GAUGE.MK_CFG_THRESH 7) 100).setFld (GAUGE.MK_CFG_HYST 7) 10).setFld (GAUGE.MK_DEST_RISE_EN 7) 1
  (s.setObject 0x200 (some o)).setMark 7 x

theorem witness_GraverSensors :
    let trip := (calm5.setFld (GRAVER.T_TRIP_HYST_T_TRIP 5) 300).setFld (GRAVER.T_TRIP_HYST_HYST 5) 8; let lim := trip.setFld (GRAVER.T_WARN_LIM_T_LIM 5) 200
    let three := calm5.setFld (GRAVER.DRV_MISS_RUN 5) 3; let two := calm5.setFld (GRAVER.DRV_MISS_RUN 5) 2
    let cap := { Obj.empty 13 with size := 0x30 }; let full := { Obj.empty 13 with size := 0x2F }
    let rec' := marking cap { Mark.reset with armRise := true, held := some 0xD200 }; let no := marking full { Mark.reset with armRise := true, held := some 0xD200 }
    let free := marking cap Mark.reset; let port := lit.setCalPort 5 { CalPort.reset with busy := true }
    calm5.eng = engTinder ∧ calm5.linkUp = false ∧ (calm5.station 5).enabled = true ∧ wordOf 300 < 2 ^ 40 ∧ wordValid (wordOf 300 + 2 ^ 32) = false ∧
    wordValid (wordOf 300) = true ∧ bits (wordOf 300) 3 3 = 0 ∧ bits (wordOf 300) 8 12 = 300 ∧ trip.fld (GRAVER.T_TRIP_HYST_T_TRIP 5) = 300 ∧
    lim.fld (GRAVER.T_WARN_LIM_T_LIM 5) = 200 ∧ trip.fld (GRAVER.T_TRIP_HYST_HYST 5) = 8 ∧ bits (wordOf 299) 8 12 < 300 ∧ 191 + 8 < 200 ∧ wordValid (wordOf 191) = true ∧
    lim.on (GRAVER.GUARD_STATUS_T_CAPPED 5) = false ∧
    satAdd (GRAVER.DRV_MISS_RUN 5).width (two.fld (GRAVER.DRV_MISS_RUN 5)) 1 < 4 ∧ 4 ≤ satAdd (GRAVER.DRV_MISS_RUN 5).width (three.fld (GRAVER.DRV_MISS_RUN 5)) 1 ∧
    (lit.station 5).enabled = false ∧ calm5.fabric = true ∧
    lit.on (GAUGE.MK_CTRL_GATE 7) = false ∧ rec'.on (GAUGE.MK_CTRL_GATE 7) = true ∧ (rec'.mark 7).armRise = true ∧ rec'.fld (GAUGE.MK_CFG_THRESH 7) ≤ 100 ∧
    rec'.on (GAUGE.MK_DEST_RISE_EN 7) = true ∧ ¬ rec'.fld (GAUGE.MK_CFG_THRESH 7) ≤ 99 ∧ (rec'.mark 7).armFall = false ∧ (rec'.mark 7).held = some 0xD200 ∧
    rec'.dataObj 0xD200 = some cap ∧ cap.poisoned = [] ∧ cap.nat 0 4 = 0 ∧ rec'.objCheck 0xD200 0x20 16 true false = 0 ∧ no.objCheck 0xD200 0x20 16 true false ≠ 0 ∧
    no.dataObj 0xD200 = some full ∧ full.poisoned = [] ∧
    (bits 0x100D200 0 16 = 0xD200 ∧ (0x100D200).testBit 24 = true) ∧ free.on (GAUGE.MK_DEST_EN 7) = false ∧ (free.mark 7).held = none ∧ kindOf 0xD200 = 13 ∧
    free.objCheck 0xD200 0 0x20 false false = 0 ∧ (0xD200).testBit 24 = false ∧
    bits 0x7A500001 20 12 = 0x7A5 ∧ (0x7A500001).testBit 0 = true ∧ (lit.calPort 5).busy = false ∧ (port.calPort 5).busy = true ∧ (port.calPort 5).data < 2 ^ 32 := by
  decide +kernel

/-! ## The page engine -/

/-- A configuration of one exit sensor: page ring 15, pitch gauge 0, sheet gauge 47, no returns. -/
def cfgTable : List Nat :=
  [0xA7, 0xC5, 1, 1, 15, 0, 0, 0, 0, 0, 0, 0x80, 100, 0, 0, 0] ++ leBytes 8 0 ++ leBytes 4 50 ++ leBytes 4 40 ++ leBytes 4 0 ++ leBytes 4 0 ++ leBytes 4 1000 ++ leBytes 4 1 ++
    List.replicate 32 0 ++ [31, 0, 2 + 4 + 8 + 16, 7] ++ leBytes 4 10 ++ leBytes 2 2 ++ leBytes 2 3 ++ [0, 0, 0, 0] ++ List.replicate 368 0

/-- The configuration it gives. -/
def cfg1 : PageCfg := parseCfg 0xC200 0xC201 cfgTable

/-- A record of opcode `op`, CHAIN_RESULT `chain`, with two handles. -/
def record (op chain h st : Nat) : Record := [op, 0, 0, 0, chain] ++ List.replicate 15 0 ++ leBytes 2 h ++ leBytes 2 st ++ List.replicate 40 0

/-- A page object: page 7, one line, one pitch, separation 0x9202 at engine station 0. -/
def pageObj : Obj :=
  objOf 8 (leBytes 4 7 ++ leBytes 4 0 ++ leBytes 4 1 ++ leBytes 4 0 ++ leBytes 4 1 ++ List.replicate 12 0 ++ [1] ++ List.replicate 47 0 ++ leBytes 4 0x9202 ++ List.replicate 172 0)

/-- Station 5 is the one station; objects 0x200 the table, 0x201 the status table, 0x202 the separation, 0x203 the page; queue 15 holds `l`. -/
def paged (l : List Record) : State :=
  let t := (((lit.setFld (GAUGE.G_CFG_ENABLE 0) 1).setFld (CODEC.DEC_FORMAT_DOTS 5) 64).setFld (CODEC.DEC_FORMAT_BPD 5) 1).setStation 5
    { Station.reset with enabled := true }
  let u := ((t.setObject 0x200 (some (objOf 12 cfgTable))).setObject 0x201 (some { Obj.empty 12 with size := 128 })).setObject 0x202 (some sep)
  (u.setObject 0x203 (some pageObj)).setDq 15 l

/-- With the configuration taken, and `p` as page 0x203. -/
def configured (l : List Record) (p : Option Page) : State :=
  let s := paged l
  let t := { s with page := { s.page with cfg := some cfg1, order := if p.isSome then [0x203] else [] } }
  t.setPg 0x203 p

theorem witness_PageRecords :
    let nop := record 0 0 0 0; let conf := record 2 0 0xC200 0xC201; let page := record 1 0 0x8203 0; let drop := record 3 0 0x8203 0; let purge := record 5 0 0 0
    let s := (paged [conf]).setEng engTinder; let p := configured [page] none; let w := configured [drop] (some (pageIn pgQueued))
    let g := (configured [purge] none).setEng engBanked; let jam : State := { g with page := { g.page with jammed := true } }
    let shut : State := { jam with engine := { jam.engine with gpioBall := 2 ^ 31 } }
    let run : State := { jam with page := { jam.page with purging := true } }; let msg := run.setDq 32 [drop]; let stuck : State := { msg with engine := shut.engine }
    let done := configured [] (some { pageIn pgDelivered with queue := 15 })
    let rep := done.setServing 15 [⟨1, 0, 0, 0, none, 0x203⟩]
    cfgTable.length = 0x1D0 ∧ nop.length = 64 ∧ (s.dq 15 = [conf] ∧ s.servingOf 15 = [] ∧ (s.dq 31).length < 16 ∧ conf.all (· < 256) = true) ∧
    (fieldAt nop 0 1 = 0 ∧ fieldAt nop 4 1 ≠ 3 ∧ fieldAt (record 0 3 0 0) 4 1 = 3 ∧ fieldAt (record 6 0 0 0) 0 1 = 6 ∧ fieldAt (record 0x7F 0 0 0) 0 1 = 0x7F) ∧
    (fieldAt (record 4 3 0 0) 0 1 = 4 ∧ fieldAt (record 4 3 0 0) 4 1 = 3 ∧ fieldAt (record 4 0 15 0) 0x14 1 < 16 ∧ 16 ≤ fieldAt (record 4 0 16 0) 0x14 1) ∧ fieldAt conf 0 1 = 2 ∧ fieldAt conf 4 1 ≠ 3 ∧ s.eng = engTinder ∧
    kindOf (fieldAt conf 0x14 2) = 12 ∧ kindOf (fieldAt conf 0x16 2) = 12 ∧ s.objCheck 0xC200 0 0x1D0 false true = 0 ∧ s.objCheck 0xC201 0 128 false false = 0 ∧
    s.cfgOk (s.objRead 0xC200 0 0x1D0) = true ∧ s.page.cfg = none ∧ (s.setFld (GAUGE.G_CFG_ENABLE 0) 0).cfgOk cfgTable = false ∧
    fieldAt page 0 1 = 1 ∧ (fieldAt (record 1 1 0 0) 4 1 = 1 ∧ fieldAt (record 1 2 0 0) 4 1 = 2) ∧ p.page.cfg = some cfg1 ∧
    ((p.setDq 15 []).pageAccepts cfg1 15 page 0x8203).isSome = true ∧ ((p.setDq 14 []).pageAccepts cfg1 14 page 0x8203) = none ∧
    fieldAt drop 0 1 = 3 ∧ kindOf (fieldAt drop 0x14 2) = 8 ∧ (w.dataObj 0x8203).isSome = true ∧ w.pgState 0x203 = pgQueued ∧
    fieldAt purge 0 1 = 5 ∧ jam.eng = engBanked ∧ jam.page.jammed = true ∧ cfg1.sensors.all (fun x => !jam.covered x) = true ∧
    cfg1.sensors.all (fun x => shut.covered x) = true ∧ g.page.jammed = false ∧
    msg.dq 32 = drop :: [] ∧ msg.page.purging = true ∧ cfg1.sensors.all (fun x => !msg.covered x) = true ∧ cfg1.sensors.all (fun x => stuck.covered x) = true ∧
    cfg1.sensors.length = 1 ∧ done.page.order = 0x203 :: [] ∧ (done.pg 0x203).isSome = true ∧ done.reprints = done ∧ isEnded pgDelivered = true ∧
    (rep.servingOf 15 = [⟨1, 0, 0, 0, none, 0x203⟩] ∧ (rep.dq 31).length < queueDepth 31) ∧ isEnded pgQueued = false := by decide +kernel

/-- Configured, admission open, page 0x203 QUEUED. -/
def open1 : State :=
  let s := ((configured [] (some { pageIn pgQueued with seps := [0x9202] })).setEng engRunning).setFld DRAMC.TRAIN_STATE 3
  let t := (((s.setFld (CLOCK.SYN_STATUS_LOCKED 5) 1).setFld (GAUGE.FID_STATUS_FACET_VALID 5) 1).setFld (GRAVER.GUARD_STATUS_LUT_VALID 5) 1).setFld (GAUGE.G_STATUS_LOCKED 0) 1
  { t with page := { t.page with nextPitch := 6 } }

/-- Page 0x203 in state `st`, its sheet on gauge 47, which sensor 0 has seen as `seen`, at `pos` lines. -/
def sheeted (st seen pos : Nat) : State :=
  let s := configured [] (some { pageIn st with started := true, gauge := 47 })
  let t := s.setGauge 47 { Gauge.reset with value := pos * 65536 }
  { t with page := { t.page with sheets := [⟨0x203, 6, false, 47, [(0, seen)], false⟩], pitches := [(6, some ⟨0x203, false, false⟩)] } }

/-- Planning and deadlines. -/
theorem witness_SheetsAndJams :
    let none' := configured [] none; let shut := none'.setEng engReady; let act := configured [] (some (pageIn pgAdmitted))
    let closed : State := { open1 with page := { open1.page with nextPitch := 0 } }
    none'.page.cfg = some cfg1 ∧ none'.reprints = none' ∧ none'.plan cfg1 0 = [] ∧ open1.reprints = open1 ∧ open1.plan cfg1 6 = [(0x203, 6)] ∧ cfg1.lineRate ≠ 0 ∧
    Tbl.get (fun _ => none) open1.page.pitches 6 = none ∧ none'.eng ≠ engRunning ∧ none'.eng ≠ engRunOut ∧ none'.closedFor cfg1 = some 1 ∧ shut.eng ≠ engRunOut ∧
    open1.closedFor cfg1 = none ∧ (act.pg 0x203).map (fun p => isActive p.state) = some true ∧
    (({ open1 with page := { open1.page with order := [] } } : State).plan cfg1 6) = [] ∧
    (open1.plan cfg1 6).find? (fun y => decide (y.2 = 6)) = some (0x203, 6) ∧
    allPass (open1.pagePasses cfg1 { pageIn pgQueued with seps := [0x9202] } 6 0 (1000000000 / cfg1.lineRate) (open1.finishNow 0)) = true ∧
    (open1.pagePasses cfg1 { pageIn pgQueued with seps := [0x9202] } 6 0 (1000000000 / cfg1.lineRate) (open1.finishNow 0)).length = 1 ∧
    (open1.pushSheet cfg1 0x203 6 (open1.pagePasses cfg1 { pageIn pgQueued with seps := [0x9202] } 6 0 (1000000000 / cfg1.lineRate) (open1.finishNow 0))).1 = true ∧
    (closed.pushSheet cfg1 0x203 0 (closed.pagePasses cfg1 { pageIn pgQueued with seps := [0x9202] } 0 0 1000000 (closed.finishNow 0))).1 = false := by decide +kernel

/-- Sheets, sensors and messages of the path core. -/
theorem witness_SheetsAndJams_path :
    let none' := configured [] none; let wait : State := { open1 with page := { open1.page with pitches := [(6, some ⟨0x203, false, false⟩)] } }
    let start := wait.setPg 0x203 (some { pageIn pgAdmitted with pitch := some 6 })
    let sh : Sheet := ⟨0x203, 6, false, 47, [], false⟩; let early := sheeted pgCommitted 0 7; let due := sheeted pgCommitted 0 8; let jam : State := { due with page := { due.page with jammed := true } }
    let saw := sheeted pgCommitted 2 10; let late := sheeted pgCommitted 2 15; let x := cfg1.sensors.headD (parseSensor [] 0)
    let msg := (sheeted pgAdmitted 0 0).setDq 32 [[1, 47]]; let path := (sheeted pgAdmitted 0 0).setDq 32 [[2, 0]]
    let cov : State := { saw with engine := { saw.engine with gpioBall := 2 ^ 31 } }
    start.freeSheetGauges cfg1 = [47] ∧ start.mayStart { pageIn pgAdmitted with pitch := some 6 } false = true ∧ Tbl.get (fun _ => none) start.page.pitches 6 = some ⟨0x203, false, false⟩ ∧
    wait.mayStart (pageIn pgQueued) false = false ∧ (due.sheetOn 47).map (fun y => y.page) = some 0x203 ∧ due.pgState 0x203 = pgCommitted ∧ (sheeted pgTransferred 0 0).pgState 0x203 = pgTransferred ∧
    none'.sheetOn 47 = none ∧ cfg1.sensors[0]? = some x ∧ x.high = true ∧ x.role = 2 ∧ x.pos = 10 ∧ x.early = 2 ∧ x.late = 3 ∧
    (due.page.sheets.find? (fun sh => due.watches x sh && !sh.stopped && !(sh.seenAt 0).testBit 1 && !(sh.seenAt 0).testBit 2)).isSome = true ∧
    due.sheetPos sh = (x.pos - x.early) * 65536 ∧ early.sheetPos sh < (x.pos - x.early) * 65536 ∧ early.page.jammed = false ∧ jam.page.jammed = true ∧
    (saw.page.sheets.find? (fun sh => saw.watches x sh && !sh.stopped && (sh.seenAt 0).testBit 1 && !(sh.seenAt 0).testBit 4 && !(sh.seenAt 0).testBit 5)).isSome = true ∧
    (x.pos + saw.sheetLines sh - x.early) * 65536 ≤ saw.sheetPos sh ∧ saw.sheetPos sh ≤ (x.pos + saw.sheetLines sh + x.late) * 65536 ∧
    (x.pos + saw.sheetLines sh + x.late) * 65536 < late.sheetPos sh ∧ (due.page.sheets.all (due.watches x)) = true ∧ saw.covered x = false ∧ State.covered cov x = true ∧
    (fieldAt [1, 47] 0 1 = 1 ∧ fieldAt [1, 47] 1 1 = 47 ∧ fieldAt [2, 0] 0 1 = 2) ∧ msg.dq 32 = [1, 47] :: [] ∧ path.dq 32 = [2, 0] :: [] ∧ msg.pgState 0x203 = pgAdmitted ∧
    Tbl.get (fun _ => none) msg.page.pitches 6 = some ⟨0x203, false, false⟩ ∧ none'.dq 32 = [] := by decide +kernel

/-! ## Motion -/

/-- Axis `a` in phase `p`, enabled if `en`, engine in TINDER. -/
def axisIn (a p : Nat) (en : Bool) : State := ((lit.setEng engTinder).setAxPhase a p).setFld (axf FOC.CTRL_ENABLE STEP.CTRL_ENABLE a) (bit en)

theorem witness_AxisCommands :
    let off := axisIn 11 phOff false; let ok := off.setFld (FOC.PWM_CFG_HALF 11) 6000; let dis := axisIn 11 phDisabling false; let ramp := axisIn 11 phRamp true
    let move := ramp.setAxis 11 { Axis.reset with ref := 1 }; let hold := axisIn 19 phHold true; let prob := axisIn 11 phProbing true; let sn := ramp.setFld (FOC.CFG_START_N_EN 11) 1
    let lim := ramp.setAxis 11 { Axis.reset with limit := 1 }; let lim2 := ramp.setAxis 11 { Axis.reset with limit := 2 }
    (off.eng ≠ engReady ∧ off.eng ≠ engRunOut ∧ off.eng ≠ engSafe ∧ off.tinder.outputsHeld = false) ∧ ramp.axEnable 11 = true ∧ off.axEnable 11 = false ∧
    dis.axPhase 11 = phDisabling ∧ dis.axEnable 11 = false ∧ off.axPhase 11 = phOff ∧ ok.pwmOk 11 = true ∧ (off.setFld (FOC.PWM_CFG_HALF 11) 4999).pwmOk 11 = false ∧
    runningPhase (move.axPhase 11) = true ∧ (move.axis 11).ref ≠ 0 ∧ move.on (FOC.CFG_COAST_DIS 11) = false ∧ (ramp.axis 11).ref = 0 ∧ ramp.axPhase 11 ≠ phOff ∧
    sn.axStartN 11 = true ∧ ramp.axStartN 11 = false ∧ sn.axEnable 11 = true ∧ prob.axPhase 11 = phProbing ∧ hold.axPhase 19 = phHold ∧ hold.axEnable 19 = true ∧
    (axisIn 11 phIdle true).axPhase 11 = phIdle ∧ (axisIn 11 phIdle true).encoderAxis 11 = false ∧ (axisIn 19 phIdle true).axPhase 19 = phIdle ∧
    ramp.axPosMode 11 = false ∧ (lim.axis 11).limit = 1 ∧ (lim2.axis 11).limit = 2 ∧ (ramp.axis 11).limit = 0 ∧
    0 < (lim.setFld (FOC.TARGET_SPEED_SPEED 11) 5).sfld (FOC.TARGET_SPEED_SPEED 11) ∧ (lim.setFld (FOC.TARGET_SPEED_SPEED 11) (2 ^ 32 - 5)).sfld (FOC.TARGET_SPEED_SPEED 11) < 0 ∧
    prob.axEnable 11 = true ∧ (axisIn 19 phStalled true).axPhase 19 = phStalled := by decide +kernel

/-- The engine BANKED, its outputs free: starts act; an axis on its encoder; a stepper's update; brakes that may act. -/
theorem witness_Axes_banked :
    let run := fun a p en => (axisIn a p en).setEng engBanked; let ramp := run 11 phRamp true
    let enc := ((axisIn 11 phRamp true).setFld (FOC.FB_CFG_FB_EN 11) 1).setFld (FOC.CFG_ANGLE_SRC 11) 1
    let bus := ((((lit.setEng engBanked).setFld (FOC.BUS_GAIN_GAIN 7) 65536).setFld (FOC.BUS_LIMITS_TRIP 7) 900).setFld (FOC.BUS_LIMITS_CHOP_RISE 7) 10).setFld (FOC.BUS_CFG_CHOP_EN 7) 1
    let chop := (bus.setFld (FOC.BUS_STATUS_BRAKE 7) 1).setBus 7 { volts := 0, noted := 800 * 65536 }; let rest := chop.setEng engTinder
    (axisIn 11 phRamp true).drivesHeld = true ∧ ramp.drivesHeld = false ∧ ramp.eng ≠ engReady ∧ ramp.eng ≠ engRunOut ∧ ramp.axEnable 11 = true ∧ ramp.axPhase 11 = phRamp ∧
    ramp.axStartN 11 = false ∧ (run 11 phIdle true).axPhase 11 = phIdle ∧ (run 11 phIdle true).drivesHeld = false ∧ (run 11 phProbing true).drivesHeld = false ∧
    (run 11 phOff false).drivesHeld = false ∧ (ramp.setFld (FOC.CFG_START_N_EN 11) 1).axStartN 11 = true ∧ ramp.axPosMode 11 = false ∧
    enc.encoderAxis 11 = true ∧ enc.axPhase 11 = phRamp ∧ (enc.axis 11).updates ≠ 3 ∧ (axisIn 19 phRamp true).axPhase 19 ≠ phOff ∧ ((axisIn 19 phRamp true).axis 19).updates ≠ 3 ∧
    (bus.eng ≠ engTinder ∧ bus.eng ≠ engOff ∧ bus.tinder.outputsHeld = false ∧ bus.eng = engBanked ∧ bus.linkUp = false) ∧
    bus.on (FOC.BUS_STATUS_BRAKE 7) = false ∧ chop.on (FOC.BUS_STATUS_BRAKE 7) = true ∧ rest.on (FOC.BUS_STATUS_BRAKE 7) = true ∧ rest.eng = engTinder ∧
    ¬ rest.fld (FOC.BUS_LIMITS_TRIP 7) * 65536 ≤ 810 * rest.fld (FOC.BUS_GAIN_GAIN 7) := by decide +kernel

theorem witness_AxisEvents :
    let ramp := axisIn 11 phRamp true; let go := ramp.setAxis 11 { Axis.reset with updates := 3, speed := 10 ^ 8, accel := 1 }; let prob := axisIn 11 phProbing true
    let al := fun x => (axisIn 11 phAligning true).setAxis 11 { Axis.reset with pulses := x, north := 5 }
    let best := (al 11).setAxis 11 { Axis.reset with pulses := 11, best := some (0, 10, 2) }
    let rated := (prob.setFld (FOC.RATED_RATED 11) 100).setAxis 11 { Axis.reset with pulses := 1 }
    let calm := lit.setEng engTinder
    let bus := (((((calm.setFld (FOC.BUS_GAIN_GAIN 7) 65536).setFld (FOC.BUS_LIMITS_TRIP 7) 900).setFld (FOC.BUS_LIMITS_CHOP_RISE 7) 10).setFld (FOC.BUS_CFG_CHOP_EN 7) 1).setFld
      (FOC.BUS_CHOP_CHOP_ON 7) 800).setFld (FOC.BUS_CHOP_CHOP_OFF 7) 700
    (calm.eng = engTinder ∧ calm.linkUp = false ∧ calm.eng ≠ engReady ∧ calm.eng ≠ engRunOut) ∧ calm.axPhase 11 = phOff ∧ ramp.axPhase 11 ≠ phOff ∧ (ramp.axis 11).updates ≠ 3 ∧
    (go.axis 11).updates = 3 ∧ go.axPosMode 11 = false ∧ go.fld (FOC.JERK_JERK 11) = 0 ∧ go.on (FOC.CFG_LIM_EN 11) = false ∧ go.on (FOC.AXIS_STATUS_DERATED 11) = false ∧
    go.on (FOC.AXIS_STATUS_ZV_BRAKE 11) = false ∧ 0 ≤ (go.axis 11).ref ∧ (go.axis 11).ref < (go.axis 11).speed * 1000000000 ∧
    ramp.speedWithin 11 = true ∧ go.speedWithin 11 = false ∧ ramp.atSpeed 11 = false ∧ ramp.axPhase 11 = phRamp ∧ prob.axPhase 11 = phProbing ∧
    ((al 11).axPhase 11 = phAligning ∧ ((al 11).axis 11).pulses < 12 ∧ ((al 11).axis 11).best = none) ∧ (best.axis 11).best = some (0, 10, 2) ∧ 10 * max 1 1 < 6 * 2 ∧ 4 * 2 < 10 * max 1 1 ∧
    ((al 12).axis 11).pulses = 12 ∧ (12 < ((al 13).axis 11).pulses ∧ ((al 13).axis 11).north ≠ 4) ∧ (prob.axis 11).reprobe = false ∧ (prob.axis 11).pulses = 0 ∧
    (rated.axis 11).pulses ≠ 0 ∧ rated.fld (FOC.RATED_RATED 11) = 100 ∧ ((sext 32 5).natAbs * 100 ≤ 500 ∧ 500 < (sext 32 6).natAbs * 100 ∧ sext 32 (2 ^ 32 - 6) < 0) ∧
    bus.fld (FOC.BUS_LIMITS_TRIP 7) * 65536 ≤ 900 * bus.fld (FOC.BUS_GAIN_GAIN 7) ∧ ¬ bus.fld (FOC.BUS_LIMITS_TRIP 7) * 65536 ≤ 899 * bus.fld (FOC.BUS_GAIN_GAIN 7) ∧
    bus.on (FOC.BUS_CFG_CHOP_EN 7) = true ∧ bus.on (FOC.BUS_STATUS_BRAKE 7) = false ∧ bus.fld (FOC.BUS_CHOP_CHOP_ON 7) * 65536 ≤ 800 * bus.fld (FOC.BUS_GAIN_GAIN 7) ∧
    0 < bus.fld (FOC.BUS_LIMITS_CHOP_RISE 7) * 65536 := by decide +kernel

/-- A group that brakes, a stepper at a full step, the end of an acceleration. -/
theorem witness_AxisEvents_more :
    let calm := lit.setEng engTinder
    let bus := ((((calm.setFld (FOC.BUS_GAIN_GAIN 7) 65536).setFld (FOC.BUS_LIMITS_TRIP 7) 900).setFld (FOC.BUS_LIMITS_CHOP_RISE 7) 10).setFld (FOC.BUS_CFG_CHOP_EN 7) 1).setFld
      (FOC.BUS_CHOP_CHOP_OFF 7) 700
    let chop := (bus.setFld (FOC.BUS_STATUS_BRAKE 7) 1).setBus 7 { volts := 0, noted := 800 * 65536 }
    let st := axisIn 19 phRamp true; let fb := ((st.setFld (STEP.FB_CFG_FB_EN 7) 1).setFld (STEP.FB_SCALE_SCALE 7) 1).setPair (STEP.POS_LO 7) (STEP.POS_HI 7) (2 ^ 20)
    let ad := (st.setFld (STEP.CFG_CUR_MODE 7) 1).setFld (STEP.ADAPT_MAX_STEPS 7) 1; let weak := (ad.setFld (STEP.CURRENT_RUN 7) 9).setFld (STEP.ADAPT_THETA_HI 7) 255
    let acc := (axisIn 11 phRamp true).setAxis 11 { Axis.reset with declared := some 100 }
    chop.on (FOC.BUS_STATUS_BRAKE 7) = true ∧ 700 * chop.fld (FOC.BUS_GAIN_GAIN 7) ≤ chop.fld (FOC.BUS_CHOP_CHOP_OFF 7) * 65536 ∧
    chop.fld (FOC.BUS_CHOP_CHOP_OFF 7) * 65536 < 810 * chop.fld (FOC.BUS_GAIN_GAIN 7) ∧ ¬ chop.fld (FOC.BUS_LIMITS_TRIP 7) * 65536 ≤ 810 * chop.fld (FOC.BUS_GAIN_GAIN 7) ∧
    (chop.bus 7).noted + chop.fld (FOC.BUS_LIMITS_CHOP_RISE 7) * 65536 ≤ 810 * chop.fld (FOC.BUS_GAIN_GAIN 7) ∧
    st.axPhase 19 ≠ phOff ∧ st.fld (STEP.CFG_CUR_MODE 7) ≠ 1 ∧ st.on (STEP.FB_CFG_FB_EN 7) = false ∧ fb.on (STEP.FB_CFG_FB_EN 7) = true ∧ fb.fld (STEP.FB_SCALE_SCALE 7) ≠ 0 ∧
    fb.fld (STEP.FB_CFG_DEV_WINDOW 7) * (65536 * 1) < ((fb.axPos 19 * 1 - 0) * 2 ^ min 8 (fb.fld (STEP.CFG_MICRO_LOG2 7))).natAbs ∧ (fb.gauge (fb.fld (STEP.FB_CFG_GAUGE 7))).value = 0 ∧
    ad.fld (STEP.CFG_CUR_MODE 7) = 1 ∧ ad.fld (STEP.CURRENT_RUN 7) = ad.fld (STEP.CURRENT_HOLD 7) ∧ weak.fld (STEP.CURRENT_RUN 7) ≠ weak.fld (STEP.CURRENT_HOLD 7) ∧
    (weak.fld (STEP.ADAPT_THETA_LO 7) : Int) < weak.fld (STEP.ADAPT_THETA_HI 7) ∧ ((axisIn 11 phRamp true).axis 11).declared = none ∧ (acc.axis 11).declared = some 100 ∧
    acc.axBus 11 = 0 ∧ satAdd 24 (ad.fld (STEP.LOAD_AT_MAX 7)) 1 = max 1 (ad.fld (STEP.ADAPT_MAX_STEPS 7)) := by decide +kernel

/-! ## Hearth, Cord, HV -/

/-- Phase 2: lamp 7, in zone 3 where `z`; its mains gauge locked; U of the zone 65,535. -/
def mains (z : Bool) : State :=
  let s := ((((lit.setEng engBanked).setFld (GAUGE.G_CFG_ENABLE 26) 1).setFld (GAUGE.G_STATUS_LOCKED 26) 1).setFld (HEARTH.H_CFG_PHASE 7) 2).setFld (HEARTH.Z_CFG_LAMPS 3) 128
  ((s.setFld (HEARTH.Z_CFG_ENABLE 3) (bit z)).setFld (HEARTH.Z_CFG_REF_PHASE 3) 2).setFld (HEARTH.Z_STATUS_U 3) 65535

theorem witness_LampsAndCord :
    let s := mains true; let want := s.setLamp 7 { Lamp.reset with acc := 1 }; let lit7 := s.setLamp 7 { Lamp.reset with granted := true, gap := 0 }
    let soft := lit7.setFld (HEARTH.H_CFG_SOFT_GAP 7) 0; let six := (s.setFld (HEARTH.H_STATUS_ON 7) 1).setLamp 7 { Lamp.reset with granted := true, soft := 7 }
    let lim := (want.setFld (CORD.P_BUDGET_BUDGET 2) 40).setFld (HEARTH.H_CFG_WATTS 7) 100; let over' := (want.setFld (CORD.P_BUDGET_BUDGET 2) 4).setFld (HEARTH.H_CFG_WATTS 7) 300
    let safe := want.setEng engSafe
    7 ∈ s.phaseLamps 2 ∧ 0 ∉ s.phaseLamps 2 ∧ s.phaseOk 2 = true ∧ safe.phaseOk 2 = false ∧ s.zoneOf 7 = some 3 ∧ s.budget 2 = 0 ∧ safe.budget 2 = 0 ∧
    ¬ 65536 ≤ (s.lamp 7).acc + (s.fld (HEARTH.Z_STATUS_U 3) : Int) ∧ 65536 ≤ (want.lamp 7).acc + (want.fld (HEARTH.Z_STATUS_U 3) : Int) ∧
    (lit7.lamp 7).granted = true ∧ (lit7.lamp 7).soft = 0 ∧ lit7.on (HEARTH.H_STATUS_ON 7) = false ∧ (lit7.lamp 7).gap < (lit7.setFld (HEARTH.H_CFG_SOFT_GAP 7) 1).fld (HEARTH.H_CFG_SOFT_GAP 7) ∧
    soft.fld (HEARTH.H_CFG_SOFT_GAP 7) ≤ (soft.lamp 7).gap ∧ (six.lamp 7).soft = 7 ∧ six.on (HEARTH.H_STATUS_ON 7) = true ∧ s.eng ≠ engReady ∧
    (s.zoneOn 3 = true ∧ s.fld (HEARTH.Z_CFG_REF_PHASE 3) = 2 ∧ s.setPoint 3 = 0 ∧ (s.setFld (HEARTH.Z_SP_BANK_SP 3) 9).setPoint 3 = 9) ∧
    lim.budget 2 = 1000 ∧ lim.phaseOk 2 = true ∧ lim.on (HEARTH.H_STATUS_ON 7) = false ∧ (lim.phaseLamps 2).filter (fun n => (lim.zoneOf n).isSome) = [7] ∧
    lim.lampPriority 7 ≠ 1 ∧ lim.lampCurrent 2 7 ≤ lim.budget 2 ∧ over'.budget 2 = 100 ∧ over'.budget 2 < over'.lampCurrent 2 7 ∧
    lim.fld (CORD.P_LOADS_FIXED 2) + (List.range 8).foldl (fun x b => x + lim.busCurrent 2 b) 0 = 0 ∧
    over'.fld (CORD.P_LOADS_FIXED 2) + (List.range 8).foldl (fun x b => x + over'.busCurrent 2 b) 0 ≤ over'.budget 2 ∧
    (List.range 32).any (fun n => lim.on (HV.V_STATUS_OUTPUT n)) = false := by decide +kernel

/-- Inputs 15 and 3 enabled, 15 guarding zone 3, its window begun at `w`. -/
def sensing (w : Nat) : State :=
  let s := ((((lit.setEng engTinder).setFld (HEARTH.TH_CFG_EN 15) 1).setFld (HEARTH.TH_CFG_EN 3) 1).setFld (HEARTH.Z_CFG_LAMPS 3) 128).setFld (HEARTH.Z_CFG_CTRL 3) 15
  ((s.setFld (HEARTH.TH_CFG_MODE 15) 1).setFld (HEARTH.TH_VALUE_TEMP 15) 100).setTherm 15 { Therm.reset with windowStart := some w }

theorem witness_HearthAndHv :
    let s := sensing 100; let fast := (sensing 0).setFld (HEARTH.TH_RATE_RISE_MAX 15) 99; let latched := s.setFld HEARTH.ACK_STATUS_LATCHED 1
    let other := (s.setFld (HEARTH.Z_CFG_LAMPS 7) 128).setFld (HEARTH.Z_CFG_ENABLE 7) 1
    let v := 0xAC500001; let seq := latched.setFld HEARTH.TRIP_SEQ_SEQ 5; let hot := (latched.setFld (HEARTH.Z_BAND_REARM 3) 100); let cool := latched.setFld (HEARTH.Z_BAND_REARM 3) 101
    let busy := latched.setFld HEARTH.ACK_STATUS_RESULT 1; let arc := (lit.setEng engTinder).setFld (HV.V_ARC_LIMIT 31) 5; let ac := (arc.setFld (HV.V_CFG_AC_EN 31) 1).setFld (HV.V_CFG_LOOP_EN 31) 1
    (s.eng = engTinder ∧ s.linkUp = false ∧ s.fabric = true) ∧ s.on (HEARTH.TH_CFG_EN 0) = false ∧ s.on (HEARTH.TH_CFG_EN 15) = true ∧ (s.guardedBy 15).isSome = true ∧
    (s.guardedBy 3) = none ∧ s.on (HEARTH.TH_VALUE_BROKEN 3) = false ∧ (s.therm 15).bad = false ∧ s.on (HEARTH.TH_CFG_MODE 15) = true ∧ 16 * 0xFFE % 16 = 0 ∧
    (s.setFld (HEARTH.TH_CFG_TRIP 15) 100).fld (HEARTH.TH_CFG_TRIP 15) ≤ min 0xFFE (16 * 100 / 16) ∧ (List.range 16).all (fun i => decide (s.fld (HEARTH.TH_RATE_NORISE_N i) = 0)) = true ∧
    s.on (HEARTH.TH_VALUE_BROKEN 15) = false ∧ ¬ 100 + s.fld (HEARTH.TH_RATE_RISE_MAX 15) < s.reading 15 ∧ 0 + fast.fld (HEARTH.TH_RATE_RISE_MAX 15) < fast.reading 15 ∧
    (fast.therm 15).windowStart = some 0 ∧ (fast.guardedBy 15).isSome = true ∧ ((List.range 15).all (fun j => decide ((fast.therm j).windowStart = none))) = true ∧
    latched.on HEARTH.ACK_STATUS_LATCHED = true ∧ s.on HEARTH.ACK_STATUS_LATCHED = false ∧ s.zoneOn 3 = false ∧ (7 ∈ other.zoneLamps 3 ∧ other.zoneOn 7 = true ∧
    other.fbit (HEARTH.Z_CFG_LAMPS 7) 7 = true) ∧ (List.range 8).all (fun y => !s.zoneOn y) = true ∧ s.journal.writing = none ∧
    v.testBit 0 = true ∧ bits v 20 12 = 0xAC5 ∧ s.fld HEARTH.ACK_STATUS_RESULT ≠ 1 ∧ busy.fld HEARTH.ACK_STATUS_RESULT = 1 ∧ bits 1 20 12 ≠ 0xAC5 ∧
    seq.fld HEARTH.ACK_SEQ_SEQ ≠ seq.fld HEARTH.TRIP_SEQ_SEQ ∧ hot.fld HEARTH.ACK_SEQ_SEQ = hot.fld HEARTH.TRIP_SEQ_SEQ ∧
    (hot.zoneUsed 3 = true ∧ hot.fld (HEARTH.Z_BAND_REARM 3) ≤ hot.zoneTemp 3) ∧
    (List.range 8).all (fun z => !cool.zoneUsed z || decide (cool.zoneTemp z < cool.fld (HEARTH.Z_BAND_REARM z))) = true ∧ cool.journal.queue.length < 16 ∧
    (s.setFld HEARTH.DIE_CFG_DIE_HOT 4095).fld HEARTH.DIE_CFG_DIE_HOT ≤ 4095 ∧
    (arc.on (HV.V_CFG_LOOP_EN 31) = false ∧ arc.on (HV.V_CFG_AC_EN 31) = false ∧ arc.fld (HV.V_ARC_LIMIT 31) = 5) ∧ 20 * 4095 % 20 = 0 ∧
    arc.hvCfgOk 31 = true ∧ ac.hvCfgOk 31 = false ∧ (arc.setFld HV.STATUS_ENABLED 1).on HV.STATUS_ENABLED = true ∧ arc.on HV.STATUS_ENABLED = false ∧ held.fabric = false ∧
    16 * (100 * 3 + 3 * (160 - 60) * 1) % (100 * 1) = 0 ∧
    (s.setFld (HEARTH.TH_CFG_MODE 15) 0).on (HEARTH.TH_CFG_MODE 15) = false ∧ 65536 * 99 % 1 = 0 ∧ 65536 * 1 % 2 = 0 ∧
    [(arc.fld (HV.V_ARC_THRESH 31) + 1, 250)].countP (fun x => decide (arc.fld (HV.V_ARC_THRESH 31) < x.1) && decide (250 ≤ x.2)) = 1 := by decide +kernel

/-- Journal headers: copy 1 with HEAD 2,045 in MRAM; an ACK of trip 3 is being written. -/
def acking : State :=
  let s := (lit.setEng engTinder).setMram 0x20 (headerImage 1 2045 7 3 0)
  { s with journal := { s.journal with writing := some ⟨3, 0xD, 0, false, 1, 0, 3, 1, 0⟩ } }

theorem witness_HearthAndHv_journal :
    acking.header = some ⟨1, 1, 2045, 7, 3, 0⟩ ∧ (acking.journal.writing.map (fun e => (e.kind, e.detail))) = some (3, 3) ∧ acking.journal.queue = [] ∧
    acking.journal.held = [] := by decide +kernel

/-! ## Whole-machine statements -/

theorem witness_WarningChangesNothingElse :
    let s := (lit.setRail 15 railGood).setFld (TINDER.RAIL_LEVELS_WARN_LO 15) 1000
    s.tinder.vstby = true ∧ s.rail 15 = railGood ∧ 999 < s.fld (TINDER.RAIL_LEVELS_WARN_LO 15) ∧ ¬ 1000 < s.fld (TINDER.RAIL_LEVELS_WARN_LO 15) := by decide +kernel

/-- Its writer's entry waits as a command. -/
def queued : State := { acking with pending := [.journalEntryWritten] }

theorem witness_StepKeepsCanonicalForm :
    queued.regsWf ∧ queued.mramWf ∧ (match step queued with | .next t => decide (t.mramByte 0x40 ≠ queued.mramByte 0x40 ∨ t.tinder.mram ≠ queued.tinder.mram) | _ => false) = true := by
  unfold State.regsWf State.mramWf; decide +kernel

end Sys2Proof.Tests
end

/-! # The register bus: accesses, writes and reads (family 00, scope) -/

section

namespace Sys2Proof.Machine

open Sys2Proof.Statements

/-! ## Where an offset lies (R26) -/

/-- The blocks of R26 end below the first window. -/
theorem blockOf_eq_none_of_le {a : Nat} (h : 0x218000 ≤ a) : blockOf a = none := by
  have miss : blocks.find? (fun b => decide (b.base ≤ a) && decide (a < b.base + b.count * b.stride)) = none := by
    simp [List.find?_eq_none, blocks]; omega
  simp [blockOf, miss]

theorem blockOf_eq_none_of_memWindow {a : Nat} {x : Nat × Nat} (h : memWindow a = some x) : blockOf a = none := by
  unfold memWindow at h
  split at h
  · exact blockOf_eq_none_of_le (by omega)
  · split at h
    · exact blockOf_eq_none_of_le (by omega)
    · cases h

/-- The block GAUGE of R26. -/
def gaugeBlock : RegBlock := ⟨0x30000, 1, 0x10000, 3, GAUGE.rows⟩

theorem blockOf_gauge {r : Nat} (h : r < 0x10000) : blockOf (0x30000 + r) = some (gaugeBlock, 0, r) := by
  have hit : blocks.find? (fun b => decide (b.base ≤ 0x30000 + r) && decide (0x30000 + r < b.base + b.count * b.stride)) = some gaugeBlock := by
    have below : ∀ c : Nat, c ≤ 0x30000 → ¬ 0x30000 + r < c := fun c _ => by omega
    have inside : 0x30000 + r < 0x40000 := by omega
    simp [blocks, gaugeBlock, below, inside]
  simp [blockOf, hit, gaugeBlock]
  omega

/-- Only CALENDAR has the code 4, and it has one unit. -/
theorem unit_eq_zero_of_calendar {a u r : Nat} {b : RegBlock} (h : blockOf a = some (b, u, r)) (hc : b.code = 4) : u = 0 := by
  obtain ⟨c, hf, he⟩ := Option.map_eq_some_iff.mp h
  obtain ⟨rfl, rfl, rfl⟩ : c = b ∧ (a - c.base) / c.stride = u ∧ (a - c.base) % c.stride = r := by simpa using he
  have hin : a < c.base + c.count * c.stride := by
    have hit := List.find?_some hf
    rw [Bool.and_eq_true, decide_eq_true_eq, decide_eq_true_eq] at hit
    exact hit.2
  have hcal : ∀ x ∈ blocks, x.code = 4 → x.base = 0x40000 ∧ x.count = 1 ∧ x.stride = 0x10000 := by decide
  obtain ⟨hb, hn, hs⟩ := hcal c (List.mem_of_find?_eq_some hf) hc
  rw [hb, hn, hs] at hin
  rw [hb, hs]
  omega

/-- Register `i` of an array is found at its slot. -/
theorem slot_eq_some {base stride n i : Nat} (hs : 0 < stride) (hi : i < n) : slot (base + i * stride) base stride n = some i := by
  simp [slot, hs, hi]

/-- An offset off the array's stride is at no slot. -/
theorem slot_eq_none {r base stride n : Nat} (h : (r - base) % stride ≠ 0) : slot r base stride n = none := by
  simp [slot, h]

theorem slot_eq_none_of_lt {r base stride n : Nat} (h : r < base) : slot r base stride n = none := by
  simp [slot, Nat.not_le.mpr h]

/-! ## Ports (R34, R38, R89, R114) -/

theorem State.ne_config_of_reached {s : State} {via : Via} (h : s.reached via = true) : via ≠ .config := by
  rintro rfl; simp [State.reached] at h

/-- A write of at most a word over a port that reaches the registers is one bus write. -/
theorem exec_registerWrite_reached {s : State} {a v be : Nat} {via : Via} (ha : a < 2 ^ 24) (hb : be / 16 % 16 = 0)
    (h : s.reached via = true) : exec (.registerWrite a v ⟨be, via⟩) s = .next (s.busWrite a (v % 2 ^ 32) be) := by
  change execRegisterWrite a v ⟨be, via⟩ s = _
  simp only [execRegisterWrite, if_neg (State.ne_config_of_reached h), if_pos h, State.busWrites, if_pos hb, Nat.mod_eq_of_lt ha]

theorem exec_registerWrite_unreached {s : State} {via : Via} (a v be : Nat) (hc : via ≠ .config) (h : s.reached via = false) :
    exec (.registerWrite a v ⟨be, via⟩) s = .next s := by
  change execRegisterWrite a v ⟨be, via⟩ s = _
  simp [execRegisterWrite, hc, h]

theorem exec_w1cClear {s : State} {a : Nat} (v : Nat) (ha : a < 2 ^ 24) : exec (.w1cClear a v) s = .next (s.busWrite a v 15) := by
  change execW1cClear a v s = _
  rw [execW1cClear, Nat.mod_eq_of_lt ha]

theorem exec_loReadLatch_reached {s : State} {a : Nat} (len : Nat) {via : Via} (ha : a < 2 ^ 24) (h : s.reached via = true) :
    exec (.loReadLatch ⟨a, len, via⟩) s = .next (s.busReads a len) := by
  change execLoReadLatch ⟨a, len, via⟩ s = _
  cases via with
  | host | jtag => simp only [execLoReadLatch, if_pos h, Nat.mod_eq_of_lt ha]
  | idcode | config => simp [State.reached] at h

/-! ## The access log (R40, R41) -/

/-- What an access that is discarded with bit `f` at offset `a` leaves: the bit, and the offset where the log was empty. -/
def State.Logs (s : State) (f : Fld) (a : Nat) (t : State) : Prop :=
  t.on f = true ∧ OnlyRegs s t [SYS.ACCESS_LOG, SYS.ACCESS_ADDR] ∧
  (s.reg SYS.ACCESS_LOG = 0 → t.reg SYS.ACCESS_ADDR = BitVec.ofNat 32 a) ∧
  (s.reg SYS.ACCESS_LOG ≠ 0 → t.reg SYS.ACCESS_ADDR = s.reg SYS.ACCESS_ADDR) ∧ t = { s with regs := t.regs }

theorem State.on_setFld_one (s : State) {f : Fld} (hw : f.width = 1) (hl : f.lo < 32) : (s.setFld f 1).on f = true := by
  rw [State.on, State.fld_setFld s f 1 (by omega), hw]; rfl

/-- A field that is a whole register reads it. -/
theorem State.fld_whole (s : State) (a : Nat) : s.fld ⟨a, 0, 32⟩ = (s.reg a).toNat := Nat.mod_eq_of_lt (s.reg a).isLt

theorem State.reg_setFld_whole (s : State) (a v : Nat) : (s.setFld ⟨a, 0, 32⟩ v).reg a = BitVec.ofNat 32 v := by
  apply BitVec.eq_of_toNat_eq
  rw [← State.fld_whole, BitVec.toNat_ofNat]
  exact State.fld_setFld s ⟨a, 0, 32⟩ v (Nat.le_refl 32)

/-- The log with the offset already stored where it is due. -/
def State.logAddr (s : State) (a : Nat) : State := if s.reg SYS.ACCESS_LOG = 0 then s.setFld SYS.ACCESS_ADDR_ADDR a else s

theorem State.logAccess_eq (s : State) (f : Fld) (a : Nat) : s.logAccess f a = (s.logAddr a).setFld f 1 := by
  simp [State.logAccess, State.logAddr, BitVec.toNat_eq]

theorem State.logAddr_frame (s : State) (a : Nat) : s.logAddr a = { s with regs := (s.logAddr a).regs } := by
  unfold State.logAddr; split
  · exact State.setFld_frame ..
  · rfl

theorem State.logAccess_logs (s : State) {f : Fld} (a : Nat) (ho : f.off = SYS.ACCESS_LOG) (hw : f.width = 1) (hl : f.lo < 32) :
    s.Logs f a (s.logAccess f a) := by
  have hne : f.off ≠ SYS.ACCESS_ADDR := by rw [ho]; decide
  rw [State.logAccess_eq]
  refine ⟨State.on_setFld_one _ hw hl, fun x hx => ?_, fun h0 => ?_, fun h0 => ?_, ?_⟩
  · obtain ⟨hlog, haddr⟩ : x ≠ SYS.ACCESS_LOG ∧ x ≠ SYS.ACCESS_ADDR := by simpa using hx
    rw [State.reg_setFld_other _ _ _ _ (by rw [ho]; exact hlog.symm), State.logAddr]
    split
    · exact State.reg_setFld_other _ _ _ _ haddr.symm
    · rfl
  · rw [State.reg_setFld_other _ _ _ _ hne, State.logAddr, if_pos h0]
    exact State.reg_setFld_whole s SYS.ACCESS_ADDR a
  · rw [State.reg_setFld_other _ _ _ _ hne, State.logAddr, if_neg h0]
  · rw [State.setFld_frame, State.logAddr_frame]

/-! ## Discarded writes (R34, R37, R38) -/

section
variable {s : State} {a v be u r : Nat} {b : RegBlock}

theorem busWrite_badWidth (hb : blockOf a = some (b, u, r)) (h : a % 4 ≠ 0 ∨ be % 16 ≠ 15) :
    s.busWrite a v be = s.logAccess SYS.ACCESS_LOG_BAD_WIDTH a := by
  simp [State.busWrite, hb, h]

theorem busWrite_held (hb : blockOf a = some (b, u, r)) (ha : a % 4 = 0) (hw : be % 16 = 15) (h : s.running b.code = false) :
    s.busWrite a v be = s.logAccess SYS.ACCESS_LOG_HELD_BLOCK a := by
  simp [State.busWrite, hb, ha, hw, h]

theorem busWrite_reserved (hb : blockOf a = some (b, u, r)) (ha : a % 4 = 0) (hw : be % 16 = 15) (h : s.running b.code = true)
    (hr : known b.code u a r = false) : s.busWrite a v be = s.logAccess SYS.ACCESS_LOG_RESERVED_ADDR a := by
  simp [State.busWrite, hb, ha, hw, h, hr]

theorem busWrite_known (hb : blockOf a = some (b, u, r)) (ha : a % 4 = 0) (hw : be % 16 = 15) (h : s.running b.code = true)
    (hr : known b.code u a r = true) : s.busWrite a v be = s.wBlock b.code u a r (v % 2 ^ 32) := by
  simp [State.busWrite, hb, ha, hw, h, hr]

theorem busWrite_outside (hb : blockOf a = none) (hm : memWindow a = none) (hn : ¬ (0x300000 ≤ a ∧ a < 0x340000)) :
    s.busWrite a v be = s.logAccess SYS.ACCESS_LOG_RESERVED_ADDR a := by
  simp only [State.busWrite, hb, State.wWindow, hm, if_neg hn]

end

/-! ## Plain writes of CALENDAR (R6, R7, R28, R40) -/

theorem State.irqAgain_frame (s : State) (i : Nat) : s.irqAgain i = { s with host := (s.irqAgain i).host } := by
  unfold State.irqAgain
  dsimp only
  split
  · rw [State.msix_frame, State.irqEval_frame]
  · exact State.irqEval_frame s

/-- The write changes register `a` to `x`, and beside it the host link alone. -/
def State.Writes (s : State) (a : Nat) (x : Word) (t : State) : Prop :=
  t.reg a = x ∧ OnlyRegs s t [a] ∧ t = { s with regs := t.regs, host := t.host }

theorem State.setReg_writes (s : State) (a : Nat) (x : Word) : s.Writes a x (s.setReg a x) :=
  ⟨State.reg_setReg_same s a x, fun b hb => by rw [State.reg_setReg, if_neg (fun h => hb (by simp [h]))], rfl⟩

theorem State.Writes.irqAgain {s t : State} {a : Nat} {x : Word} (i : Nat) (h : s.Writes a x t) : s.Writes a x (t.irqAgain i) := by
  obtain ⟨hreg, honly, hframe⟩ := h
  rw [State.irqAgain_frame]
  exact ⟨hreg, honly, by rw [hframe]⟩

theorem ofNat_mod_word (v : Nat) : BitVec.ofNat 32 (v % 2 ^ 32) = BitVec.ofNat 32 v := by
  apply BitVec.eq_of_toNat_eq; simp

theorem plain_readOnly {s : State} {a : Nat} {w : RegRow} (v : Nat) (hrow : regRow a = some w) (h : w.rw = 0 ∧ w.w1c = 0 ∧ w.w1p = 0) :
    s.plain a v = s.logRo a := by
  simp [State.plain, hrow, h]

theorem plain_writable {s : State} {a : Nat} {w : RegRow} (v : Nat) (hrow : regRow a = some w) (h : ¬ (w.rw = 0 ∧ w.w1c = 0 ∧ w.w1p = 0)) :
    s.plain a v = s.setReg a (w.merge (s.reg a) (BitVec.ofNat 32 v)) := by
  simp only [State.plain, hrow, if_neg h]

/-- A CALENDAR register without an effect of its own is written as a plain one; with a W1C field it brings the message again. -/
theorem wBlock_calendar {s : State} {a r : Nat} (v : Nat) (hC : r ≠ 0xC) (h10 : r ≠ 0x10) (h18 : r ≠ 0x18) (h34 : r ≠ 0x34) (h48 : r ≠ 0x48) :
    s.wBlock 4 0 a r v = if hasW1c a then (s.plain a v).irqAgain (sourceOf 4) else s.plain a v := by
  simp [State.wBlock, State.wOwn, State.wCalendar, hC, h10, h18, h34, h48]

/-- A whole aligned write, in a running fabric, to the CALENDAR register of row `w`, one without an effect of its own. -/
structure PlainCalendarWrite (s : State) (a be : Nat) (w : RegRow) : Prop where
  aligned : a % 4 = 0
  whole : be % 16 = 15
  fabric : s.fabric = true
  row : regRow a = some w
  place : ∃ b u r, blockOf a = some (b, u, r) ∧ b.code = 4 ∧ r ≠ 0xC ∧ r ≠ 0x10 ∧ r ≠ 0x14 ∧ r ≠ 0x18 ∧ r ≠ 0x34 ∧ r ≠ 0x48

section
variable {s : State} {a be : Nat} {w : RegRow}

theorem busWrite_calendar (v : Nat) (h : PlainCalendarWrite s a be w) :
    s.busWrite a v be = if hasW1c a then (s.plain a (v % 2 ^ 32)).irqAgain (sourceOf 4) else s.plain a (v % 2 ^ 32) := by
  obtain ⟨b, u, r, hb, hc, hC, h10, h14, h18, h34, h48⟩ := h.place
  have hu : u = 0 := unit_eq_zero_of_calendar hb hc
  have hk : known b.code u a r = true := by simp [known, hc, h.row, h14]
  rw [busWrite_known hb h.aligned h.whole (by simp [State.running, h.fabric]) hk, hc, hu, wBlock_calendar _ hC h10 h18 h34 h48]

/-- A write to a CALENDAR register with nothing to write is logged (R40). -/
theorem busWrite_calendar_readOnly (v : Nat) (h : PlainCalendarWrite s a be w) (hm : w.rw = 0 ∧ w.w1c = 0 ∧ w.w1p = 0) :
    s.busWrite a v be = s.logAccess SYS.ACCESS_LOG_RO_WRITE a := by
  have ⟨_, hw1c, _⟩ := hm
  have hno : hasW1c a = false := by simp [hasW1c, h.row, hw1c]
  rw [busWrite_calendar v h, hno, plain_readOnly _ h.row hm]
  rfl

/-- A write to a writable one leaves the merged word (R6, R7). -/
theorem busWrite_calendar_writes (v : Nat) (h : PlainCalendarWrite s a be w) (hm : ¬ (w.rw = 0 ∧ w.w1c = 0 ∧ w.w1p = 0)) :
    s.Writes a (w.merge (s.reg a) (BitVec.ofNat 32 v)) (s.busWrite a v be) := by
  rw [busWrite_calendar v h, plain_writable _ h.row hm, ofNat_mod_word]
  split
  · exact (State.setReg_writes s a _).irqAgain _
  · exact State.setReg_writes s a _

end

/-! ## Writes to a memory window (R36, R38) -/

theorem Core.byte_poke_one (c : Core) (a v x : Nat) : (c.poke a [v]).byte x = if a = x then v % 256 else c.byte x := by
  simp [Core.poke, Core.byte, Tbl.get_put]

/-- Byte lane `i` of the word `v` goes to byte `o + i` of the memory of core `n`. -/
def State.writeLane (n o v : Nat) (t : State) (i : Nat) : State := t.setCore n ((t.core n).poke (o + i) [bits v (8 * i) 8])

theorem busWrite_memory {s : State} {a n o : Nat} (v be : Nat) (hb : blockOf a = none) (hm : memWindow a = some (n, o))
    (hf : s.fabric = true) (hh : (s.core n).halted = true) :
    s.busWrite a v be = s.each (pick 4 be.testBit) (State.writeLane n (o / 4 * 4) v) := by
  simp only [State.busWrite, hb, State.wWindow, hm, hf, hh, Bool.not_true, Bool.false_eq_true, if_false, if_true]
  rfl

theorem regs_writeLanes (s : State) (n o v : Nat) (l : List Nat) : (s.each l (State.writeLane n o v)).regs = s.regs :=
  State.each_keeps (P := fun t => t.regs = s.regs) (f := State.writeLane n o v) (fun _ _ h => h) l rfl

theorem core_writeLanes_other (s : State) {n m : Nat} (o v : Nat) (l : List Nat) (hm : m ≠ n) :
    (s.each l (State.writeLane n o v)).core m = s.core m :=
  State.each_keeps (P := fun t => t.core m = s.core m)
    (fun t i h => by rw [State.writeLane, State.core_setCore, if_neg hm.symm, h]) l rfl

/-- After the lanes of a list the bytes they name hold the word's, every other byte what it held. -/
theorem byte_writeLanes (s : State) (n o v x : Nat) (l : List Nat) :
    ((s.each l (State.writeLane n o v)).core n).byte x =
      if o ≤ x ∧ x - o ∈ l then bits v (8 * (x - o)) 8 else (s.core n).byte x := by
  induction l generalizing s with
  | nil => simp [State.each]
  | cons i l ih =>
    have step : (State.writeLane n o v s i).core n = (s.core n).poke (o + i) [bits v (8 * i) 8] := State.core_setCore_same ..
    have cut : bits v (8 * i) 8 % 256 = bits v (8 * i) 8 := Nat.mod_eq_of_lt (bits_lt v (8 * i) 8)
    change ((State.each (State.writeLane n o v s i) l (State.writeLane n o v)).core n).byte x = _
    rw [ih, step, Core.byte_poke_one, cut]
    by_cases hx : o + i = x
    · subst hx; simp
    · have same : o ≤ x ∧ x - o ∈ i :: l ↔ o ≤ x ∧ x - o ∈ l := by
        rw [List.mem_cons]; exact and_congr_right fun h => or_iff_right (by omega)
      simp only [hx, if_false, same]

/-- Byte `i` of a word, as the bus and as arithmetic read it. -/
theorem bits_byte {v i : Nat} (hi : i < 4) : bits (v % 2 ^ 32) (8 * i) 8 = v / 256 ^ i % 256 := by
  rw [bits_mod (by omega), bits, Nat.shiftRight_eq_div_pow, Nat.pow_mul]; rfl

/-! ## The statement -/

section
variable {s : State} {a v be : Nat} {via : Via} (ha : a < 2 ^ 24) (hbe : be / 16 % 16 = 0) (hs : s.reached via = true)
include ha hbe hs

theorem answers_registerWrite {P : State → Prop} (h : P (s.busWrite a (v % 2 ^ 32) be)) : Answers (.registerWrite a v ⟨be, via⟩) s P :=
  ⟨_, exec_registerWrite_reached ha hbe hs, h⟩

/-- A write that the bus discards with bit `f` is logged with its offset. -/
theorem answers_registerWrite_logs {f : Fld} (h : s.busWrite a (v % 2 ^ 32) be = s.logAccess f a) (ho : f.off = SYS.ACCESS_LOG)
    (hw : f.width = 1) (hl : f.lo < 32) : Answers (.registerWrite a v ⟨be, via⟩) s (s.Logs f a) :=
  answers_registerWrite ha hbe hs (h ▸ s.logAccess_logs a ho hw hl)

end

/-- Settles O26: each case is the bus write's own equation, and what a logged, a plain and a windowed write leave. -/
theorem registerWrites : Obligations.RegisterWrites := by
  unfold Obligations.RegisterWrites
  intro s a v be via ha hbe hs logged ask
  have logs : ∀ f, s.busWrite a (v % 2 ^ 32) be = s.logAccess f a → f.off = SYS.ACCESS_LOG → f.width = 1 → f.lo < 32 → ask (logged f) :=
    fun f => answers_registerWrite_logs ha hbe hs
  refine ⟨fun b u r hb => ⟨fun h => ?_, fun h4 hw hf hsys htin => ?_, fun h4 hw hf hnone => ?_, ?_⟩, fun hb hm hn => ?_,
    fun n o hb hm hf hh => ?_, fun r c x y z hc hr => exec_registerWrite_unreached x y z hc hr⟩
  · exact logs _ (busWrite_badWidth hb h) rfl rfl (by decide)
  · exact logs _ (busWrite_held hb h4 hw (by simp [State.running, hf, hsys, htin])) rfl rfl (by decide)
  · exact logs _ (busWrite_reserved hb h4 hw (by simp [State.running, hf]) (by simp [known, hnone])) rfl rfl (by decide)
  · intro w h4 hw hf hc hrow hC h10 h14 h18 h34 h48
    have write : ∀ be', be' % 16 = 15 → PlainCalendarWrite s a be' w := fun _ hw' =>
      ⟨h4, hw', hf, hrow, b, u, r, hb, hc, hC, h10, h14, h18, h34, h48⟩
    refine ⟨fun hrw hw1c hw1p => ?_, fun hm => ?_⟩
    · exact logs _ (busWrite_calendar_readOnly _ (write be hw) ⟨hrw, hw1c, hw1p⟩) rfl rfl (by decide)
    · have writes := fun v' be' hw' => busWrite_calendar_writes v' (write be' hw') (by omega)
      exact ⟨answers_registerWrite ha hbe hs (ofNat_mod_word v ▸ writes (v % 2 ^ 32) be hw), _, exec_w1cClear v ha, writes v 15 rfl⟩
  · exact logs _ (busWrite_outside hb hm hn) rfl rfl (by decide)
  · refine answers_registerWrite ha hbe hs ?_
    rw [busWrite_memory _ be hb hm hf hh]
    refine ⟨regs_writeLanes .., fun i hi => ?_, fun x hx => ?_, fun m hm => core_writeLanes_other _ _ _ _ hm⟩
    · have hmem : i ∈ pick 4 be.testBit ↔ be.testBit i = true := by simp [pick, hi]
      simp only [byte_writeLanes, Nat.le_add_right, Nat.add_sub_cancel_left, true_and, hmem, bits_byte hi]
    · have hout : ¬ (o / 4 * 4 ≤ x ∧ x - o / 4 * 4 ∈ pick 4 be.testBit) := by
        simp only [pick, List.mem_filter, List.mem_range]; omega
      rw [byte_writeLanes, if_neg hout]

end Sys2Proof.Machine
end

/-! # Reads with effects, and the capture units (family 00, scope) -/

section

namespace Sys2Proof.Machine

open Sys2Proof.Statements

/-! ## Reads of one word (R34, R37, R38) -/

/-- An aligned read of a register's word is one bus read. -/
theorem busReads_word {s : State} {a : Nat} (hb : (blockOf a).isSome = true) (ha : a % 4 = 0) : s.busReads a 4 = s.busRead a := by
  have hw : a / 4 * 4 = a := by omega
  simp [State.busReads, hb, hw]

/-- An array's row holds each of its registers. -/
theorem RegRow.holds_array (off n stride rw w1c w1p reset : Nat) {i : Nat} (hs : 0 < stride) (hi : i < n) :
    (RegRow.mk off n stride 1 0 rw w1c w1p reset).holds (off + i * stride) = true := by
  simp [RegRow.holds, hs.ne', hi]

/-- A read of the word of a GAUGE register, one that a row of the block holds. -/
theorem busReads_gauge {s : State} {r : Nat} {w : RegRow} (hf : s.fabric = true) (hr : r < 0x10000) (h4 : r % 4 = 0) (h8 : r ≠ 8)
    (h14 : r ≠ 0x14) (hw : w ∈ GAUGE.rows) (hh : w.holds r = true) : s.busReads (0x30000 + r) 4 = s.rGauge (0x30000 + r) r := by
  have hrow : (regRow (0x30000 + r)).isSome = true := by
    simp only [regRow, blockOf_gauge hr, gaugeBlock, List.find?_isSome]
    exact ⟨w, hw, hh⟩
  have hk : known 3 0 (0x30000 + r) r = true := by simp [known, h14, hrow]
  have hb : s.busRead (0x30000 + r) = s.rBlock 3 0 (0x30000 + r) r := by
    simp [State.busRead, blockOf_gauge hr, gaugeBlock, State.running, hf, hk]
  rw [busReads_word (by rw [blockOf_gauge hr]; rfl) (by omega), hb, State.rBlock, if_neg h8]

/-! ## Positions (R35, R180) -/

section
variable {s : State} {n : Nat} (hn : n < 64)
include hn

theorem rGauge_posLo : s.rGauge (GAUGE.G_POS_LO n) (0x114 + n * 0x20) = s.latchRead (s.gauge n).value (GAUGE.G_POS_HI n) := by
  have h0 : slot (0x114 + n * 0x20) 0x110 0x20 64 = none := slot_eq_none (by omega)
  have h1 : slot (0x114 + n * 0x20) 0x114 0x20 64 = some n := slot_eq_some (by decide) hn
  simp only [State.rGauge, h0, h1]

theorem rGauge_posHi : s.rGauge (GAUGE.G_POS_HI n) (0x118 + n * 0x20) = s.answer [(s.reg (GAUGE.G_POS_HI n)).toNat] := by
  have h110 : slot (0x118 + n * 0x20) 0x110 0x20 64 = none := slot_eq_none (by omega)
  have h114 : slot (0x118 + n * 0x20) 0x114 0x20 64 = none := slot_eq_none (by omega)
  have hC04 : slot (0x118 + n * 0x20) 0xC04 0x10 16 = none := slot_eq_none_of_lt (by omega)
  have hC08 : slot (0x118 + n * 0x20) 0xC08 0x10 16 = none := slot_eq_none_of_lt (by omega)
  have h104 : slot (0x118 + n * 0x20) 0x104 0x20 64 = none := slot_eq_none (by omega)
  have h108 : slot (0x118 + n * 0x20) 0x108 0x20 64 = none := slot_eq_none (by omega)
  have h10C : slot (0x118 + n * 0x20) 0x10C 0x20 64 = none := slot_eq_none (by omega)
  have h11C : slot (0x118 + n * 0x20) 0x11C 0x20 64 = none := by
    by_cases h : n = 0
    · exact slot_eq_none_of_lt (by omega)
    · exact slot_eq_none (by omega)
  have h20 : 0x118 + n * 0x20 ≠ 0x20 := by omega
  have h24 : 0x118 + n * 0x20 ≠ 0x24 := by omega
  simp only [State.rGauge, h110, h114, hC04, hC08, h104, h108, h10C, h11C, if_neg h20, if_neg h24]

theorem busReads_posLo (hf : s.fabric = true) : s.busReads (GAUGE.G_POS_LO n) 4 = s.latchRead (s.gauge n).value (GAUGE.G_POS_HI n) := by
  have ha : GAUGE.G_POS_LO n = 0x30000 + (0x114 + n * 0x20) := by unfold GAUGE.G_POS_LO; omega
  have row : (⟨0x114, 64, 0x20, 1, 0, 0, 0, 0, 0⟩ : RegRow) ∈ GAUGE.rows := by decide
  rw [ha, busReads_gauge hf (by omega) (by omega) (by omega) (by omega) row (RegRow.holds_array _ _ _ _ _ _ _ (by decide) hn), ← ha,
    rGauge_posLo hn]

theorem busReads_posHi (hf : s.fabric = true) : s.busReads (GAUGE.G_POS_HI n) 4 = s.answer [(s.reg (GAUGE.G_POS_HI n)).toNat] := by
  have ha : GAUGE.G_POS_HI n = 0x30000 + (0x118 + n * 0x20) := by unfold GAUGE.G_POS_HI; omega
  have row : (⟨0x118, 64, 0x20, 1, 0, 0, 0, 0, 0⟩ : RegRow) ∈ GAUGE.rows := by decide
  rw [ha, busReads_gauge hf (by omega) (by omega) (by omega) (by omega) row (RegRow.holds_array _ _ _ _ _ _ _ (by decide) hn), ← ha,
    rGauge_posHi hn]

/-- The low half answers the position's and latches its high half, which a later read answers. -/
theorem answers_posLo {via : Via} (hf : s.fabric = true) (hs : s.reached via = true) :
    Answers (.loReadLatch ⟨GAUGE.G_POS_LO n, 4, via⟩) s (fun t => t.reply = [(s.gauge n).value % 2 ^ 32] ∧
      t.reg (GAUGE.G_POS_HI n) = BitVec.ofNat 32 ((s.gauge n).value / 2 ^ 32) ∧ OnlyRegs s t [GAUGE.G_POS_HI n] ∧
      Answers (.loReadLatch ⟨GAUGE.G_POS_HI n, 4, via⟩) t (fun u => u.reply = [(s.gauge n).value / 2 ^ 32 % 2 ^ 32])) := by
  have hlo : GAUGE.G_POS_LO n < 2 ^ 24 := by unfold GAUGE.G_POS_LO; omega
  have hhi : GAUGE.G_POS_HI n < 2 ^ 24 := by unfold GAUGE.G_POS_HI; omega
  obtain ⟨hreg, honly, -⟩ := State.setReg_writes s (GAUGE.G_POS_HI n) (BitVec.ofNat 32 ((s.gauge n).value / 2 ^ 32))
  let t := s.latchRead (s.gauge n).value (GAUGE.G_POS_HI n)
  have low : exec (.loReadLatch ⟨GAUGE.G_POS_LO n, 4, via⟩) s = .next t := by rw [exec_loReadLatch_reached 4 hlo hs, busReads_posLo hn hf]
  have high : exec (.loReadLatch ⟨GAUGE.G_POS_HI n, 4, via⟩) t = .next (t.answer [(t.reg (GAUGE.G_POS_HI n)).toNat]) := by
    rw [exec_loReadLatch_reached (s := t) 4 hhi hs, busReads_posHi (s := t) hn hf]
  have latched : (t.reg (GAUGE.G_POS_HI n)).toNat = (s.gauge n).value / 2 ^ 32 % 2 ^ 32 := by
    rw [show t.reg (GAUGE.G_POS_HI n) = _ from hreg, BitVec.toNat_ofNat]
  exact ⟨t, low, rfl, hreg, honly, _, high, congrArg (fun x => [x]) latched⟩

end

/-! ## Capture units (R170, R180) -/

/-- The level of the GPIO ball that is the unit's source (R61). -/
def State.edgeBall (s : State) (k : Nat) (up : Bool) : State :=
  if s.fld (GAUGE.CAP_CFG_INPUT k) = 0 then s.setBall (s.fld (GAUGE.CAP_CFG_PIN k)) up else s

/-- The overrun of a capture that was still unread. -/
def State.markOverrun (s : State) (k : Nat) (unread : Bool) : State := if unread then s.setFld (GAUGE.CAP_CFG_OVERRUN k) 1 else s

/-- The captured value, unread. -/
def State.latchValue (s : State) (k v : Nat) : State :=
  { s with gc := { s.gc with capVal := Tbl.put (fun _ => 0) s.gc.capVal k v, capUnread := withBit s.gc.capUnread k true } }

/-- A capture edge before its event. -/
def State.latchCapture (s : State) (k : Nat) (up : Bool) : State :=
  ((s.edgeBall k up).markOverrun k (s.gc.capUnread.testBit k)).latchValue k (s.gauge (s.fld (GAUGE.CAP_CFG_GAUGE k))).value

@[simp] theorem State.gc_edgeBall (s : State) (k : Nat) (up : Bool) : (s.edgeBall k up).gc = s.gc := by
  unfold State.edgeBall; split <;> rfl
@[simp] theorem State.gc_markOverrun (s : State) (k : Nat) (b : Bool) : (s.markOverrun k b).gc = s.gc := by
  unfold State.markOverrun State.setFld; split
  · exact State.setReg_gc_field ..
  · rfl
@[simp] theorem State.engine_markOverrun (s : State) (k : Nat) (b : Bool) : (s.markOverrun k b).engine = s.engine := by
  unfold State.markOverrun State.setFld; split
  · exact State.setReg_engine_field ..
  · rfl
@[simp] theorem State.fld_latchValue (s : State) (k v : Nat) (f : Fld) : (s.latchValue k v).fld f = s.fld f := rfl

/-- An event sets its own bit (R33). -/
theorem State.on_event (s : State) {f : Fld} (hw : f.width = 1) (hl : f.lo < 32) : (s.event f).on f = true := by
  rw [State.on, State.fld_event]; exact State.on_setFld_one s hw hl

/-- An enabled edge of a capture unit without a message latches, then raises CAPTURE_EV. -/
theorem exec_captureEdge_taken {s : State} {k : Nat} {up : Bool} (hf : s.fabric = true) (hk : k < 16)
    (he : (s.fld (GAUGE.CAP_CFG_EDGE k)).testBit (if up then 0 else 1) = true)
    (hi : s.fld (GAUGE.CAP_CFG_INPUT k) = 0 ∨ s.fld (GAUGE.CAP_CFG_INPUT k) = 1 ∧ s.fld (GAUGE.CAP_CFG_PIN k) < 16)
    (hm : s.on (GAUGE.CAP_CFG_MSG_EN k) = false) :
    exec (.captureEdge k up) s = .next ((s.latchCapture k up).event GAUGE.INT_STAT_CAPTURE_EV) := by
  have taken : ¬ ((!s.fabric) = true ∨ (!(s.fld (GAUGE.CAP_CFG_EDGE k)).testBit (if up then 0 else 1)) = true ∨
      2 ≤ s.fld (GAUGE.CAP_CFG_INPUT k) ∨ (s.fld (GAUGE.CAP_CFG_INPUT k) = 1 ∧ 16 ≤ s.fld (GAUGE.CAP_CFG_PIN k))) := by
    rw [hf, he]; simp; omega
  change execCaptureEdge k up s = _
  simp only [execCaptureEdge, if_neg (Nat.not_le.mpr hk), if_neg taken, hm, Bool.false_eq_true, false_and, if_false, State.latchCapture,
    State.edgeBall, State.markOverrun, State.latchValue]

section
variable (s : State) (k : Nat) (up : Bool)

theorem State.capVal_latchCapture : (s.latchCapture k up).capVal k = (s.gauge (s.fld (GAUGE.CAP_CFG_GAUGE k))).value :=
  Tbl.get_put_same ..

theorem State.capUnread_latchCapture : (s.latchCapture k up).gc.capUnread.testBit k = true := by
  simp [State.latchCapture, State.latchValue, testBit_withBit]

theorem State.gauges_latchCapture : (s.latchCapture k up).gc.gauges = s.gc.gauges := by
  simp [State.latchCapture, State.latchValue]

theorem State.gpioBall_latchCapture (h : s.fld (GAUGE.CAP_CFG_INPUT k) = 0) :
    (s.latchCapture k up).engine.gpioBall.testBit (s.fld (GAUGE.CAP_CFG_PIN k)) = up := by
  simp [State.latchCapture, State.latchValue, State.edgeBall, h, State.setBall, testBit_withBit]

theorem State.overrun_latchCapture (h : s.gc.capUnread.testBit k = true) :
    (s.latchCapture k up).fld (GAUGE.CAP_CFG_OVERRUN k) = 1 := by
  have whole : (GAUGE.CAP_CFG_OVERRUN k).lo + (GAUGE.CAP_CFG_OVERRUN k).width ≤ 32 := by change 17 + 1 ≤ 32; decide
  rw [State.latchCapture, State.fld_latchValue, h, State.markOverrun, if_pos rfl, State.fld_setFld _ _ _ whole]
  rfl

end

/-- CAP_POS_HI answers what was latched and marks its capture alone as read. -/
theorem answers_capPosHiRead {s : State} {k : Nat} (hf : s.fabric = true) (hk : k < 16) :
    Answers (.capPosHiRead k) s (fun t => t.reply = [(s.reg (GAUGE.CAP_POS_HI k)).toNat] ∧ t.gc.capUnread.testBit k = false ∧
      t.regs = s.regs ∧ ∀ j, j ≠ k → t.gc.capUnread.testBit j = s.gc.capUnread.testBit j) := by
  have read : ¬ (16 ≤ k ∨ (!s.fabric) = true) := by simp [hf, hk]
  refine ⟨_, show execCapPosHiRead k s = _ from if_neg read, rfl, ?_, rfl, fun j hj => ?_⟩
  · simp [State.answer, testBit_withBit]
  · simp [State.answer, testBit_withBit, hj.symm]

/-! ## The logs of PLACER (R271, R279) -/

theorem exec_evictLogRead_nil {s : State} (hf : s.fabric = true) (h : s.obj.evictLog = []) :
    exec .evictLogRead s = .next { s with reply := [0] } := by
  change execEvictLogRead s = _
  simp only [execEvictLogRead, hf, h, Bool.not_true, Bool.false_eq_true, if_false, State.answer]

theorem exec_evictLogRead_cons {s : State} {h : Nat} {l : List Nat} (hf : s.fabric = true) (hl : s.obj.evictLog = h :: l) :
    exec .evictLogRead s = .next { s with obj := { s.obj with evictLog := l }, reply := [h + (l.length + 1) * 2 ^ 16] } := by
  change execEvictLogRead s = _
  simp only [execEvictLogRead, hf, hl, Bool.not_true, Bool.false_eq_true, if_false, State.answer]

/-- The oldest entry of POISON_LOG, which it has shown, goes. -/
def State.dropPoison (s : State) : State :=
  { s with obj := { s.obj with poisonLog := s.obj.poisonLog.drop 1, poisonShown := false } }

/-- The offset that POISON_LOG has shown is answered, and its entry goes. -/
theorem answers_poisonOffsetRead {s : State} (hf : s.fabric = true) (hp : s.obj.poisonShown = true) :
    Answers .poisonOffsetRead s (fun t => t.reply = [(s.reg PLACER.POISON_OFFSET).toNat] ∧
      t.obj.poisonLog = s.obj.poisonLog.drop 1 ∧ t.obj.poisonShown = false ∧ OnlyRegs s t [PLACER.POISON_OFFSET]) := by
  have read : exec .poisonOffsetRead s = .next ((s.dropPoison.setReg PLACER.POISON_OFFSET 0).answer [(s.reg PLACER.POISON_OFFSET).toNat]) := by
    change execPoisonOffsetRead s = _
    simp only [execPoisonOffsetRead, hf, hp, Bool.not_true, Bool.false_eq_true, if_false, if_true, State.dropPoison]
  obtain ⟨-, honly, -⟩ := s.dropPoison.setReg_writes PLACER.POISON_OFFSET 0
  exact ⟨_, read, rfl, rfl, rfl, honly⟩

/-! ## Windows (R39) -/

/-- A read inside a memory window answers the bytes as they are. -/
theorem busReads_memory {s : State} {a c o : Nat} (len : Nat) (hf : s.fabric = true) (hm : memWindow a = some (c, o)) :
    s.busReads a len = s.answer [(s.core c).load o len] := by
  simp [State.busReads, blockOf_eq_none_of_memWindow hm, State.windowData, hf, hm]

/-- Settles O28: each read and edge by its own lemma. -/
theorem readsWithEffects : Obligations.ReadsWithEffects := by
  unfold Obligations.ReadsWithEffects
  intro s n k up via hf v g
  refine ⟨fun hn hs => answers_posLo hn hf hs, fun hk he hi hm => ?_, fun hk => answers_capPosHiRead hf hk,
    fun _ _ hl => exec_evictLogRead_cons hf hl, fun hl => exec_evictLogRead_nil hf hl, fun hp => answers_poisonOffsetRead hf hp, rfl, fun c o hm ha _ hs => ?_⟩
  · refine ⟨_, exec_captureEdge_taken hf hk he hi hm, ?_, ?_, State.on_event _ rfl (by decide), ?_, fun h0 => ?_, fun hu => ?_⟩
    · rw [State.capVal, State.gc_event]; exact State.capVal_latchCapture s k up
    · rw [State.gc_event, State.capUnread_latchCapture]
    · rw [State.gc_event, State.gauges_latchCapture]
    · rw [State.engine_event, State.gpioBall_latchCapture s k up h0]
    · have apart : GAUGE.INT_STAT_CAPTURE_EV.off ≠ (GAUGE.CAP_CFG_OVERRUN k).off := by
        change 0x3001C ≠ 0x30C00 + k * 0x10; omega
      rw [State.on, State.fld_event_other _ _ _ apart, State.overrun_latchCapture s k up hu]; rfl
  · exact ⟨_, by rw [exec_loReadLatch_reached 8 ha hs, busReads_memory 8 hf hm], rfl, rfl⟩

end Sys2Proof.Machine
end

section
/-!
PROOFS. The family `CanonicalForm` (R26, R27, R109): every operation of the model keeps the registers and the MRAM in canonical form, since
registers change only through `Tbl.put` and the register reset, and MRAM only byte by byte. The same walk over the model shows that no
operation but the register reset and the boot ROM's SFDP read (R116) touches the flash part.
-/

open Sys2Proof Sys2Proof.Machine

namespace Sys2Proof.Machine

/-! ## Forms of states, and answers that meet them -/

/-- A property of the registers, the MRAM and the flash part that writing one register or one MRAM byte keeps. -/
structure Form where
  holds : Tbl Word → Tbl Nat → Option FlashPart → Prop
  setReg : ∀ {regs mram part} (a : Nat) (w : Word), holds regs mram part → holds (Tbl.put resetWord regs a w) mram part
  setMram : ∀ {regs mram part} (a v : Nat), holds regs mram part → holds regs (Tbl.put (fun _ => 0) mram a v) part

/-- The registers and the MRAM are in canonical form. -/
def canonicalForm : Form where
  holds regs mram _ := Tbl.wf resetWord regs = true ∧ Tbl.wf (fun _ => 0) mram = true
  setReg a w h := ⟨Tbl.wf_put resetWord a w h.1, h.2⟩
  setMram a v h := ⟨h.1, Tbl.wf_put (fun _ => 0) a v h.2⟩

/-- The boot ROM has found this flash part. -/
def flashPartForm (p : Option FlashPart) : Form where
  holds _ _ part := part = p
  setReg _ _ h := h
  setMram _ _ h := h

/-- The state meets a form. -/
def State.Meets (F : Form) (s : State) : Prop := F.holds s.regs s.tinder.mram s.tinder.flashPart

variable {F : Form}

/-- A value comes with a state that meets the form. -/
def PairMeets (F : Form) {α : Type} (p : α × State) : Prop := p.2.Meets F

/-- Two values come with such a state. -/
def TripleMeets (F : Form) {α β : Type} (p : α × β × State) : Prop := p.2.2.Meets F

/-- Where there is an answer at all, its state meets the form. -/
def OptMeets (F : Form) {α : Type} (o : Option (α × State)) : Prop := ∀ p, o = some p → p.2.Meets F

/-- Every state that an instruction's effect carries meets the form. -/
def Effect.Meets (F : Form) : Effect → Prop
  | .done t _ | .jump t _ _ | .stop t _ _ _ | .hold t _ | .trapAfter t _ _ => t.Meets F
  | .trap _ _ | .illegal | .profile => True

/-- The command answers a next state, and that state meets the form. -/
def ResultMeets (F : Form) (r : Result) : Prop := ∃ t, r = .next t ∧ t.Meets F

/-- A proof about a shared intermediate state, given once after the argument that uses it. -/
theorem meets_sharing {t : State} {P : Prop} (k : t.Meets F → P) (h : t.Meets F) : P := k h

theorem ite_holds {α : Type} {P : α → Prop} {p : Prop} [Decidable p] {a b : α} (ha : P a) (hb : P b) : P (if p then a else b) := by
  split <;> assumption

section Choices

variable {α β : Type} {p : Prop} [Decidable p]

theorem State.Meets.ite {a b : State} (ha : a.Meets F) (hb : b.Meets F) : (if p then a else b).Meets F := ite_holds ha hb

theorem PairMeets.ite {a b : α × State} (ha : PairMeets F a) (hb : PairMeets F b) : PairMeets F (if p then a else b) := ite_holds ha hb

theorem TripleMeets.ite {a b : α × β × State} (ha : TripleMeets F a) (hb : TripleMeets F b) : TripleMeets F (if p then a else b) :=
  ite_holds ha hb

theorem OptMeets.ite {a b : Option (α × State)} (ha : OptMeets F a) (hb : OptMeets F b) : OptMeets F (if p then a else b) := ite_holds ha hb

theorem Effect.Meets.ite {a b : Effect} (ha : a.Meets F) (hb : b.Meets F) : Effect.Meets F (if p then a else b) := ite_holds ha hb

theorem ResultMeets.ite {a b : Result} (ha : ResultMeets F a) (hb : ResultMeets F b) : ResultMeets F (if p then a else b) := ite_holds ha hb

end Choices

section Answers

variable {α β : Type} {a : α} {b : β} {t : State}

theorem PairMeets.mk (h : t.Meets F) : PairMeets F (a, t) := h

theorem TripleMeets.mk (h : t.Meets F) : TripleMeets F (a, b, t) := h

theorem OptMeets.none : OptMeets F (α := α) none := fun _ h => nomatch h

theorem OptMeets.some (h : t.Meets F) : OptMeets F (some (a, t)) := by
  rintro _ ⟨⟩
  exact h

theorem ResultMeets.next (h : t.Meets F) : ResultMeets F (.next t) := ⟨t, rfl, h⟩

theorem PairMeets.snd {p : α × State} (h : PairMeets F p) : p.2.Meets F := h

theorem PairMeets.at {p : α × State} (h : PairMeets F p) (e : p = (a, t)) : t.Meets F := by
  subst e
  exact h

theorem PairMeets.of_eq {p : α × State} (e : p = (a, t)) (h : PairMeets F p) : t.Meets F := h.at e

theorem TripleMeets.at {p : α × β × State} (h : TripleMeets F p) (e : p = (a, b, t)) : t.Meets F := by
  subst e
  exact h

theorem OptMeets.at {o : Option (α × State)} (h : OptMeets F o) (e : o = Option.some (a, t)) : t.Meets F := h _ e

theorem Effect.Meets.done {k} (h : t.Meets F) : Effect.Meets F (.done t k) := h

theorem Effect.Meets.jump {pc k} (h : t.Meets F) : Effect.Meets F (.jump t pc k) := h

theorem Effect.Meets.stop {pc k r} (h : t.Meets F) : Effect.Meets F (.stop t pc k r) := h

theorem Effect.Meets.hold {k} (h : t.Meets F) : Effect.Meets F (.hold t k) := h

theorem Effect.Meets.trapAfter {cause v} (h : t.Meets F) : Effect.Meets F (.trapAfter t cause v) := h

theorem Effect.Meets.trap {cause v} : Effect.Meets F (.trap cause v) := trivial

theorem Effect.Meets.illegal : Effect.Meets F .illegal := trivial

theorem Effect.Meets.profile : Effect.Meets F .profile := trivial

end Answers

section Updates

variable {s : State}

theorem State.Meets.foldl {α : Type} {f : State → α → State} {l : List α} (h : s.Meets F)
    (hf : ∀ t x, t.Meets F → (f t x).Meets F) : (l.foldl f s).Meets F := State.foldl_keeps hf l h

theorem PairMeets.foldl {α β : Type} {f : α × State → β → α × State} {l : List β} {p : α × State} (h : PairMeets F p)
    (hf : ∀ q y, PairMeets F q → PairMeets F (f q y)) : PairMeets F (l.foldl f p) := by
  induction l generalizing p with
  | nil => exact h
  | cons y l ih => exact ih (hf p y h)

/-- An update of any other component. -/
theorem State.Meets.upd {classes engine clock gc cores obj host dec encFor encJobs dram grav marks calPorts page axes
      buses therms zones lamps journal hv ratios serving latched reply freeCtr pending} (h : s.Meets F) :
    State.Meets F ⟨s.regs, classes, s.tinder, engine, clock, gc, cores, obj, host, dec, encFor, encJobs, dram, grav, marks, calPorts,
      page, axes, buses, therms, zones, lamps, journal, hv, ratios, serving, latched, reply, freeCtr, pending⟩ := h

/-- An update of Tinder's other components, beside any outside Tinder. -/
theorem State.Meets.updTinder {classes engine clock gc cores obj host dec encFor encJobs dram grav marks calPorts page
      axes buses therms zones lamps journal hv ratios serving latched reply freeCtr pending}
    {vstby vbat por vstbyHigh emberValid uncounted count cause vbatLost trip crystal inReset outputsHeld resetN bootPins en
      filterUs dropUs down draining failing failForced after wakeNext pbHeld tableRead cfgValid rewriteOff rewrites released
      mramWrite flash flashOp uartPartial} (h : s.Meets F) :
    State.Meets F ⟨s.regs, classes, ⟨vstby, vbat, por, vstbyHigh, emberValid, uncounted, count, cause, vbatLost, trip, crystal,
      inReset, outputsHeld, resetN, bootPins, en, filterUs, dropUs, down, draining, failing, failForced, after, wakeNext, pbHeld,
      tableRead, cfgValid, rewriteOff, rewrites, released, s.tinder.mram, mramWrite, s.tinder.flashPart, flash, flashOp, uartPartial⟩,
      engine, clock, gc, cores, obj, host, dec, encFor, encJobs, dram, grav, marks, calPorts, page, axes, buses, therms, zones,
      lamps, journal, hv, ratios, serving, latched, reply, freeCtr, pending⟩ := h

/-- The same for Tinder after a field was stored. -/
theorem State.Meets.setFldTinder {f v}
    {vstby vbat por vstbyHigh emberValid uncounted count cause vbatLost trip crystal inReset outputsHeld resetN bootPins en
      filterUs dropUs down draining failing failForced after wakeNext pbHeld tableRead cfgValid rewriteOff rewrites released
      mramWrite flash flashOp uartPartial} (h : (s.setFld f v).Meets F) :
    State.Meets F { s.setFld f v with tinder := ⟨vstby, vbat, por, vstbyHigh, emberValid, uncounted, count, cause, vbatLost, trip,
      crystal, inReset, outputsHeld, resetN, bootPins, en, filterUs, dropUs, down, draining, failing, failForced, after, wakeNext,
      pbHeld, tableRead, cfgValid, rewriteOff, rewrites, released, s.tinder.mram, mramWrite, s.tinder.flashPart, flash, flashOp,
      uartPartial⟩ } := h

end Updates

/-! # What each operation of the model keeps

The lemma `State.Meets.f` says that the operation or command `f` of a state that meets a form leaves one that meets it, or answers one;
the register reset and the boot ROM's SFDP read, and what uses them, keep the canonical form only. Its proof follows the
definition of `f`: `h.f.g` for one operation after another, `.ite` for a choice, `split` for a match. -/

section Operations

variable {s : State}

/-! ## Ops -/

theorem State.Meets.setReg {a w} (h : s.Meets F) : (s.setReg a w).Meets F := F.setReg a w h
theorem State.Meets.setFld {f v} (h : s.Meets F) : (s.setFld f v).Meets F := h.setReg
theorem State.Meets.setFbit {f i b} (h : s.Meets F) : (s.setFbit f i b).Meets F := h.setFld
theorem State.Meets.bump {f k} (h : s.Meets F) : (s.bump f k).Meets F := h.setFld
theorem State.Meets.setPair {lo hi v} (h : s.Meets F) : (s.setPair lo hi v).Meets F := h.setReg.setReg
theorem State.Meets.free (h : s.Meets F) : PairMeets F s.free := .mk h.upd
theorem State.Meets.choose (h : s.Meets F) : PairMeets F s.choose := .mk h.upd
theorem State.Meets.divFree {a b} (h : s.Meets F) : PairMeets F (s.divFree a b) := .ite h.free (.ite h (.mk h.choose))
theorem State.Meets.msix {v} (h : s.Meets F) : (s.msix v).Meets F := .ite h.upd h.upd
theorem State.Meets.vecEval {pend v} (h : s.Meets F) : (State.vecEval pend s v).Meets F := .ite h.upd.msix (.ite h.upd.upd h.upd)
theorem State.Meets.irqEval (h : s.Meets F) : s.irqEval.Meets F := .ite h (h.foldl (fun _ _ h1 => h1.vecEval))
theorem State.Meets.irqAgain {i} (h : s.Meets F) : (s.irqAgain i).Meets F := .ite h.irqEval.msix h.irqEval
theorem State.Meets.event {f} (h : s.Meets F) : (s.event f).Meets F := h.setFld.irqEval
theorem State.Meets.logAccess {f a} (h : s.Meets F) : (s.logAccess f a).Meets F := .setFld (.ite h.setFld h)
theorem State.Meets.logRo {a} (h : s.Meets F) : (s.logRo a).Meets F := h.logAccess
theorem State.Meets.setEng {e} (h : s.Meets F) : (s.setEng e).Meets F := h.setFld
theorem State.Meets.ifFabric {a t1} (h : s.Meets F) (ht : t1.Meets F) : (s.ifFabric a t1).Meets F := .ite ht h.logAccess
theorem State.Meets.each {l} {f : State → Nat → State} (h : s.Meets F) (hf : ∀ t i, t.Meets F → (f t i).Meets F) : (s.each l f).Meets F :=
  h.foldl hf
theorem State.Meets.setCore {n c} (h : s.Meets F) : (s.setCore n c).Meets F := h.upd
theorem State.Meets.setGauge {n g} (h : s.Meets F) : (s.setGauge n g).Meets F := h.upd
theorem State.Meets.setSyn {k y} (h : s.Meets F) : (s.setSyn k y).Meets F := h.upd
theorem State.Meets.setEntry {e x} (h : s.Meets F) : (s.setEntry e x).Meets F := h.upd
theorem State.Meets.setObject {i o} (h : s.Meets F) : (s.setObject i o).Meets F := h.upd
theorem State.Meets.setStation {k t} (h : s.Meets F) : (s.setStation k t).Meets F := h.upd
theorem State.Meets.setRefused {i b} (h : s.Meets F) : (s.setRefused i b).Meets F := h.upd
theorem State.Meets.setChan {c x} (h : s.Meets F) : (s.setChan c x).Meets F := h.upd
theorem State.Meets.setDq {q l} (h : s.Meets F) : (s.setDq q l).Meets F := h.upd
theorem State.Meets.setMramByte {a v} (h : s.Meets F) : (s.setMramByte a v).Meets F := F.setMram a (v % 256) h
theorem State.Meets.setMram {a l} (h : s.Meets F) : (s.setMram a l).Meets F := by
  induction l generalizing s a with
  | nil => exact h
  | cons b l ih => exact ih h.setMramByte
theorem State.Meets.answer {l} (h : s.Meets F) : (s.answer l).Meets F := h.upd
theorem State.Meets.send {x} (h : s.Meets F) : (s.send x).Meets F := h.upd
theorem State.Meets.divFreeInt {a b} (h : s.Meets F) : PairMeets F (s.divFreeInt a b) := .ite h (.ite h (.mk h.choose))
theorem State.Meets.gaugeRate {n} (h : s.Meets F) : PairMeets F (s.gaugeRate n) := by
  unfold State.gaugeRate
  refine .ite ?_ (.ite (.mk h.free) h)
  split
  · exact h
  · exact h

/-! ## ObjMem -/

theorem State.Meets.mapObject {i f} (h : s.Meets F) : (s.mapObject i f).Meets F := by
  unfold State.mapObject
  split
  · exact h.setObject
  · exact h
theorem State.Meets.setRankState {r v} (h : s.Meets F) : (s.setRankState r v).Meets F := h.setFld
theorem State.Meets.bankAccess {i row} (h : s.Meets F) : (s.bankAccess i row).Meets F := .ite h.upd.bump h.upd
theorem State.Meets.rankAccess {q} (h : s.Meets F) : (s.rankAccess q).Meets F := h.free.bankAccess
theorem State.Meets.writeAccess {o} (h : s.Meets F) : (s.writeAccess o).Meets F := by
  unfold State.writeAccess
  split
  · exact h
  · exact h.free.rankAccess
theorem State.Meets.objWrite {hh off l} (h : s.Meets F) : (s.objWrite hh off l).Meets F := by
  unfold State.objWrite
  split
  · exact h.setObject.writeAccess
  · exact h
theorem State.Meets.takeIndex (h : s.Meets F) : OptMeets F s.takeIndex := by
  unfold State.takeIndex
  dsimp only
  refine .ite (.some h.upd) ?_
  split
  · exact .none
  · exact .some h.upd
theorem State.Meets.createData {kind cls plateOk size} (h : s.Meets F) : TripleMeets F (s.createData kind cls plateOk size) := by
  unfold State.createData
  dsimp only
  refine .ite h ?_
  split
  · exact h
  · next e1 =>
      split
      · exact .mk (.setObject (.ite (h.takeIndex.at e1) (h.takeIndex.at e1).upd))
      · split
        · exact h
        · exact .mk (.upd (.setObject (.ite (h.takeIndex.at e1) (h.takeIndex.at e1).upd)))
theorem State.Meets.markMoving (h : s.Meets F) : s.markMoving.Meets F := h.upd
theorem State.Meets.setMoves {l} (h : s.Meets F) : (s.setMoves l).Meets F := have h1 := h.upd.markMoving; .ite h1.event h1
theorem State.Meets.migLess {c n} (h : s.Meets F) : (s.migLess c n).Meets F := h.setFld
theorem State.Meets.dropMoves {i} (h : s.Meets F) : (s.dropMoves i).Meets F := .ite h (h.setMoves.each (fun _ _ h1 => h1.migLess))
theorem State.Meets.release {i} (h : s.Meets F) : (s.release i).Meets F := h.dropMoves.setObject.upd
theorem State.Meets.hold {hh} (h : s.Meets F) : (s.hold hh).Meets F := h.mapObject
theorem State.Meets.drop {hh} (h : s.Meets F) : (s.drop hh).Meets F := .ite h.mapObject h
theorem State.Meets.logPoison {hh off} (h : s.Meets F) : (s.logPoison hh off).Meets F := .ite h.upd h
theorem State.Meets.logEvict {hh} (h : s.Meets F) : (s.logEvict hh).Meets F := .ite h.upd h
theorem State.Meets.poisonWord {hh off} (h : s.Meets F) : (s.poisonWord hh off).Meets F := h.mapObject.logPoison
theorem State.Meets.evictIndex {i} (h : s.Meets F) : (s.evictIndex i).Meets F := h.dropMoves.mapObject.logEvict

/-! ## StationOps -/

theorem State.Meets.setGv {k g} (h : s.Meets F) : (s.setGv k g).Meets F := h.upd
theorem State.Meets.laserEval {k} (h : s.Meets F) : (s.laserEval k).Meets F := have h1 := h.setFld.setFld; .ite h1 h1.event
theorem State.Meets.laserAll (h : s.Meets F) : s.laserAll.Meets F := h.each fun _ _ h1 => h1.laserEval
theorem State.Meets.putStation {k t} (h : s.Meets F) : (s.putStation k t).Meets F := h.setStation.setFld.setFld.setFld.laserEval
theorem State.Meets.stopScan {k} (h : s.Meets F) : (s.stopScan k).Meets F := h.setGv.setFld
theorem State.Meets.stationOff {k} (h : s.Meets F) : (s.stationOff k).Meets F := h.stopScan.setFld.putStation
theorem State.Meets.stationOn {k} (h : s.Meets F) : (s.stationOn k).Meets F := h.setFld.setFld.setFld.putStation
theorem State.Meets.setQueue {k l} (h : s.Meets F) : (s.setQueue k l).Meets F :=
  .ite h.setGv.setFld.setFld.setFld.setFld.stationOff h.setGv.setFld.setFld.setFld.setFld
theorem State.Meets.setDecoder {k d} (h : s.Meets F) : (s.setDecoder k d).Meets F := h.upd.setFld
theorem State.Meets.dropRuns {k hh} (h : s.Meets F) : (s.dropRuns k hh).Meets F := .ite h.setDecoder.setFld h.setDecoder

/-! ## PageOps -/

theorem State.Meets.setPg {i p} (h : s.Meets F) : (s.setPg i p).Meets F := h.upd
theorem State.Meets.mapPg {i f} (h : s.Meets F) : (s.mapPg i f).Meets F := by
  unfold State.mapPg
  split
  · exact h.setPg
  · exact h
theorem State.Meets.countPage {n} (h : s.Meets F) : (s.countPage n).Meets F := h.upd
theorem State.Meets.spoilPage {i code station detail} (h : s.Meets F) : (s.spoilPage i code station detail).Meets F := h.mapPg
theorem State.Meets.markPage {i markBit station} (h : s.Meets F) : (s.markPage i markBit station).Meets F := by
  unfold State.markPage
  dsimp only
  split
  · exact h
  · exact .ite h.setPg.spoilPage h.setPg
theorem State.Meets.freeOrDefer {i} (h : s.Meets F) : (s.freeOrDefer i).Meets F := by
  unfold State.freeOrDefer
  split
  · exact h
  · exact .ite h.release h.setObject
theorem State.Meets.holdPage {i} (h : s.Meets F) : (s.holdPage i).Meets F := by
  unfold State.holdPage
  split
  · exact h
  · exact .ite h (.setPg (h.foldl (fun _ _ h2 => h2.hold)))
theorem State.Meets.dropExpansions {i} (h : s.Meets F) : (s.dropExpansions i).Meets F := by
  unfold State.dropExpansions
  dsimp only
  split
  · exact h
  · exact .setPg (.each (.ite (h.foldl (fun _ _ h2 => h2.drop)) h) (fun _ _ h4 => h4.freeOrDefer))
theorem State.Meets.unholdPage {i} (h : s.Meets F) : (s.unholdPage i).Meets F := by
  unfold State.unholdPage
  dsimp only
  split
  · exact h.dropExpansions
  · exact .ite (.setPg (h.dropExpansions.foldl (fun _ _ h3 => h3.drop))) h.dropExpansions
theorem State.Meets.clearPage {i k} (h : s.Meets F) : (s.clearPage i k).Meets F := .dropRuns (.ite h h.setQueue)
theorem State.Meets.endPage {i endState} (h : s.Meets F) : (s.endPage i endState).Meets F := by
  unfold State.endPage
  dsimp only
  split
  · exact h
  · exact .ite h (meets_sharing (fun h3 => .ite h3.dropExpansions (.unholdPage (.ite h3.countPage (.ite h3.countPage h3.countPage))))
      (h.setPg.each (fun _ _ h2 => h2.clearPage)))
theorem State.Meets.finishPage {i} (h : s.Meets F) : (s.finishPage i).Meets F := by
  unfold State.finishPage
  split
  · exact h
  · exact h.endPage
theorem State.Meets.pullPage {i k} (h : s.Meets F) : (s.pullPage i k).Meets F := .dropRuns (.ite h h.setQueue)
theorem State.Meets.abandonOne {i code wd} (h : s.Meets F) : (s.abandonOne i code wd).Meets F := by
  unfold State.abandonOne
  dsimp only
  split
  · exact h
  · exact .ite (.endPage (h.setPg.each (fun _ _ h3 => h3.pullPage))) h
theorem State.Meets.abandonPage {i code wd} (h : s.Meets F) : (s.abandonPage i code wd).Meets F := by
  unfold State.abandonPage
  dsimp only
  split
  · exact h
  · split
    · exact .ite h.abandonOne.abandonOne h.abandonOne
    · exact h.abandonOne
theorem State.Meets.spoilNow {i code detail} (h : s.Meets F) : (s.spoilNow i code detail).Meets F := h.spoilPage.finishPage
theorem State.Meets.freeSheets {f} (h : s.Meets F) : (s.freeSheets f).Meets F := h.upd
theorem State.Meets.dropSheets {i} (h : s.Meets F) : (s.dropSheets i).Meets F := h.freeSheets.mapPg

/-! ## AxisOps -/

theorem State.Meets.setAxis {a x} (h : s.Meets F) : (s.setAxis a x).Meets F := h.upd
theorem State.Meets.setBus {b x} (h : s.Meets F) : (s.setBus b x).Meets F := h.upd
theorem State.Meets.setAxPhase {a v} (h : s.Meets F) : (s.setAxPhase a v).Meets F := h.setFld
theorem State.Meets.setAtSpeed {a b} (h : s.Meets F) : (s.setAtSpeed a b).Meets F := h.setFld
theorem State.Meets.encoderMotion {a} (h : s.Meets F) : PairMeets F (s.encoderMotion a) :=
  .ite (.mk h.gaugeRate.free.free.free) (.mk h.gaugeRate.divFreeInt.divFreeInt.divFreeInt)
theorem State.Meets.axisOff {a} (h : s.Meets F) : (s.axisOff a).Meets F := h.setAxPhase.setFld.setFld
theorem State.Meets.bridgesOff {a} (h : s.Meets F) : (s.bridgesOff a).Meets F :=
  .ite h (have h2 := h.setAxis.setAtSpeed.setFld.setFld; meets_sharing (fun h3 => .ite h3.setAxPhase h3.axisOff) (.ite h2 h2.setReg))
/-- The definition as one equation of functions: unfolding it at its arguments would have the kernel compute with its constants. -/
theorem State.forecast_eq : State.forecast = fun s a v acc =>
    let j := s.fld (axf FOC.FORECAST_J STEP.FORECAST_J a)
    let (w, s1) := s.divFree (j * v * acc * fourPiSq) (2 ^ 32 * 1000000 * 1000000)
    (w + s.fld (axf FOC.FORECAST_BASE STEP.FORECAST_BASE a), s1) := rfl
theorem State.Meets.forecast {a v acc} (h : s.Meets F) : PairMeets F (s.forecast a v acc) := by
  rw [State.forecast_eq]
  beta_reduce
  extract_lets j
  split
  next e => exact .mk (h.divFree.at e)
theorem State.Meets.declareMove {a} (h : s.Meets F) : (s.declareMove a).Meets F := by
  unfold State.declareMove
  extract_lets x now
  split
  · split
    next e => exact (h.forecast.at e).setAxis
  · exact h.setAxis
theorem State.Meets.applyTargets {a} (h : s.Meets F) : (s.applyTargets a).Meets F := .ite h.setAxis.setFld h.setAxis
theorem State.Meets.fromEncoder {a} (h : s.Meets F) : (s.fromEncoder a).Meets F := .ite h.choose.setPair h
theorem State.Meets.startAxis {a by'} (h : s.Meets F) : (s.startAxis a by').Meets F := by
  unfold State.startAxis
  refine .ite h (.ite h.setFld.setRefused ?_)
  extract_lets s1
  have h1 : s1.Meets F := h.fromEncoder.applyTargets.setRefused.declareMove.setAtSpeed
  refine .ite h1 (.ite (.ite h1.setAxis.setFld.setAxPhase ?_) h1.setAxPhase)
  split
  next e =>
    have h2 := PairMeets.of_eq e (.ite (.mk h1.encoderMotion) h1)
    exact .event (.setAxPhase (.setAxis h2.free))
theorem State.Meets.startAxes {l by'} (h : s.Meets F) : (s.startAxes l by').Meets F := h.each fun _ _ h1 => h1.startAxis
theorem State.Meets.stopAxis {a} (h : s.Meets F) : (s.stopAxis a).Meets F :=
  .ite h.setAxis.setAtSpeed.setAxPhase (.ite h.bridgesOff.event h)
theorem State.Meets.stopRun (h : s.Meets F) : s.stopRun.Meets F := h.each fun _ _ h1 => h1.stopAxis

/-! ## HeatOps -/

theorem State.Meets.setTherm {n x} (h : s.Meets F) : (s.setTherm n x).Meets F := h.upd
theorem State.Meets.setZone {z x} (h : s.Meets F) : (s.setZone z x).Meets F := h.upd
theorem State.Meets.setLamp {n x} (h : s.Meets F) : (s.setLamp n x).Meets F := h.upd
theorem State.Meets.setHvc {n x} (h : s.Meets F) : (s.setHvc n x).Meets F := h.upd
theorem State.Meets.zoneLevels {z} (h : s.Meets F) : (s.zoneLevels z).Meets F := have h1 := h.setFld.setFld.setFld; .ite h1.event h1
theorem State.Meets.zonesFollow (h : s.Meets F) : s.zonesFollow.Meets F := h.each fun _ _ h1 => h1.zoneLevels
theorem State.Meets.countLamps {p} (h : s.Meets F) : (s.countLamps p).Meets F := .ite h.setFld h
theorem State.Meets.htrLow {n} (h : s.Meets F) : (s.htrLow n).Meets F := have h1 := h.setLamp.setFld; .ite h1.setFld.countLamps h1
theorem State.Meets.mainsLost {p} (h : s.Meets F) : (s.mainsLost p).Meets F := .countLamps (h.each (fun _ _ h1 => h1.htrLow.setFld))
theorem State.Meets.gatesOff (h : s.Meets F) : s.gatesOff.Meets F := h.each fun _ _ h1 => h1.htrLow
theorem State.Meets.hvFollow {n} (h : s.Meets F) : (s.hvFollow n).Meets F := .ite h h.setHvc.setFld.setFld
theorem State.Meets.hvAll (h : s.Meets F) : s.hvAll.Meets F := h.each fun _ _ h1 => h1.hvFollow
theorem State.Meets.hvWrite {n v} (h : s.Meets F) : (s.hvWrite n v).Meets F :=
  .ite h.setFld.setFld.setRefused.hvFollow h.setHvc.setFld.setRefused.hvFollow
theorem State.Meets.hvSafe (h : s.Meets F) : s.hvSafe.Meets F := .hvAll (h.each (fun _ _ h1 => h1.setFld.setHvc))
theorem State.Meets.journalPump (h : s.Meets F) : s.journalPump.Meets F := h.upd.setFld.setFld
theorem State.Meets.journalLose (h : s.Meets F) : s.journalLose.Meets F := .ite h.upd.bump h.upd.bump.setFld.upd.bump.event
theorem State.Meets.journalEntry {kind code bitNo forced d16 d} (h : s.Meets F) : (s.journalEntry kind code bitNo forced d16 d).Meets F
    := by
  unfold State.journalEntry
  dsimp only
  refine .ite h.free.upd.journalPump (.ite ?_ h.free.journalLose)
  split
  · exact h.free.upd.journalLose.journalPump
  · exact h.free.upd
theorem State.Meets.latchInit (h : s.Meets F) : s.latchInit.Meets F := h.setFld.setFld

/-! ## React -/

theorem State.Meets.enter {e} (h : s.Meets F) : (s.enter e).Meets F := h.setEng.zonesFollow.hvAll.laserAll
theorem State.Meets.enterBanked (h : s.Meets F) : s.enterBanked.Meets F := h.stopRun.upd.enter
theorem State.Meets.enterSafe (h : s.Meets F) : s.enterSafe.Meets F :=
  .laserAll (.zonesFollow (.each (h.upd.setEng.gatesOff.hvSafe.each (fun _ _ h3 => h3.bridgesOff)) (fun _ _ h5 => h5.stopScan)))
theorem State.Meets.recheckReady (h : s.Meets F) : s.recheckReady.Meets F := .ite h.enter h
theorem State.Meets.holdP1 (h : s.Meets F) : s.holdP1.Meets F := h.each fun _ _ h1 => h1.setZone
theorem State.Meets.runOutCheck (h : s.Meets F) : s.runOutCheck.Meets F :=
  .ite (meets_sharing (fun h1 => .ite (.ite h1.enterSafe h1.enterBanked) h1) (.ite h h.upd.stopRun)) h
theorem State.Meets.pageSettle (h : s.Meets F) : s.pageSettle.Meets F :=
  .ite (.ite h.holdP1.enterBanked h.holdP1.upd.enter) h.holdP1.runOutCheck
theorem State.Meets.runOutPages {trip} (h : s.Meets F) : (s.runOutPages trip).Meets F :=
  .each (h.each (fun _ _ h1 => h1.abandonPage)) fun _ _ h3 => h3.spoilPage
theorem State.Meets.engineFault {toSafe} (h : s.Meets F) : (s.engineFault toSafe).Meets F :=
  .ite (.ite h.runOutPages.upd.enter (.ite h.runOutPages.enterSafe h.runOutPages.enterBanked)) (.ite h.runOutPages.upd (.ite
      h.enterSafe h))
theorem State.Meets.safetyFault (h : s.Meets F) : s.safetyFault.Meets F :=
  .ite (.holdP1 (.enterSafe (.each (h.each (fun _ _ h1 => h1.abandonPage)) (fun _ _ h3 => h3.spoilNow)))) h
theorem State.Meets.abandonAll (h : s.Meets F) : s.abandonAll.Meets F := h.each fun _ _ h1 => h1.abandonPage
theorem State.Meets.shutdownBegin (h : s.Meets F) : s.shutdownBegin.Meets F :=
  have h1 := h.upd.abandonAll; .ite h1.enterBanked h1.pageSettle
theorem State.Meets.outputsReset (h : s.Meets F) : s.outputsReset.Meets F :=
  .laserAll (.hvAll (.each (.each (.each (.gatesOff h.updTinder) fun _ _ h => h.bridgesOff) fun _ _ h => h.setFld) fun _ _ h =>
      h.stopScan))
theorem State.Meets.decodersLost (h : s.Meets F) : s.decodersLost.Meets F := by
  unfold State.decodersLost
  dsimp only
  refine h.each fun _ _ h1 => ?_
  split
  · exact h1.spoilPage.setDecoder.setFld
  · exact h1

/-! ## Flags -/

theorem State.Meets.broadcastFault {cls bit code} (h : s.Meets F) : (s.broadcastFault cls bit code).Meets F := .ite h.send h
theorem State.Meets.react {c bit code} (h : s.Meets F) : (s.react c bit code).Meets F := by
  unfold State.react
  split
  · exact h
  · exact h
  · exact h
  · exact h.engineFault.broadcastFault
  · exact h.engineFault.broadcastFault
  · exact h.safetyFault.broadcastFault
theorem State.Meets.setFaultBit {code bit} (h : s.Meets F) : (s.setFaultBit code bit).Meets F := h.setReg
theorem State.Meets.raiseQuiet {c code bit} (h : s.Meets F) : (s.raiseQuiet c code bit).Meets F :=
  .ite h.react h.setFaultBit.upd.react.event
theorem State.Meets.raiseAs {c kind code bit idx forced} (h : s.Meets F) : (s.raiseAs c kind code bit idx forced).Meets F :=
  .ite h h.setFaultBit.upd.journalEntry.react.event
theorem State.Meets.raise {code bit idx forced} (h : s.Meets F) : (s.raise code bit idx forced).Meets F := h.raiseAs

/-! ## Cores -/

theorem State.Meets.setG {n i w} (h : s.Meets F) : (s.setG n i w).Meets F := h.setCore
theorem State.Meets.setP {n i v} (h : s.Meets F) : (s.setP n i v).Meets F := h.setCore
theorem State.Meets.crLatch {n cr} (h : s.Meets F) : (s.crLatch n cr).Meets F := .ite h.setCore (.ite h.setCore h)
theorem State.Meets.crPut {n cr v} (h : s.Meets F) : (s.crPut n cr v).Meets F := by
  unfold State.crPut
  dsimp only
  split
  · exact h.setCore
  · exact h.setCore
  · exact h.setCore
  · exact h.setCore
  · exact h.setCore
  · exact h.setCore
  · exact h.setCore
  · exact h.setFld.setFld
  · exact h.setCore
  · exact h.setCore
  · exact h.setCore
  · exact h.setCore
  · exact h.setCore
  · exact h.setCore
  · exact h.setCore
  · exact h.setCore
  · exact h
theorem State.Meets.spend {n k} (h : s.Meets F) : (s.spend n k).Meets F := .ite h.free.setCore h.setCore
theorem State.Meets.spendAtLeast {n k} (h : s.Meets F) : (s.spendAtLeast n k).Meets F := h.free.setCore
theorem State.Meets.retire {n pc} (h : s.Meets F) : (s.retire n pc).Meets F := h.setCore
theorem State.Meets.calDone {n} (h : s.Meets F) : (s.calDone n).Meets F := .ite h.setCore h
theorem State.Meets.dropEntry {e} (h : s.Meets F) : (s.dropEntry e).Meets F := by
  unfold State.dropEntry
  dsimp only
  split
  · exact h
  · exact .setEntry (.upd (.ite h.calDone h))
theorem State.Meets.waitDone {n} (h : s.Meets F) : (s.waitDone n).Meets F := h.setCore.retire.spendAtLeast
theorem State.Meets.takeConditions {n rd mask} (h : s.Meets F) : (s.takeConditions n rd mask).Meets F := .ite h.setG.setCore h.setG
theorem State.Meets.takeMail {n rd pa} (h : s.Meets F) : (s.takeMail n rd pa).Meets F := by
  unfold State.takeMail
  dsimp only
  split
  · exact h
  · exact h.setCore
theorem State.Meets.settle {n} (h : s.Meets F) : (s.settle n).Meets F := by
  unfold State.settle
  dsimp only
  refine .ite h ?_
  split
  · exact h
  · exact .ite h.dropEntry.setG.setCore.waitDone h
  · exact .ite h.takeConditions.waitDone h
  · exact .ite h h.takeMail.waitDone
theorem State.Meets.leaveWait {n} (h : s.Meets F) : (s.leaveWait n).Meets F := by
  unfold State.leaveWait
  dsimp only
  split
  · exact h
  · exact h.dropEntry.setCore.spendAtLeast
  · exact h.setCore.spendAtLeast
theorem State.Meets.wakeCore {n} (h : s.Meets F) : (s.wakeCore n).Meets F := h.setCore.settle
theorem State.Meets.deliver {n payload source} (h : s.Meets F) : PairMeets F (s.deliver n payload source) :=
  .ite (.mk h.setCore.settle) (.mk h.setCore)
theorem State.Meets.doomEntries {n} (h : s.Meets F) : (s.doomEntries n).Meets F := h.upd
theorem State.Meets.haltCore {n reason} (h : s.Meets F) : (s.haltCore n reason).Meets F :=
  meets_sharing (fun h3 => .ite h3.event.event h3.event) (.ite h.leaveWait.setCore.doomEntries h.leaveWait.setCore)
theorem State.Meets.saveCause {n cause eval epc async} (h : s.Meets F) : (s.saveCause n cause eval epc async).Meets F := h.setCore
theorem State.Meets.enterHandler {n cause eval epc async} (h : s.Meets F) : (s.enterHandler n cause eval epc async).Meets F :=
  h.saveCause.spend.setCore
theorem State.Meets.syncException {n cause eval} (h : s.Meets F) : (s.syncException n cause eval).Meets F :=
  .ite h.saveCause.spend.haltCore.raise h.enterHandler
theorem State.Meets.apply {n w} {e : Effect} (h : s.Meets F) (he : e.Meets F) : (s.apply n w e).Meets F := by
  cases e with
  | done t k => exact State.Meets.spend (State.Meets.retire he)
  | jump t pc k => exact State.Meets.spend (State.Meets.retire he)
  | stop t pc k reason => exact .haltCore (.spend (.ite he (.retire he)))
  | hold t k => exact State.Meets.spend he
  | trap cause eval => exact h.syncException
  | trapAfter t cause eval => exact State.Meets.syncException he
  | illegal => exact h.syncException
  | profile => exact h.syncException
theorem State.Meets.perform {n w} {eff : State → Effect} (h : s.Meets F) (hf : ∀ t, t.Meets F → (eff t).Meets F) : (s.perform n w
    eff).Meets F :=
  .ite h.syncException (h.apply (hf s h))
theorem State.Meets.instr {n w} {eff : State → Effect} (h : s.Meets F) (hf : ∀ t, t.Meets F → (eff t).Meets F) : ResultMeets F (s.instr n w eff) :=
  .ite (.next (h.perform hf)) (.next h)
theorem Effect.Meets.serviceOnly {n} {e : Effect} (h : e.Meets F) : (Machine.serviceOnly n e).Meets F := .ite h .profile
theorem State.Meets.toG {n rd w k} (h : s.Meets F) : (Machine.toG s n rd w k).Meets F := .done h.setG
theorem State.Meets.toP {n pd v k} (h : s.Meets F) : (Machine.toP s n pd v k).Meets F := .done h.setP

/-! ## Operands -/

theorem Effect.Meets.checked {n a k} {e : Effect} (h : e.Meets F) : (Machine.checked n a k e).Meets F := .ite .trap (.ite .trap h)

/-! ## Arith -/

theorem State.Meets.execAdd {n rd rs1 rs2} (h : s.Meets F) : ResultMeets F (Machine.execAdd n rd rs1 rs2 s) := h.instr fun _ h1 => h1.toG
theorem State.Meets.execSub {n rd rs1 rs2} (h : s.Meets F) : ResultMeets F (Machine.execSub n rd rs1 rs2 s) := h.instr fun _ h1 => h1.toG
theorem State.Meets.execAnd {n rd rs1 rs2} (h : s.Meets F) : ResultMeets F (Machine.execAnd n rd rs1 rs2 s) := h.instr fun _ h1 => h1.toG
theorem State.Meets.execOr {n rd rs1 rs2} (h : s.Meets F) : ResultMeets F (Machine.execOr n rd rs1 rs2 s) := h.instr fun _ h1 => h1.toG
theorem State.Meets.execXor {n rd rs1 rs2} (h : s.Meets F) : ResultMeets F (Machine.execXor n rd rs1 rs2 s) := h.instr fun _ h1 => h1.toG
theorem State.Meets.execAndn {n rd rs1 rs2} (h : s.Meets F) : ResultMeets F (Machine.execAndn n rd rs1 rs2 s) := h.instr fun _ h1 => h1.toG
theorem State.Meets.execSll {n rd rs1 rs2} (h : s.Meets F) : ResultMeets F (Machine.execSll n rd rs1 rs2 s) := h.instr fun _ h1 => h1.toG
theorem State.Meets.execSrl {n rd rs1 rs2} (h : s.Meets F) : ResultMeets F (Machine.execSrl n rd rs1 rs2 s) := h.instr fun _ h1 => h1.toG
theorem State.Meets.execSra {n rd rs1 rs2} (h : s.Meets F) : ResultMeets F (Machine.execSra n rd rs1 rs2 s) := h.instr fun _ h1 => h1.toG
theorem State.Meets.execLts {n rd rs1 rs2} (h : s.Meets F) : ResultMeets F (Machine.execLts n rd rs1 rs2 s) := h.instr fun _ h1 => h1.toG
theorem State.Meets.execLtu {n rd rs1 rs2} (h : s.Meets F) : ResultMeets F (Machine.execLtu n rd rs1 rs2 s) := h.instr fun _ h1 => h1.toG
theorem State.Meets.execMin {n rd rs1 rs2} (h : s.Meets F) : ResultMeets F (Machine.execMin n rd rs1 rs2 s) := h.instr fun _ h1 => h1.toG
theorem State.Meets.execMax {n rd rs1 rs2} (h : s.Meets F) : ResultMeets F (Machine.execMax n rd rs1 rs2 s) := h.instr fun _ h1 => h1.toG
theorem State.Meets.execMinu {n rd rs1 rs2} (h : s.Meets F) : ResultMeets F (Machine.execMinu n rd rs1 rs2 s) := h.instr fun _ h1 => h1.toG
theorem State.Meets.execMaxu {n rd rs1 rs2} (h : s.Meets F) : ResultMeets F (Machine.execMaxu n rd rs1 rs2 s) := h.instr fun _ h1 => h1.toG
theorem State.Meets.execClz {n rd rs1} (h : s.Meets F) : ResultMeets F (Machine.execClz n rd rs1 s) := h.instr fun _ h1 => h1.toG
theorem State.Meets.execPopc {n rd rs1} (h : s.Meets F) : ResultMeets F (Machine.execPopc n rd rs1 s) := h.instr fun _ h1 => h1.toG
theorem State.Meets.execSlli {n rd rs1 sh} (h : s.Meets F) : ResultMeets F (Machine.execSlli n rd rs1 sh s) := h.instr fun _ h1 => h1.toG
theorem State.Meets.execSrli {n rd rs1 sh} (h : s.Meets F) : ResultMeets F (Machine.execSrli n rd rs1 sh s) := h.instr fun _ h1 => h1.toG
theorem State.Meets.execSrai {n rd rs1 sh} (h : s.Meets F) : ResultMeets F (Machine.execSrai n rd rs1 sh s) := h.instr fun _ h1 => h1.toG
theorem State.Meets.execMullo {n rd rs1 rs2} (h : s.Meets F) : ResultMeets F (Machine.execMullo n rd rs1 rs2 s) := h.instr fun _ h1 => h1.toG
theorem State.Meets.execMulhs {n rd rs1 rs2} (h : s.Meets F) : ResultMeets F (Machine.execMulhs n rd rs1 rs2 s) := h.instr fun _ h1 => h1.toG
theorem State.Meets.execMulhu {n rd rs1 rs2} (h : s.Meets F) : ResultMeets F (Machine.execMulhu n rd rs1 rs2 s) := h.instr fun _ h1 => h1.toG
theorem State.Meets.execMulhm {n rd rs1 rs2} (h : s.Meets F) : ResultMeets F (Machine.execMulhm n rd rs1 rs2 s) := h.instr fun _ h1 => h1.toG
theorem State.Meets.execDivs {n rd rs1 rs2} (h : s.Meets F) : ResultMeets F (Machine.execDivs n rd rs1 rs2 s) := h.instr fun _ h1 => h1.toG
theorem State.Meets.execDivu {n rd rs1 rs2} (h : s.Meets F) : ResultMeets F (Machine.execDivu n rd rs1 rs2 s) := h.instr fun _ h1 => h1.toG
theorem State.Meets.execMods {n rd rs1 rs2} (h : s.Meets F) : ResultMeets F (Machine.execMods n rd rs1 rs2 s) := h.instr fun _ h1 => h1.toG
theorem State.Meets.execModu {n rd rs1 rs2} (h : s.Meets F) : ResultMeets F (Machine.execModu n rd rs1 rs2 s) := h.instr fun _ h1 => h1.toG
theorem State.Meets.execAddi {n rd rs1 imm} (h : s.Meets F) : ResultMeets F (Machine.execAddi n rd rs1 imm s) := h.instr fun _ h1 => h1.toG
theorem State.Meets.execAndi {n rd rs1 imm} (h : s.Meets F) : ResultMeets F (Machine.execAndi n rd rs1 imm s) := h.instr fun _ h1 => h1.toG
theorem State.Meets.execOri {n rd rs1 imm} (h : s.Meets F) : ResultMeets F (Machine.execOri n rd rs1 imm s) := h.instr fun _ h1 => h1.toG
theorem State.Meets.execXori {n rd rs1 imm} (h : s.Meets F) : ResultMeets F (Machine.execXori n rd rs1 imm s) := h.instr fun _ h1 => h1.toG
theorem State.Meets.execLtsi {n rd rs1 imm} (h : s.Meets F) : ResultMeets F (Machine.execLtsi n rd rs1 imm s) := h.instr fun _ h1 => h1.toG
theorem State.Meets.execLtui {n rd rs1 imm} (h : s.Meets F) : ResultMeets F (Machine.execLtui n rd rs1 imm s) := h.instr fun _ h1 => h1.toG
theorem State.Meets.execLui {n rd imm} (h : s.Meets F) : ResultMeets F (Machine.execLui n rd imm s) := h.instr fun _ h1 => h1.toG

/-! ## PciCfg -/

theorem State.Meets.setCfg {a w} (h : s.Meets F) : (s.setCfg a w).Meets F := h.upd

/-! ## Mover -/

theorem State.Meets.setChState {c v} (h : s.Meets F) : (s.setChState c v).Meets F := h.setFld
theorem State.Meets.chEvent {f} (h : s.Meets F) : (s.chEvent f).Meets F := h.setFld.event
theorem State.Meets.showDesc {c a} (h : s.Meets F) : (s.showDesc c a).Meets F := h.setFld.setFld
theorem State.Meets.issueRead {c} (h : s.Meets F) : (s.issueRead c).Meets F := by
  unfold State.issueRead
  dsimp only
  split
  · exact h.upd.setChan.send
  · exact h.upd.setChan.send
theorem State.Meets.moverIssue {k} (h : s.Meets F) : (s.moverIssue k).Meets F := by
  induction k generalizing s with
  | zero => exact h
  | succ k ih =>
    unfold State.moverIssue
    split
    · exact h
    · exact ih h.issueRead
theorem State.Meets.issueReads {c k} (h : s.Meets F) : (s.issueReads c k).Meets F := by
  induction k generalizing s with
  | zero => exact h
  | succ k ih => exact .ite (ih h.issueRead) h
theorem State.Meets.chPump {c} (h : s.Meets F) : (s.chPump c).Meets F := by
  unfold State.chPump
  dsimp only
  refine .ite h ?_
  split
  · exact h.issueReads
  · exact .ite h (.ite h.setChan h.issueReads)
theorem State.Meets.passRecord {n result} (h : s.Meets F) : (s.passRecord n result).Meets F := by
  unfold State.passRecord
  dsimp only
  split
  · exact h
  · exact h.upd.setDq
theorem State.Meets.chainStart {c space core addr} (h : s.Meets F) : (s.chainStart c space core addr).Meets F :=
  have h2 := h.setChan.showDesc.setFld.setFld; .ite h2.setFld.setChState.chPump h2.setFld.setChState
theorem State.Meets.descFault {c kind forced} (h : s.Meets F) : (s.descFault c kind forced).Meets F :=
  h.setChState.setFld.setChan.raise.passRecord
theorem State.Meets.chainEnd {c} (h : s.Meets F) : (s.chainEnd c).Meets F := h.setChan.setChState.chEvent.passRecord
theorem State.Meets.descDone {c d} (h : s.Meets F) : (s.descDone c d).Meets F :=
  meets_sharing (fun h2 => .ite (.ite h2.setChan h2.chainEnd) h2.setChan.showDesc.setFld.chPump) (.ite h.setFld.chEvent h.setFld)
theorem State.Meets.bytesCount {c n d} (h : s.Meets F) : (s.bytesCount c n d).Meets F := .ite h.setFld.chEvent h.setFld
theorem State.Meets.bytesDone {c n d} (h : s.Meets F) : (s.bytesDone c n d).Meets F := .ite h.bytesCount.descDone h.bytesCount.chPump
theorem State.Meets.execDescriptorRead {c bytes} (h : s.Meets F) : ResultMeets F (Machine.execDescriptorRead c bytes s) :=
  .ite (.next h) (.ite (.next h.descFault) (.ite (.next h.descFault) (.next h.setChan.setFld.chPump)))
theorem State.Meets.execReadCompletion {c data} (h : s.Meets F) : ResultMeets F (Machine.execReadCompletion c data s) := by
  unfold Machine.execReadCompletion
  dsimp only
  split
  · exact .next h
  · refine .ite (.next h) ?_
    split
    · exact .next h.descFault
    · exact .ite (.next h.descFault) (.ite (meets_sharing (fun h4 => .ite (.next h4.bytesCount.descFault) (.next h4.bytesDone)) (.ite
        h.upd h.upd.setChan.send)) (.next h.objWrite.bytesDone))
theorem State.Meets.spoilDest {d} (h : s.Meets F) : (s.spoilDest d).Meets F := .ite h h.objWrite.upd
theorem State.Meets.busStop {c} (h : s.Meets F) : (s.busStop c).Meets F := by
  unfold State.busStop
  dsimp only
  refine .chEvent (.setChState (.setChan ?_))
  split
  · exact h.spoilDest
  · exact h
theorem State.Meets.busError {kind c a forced} (h : s.Meets F) : (s.busError kind c a forced).Meets F :=
  .each (.raise (h.setFld.setFld.setPair.each (fun _ _ h2 => h2.busStop))) fun _ _ h4 => h4.passRecord
theorem State.Meets.lastWrite {c bytes} (h : s.Meets F) : (s.lastWrite c bytes).Meets F := by
  unfold State.lastWrite
  dsimp only
  split
  · exact .ite h.objWrite.bytesCount.descDone h
  · exact h
theorem State.Meets.execBusError {c kind read} (h : s.Meets F) : ResultMeets F (Machine.execBusError c kind read s) := by
  unfold Machine.execBusError
  refine .next (.ite (.busError ?_) h)
  split
  · exact h.lastWrite
  · exact h
theorem State.Meets.busErrorFree {kind forced} (h : s.Meets F) : (s.busErrorFree kind forced).Meets F := h.free.busError
theorem State.Meets.chStart {c} (h : s.Meets F) : (s.chStart c).Meets F := .ite h.logRo (.ite h.setFld h.chainStart)
theorem State.Meets.chResume {c} (h : s.Meets F) : (s.chResume c).Meets F :=
  .ite h.setFld (.ite h.chainEnd (.chPump (.setChState (.ite h.setFld h))))
theorem State.Meets.chCtrlWrite {c v} (h : s.Meets F) : (s.chCtrlWrite c v).Meets F :=
  meets_sharing (fun h2 => meets_sharing (fun h3 => .ite h3.chResume h3) (.ite h2.chStart h2)) (.ite h.setReg.setChState h.setReg)
theorem State.Meets.execMoverStart {c value} (h : s.Meets F) : ResultMeets F (Machine.execMoverStart c value s) := .next (.ite h.chCtrlWrite h)
theorem State.Meets.execChannelResume {c value} (h : s.Meets F) : ResultMeets F (Machine.execChannelResume c value s) :=
  .next (.ite h.chCtrlWrite h)
theorem State.Meets.execChannelDisable {c value} (h : s.Meets F) : ResultMeets F (Machine.execChannelDisable c value s) :=
  .next (.ite h.chCtrlWrite h)
theorem State.Meets.execDrainComplete {c} (h : s.Meets F) : ResultMeets F (Machine.execDrainComplete c s) :=
  .next (.ite h.setChState.chEvent h)
theorem State.Meets.sqFail {n forced} (h : s.Meets F) : (s.sqFail n forced).Meets F := h.setFld.setFld.raise
theorem State.Meets.resetRegs {l} (h : s.Meets F) : (s.resetRegs l).Meets F := h.each fun _ _ h1 => h1.setReg
theorem State.Meets.endpointReset (h : s.Meets F) : s.endpointReset.Meets F :=
  .event (.bump (.upd (.setFld (.resetRegs (.ite h h.busErrorFree)))))
theorem State.Meets.linkLost (h : s.Meets F) : s.linkLost.Meets F := h.setFld.setFld.setFld.endpointReset
theorem State.Meets.execEndpointReset {cause} (h : s.Meets F) : ResultMeets F (Machine.execEndpointReset cause s) :=
  .ite (.next h) (.ite (.next h.endpointReset) (.ite (.next h.setFld.linkLost.upd) (.next h.linkLost)))
theorem State.Meets.execPcieLinkUp {speed width} (h : s.Meets F) : ResultMeets F (Machine.execPcieLinkUp speed width s) :=
  .next (.ite h.setFld.setFld.setFld.setFld h)
theorem State.Meets.msixRelease {v} (h : s.Meets F) : (s.msixRelease v).Meets F := .ite (.ite h.upd.msix h.upd) h
theorem State.Meets.busMaster {d0 bme mask} (h : s.Meets F) : (s.busMaster d0 bme mask).Meets F :=
  meets_sharing (fun h3 => .ite h3.moverIssue h3) (h.upd.setFld.each (fun _ _ h2 => h2.msixRelease))
theorem State.Meets.execBusMasterEnable {d0 bme mask} (h : s.Meets F) : ResultMeets F (Machine.execBusMasterEnable d0 bme mask s) :=
  .next (.ite h.busMaster h)
theorem State.Meets.cfgPut {a v be} (h : s.Meets F) : (s.cfgPut a v be).Meets F := by
  unfold State.cfgPut
  dsimp only
  split
  · exact h.setCfg.busMaster
  · exact h.setCfg.busMaster
  · exact .ite h.setCfg.endpointReset h.setCfg
  · exact h.setCfg.busMaster
  · exact h.setCfg
theorem State.Meets.configWrite {addr v be} (h : s.Meets F) : (s.configWrite addr v be).Meets F := .ite h.cfgPut h
theorem State.Meets.configRead {addr} (h : s.Meets F) : (s.configRead addr).Meets F := h.answer

/-! ## Power -/

theorem State.Meets.setRail {n v} (h : s.Meets F) : (s.setRail n v).Meets F := h.setFld
theorem State.Meets.setPhase {p} (h : s.Meets F) : (s.setPhase p).Meets F := h.setFld
theorem State.Meets.setTinder {s : State} {vstby vbat por vstbyHigh emberValid uncounted count cause vbatLost trip crystal inReset
    outputsHeld resetN bootPins en filterUs dropUs down draining failing failForced after wakeNext pbHeld tableRead cfgValid
    rewriteOff rewrites released mramWrite flash flashOp uartPartial} (h : s.Meets F) :
  (s.setTinder ⟨vstby, vbat, por, vstbyHigh, emberValid, uncounted, count, cause, vbatLost, trip, crystal, inReset, outputsHeld,
      resetN, bootPins, en, filterUs, dropUs, down, draining, failing, failForced, after, wakeNext, pbHeld, tableRead, cfgValid,
      rewriteOff, rewrites, released, s.tinder.mram, mramWrite, s.tinder.flashPart, flash, flashOp, uartPartial⟩).Meets F :=
  h
theorem State.Meets.setEn {n b} (h : s.Meets F) : (s.setEn n b).Meets F := h.setTinder
theorem State.Meets.setFilterUs {n v} (h : s.Meets F) : (s.setFilterUs n v).Meets F := h.setTinder
theorem State.Meets.setDropUs {n v} (h : s.Meets F) : (s.setDropUs n v).Meets F := h.setTinder
theorem State.Meets.raiseRail {n} (h : s.Meets F) : (s.raiseRail n).Meets F := h.setEn.setRail.setFilterUs
theorem State.Meets.startRail {n} (h : s.Meets F) : (s.startRail n).Meets F := .ite h.raiseRail h.setRail
theorem State.Meets.riseRail {n} (h : s.Meets F) : (s.riseRail n).Meets F := .ite h.setRail.setFilterUs (.ite h.startRail h.setRail)
theorem State.Meets.seqLevels (h : s.Meets F) : s.seqLevels.Meets F := h.setFld.setFld
theorem State.Meets.requestShutdown (h : s.Meets F) : s.requestShutdown.Meets F :=
  .ite h.setPhase.event.shutdownBegin (.ite h.setTinder h)
theorem State.Meets.seqProgress (h : s.Meets F) : s.seqProgress.Meets F :=
  .ite h.seqLevels (have h1 := h.setPhase.seqLevels; .ite (.ite h1.event.setTinder.requestShutdown h1.event) h1)
theorem State.Meets.pumpRail {n} (h : s.Meets F) : (s.pumpRail n).Meets F := .ite h.setEn.setRail.setFbit h
theorem State.Meets.finishFail {n} (h : s.Meets F) : (s.finishFail n).Meets F :=
  .ite (.seqProgress (.raise (.setTinder (h.setEn.setRail.setFbit.setTinder.each (fun _ _ h3 => h3.setRail))))) h
theorem State.Meets.finishDown (h : s.Meets F) : s.finishDown.Meets F := .ite h.setTinder.setPhase h
theorem State.Meets.pump (h : s.Meets F) : s.pump.Meets F :=
  .finishDown (.each (.seqLevels (h.each (fun _ _ h1 => h1.pumpRail))) (fun _ _ h2 => h2.finishFail))
theorem State.Meets.failRail {n forced} (h : s.Meets F) : (s.failRail n forced).Meets F :=
  .pump (.setTinder (h.each (fun _ _ h1 => h1.setRail)))
theorem State.Meets.powerDown {a} (h : s.Meets F) : (s.powerDown a).Meets F :=
  .pump (.seqLevels (.setTinder (h.setPhase.each (fun _ _ h2 => h2.setRail))))
theorem State.Meets.dropOutputs (h : s.Meets F) : s.dropOutputs.Meets F := h.outputsReset.setEng.setTinder
theorem State.Meets.forcedOff (h : s.Meets F) : s.forcedOff.Meets F := h.dropOutputs.powerDown
theorem State.Meets.inputLost {n forced} (h : s.Meets F) : (s.inputLost n forced).Meets F :=
  meets_sharing (fun h3 => .ite h3 h3.powerDown) (.dropOutputs (.raiseAs (.ite h.setRail.setFilterUs.setFbit h)))
theorem State.Meets.emberClear (h : s.Meets F) : s.emberClear.Meets F := .ite h h.setTinder
theorem State.Meets.countReset {cause} (h : s.Meets F) : (s.countReset cause).Meets F := .ite h.setTinder h.setTinder
theorem State.Meets.resetAssert {cause wake} (h : s.Meets F) : (s.resetAssert cause wake).Meets F := h.dropOutputs.countReset.setTinder
theorem State.Meets.registerReset (h : s.Meets canonicalForm) : s.registerReset.Meets canonicalForm :=
  ⟨State.registerReset_regsWf s, State.registerReset_mramWf h.2⟩
theorem State.Meets.resetDevice {cause wake} (h : s.Meets canonicalForm) : (s.resetDevice cause wake).Meets canonicalForm :=
  .ite h (.ite h.resetAssert.setTinder (.ite h.resetAssert.powerDown h.resetAssert.registerReset))
theorem State.Meets.execVstbyRise {levels} (h : s.Meets F) : ResultMeets F (Machine.execVstbyRise levels s) :=
  .ite (.next h) (meets_sharing (fun h1 => meets_sharing (fun h2 => .next (.ite h2.setTinder.setEng h2.setTinder)) (.ite h1.countReset h1))
      (.ite h h.setTinder.emberClear))
theorem State.Meets.execPowerOnReset (h : s.Meets canonicalForm) : ResultMeets canonicalForm (Machine.execPowerOnReset s) :=
  .ite (.next h) (.next h.choose.setTinder.resetAssert.registerReset)
theorem State.Meets.execVstbyLost (h : s.Meets F) : ResultMeets F (Machine.execVstbyLost s) := .ite (.next h) (.next h.setTinder.setEng)
theorem State.Meets.execPorEnd (h : s.Meets F) : ResultMeets F (Machine.execPorEnd s) := .ite (.next h.setTinder) (.next h)
theorem State.Meets.execXtalMissing (h : s.Meets F) : ResultMeets F (Machine.execXtalMissing s) := .ite (.next h) (.next h.setTinder.raise)
theorem State.Meets.loadOwnRails (h : s.Meets F) : s.loadOwnRails.Meets F := h.each fun _ _ h1 => h1.setReg.setReg.setReg
theorem State.Meets.execSequenceStart (h : s.Meets F) : ResultMeets F (Machine.execSequenceStart s) :=
  .ite (.next h) (.next (.seqLevels (.raiseRail (h.setPhase.loadOwnRails.each (fun _ _ h2 => h2.setRail)))))
theorem State.Meets.execRailOnDelayExpiry {n} (h : s.Meets F) : ResultMeets F (Machine.execRailOnDelayExpiry n s) :=
  .ite (.next h.raiseRail) (.next h)
theorem State.Meets.execRailGood {n} (h : s.Meets F) : ResultMeets F (Machine.execRailGood n s) :=
  .ite (.next (.seqProgress (h.setRail.setDropUs.each (fun _ _ h2 => h2.startRail)))) (.next h)
theorem State.Meets.execRailTimeout {n} (h : s.Meets F) : ResultMeets F (Machine.execRailTimeout n s) := .ite (.next h.failRail) (.next h)
theorem State.Meets.setWarn {n b} (h : s.Meets F) : (s.setWarn n b).Meets F := .ite h.setFbit.event h.setFbit
theorem State.Meets.drained {n} (h : s.Meets F) : (s.drained n).Meets F := h.setTinder
theorem State.Meets.execRailMonitorSample {n vm pg us} (h : s.Meets F) : ResultMeets F (Machine.execRailMonitorSample n vm pg us s) :=
  .ite (.next h) (.ite (.next h.setFld.setFilterUs) (.ite (.next h.setFld.setWarn.setDropUs) (.ite (.next
      h.setFld.setWarn.setRail.pump) (.ite (.next h.setFld.setWarn.drained.pump) (.next h.setFld.setWarn)))))
theorem State.Meets.execRailFail {n} (h : s.Meets F) : ResultMeets F (Machine.execRailFail n s) :=
  .ite (.next (.ite h.inputLost h.failRail)) (.next h)
theorem State.Meets.execInputReturnRestart (h : s.Meets canonicalForm) : ResultMeets canonicalForm (Machine.execInputReturnRestart s) :=
  .ite (.next h.resetDevice) (.next h)
theorem State.Meets.execRailDischargeTimeout {n} (h : s.Meets F) : ResultMeets F (Machine.execRailDischargeTimeout n s) :=
  .ite (.next h.setWarn.event.setRail.pump) (.ite (.next h.event.drained.pump) (.next h))
theorem State.Meets.execHoldOffEnd (h : s.Meets canonicalForm) : ResultMeets canonicalForm (Machine.execHoldOffEnd s) := by
  unfold Machine.execHoldOffEnd
  refine .ite (.next h) ?_
  split
  · exact .next h.setPhase
  · exact .next h.registerReset
  · exact .ite (.next h.setPhase.resetDevice) (.next h.setPhase)
theorem State.Meets.execRailRetry {n} (h : s.Meets F) : ResultMeets F (Machine.execRailRetry n s) := .ite (.next h.drained.riseRail) (.next h)
theorem State.Meets.execPbShortPress (h : s.Meets F) : ResultMeets F (Machine.execPbShortPress s) := .ite (.next h.requestShutdown) (.next h)
theorem State.Meets.execPbLongPress (h : s.Meets F) : ResultMeets F (Machine.execPbLongPress s) := .ite (.next h.forcedOff) (.next h)
theorem State.Meets.execPbWake (h : s.Meets canonicalForm) : ResultMeets canonicalForm (Machine.execPbWake s) := .ite (.next h.resetDevice) (.next h)
theorem State.Meets.execShutdownReq (h : s.Meets F) : ResultMeets F (Machine.execShutdownReq s) := .next h.requestShutdown
theorem State.Meets.execPowerDown (h : s.Meets F) : ResultMeets F (Machine.execPowerDown s) := .ite (.next h.forcedOff) (.next h)
theorem State.Meets.execShutdownTimeout (h : s.Meets F) : ResultMeets F (Machine.execShutdownTimeout s) :=
  .ite (.next h.raise.forcedOff) (.next h)
theorem State.Meets.execOrderlyShutdownFinish (h : s.Meets F) : ResultMeets F (Machine.execOrderlyShutdownFinish s) :=
  .ite (.next h.abandonAll.forcedOff) (.next h)
theorem State.Meets.execResetNAssert (h : s.Meets canonicalForm) : ResultMeets canonicalForm (Machine.execResetNAssert s) :=
  .ite (.next h) (.next h.setTinder.resetDevice)
theorem State.Meets.execResetNRelease (h : s.Meets F) : ResultMeets F (Machine.execResetNRelease s) := .next h.setTinder
theorem State.Meets.execVbatLoss (h : s.Meets F) : ResultMeets F (Machine.execVbatLoss s) := .next h.setTinder
theorem State.Meets.execMramRewrite (h : s.Meets F) : ResultMeets F (Machine.execMramRewrite s) := .ite (.next h) (.next h.setTinder)

/-! ## Clock -/

theorem State.Meets.setGclk {k g} (h : s.Meets F) : (s.setGclk k g).Meets F := h.upd
theorem State.Meets.gclkTick (h : s.Meets F) : s.gclkTick.Meets F := .ite (h.each (fun _ _ h1 => h1.setGclk)) h
theorem State.Meets.phaseResetAt {k latency} (h : s.Meets F) : (s.phaseResetAt k latency).Meets F := .ite h.setGclk.setFld h
theorem State.Meets.phaseReset {k} (h : s.Meets F) : (s.phaseReset k).Meets F := h.free.phaseResetAt
theorem State.Meets.syncReset {k} (h : s.Meets F) : (s.syncReset k).Meets F := h.free.phaseResetAt
theorem State.Meets.eventReset {k} (h : s.Meets F) : (s.eventReset k).Meets F := h.free.phaseResetAt
theorem State.Meets.calPhaseReset (h : s.Meets F) : s.calPhaseReset.Meets F := h.each fun _ _ h1 => h1.eventReset
theorem State.Meets.gateGclk (h : s.Meets F) : s.gateGclk.Meets F :=
  meets_sharing (fun h2 => .ite h2 h2.event) (h.each (fun _ _ h1 => h1.setGclk.setFld.setFld))
theorem State.Meets.execGclkDivWrite {k div withReset} (h : s.Meets F) : ResultMeets F (Machine.execGclkDivWrite k div withReset s) :=
  .ite (.next h) (meets_sharing (fun h1 => .next (h.ifFabric (.setReg (.ite h1.setGclk h1)))) (.ite h.phaseReset h))
theorem State.Meets.execSyncInEdge (h : s.Meets F) : ResultMeets F (Machine.execSyncInEdge s) := .next (h.each (fun _ _ h1 => h1.syncReset))
theorem State.Meets.execPhaseReset {k} (h : s.Meets F) : ResultMeets F (Machine.execPhaseReset k s) := .next (.ite (h.ifFabric h.phaseReset) h)
theorem State.Meets.gclkEnable {k on} (h : s.Meets F) : (s.gclkEnable k on).Meets F :=
  .ite h.setFld.phaseReset (.ite h.setFld.setGclk.setFld h.setFld)
theorem State.Meets.execGclkEnable {k on} (h : s.Meets F) : ResultMeets F (Machine.execGclkEnable k on s) :=
  .next (.ite (h.ifFabric h.gclkEnable) h)
theorem State.Meets.gclkUngate {k} (h : s.Meets F) : (s.gclkUngate k).Meets F := .ite h.setFld.phaseReset h
theorem State.Meets.execGclkGatedClear {k} (h : s.Meets F) : ResultMeets F (Machine.execGclkGatedClear k s) :=
  .next (.ite (h.ifFabric h.gclkUngate.irqAgain) h)
theorem State.Meets.setDomain {p b} (h : s.Meets F) : (s.setDomain p b).Meets F := h.setTinder
theorem State.Meets.pllLossEffects {p} (h : s.Meets F) : (s.pllLossEffects p).Meets F :=
  .ite h.gateGclk (.ite h.decodersLost (.ite h.linkLost h))
theorem State.Meets.laserClock {p} (h : s.Meets F) : (s.laserClock p).Meets F := .ite h.laserAll h
theorem State.Meets.pllRestart {p} (h : s.Meets F) : (s.pllRestart p).Meets F :=
  have h2 := h.upd.setFld.setFld.setFld; .setDomain (.ite h2.laserClock.raise.pllLossEffects h2.laserClock)
theorem State.Meets.execPllReacquire {p dither value} (h : s.Meets F) : ResultMeets F (Machine.execPllReacquire p dither value s) :=
  .ite (.next h) (.ite (.next h.logAccess) (.ite (.next h.logRo) (.next h.setReg.pllRestart)))
theorem State.Meets.trainOn (h : s.Meets F) : s.trainOn.Meets F := .ite h.setFld h
theorem State.Meets.execPllLock {p} (h : s.Meets F) : ResultMeets F (Machine.execPllLock p s) :=
  .ite (.next h) (have h1 := h.setFld.setFld.setFld.setFld; meets_sharing (fun h2 => .next (.ite h2.trainOn h2)) (.laserClock (.ite
      h1.setTinder h1)))
theorem State.Meets.pllHoldover {p} (h : s.Meets F) : (s.pllHoldover p).Meets F := h.setFld.setFld.laserClock
theorem State.Meets.execPllUnlock {p refOk} (h : s.Meets F) : ResultMeets F (Machine.execPllUnlock p refOk s) :=
  .ite (.next h.pllHoldover.setFld.raise.pllLossEffects) (.next h)
theorem State.Meets.execXtalLost (h : s.Meets F) : ResultMeets F (Machine.execXtalLost s) :=
  .ite (.next h) (.next (.gateGclk (.raise (h.setTinder.each (fun _ _ h2 => h2.pllHoldover.setFld)))))
theorem State.Meets.synRange {k} (h : s.Meets F) : (s.synRange k).Meets F :=
  .ite (.ite h.setSyn.setFld h) (.ite h (have h1 := h.setSyn.setFld; .ite h1 h1.event))
theorem State.Meets.synCount {k good} (h : s.Meets F) : (s.synCount k good).Meets F :=
  .ite (.ite h.setFld.setFld.event h.setFld) h.setFld
theorem State.Meets.synReacquire {k} (h : s.Meets F) : (s.synReacquire k).Meets F :=
  have h2 := h.setSyn.setFld.setFld.setFld.setFld; .ite h2.setFld h2.setFld.event
theorem State.Meets.synUnlock {k} (h : s.Meets F) : (s.synUnlock k).Meets F :=
  .ite h.event.setFld.setFld.setFld.setSyn.event h.event.synReacquire
theorem State.Meets.synEdge {k t} (h : s.Meets F) : PairMeets F (s.synEdge k t) :=
  .ite h (.ite (.ite h (have h1 := h.setSyn.setFld; .ite (.mk h1.setFld.setFld.setFld.setFld.event) h1)) (.ite (meets_sharing (fun h4 =>
      .mk (.synCount (.ite h4.synRange h4))) (.ite h.setSyn.setFld h.setSyn)) (.ite h (.ite (.ite (.mk h.setFld.setSyn.synUnlock)
      (.mk h.setFld.synUnlock)) (.mk h.setFld.free.setSyn.synRange.synCount)))))
theorem State.Meets.synMissed {k} (h : s.Meets F) : PairMeets F (s.synMissed k) :=
  .ite h (.ite (.mk h.setSyn) (.ite (.mk h.synUnlock) (.ite (.mk h.synReacquire) h)))
theorem State.Meets.synPredicted {k} (h : s.Meets F) : PairMeets F (s.synPredicted k) := .ite h (.mk h.setFld.setSyn)

/-! ## Motion -/

theorem State.Meets.axisSettle (h : s.Meets F) : s.axisSettle.Meets F := h.runOutCheck.recheckReady
theorem State.Meets.regen {a} (h : s.Meets F) : (s.regen a).Meets F := have h1 := h.setFld.setFld; .ite h1.event h1
theorem State.Meets.ramp {ref acc goal up down jerk dt longer} (h : s.Meets F) : PairMeets F (s.ramp ref acc goal up down jerk dt
    longer) :=
  .ite h (.mk (PairMeets.snd (.ite h (.ite h (.mk h.free)))))
theorem State.Meets.stopEnds {a} (h : s.Meets F) : (s.stopEnds a).Meets F :=
  meets_sharing (fun h2 => .event (.ite h2.setAxPhase h2.bridgesOff.setAxPhase)) (.ite h (.event (.ite h.setAxis h.setFld)))
theorem State.Meets.disableEnds {a} (h : s.Meets F) : (s.disableEnds a).Meets F := h.setFld.bridgesOff.event
theorem State.Meets.limitCheck {a dt} (h : s.Meets F) : (s.limitCheck a dt).Meets F :=
  .ite h (meets_sharing (fun h1 => .ite h1.setFld h1) (.ite h.setAxis.setAxPhase.setAtSpeed h))
theorem State.Meets.phaseStep {a} (h : s.Meets F) : (s.phaseStep a).Meets F :=
  .ite (.ite h.stopEnds h) (.ite (.ite h.disableEnds h) (.ite (.ite h.setAxis h) (.ite (.ite h.setAxPhase.event h) (.ite (.ite
      (.ite h.setAxPhase.setAtSpeed.event h) (.ite h.setAxPhase h)) h))))
theorem State.Meets.speedLoop {a} (h : s.Meets F) : (s.speedLoop a).Meets F :=
  .ite (have h3 := h.limitCheck.ramp.setAxis; .regen (.phaseStep (.ite h3 h3.choose.setReg.setPair))) h.limitCheck.regen
theorem State.Meets.execFocCurrentUpdate {a speed pos id iq} (h : s.Meets F) : ResultMeets F (Machine.execFocCurrentUpdate a speed pos id iq
    s) :=
  .ite (.next h) (meets_sharing (fun h3 => meets_sharing (fun h5 => .next (.axisSettle (.ite h5.setAtSpeed h5))) (.ite h3.setAxis.speedLoop
      h3.setAxis)) (.ite h.encoderMotion.setAxis.setReg.setPair.setFld.setFld (.ite h.setReg.setPair.setFld.setFld h)))
theorem State.Meets.execAtSpeed {a} (h : s.Meets F) : ResultMeets F (Machine.execAtSpeed a s) := .ite (.next h.setAtSpeed.event) (.next h)
theorem State.Meets.axisEnable {a v} (h : s.Meets F) : (s.axisEnable a v).Meets F :=
  .ite (.ite h (.ite h.setFld.setFld.setAxPhase (.ite h.setFld.setFld.setAxPhase.setRefused h.setFld.setRefused))) (.ite h (.ite
      h.setFld.setFld.setAtSpeed.setAxis.setAxPhase h.disableEnds))
theorem State.Meets.execAxisEnable {a} (h : s.Meets F) : ResultMeets F (Machine.execAxisEnable a s) :=
  .ite (.next h.axisEnable.recheckReady) (.next h)
theorem State.Meets.execAxisDisable {a} (h : s.Meets F) : ResultMeets F (Machine.execAxisDisable a s) :=
  .ite (.next h.axisEnable.axisSettle) (.next h)
theorem State.Meets.execAxisStart {a} (h : s.Meets F) : ResultMeets F (Machine.execAxisStart a s) :=
  .ite (.next h.startAxis.axisSettle) (.next h)
theorem State.Meets.execStartNEdge (h : s.Meets F) : ResultMeets F (Machine.execStartNEdge s) := .next h.startAxes.axisSettle
theorem State.Meets.execAxisStop {a} (h : s.Meets F) : ResultMeets F (Machine.execAxisStop a s) := .ite (.next h.stopAxis.axisSettle) (.next h)
theorem State.Meets.axisFault {a bitNo forced} (h : s.Meets F) : (s.axisFault a bitNo forced).Meets F := h.bridgesOff.raise.axisSettle
theorem State.Meets.feedbackLost {n} (h : s.Meets F) : (s.feedbackLost n).Meets F := h.each fun _ _ h1 => h1.axisFault
theorem State.Meets.execOvercurrent {a} (h : s.Meets F) : ResultMeets F (Machine.execOvercurrent a s) := .ite (.next h.axisFault) (.next h)
theorem State.Meets.execStartTimeout {a} (h : s.Meets F) : ResultMeets F (Machine.execStartTimeout a s) := .ite (.next h.axisFault) (.next h)
theorem State.Meets.alignBegins {a} (h : s.Meets F) : (s.alignBegins a).Meets F := h.setAxis.setAxPhase
theorem State.Meets.execProbePulseEnd {a speed angle} (h : s.Meets F) : ResultMeets F (Machine.execProbePulseEnd a speed angle s) :=
  .ite (.next h) (.ite (.next h.setAxis) (meets_sharing (fun h3 => .next (.axisSettle (.ite h3.setAxis.alignBegins (.ite h3.setAxis (.ite
      h3.setAxis.setAxis (.ite h3.setAxis.setAxis.setAxPhase.event h3.setAxis.setAxis.setAxPhase)))))) (.setFld (.bump (.setFld
      (PairMeets.snd (.ite h (.mk h.choose))))))))
theorem State.Meets.execProbeRepeat {a} (h : s.Meets F) : ResultMeets F (Machine.execProbeRepeat a s) := .ite (.next h.setAxis) (.next h)
theorem State.Meets.execAlignPulseEnd {a peak len} (h : s.Meets F) : ResultMeets F (Machine.execAlignPulseEnd a peak len s) := by
  unfold Machine.execAlignPulseEnd
  dsimp only
  refine .ite (.next h) (.ite ?_ (.ite (.next h.setAxis) ?_))
  · split
    · exact .next h.setAxis
    · split
      · exact .next h.setAxis
      · split
        · exact .next h.choose.setAxis
        · exact .next h.setAxis
  · split
    · exact .next h.setAxis.setAxPhase
    · split
      · exact .next h.choose.setAxis.setAxPhase
      · exact .next h.setAxis.setAxPhase
theorem State.Meets.brakeEval {b} (h : s.Meets F) : (s.brakeEval b).Meets F := .ite h (.event (.setFld (.ite h.setBus h)))
theorem State.Meets.chopFail {b forced} (h : s.Meets F) : (s.chopFail b forced).Meets F := h.setFld.raise.each fun _ _ h2 => h2.regen
theorem State.Meets.busTrip {b forced} (h : s.Meets F) : (s.busTrip b forced).Meets F :=
  .axisSettle (.raise (h.each (fun _ _ h1 => h1.bridgesOff)))
theorem State.Meets.execBusVoltageSample {b code} (h : s.Meets F) : ResultMeets F (Machine.execBusVoltageSample b code s) := by
  unfold Machine.execBusVoltageSample
  refine .ite (.next h) ?_
  extract_lets v
  split
  next e =>
    exact meets_sharing (fun h4 => .ite (.next h4.busTrip) (.ite (.next h4.chopFail.axisSettle) (.next h4)))
      ((h.divFree.at e).setBus.setFld.brakeEval.each fun _ _ h => h.regen)
theorem State.Meets.stall {k forced} (h : s.Meets F) : (s.stall k forced).Meets F :=
  .axisSettle (.raise (.ite h h.setAxis.setReg.setAtSpeed.setAxPhase))
theorem State.Meets.execStepperFullStep {k theta} (h : s.Meets F) : ResultMeets F (Machine.execStepperFullStep k theta s) :=
  .ite (.next h) (meets_sharing (fun h4 => .ite (meets_sharing (fun h9 => .next (.ite h9.event h9)) (.setFld (.setFld (.setAxis (PairMeets.snd
      (.ite (.mk (PairMeets.snd (.ite h4.choose h4))) (.ite (.mk (.free (PairMeets.snd (.ite h4.choose h4)))) (.divFreeInt
      (PairMeets.snd (.ite h4.choose h4)))))))))) (.ite (.next h4.stall) (.next h4))) (.ite (.setFld (PairMeets.snd (.ite (.mk
      h.free) (.ite h (.mk h.choose))))) h))

/-! ## Engine -/

theorem State.Meets.refuseRun (h : s.Meets F) : s.refuseRun.Meets F := h.upd
theorem State.Meets.runRequest (h : s.Meets F) : s.runRequest.Meets F :=
  .ite (.ite h.refuseRun h) (.ite (.ite h.upd.enter.startAxes.upd h.upd.enter.startAxes) h.refuseRun)
theorem State.Meets.bankRequest (h : s.Meets F) : s.bankRequest.Meets F := .ite h.enterBanked (.ite h.upd h)
theorem State.Meets.stopRequest (h : s.Meets F) : s.stopRequest.Meets F := .ite h.upd h
theorem State.Meets.clearRequest (h : s.Meets F) : s.clearRequest.Meets F := .ite h.enterBanked h
theorem State.Meets.request {v} (h : s.Meets F) : (s.request v).Meets F :=
  meets_sharing (fun h1 => meets_sharing (fun h2 => meets_sharing (fun h3 => .ite h3.runRequest h3) (.ite h2.clearRequest h2)) (.ite h1.stopRequest
      h1)) (.ite h.bankRequest h)
theorem State.Meets.execRun (h : s.Meets F) : ResultMeets F (Machine.execRun s) := .next h.runRequest
theorem State.Meets.execBank (h : s.Meets F) : ResultMeets F (Machine.execBank s) := .next h.bankRequest
theorem State.Meets.execStop (h : s.Meets F) : ResultMeets F (Machine.execStop s) := .next h.stopRequest
theorem State.Meets.execClear (h : s.Meets F) : ResultMeets F (Machine.execClear s) := .next h.clearRequest
theorem State.Meets.execEngineReady (h : s.Meets F) : ResultMeets F (Machine.execEngineReady s) := .ite (.next h.enter) (.next h)

/-! ## Codec -/

theorem State.Meets.setDecState {k v} (h : s.Meets F) : (s.setDecState k v).Meets F := h.setFld
theorem State.Meets.pushRun {k r} (h : s.Meets F) : (s.pushRun k r).Meets F := .ite h.setFld h.setDecoder
theorem State.Meets.execRunPush {k} (h : s.Meets F) : ResultMeets F (Machine.execRunPush k s) := .ite (.next h) (.next h.pushRun)
theorem State.Meets.endRun {k r} (h : s.Meets F) : (s.endRun k r).Meets F :=
  meets_sharing (fun h3 => .ite h3.event h3) (.ite h.setFld.setDecoder.setDecState h.setFld.setDecoder.setDecState)
theorem State.Meets.blockFault {k r entry kind forced} (h : s.Meets F) : (s.blockFault k r entry kind forced).Meets F :=
  h.setFld.setFld.setFld.raise.spoilPage
theorem State.Meets.releaseLines {k page first l} (h : s.Meets F) : (s.releaseLines k page first l).Meets F := by
  unfold State.releaseLines
  dsimp only
  split
  · exact h
  · exact h.setGv.bump
theorem State.Meets.nextEntry {k r} (h : s.Meets F) : (s.nextEntry k r).Meets F := .ite h.endRun h.setDecoder.setDecState
theorem State.Meets.unforce {k} (h : s.Meets F) : (s.unforce k).Meets F := h.setDecoder
theorem State.Meets.execDecodeBlockStart {k} (h : s.Meets F) : ResultMeets F (Machine.execDecodeBlockStart k s) := by
  unfold Machine.execDecodeBlockStart
  dsimp only
  refine .ite (.next h) ?_
  split
  · next t e =>
    have ht : t.Meets F := by split at e <;> cases e; exact h
    exact .next ht
  · next t r e =>
    have ht : t.Meets F := by split at e <;> cases e; exacts [h, h.setDecoder]
    split
    · exact .next ht.blockFault.endRun
    · refine .ite (.next ht.unforce.blockFault.nextEntry) (.ite (.next ht.blockFault.endRun) (.ite (.next
        ht.unforce.blockFault.nextEntry) ?_))
      split
      · exact .next ht.setDecState
      · exact .ite (.next ht.setDecState) (.next (.setDecState (.ite ht.setDecoder.setFld ht.setDecoder)))
theorem State.Meets.execDecodeBlockEnd {k} (h : s.Meets F) : ResultMeets F (Machine.execDecodeBlockEnd k s) := by
  unfold Machine.execDecodeBlockEnd
  dsimp only
  split
  · refine .ite (.next h) ?_
    split
    · exact .next h.blockFault.endRun
    · split
      · exact .next h.unforce.releaseLines.setFld.blockFault.bump.nextEntry
      · exact .ite (.next h.unforce.releaseLines.setFld.blockFault.bump.nextEntry) (have h9 := h.unforce.releaseLines; .next
          (.nextEntry (.bump (.ite h9.setFld.bump.event.markPage h9.setFld))))
  · exact .next h
theorem State.Meets.decGate {k} (h : s.Meets F) : (s.decGate k).Meets F := .ite h.setDecState (.ite h h.setDecState)
theorem State.Meets.codecGate (h : s.Meets F) : s.codecGate.Meets F := h.each fun _ _ h1 => h1.decGate
theorem State.Meets.decEnable {k v} (h : s.Meets F) : (s.decEnable k v).Meets F := h.setFld.decGate
theorem State.Meets.decFlush {k} (h : s.Meets F) : (s.decFlush k).Meets F := .ite h.setDecoder h.setFld
theorem State.Meets.execDecoderDisable {k} (h : s.Meets F) : ResultMeets F (Machine.execDecoderDisable k s) :=
  .ite (.next h.decEnable) (.next h)
theorem State.Meets.execDecoderFlush {k} (h : s.Meets F) : ResultMeets F (Machine.execDecoderFlush k s) := .ite (.next h.decFlush) (.next h)
theorem State.Meets.freeBytes {n} (h : s.Meets F) : PairMeets F (s.freeBytes n) := .mk h.upd
theorem State.Meets.encStart {k j} (h : s.Meets F) : (s.encStart k j).Meets F := h.upd.setFld.hold.hold
theorem State.Meets.encSpoil {hh} (h : s.Meets F) : (s.encSpoil hh).Meets F := by
  unfold State.encSpoil
  refine .ite ?_ h
  split
  · exact h.freeBytes.objWrite
  · exact h
theorem State.Meets.encFault {k kind j forced} (h : s.Meets F) : (s.encFault k kind j forced).Meets F :=
  .raise (.event (.setFld (.setFld (.ite h.encSpoil.drop.drop h.encSpoil))))
theorem State.Meets.encGo {k} (h : s.Meets F) : (s.encGo k).Meets F :=
  .ite h.setFld (.ite h (have h1 := h.setFld.setFld.setFld; .ite h1.encStart h1.encFault))
theorem State.Meets.execEncoderGo {k} (h : s.Meets F) : ResultMeets F (Machine.execEncoderGo k s) := .ite (.next h.encGo) (.next h)
theorem State.Meets.encDone {k j l} (h : s.Meets F) : (s.encDone k j l).Meets F := h.objWrite.drop.drop.setFld.setFld.setFld.event
theorem State.Meets.encEnd {k} (h : s.Meets F) : (s.encEnd k).Meets F := by
  unfold State.encEnd
  dsimp only
  split
  · exact h.encFault
  · exact .ite h.encFault h.encDone

/-! ## CoreCtl -/

theorem State.Meets.takeGaugeFault {n} (h : s.Meets F) : (s.takeGaugeFault n).Meets F := h.leaveWait.enterHandler
theorem State.Meets.execGaugeFaultException {core} (h : s.Meets F) : ResultMeets F (Machine.execGaugeFaultException core s) :=
  .next (.ite h.takeGaugeFault h)
theorem State.Meets.execBreakpointHit {core} (h : s.Meets F) : ResultMeets F (Machine.execBreakpointHit core s) := .next (.ite h.haltCore h)
theorem State.Meets.runCore {n} (h : s.Meets F) : (s.runCore n).Meets F := .ite h.setCore h
theorem State.Meets.execCoreRun {core} (h : s.Meets F) : ResultMeets F (Machine.execCoreRun core s) := .next h.runCore
theorem State.Meets.haltRequest {n} (h : s.Meets F) : (s.haltRequest n).Meets F := .ite h.leaveWait.setCore h
theorem State.Meets.execCoreHaltReq {core} (h : s.Meets F) : ResultMeets F (Machine.execCoreHaltReq core s) := .next h.haltRequest
theorem State.Meets.clearCalendar {n} (h : s.Meets F) : (s.clearCalendar n).Meets F := h.upd
theorem State.Meets.reinitCore {n} (h : s.Meets F) : (s.reinitCore n).Meets F := .ite h.clearCalendar.setCore.setFld.setFld h
theorem State.Meets.execDebugRegisterWrite {core value} (h : s.Meets F) : ResultMeets F (Machine.execDebugRegisterWrite core value s) :=
  .ite (.next h) (.next (.ite h.logRo (.ite h.setG (.ite h.setP (.ite h.crPut h.logRo)))))
theorem State.Meets.execDebugRegisterRead {core} (h : s.Meets F) : ResultMeets F (Machine.execDebugRegisterRead core s) :=
  .ite (.next h) (.ite (.next h.answer) (.next h.setReg.answer))

/-! ## Gauge -/

theorem State.Meets.markCrossed {n v0 v1} (h : s.Meets F) : (s.markCrossed n v0 v1).Meets F := h.upd
theorem State.Meets.jumpGauge {n v} (h : s.Meets F) : (s.jumpGauge n v).Meets F := h.setGauge
theorem State.Meets.moveOne {n v} (h : s.Meets F) : (s.moveOne n v).Meets F := h.markCrossed.setGauge
theorem State.Meets.moveGauge {n v} (h : s.Meets F) : (s.moveGauge n v).Meets F := by
  unfold State.moveGauge
  dsimp only
  refine .ite h (h.moveOne.each (fun _ _ h2 => ?_))
  split
  · exact h2.moveOne
  · exact h2
theorem State.Meets.syncGauge {n} (h : s.Meets F) : (s.syncGauge n).Meets F := .ite h h.setGauge.moveGauge
theorem State.Meets.presetGauge {n v} (h : s.Meets F) : (s.presetGauge n v).Meets F := by
  unfold State.presetGauge
  dsimp only
  refine h.jumpGauge.each fun _ _ h2 => ?_
  split
  · exact h2.moveOne
  · exact h2
theorem State.Meets.holdGauge {n} (h : s.Meets F) : (s.holdGauge n).Meets F := h.setFld
theorem State.Meets.faultOwners {n} (h : s.Meets F) : (s.faultOwners n).Meets F := h.each fun _ _ h1 => .ite h1.setCore h1
theorem State.Meets.faultOne {n kind forced} (h : s.Meets F) : (s.faultOne n kind forced).Meets F := by
  unfold State.faultOne
  dsimp only
  split
  · exact h
  · exact have h3 := h.setFld.holdGauge.faultOwners.raise.feedbackLost; .ite h3.mainsLost h3
theorem State.Meets.gaugeFault {n kind forced} (h : s.Meets F) : (s.gaugeFault n kind forced).Meets F :=
  h.faultOne.each fun _ _ h2 => h2.faultOne
theorem State.Meets.gaugeEvents {t1} (h : s.Meets F) : (s.gaugeEvents t1).Meets F :=
  meets_sharing (fun h1 => meets_sharing (fun h2 => .ite h2.event h2) (.ite h1.event h1)) (.ite h.event h)
theorem State.Meets.stillNow {n} (h : s.Meets F) : (s.stillNow n).Meets F := .ite (.ite h.setFld.moveGauge h.setFld) h
theorem State.Meets.countEdge {n good} (h : s.Meets F) : (s.countEdge n good).Meets F :=
  .ite (.ite h.setFld.setFld.event h.setFld) (.ite h.setFld.setFld.event h.setFld)
theorem State.Meets.loopEdge {n err rate} (h : s.Meets F) : (s.loopEdge n err rate).Meets F :=
  .ite h.setFld h.setGauge.countEdge.setFld.setFld
theorem State.Meets.stepGauge {n d} (h : s.Meets F) : (s.stepGauge n d).Meets F := h.setGauge.moveGauge
theorem State.Meets.markHigh {n} (h : s.Meets F) : (s.markHigh n).Meets F := h.setGauge
theorem State.Meets.dirExpect {n v} (h : s.Meets F) : (s.dirExpect n v).Meets F := .ite h.setFld h.setFld.markHigh
theorem State.Meets.checkReversal {n} (h : s.Meets F) : (s.checkReversal n).Meets F := .ite h (.ite h.markHigh (.ite h.gaugeFault h))
theorem State.Meets.execEncoderEdge {n a b err rate} (h : s.Meets F) : ResultMeets F (Machine.execEncoderEdge n a b err rate s) :=
  .ite (.next h) (.ite (.next h.setGauge) (.ite (.next h) (.ite (.next h.setGauge.gaugeFault) (.next
      (h.setGauge.setFld.loopEdge.stepGauge.checkReversal.recheckReady.gaugeEvents)))))
theorem State.Meets.execIndexEdge {n} (h : s.Meets F) : ResultMeets F (Machine.execIndexEdge n s) :=
  .ite (.next h) (.ite (.next h.setFld) (have h1 := h.setFld.setGauge; meets_sharing (fun h2 => .next (.ite h2.presetGauge.setFld h2))
      (.ite h1.gaugeFault h1)))
theorem State.Meets.setBall {p level} (h : s.Meets F) : (s.setBall p level).Meets F := h.upd
theorem State.Meets.execAuxEdge {n err rate} (h : s.Meets F) : ResultMeets F (Machine.execAuxEdge n err rate s) :=
  .ite (.next h) (.ite (.next h.setBall) (.next (h.setBall.loopEdge.stepGauge.recheckReady.gaugeEvents)))
theorem State.Meets.execZcEdge {n rising err rate} (h : s.Meets F) : ResultMeets F (Machine.execZcEdge n rising err rate s) :=
  .ite (.next h) (have h1 := h.loopEdge.stepGauge; .next (.gaugeEvents (.recheckReady (.ite h1.setGauge.gaugeFault h1.setGauge))))
theorem State.Meets.execGaugeCoastStart {n} (h : s.Meets F) : ResultMeets F (Machine.execGaugeCoastStart n s) :=
  .ite (.next h) (.next (h.setFld.event.gaugeEvents))
theorem State.Meets.execSignalLost {n} (h : s.Meets F) : ResultMeets F (Machine.execSignalLost n s) := by
  unfold Machine.execSignalLost
  dsimp only
  refine .ite (.next h) (.next (.gaugeEvents (.recheckReady (.gaugeFault (h.setFld.setFld.countEdge.setGauge.stillNow.each (fun _ _
      h3 => ?_))))))
  split
  · exact h3.jumpGauge
  · exact h3
theorem State.Meets.execRemoteStamp {k pos rate locked} (h : s.Meets F) : ResultMeets F (Machine.execRemoteStamp k pos rate locked s) :=
  .ite (.next h) (.next (h.setFld.setFld.setGauge.moveGauge.gaugeEvents))
theorem State.Meets.execRemoteLost {k} (h : s.Meets F) : ResultMeets F (Machine.execRemoteLost k s) :=
  .ite (.next h) (.next (h.setGauge.setFld.gaugeFault.gaugeEvents))
theorem State.Meets.execRgSrcWrite {k value crossing lat} (h : s.Meets F) : ResultMeets F (Machine.execRgSrcWrite k value crossing lat s) :=
  .ite (.next h) (.ite (.next h.setFld) (.next h.setReg.setFld))
theorem State.Meets.execPreset {n} (h : s.Meets F) : ResultMeets F (Machine.execPreset n s) :=
  .ite (.next h) (.ite (.next h.setFld.setFld) (.next h.setFld.presetGauge))
theorem State.Meets.commitVirtual {k} (h : s.Meets F) : PairMeets F (s.commitVirtual k) := .ite (.mk h.setFld) (.mk h.upd.jumpGauge)
theorem State.Meets.vgCommit {k} (h : s.Meets F) : PairMeets F (s.vgCommit k) := .mk (h.commitVirtual.recheckReady.gaugeEvents)
theorem State.Meets.execVgCommit {k} (h : s.Meets F) : ResultMeets F (Machine.execVgCommit k s) := .ite (.next h) (.next h.vgCommit)
theorem State.Meets.takeEntry {e owner action arg gauge dir pos discard requested} (h : s.Meets F) : (s.takeEntry e owner action arg
    gauge dir pos discard requested).Meets F :=
  h.upd.setEntry
theorem State.Meets.acceptEntry {e x} (h : s.Meets F) : (s.acceptEntry e x).Meets F := h.upd.setEntry
theorem State.Meets.gaugeStart {n} (h : s.Meets F) : (s.gaugeStart n).Meets F := by
  unfold State.gaugeStart
  dsimp only
  refine .ite ?_ h.setGauge.stillNow
  split
  · exact h.setGauge.moveOne
  · exact h.setGauge
theorem State.Meets.gaugeEnable {n on} (h : s.Meets F) : (s.gaugeEnable n on).Meets F :=
  .ite h (.ite (h.setFld.gaugeStart.gaugeEvents) (.ite (have h2 := h.setFld.setFld.setFld.setFld; meets_sharing (fun h3 => .gaugeEvents
      (.recheckReady (.ite h3.holdGauge h3))) (.ite h2.event h2)) h.setFld))
theorem State.Meets.execCaptureEdge {k rising} (h : s.Meets F) : ResultMeets F (Machine.execCaptureEdge k rising s) :=
  meets_sharing (fun h1 => .ite (.next h) (.ite (.next h1) (meets_sharing (fun h2 => .next (.ite h2.upd.event.deliver h2.upd.event)) (.ite
      h1.setFld h1)))) (.ite h.setBall h)
theorem State.Meets.execCapPosHiRead {k} (h : s.Meets F) : ResultMeets F (Machine.execCapPosHiRead k s) :=
  .ite (.next h.answer) (.next h.upd.answer)

/-! ## Fid -/

theorem State.Meets.setFid {k x} (h : s.Meets F) : (s.setFid k x).Meets F := h.upd
theorem State.Meets.fidRestart {k} (h : s.Meets F) : (s.fidRestart k).Meets F := h.setFid.setFld.setFld
theorem State.Meets.fidInterval {k n dt} (h : s.Meets F) : (s.fidInterval k n dt).Meets F := .ite h (.ite h (.ite h.setFid h.setFid))
theorem State.Meets.fidBreak {k} (h : s.Meets F) : (s.fidBreak k).Meets F := h.setFid
theorem State.Meets.execFacetIdRunEnd {k} (h : s.Meets F) : ResultMeets F (Machine.execFacetIdRunEnd k s) :=
  .ite (.next h) (.ite (.next h.setFid.setFld.setFld.event) (.ite (.next h.setFid.setFld) (.next h.raise)))
theorem State.Meets.execAssume {k} (h : s.Meets F) : ResultMeets F (Machine.execAssume k s) :=
  .ite (.next h) (.next h.setFid.setFld.setFld.event)
theorem State.Meets.execRestart {k} (h : s.Meets F) : ResultMeets F (Machine.execRestart k s) :=
  .ite (.next h) (.next h.fidRestart.recheckReady)

/-! ## GraverOps -/

theorem State.Meets.sendCtrl {k x} (h : s.Meets F) : (s.sendCtrl k x).Meets F := h.setGv.send.setFld
theorem State.Meets.drainCtrl {k} (h : s.Meets F) : (s.drainCtrl k).Meets F :=
  .ite h (meets_sharing (fun h3 => .ite h3.setFld.setFld h3.setFld) (h.setGv.foldl (fun _ _ h2 => h2.sendCtrl)))
theorem State.Meets.setFrames {k l} (h : s.Meets F) : (s.setFrames k l).Meets F := h.setGv
theorem State.Meets.markAll {k l m} (h : s.Meets F) : (s.markAll k l m).Meets F := h.each fun _ _ h1 => h1.markPage
theorem State.Meets.spoilAll {k l c detail} (h : s.Meets F) : (s.spoilAll k l c detail).Meets F := h.each fun _ _ h1 => h1.spoilPage

/-! ## Graver -/

theorem State.Meets.switchBank {k} (h : s.Meets F) : (s.switchBank k).Meets F :=
  .ite h (have h1 := h.setFld.setFld.event; .ite h1.setGv h1)
theorem State.Meets.feedForward {k b n} (h : s.Meets F) : (s.feedForward k b n).Meets F := .ite h.setSyn.setFld.event h.setSyn
theorem State.Meets.lineSlip {k pages} (h : s.Meets F) : (s.lineSlip k pages).Meets F := h.bump.raise.markAll
theorem State.Meets.windowStats {k w} (h : s.Meets F) : (s.windowStats k w).Meets F := by
  unfold State.windowStats
  extract_lets l r
  split
  next e => exact (h.divFree.at e).setGv.setFld.setFld.setFld
theorem State.Meets.checkSubs {k a} (h : s.Meets F) : (s.checkSubs k a).Meets F := by
  unfold State.checkSubs
  dsimp only
  split
  · exact h.setGv
  · exact .ite h.setGv h.setGv.raise.markAll
theorem State.Meets.setNext {k n} (h : s.Meets F) : (s.setNext k n).Meets F := h.setGv.setPair
theorem State.Meets.blankFrame {k} (h : s.Meets F) : (s.blankFrame k).Meets F := h.setGv.setFld.setFld.setFld
theorem State.Meets.decideWindow {k x t} (h : s.Meets F) : (s.decideWindow k x t).Meets F := by
  unfold State.decideWindow
  dsimp only
  refine .ite (.ite h.stopScan h) (.ite h.switchBank.blankFrame (meets_sharing (fun h6 => meets_sharing (fun h7 => meets_sharing (fun h11 =>
      .windowStats (.ite h11 h11.setFld)) (.setFld (.setFld (.setFld (.ite h7.setGv.setNext.lineSlip h7.setGv.setNext))))) (.ite
      h6.setFld h6.checkSubs)) ?_))
  split
  · refine .ite ?_ h.switchBank.divFreeInt.setFld
    split
    · exact h.switchBank.divFreeInt.setFld.lineSlip
    · exact h.switchBank.divFreeInt.setFld.lineSlip
  · exact h.switchBank
theorem State.Meets.takeSync {k t x real} (h : s.Meets F) : (s.takeSync k t x real).Meets F :=
  meets_sharing (fun h1 => .decideWindow (.setSyn (.feedForward (.ite h1.setGv.syncGauge.setFld.setFrames h1.setGv.syncGauge.setFld))))
      (.ite (.ite h.fidInterval h.fidBreak) h)
theorem State.Meets.syncLost {k} (h : s.Meets F) : (s.syncLost k).Meets F := h.fidRestart.stopScan.recheckReady
theorem State.Meets.coastEnds {k} (h : s.Meets F) : (s.coastEnds k).Meets F := .ite h.synReacquire.syncLost h
theorem State.Meets.coastExpire {k forced} (h : s.Meets F) : (s.coastExpire k forced).Meets F :=
  h.raise.laserEval.setGv.setFld.synReacquire.syncLost
theorem State.Meets.execBdEdge {k t x} (h : s.Meets F) : ResultMeets F (Machine.execBdEdge k t x s) := by
  unfold Machine.execBdEdge
  refine .ite (.next h) ?_
  split
  · next e1 =>
      exact .next (h.coastEnds.synEdge.at e1)
  · next e1 =>
      exact .next ((h.coastEnds.synEdge.at e1).syncLost.gaugeEvents)
  · next e1 =>
      exact .next ((h.coastEnds.synEdge.at e1).takeSync.recheckReady.gaugeEvents)
theorem State.Meets.execBdWindowMissed {k} (h : s.Meets F) : ResultMeets F (Machine.execBdWindowMissed k s) :=
  .ite (.next h) (have h2 := h.coastEnds.synMissed.setFld; .next (.gaugeEvents (.ite h2.syncLost h2.recheckReady)))
theorem State.Meets.execPredictedSyncEvent {k x} (h : s.Meets F) : ResultMeets F (Machine.execPredictedSyncEvent k x s) :=
  .ite (.next h) (.ite (.next h.coastEnds) (.ite (.next (h.synPredicted.coastExpire.gaugeEvents)) (.next
      h.synPredicted.takeSync)))
theorem State.Meets.execBdGateOpen {k} (h : s.Meets F) : ResultMeets F (Machine.execBdGateOpen k s) := .ite (.next h.setFld) (.next h)
theorem State.Meets.pageMissed {k i} (h : s.Meets F) : (s.pageMissed k i).Meets F := h.event.pullPage.abandonPage.pageSettle
theorem State.Meets.gaugeLost {k} (h : s.Meets F) : (s.gaugeLost k).Meets F := .ite h h.raise.spoilAll
theorem State.Meets.underruns {k f l} (h : s.Meets F) : (s.underruns k f l).1.Meets F := by
  unfold State.underruns; dsimp only; split
  · exact h
  · exact h.bump.raise.spoilAll
theorem State.Meets.forcedFaults {k scan pages} (h : s.Meets F) : (s.forcedFaults k scan pages).Meets F :=
  .ite h (h.setGv.each (fun _ _ h2 => .laserEval (.ite h2.raise.spoilAll (.ite h2.raise.spoilAll (.ite h2.raise.markAll (.ite
      h2.raise.markAll (.ite h2.raise.spoilAll (.ite h2.raise.spoilAll.setFrames h2.raise))))))))
theorem State.Meets.plateErrors {k scan met forced} (h : s.Meets F) : (s.plateErrors k scan met forced).Meets F :=
  .ite h h.setFrames.raise.spoilAll
theorem State.Meets.execFrameSendStart {k ce bad} (h : s.Meets F) : ResultMeets F (Machine.execFrameSendStart k ce bad s) := by
  unfold Machine.execFrameSendStart
  refine .ite (.next h) ?_
  split
  · exact .next h
  · extract_lets s1 f nf wb src s2 s3 es first commits missed carried s4
    have h4 : s4.Meets F := .each (.ite h.drainCtrl.setGv.setPair.gaugeLost h.drainCtrl.setGv.setPair) fun _ _ h => h.pageMissed
    have h5 : (if f.blank then (s4, []) else s4.underruns k f carried).1.Meets F := by split; exacts [h4, h4.underruns]
    generalize (if f.blank then (s4, []) else s4.underruns k f carried) = p at h5 ⊢
    obtain ⟨s5, holes⟩ := p
    exact meets_sharing (fun h7 => meets_sharing (fun h8 => meets_sharing (fun h9 => .next (.forcedFaults (.bump (.plateErrors (.ite
        h9.setGv.plateErrors h9)))))
      (.ite h8.raise.markAll h8)) (.ite h7.markAll h7)) (.ite h5.setFrames.markAll h5.setFrames)
theorem State.Meets.setClamp {k e b} (h : s.Meets F) : (s.setClamp k e b).Meets F := .setFld (.ite h.setFbit h.setFbit)
theorem State.Meets.clampBegins {k} (h : s.Meets F) : (s.clampBegins k).Meets F := h.event.raise
theorem State.Meets.judgeDuty {k boundary} (h : s.Meets F) : (s.judgeDuty k boundary).Meets F :=
  h.each (fun _ _ h1 => .ite h1.setClamp.clampBegins (.ite h1.setClamp.event h1))
theorem State.Meets.judgeEnergy {k} (h : s.Meets F) : (s.judgeEnergy k).Meets F := by
  unfold State.judgeEnergy
  extract_lets total unit lim was
  split
  next e =>
    have h1 := h.divFree.at e
    exact .ite h1.setFld.setFld.clampBegins (.ite h1.setFld.setFld.event h1.setFld)
theorem State.Meets.execFrameComplete {k} (h : s.Meets F) : ResultMeets F (Machine.execFrameComplete k s) := by
  unfold Machine.execFrameComplete
  dsimp only
  refine .ite (.next h) ?_
  split
  · exact .next h
  · exact have h4 := h.setGv.send.judgeDuty.judgeEnergy; .next (.ite h4.setGv h4)
theorem State.Meets.commitPage {k i} (h : s.Meets F) : (s.commitPage k i).Meets F :=
  .ite (.holdP1 (h.mapPg.event.each (fun _ _ h2 => .ite h2.setQueue h2))) h
theorem State.Meets.pageDone {k i} (h : s.Meets F) : (s.pageDone k i).Meets F := h.setQueue.event.mapPg
theorem State.Meets.execScanStart {k} (h : s.Meets F) : ResultMeets F (Machine.execScanStart k s) := by
  unfold Machine.execScanStart
  dsimp only
  refine .ite (.next h) ?_
  split
  · exact .next h
  · exact .ite (.next h) (meets_sharing (fun h3 => meets_sharing (fun h6 => .next (.each (.setGv (.ite h6.markAll h6)) (fun _ _ h9 =>
      h9.pageDone))) (.ite (h3.send.each (fun _ _ h4 => h4.commitPage)) (h3.each (fun _ _ h5 => .ite h5.pageMissed h5)))) (.ite
      h.setGv.raise.spoilAll h.setGv))
theorem State.Meets.execAlignBlocks {k} (h : s.Meets F) : ResultMeets F (Machine.execAlignBlocks k s) := .ite (.next h.setGv.send) (.next h)
theorem State.Meets.ctrlIdle {k} (h : s.Meets F) : (s.ctrlIdle k).Meets F := .ite h.drainCtrl h
theorem State.Meets.execCtrlPush {k} (h : s.Meets F) : ResultMeets F (Machine.execCtrlPush k s) :=
  .ite (.next h) (.ite (.next h.setFld) (.next h.setGv.setFld.ctrlIdle))
theorem State.Meets.execCtrlDmaGo {k} (h : s.Meets F) : ResultMeets F (Machine.execCtrlDmaGo k s) :=
  .ite (.next h) (.ite (.next h.setFld) (.ite (.next h.setFld) (.next h.setGv.hold.setFld)))
theorem State.Meets.dropStream {k} (h : s.Meets F) : (s.dropStream k).Meets F := by
  unfold State.dropStream
  dsimp only
  split
  · exact h.drop.setGv
  · exact h
theorem State.Meets.execCtrlDmaDone {k} (h : s.Meets F) : ResultMeets F (Machine.execCtrlDmaDone k s) :=
  .ite (.ite (.next h.drainCtrl) (have h2 := h.drainCtrl.dropStream.setFld; .next (.ite h2.setGv.setFld h2.setGv.event))) (.next h)
theorem State.Meets.bankNext {k v} (h : s.Meets F) : (s.bankNext k v).Meets F := h.setFld.setFld
theorem State.Meets.execBankNext {k v} (h : s.Meets F) : ResultMeets F (Machine.execBankNext k v s) := .ite (.next h.bankNext) (.next h)
theorem State.Meets.pushPage {k hh base lines} (h : s.Meets F) : PairMeets F (s.pushPage k hh base lines) :=
  .ite (.mk h.setQueue.setFld) (.mk h.setFld)
theorem State.Meets.execPageqPush {k} (h : s.Meets F) : ResultMeets F (Machine.execPageqPush k s) := .ite (.next h) (.next h.pushPage)
theorem State.Meets.execPageqWithdraw {k} (h : s.Meets F) : ResultMeets F (Machine.execPageqWithdraw k s) :=
  .ite (.next h) (.ite (.next h.setQueue.setFld) (.next h.setFld))

/-! ## Exposure -/

theorem State.Meets.tripTemp {k} (h : s.Meets F) : (s.tripTemp k).Meets F := h.raise.laserEval
theorem State.Meets.applyTemp {k t} (h : s.Meets F) : (s.applyTemp k t).Meets F :=
  have h1 := h.setFld.setFld; meets_sharing (fun h2 => meets_sharing (fun h3 => .ite h3.setFld.tripTemp (.ite (.ite h3.setFld
      h3.setFld.setFld.event.raise) (.ite h3.setFld.setFld.event h3.setFld))) (.ite h2.event h2)) (.ite h1 h1.setFld.event)
theorem State.Meets.wordMissed {k} (h : s.Meets F) : (s.wordMissed k).Meets F := .ite h.bump.bump.raise.laserEval h.bump.bump
theorem State.Meets.ctrlError {k} (h : s.Meets F) : (s.ctrlError k).Meets F := by
  unfold State.ctrlError
  dsimp only
  refine meets_sharing (fun h3 => .ite h3.setGv.setFld.raise h3.setGv) ?_
  split
  · exact h.raise.markAll
  · exact h.raise
theorem State.Meets.frameError {k} (h : s.Meets F) : (s.frameError k).Meets F := by
  unfold State.frameError
  dsimp only
  split
  · exact h.bump.raise.spoilAll
  · exact h.bump.raise
theorem State.Meets.wordTaken {k w} (h : s.Meets F) : (s.wordTaken k w).Meets F :=
  have h2 := h.setReg.setFld.setFld.setFld; meets_sharing (fun h3 => meets_sharing (fun h4 => meets_sharing (fun h5 => .applyTemp (.ite
      h5.setGv.raise.laserEval h5.setGv)) (.ite h4.ctrlError h4)) (.ite h3.frameError h3)) (.ite h2.setGv.event h2)
theorem State.Meets.execDrvStatusWord {k w} (h : s.Meets F) : ResultMeets F (Machine.execDrvStatusWord k w s) :=
  .ite (.next h) (.ite (.next h.wordTaken) (.next h.wordMissed))
theorem State.Meets.thTrips {n code} (h : s.Meets F) : (s.thTrips n code).Meets F := h.each fun _ _ h1 => h1.tripTemp
theorem State.Meets.execLutBuildGo {k} (h : s.Meets F) : ResultMeets F (Machine.execLutBuildGo k s) := by
  unfold Machine.execLutBuildGo
  dsimp only
  refine .ite (.next h) (.ite (.next h.raise) ?_)
  split
  · exact .next h.raise
  · exact .ite (.next h.raise) (have h4 := h.setGv.setFld.setFld; .next (.ite h4 h4.hold))
theorem State.Meets.execLutBuildDone {k} (h : s.Meets F) : ResultMeets F (Machine.execLutBuildDone k s) :=
  .ite (.ite (.next h.drainCtrl) (have h4 := h.drainCtrl.dropStream.setGv.setFld.setFld; .next (.event (.ite h4.raise h4)))) (.next
      h)
theorem State.Meets.execInterlockAssert (h : s.Meets F) : ResultMeets F (Machine.execInterlockAssert s) :=
  have h1 := h.upd.laserAll; .next (.ite (h1.each (fun _ _ h2 => h2.raise)) h1)
theorem State.Meets.execInterlockQualified (h : s.Meets F) : ResultMeets F (Machine.execInterlockQualified s) := .next h.upd.laserAll
theorem State.Meets.setMark {m x} (h : s.Meets F) : (s.setMark m x).Meets F := h.upd
theorem State.Meets.markRecord {m rising pos sum count} (h : s.Meets F) : (s.markRecord m rising pos sum count).Meets F := by
  unfold State.markRecord
  dsimp only
  split
  · exact h
  · exact .ite h.divFree.objWrite.objWrite (.setReg (.ite h.objWrite h))
theorem State.Meets.execMarkSample {m v p} (h : s.Meets F) : ResultMeets F (Machine.execMarkSample m v p s) :=
  .ite (.next h) (.ite (.next h.setMark) (.next (.ite h.setMark.markRecord h.setMark)))
theorem State.Meets.markDest {m v} (h : s.Meets F) : (s.markDest m v).Meets F := by
  unfold State.markDest
  dsimp only
  refine .ite (.ite h.setFld.setFld.setFld.setFld.setFld (meets_sharing (fun h3 => .ite (have h4 := h3.hold.setMark; .ite h4
      h4.objWrite.setReg) h3.setMark) ?_)) ?_
  · split
    · exact h.setFld.setFld.setFld.setFld.setFld.drop
    · exact h.setFld.setFld.setFld.setFld.setFld
  · split
    · exact h.setFld.setFld.setFld.setFld.setFld.drop.setMark
    · exact h.setFld.setFld.setFld.setFld.setFld
theorem State.Meets.execMarkDestEnable {m v} (h : s.Meets F) : ResultMeets F (Machine.execMarkDestEnable m v s) :=
  .ite (.next h.markDest) (.next h)
theorem State.Meets.setCalPort {k x} (h : s.Meets F) : (s.setCalPort k x).Meets F := h.upd
theorem State.Meets.calCmd {k v} (h : s.Meets F) : (s.calCmd k v).Meets F := .ite h.setCalPort h
theorem State.Meets.execCalWordWrite {k v} (h : s.Meets F) : ResultMeets F (Machine.execCalWordWrite k v s) := .next h.calCmd
theorem State.Meets.execCalWriteDone {k ok} (h : s.Meets F) : ResultMeets F (Machine.execCalWriteDone k ok s) :=
  .ite (.next h.free.setMram.setCalPort) (.next h)

/-! ## Hearth -/

theorem State.Meets.ntcCode {num den r0 b} (h : s.Meets F) : PairMeets F (s.ntcCode num den r0 b) :=
  .ite (.mk h.free) (.ite (.mk h.free) (.mk h.choose))
theorem State.Meets.convert {n num den rs} (h : s.Meets F) : PairMeets F (s.convert n num den rs) :=
  .ite h (.ite (.mk h.divFree) (.ite (.mk h.divFree) (.mk h.divFree.ntcCode)))
theorem State.Meets.heatsFollow (h : s.Meets F) : s.heatsFollow.Meets F := h.each fun _ _ h1 => h1.setTherm
theorem State.Meets.thermalTrip {kind n z temp forced} (h : s.Meets F) : (s.thermalTrip kind n z temp forced).Meets F :=
  h.gatesOff.setFld.updTinder.setFld.setFld.setFld.setFld.journalEntry.raiseQuiet
theorem State.Meets.setReading {n v broken} (h : s.Meets F) : (s.setReading n v broken).Meets F := by
  unfold State.setReading
  dsimp only
  refine .recheckReady (.zonesFollow (.heatsFollow ?_))
  split
  · exact .ite h.setFld.setFld.setTherm.thermalTrip h.setFld.setFld.setTherm
  · exact .ite h.setFld.setFld.setTherm.raise h.setFld.setFld.setTherm
theorem State.Meets.sample {n num den rs} (h : s.Meets F) : (s.sample n num den rs).Meets F := by
  unfold State.sample
  dsimp only
  split
  · exact h.convert.setTherm.setReading
  · exact h.convert.divFree.setTherm.setReading
theorem State.Meets.execRateWindow (h : s.Meets F) : ResultMeets F (Machine.execRateWindow s) := by
  unfold Machine.execRateWindow
  dsimp only
  split
  · exact .next (.thermalTrip (h.each (fun _ _ h1 => h1.setTherm)))
  · exact .next (h.each (fun _ _ h1 => h1.setTherm))
theorem State.Meets.execDieSample {k code} (h : s.Meets F) : ResultMeets F (Machine.execDieSample k code s) :=
  .ite (.next h) (meets_sharing (fun h2 => .next (.ite h2.raise h2)) (.ite h.setFld.event h.setFld))
theorem State.Meets.execJournalEntryWritten (h : s.Meets F) : ResultMeets F (Machine.execJournalEntryWritten s) := by
  unfold Machine.execJournalEntryWritten
  split
  · exact .next h
  · extract_lets x seq next trip lost s1 s2 s3 src s4 s5
    have h4 : s4.Meets F := h.setMram.setMram.setFld.setFld.upd
    clear_value s4
    exact .next (.journalPump (.ite (.event (.setFld (.ite h4 (.setFldTinder h4.setFld)))) h4))
theorem State.Meets.tripAck {v} (h : s.Meets F) : (s.tripAck v).Meets F :=
  .ite h (.ite h.setFld.event (.ite h.setFld.event (.ite h.setFld.event (.ite h.setFld.event h.setFld.journalEntry))))
theorem State.Meets.execTripAck {v} (h : s.Meets F) : ResultMeets F (Machine.execTripAck v s) := .next h.tripAck
theorem State.Meets.zoneWrite {z v} (h : s.Meets F) : (s.zoneWrite z v).Meets F :=
  .ite (.ite h.setRefused (.ite h.setRefused (.ite h.setFld.setRefused (.recheckReady (.zonesFollow (.setZone
      (h.setFld.setRefused.each (fun _ _ h2 => h2.setLamp)))))))) (.recheckReady (.zonesFollow (.heatsFollow
      (h.setFld.setFld.setRefused.each (fun _ _ h5 => h5.htrLow)))))
theorem State.Meets.execZoneEnable {z v} (h : s.Meets F) : ResultMeets F (Machine.execZoneEnable z v s) := .ite (.next h.zoneWrite) (.next h)
theorem State.Meets.zonePid {z} (h : s.Meets F) : (s.zonePid z).Meets F := .ite h.setZone.setFld h.setZone.setFld
theorem State.Meets.execZonePidUpdate {p} (h : s.Meets F) : ResultMeets F (Machine.execZonePidUpdate p s) :=
  .next (.recheckReady (.zonesFollow (.heatsFollow (h.each (fun _ _ h1 => h1.zonePid)))))
theorem State.Meets.halfCycle {n} (h : s.Meets F) : (s.halfCycle n).Meets F := h.setLamp.setFld.setFld
theorem State.Meets.execHearthGateOn {p i} (h : s.Meets F) : ResultMeets F (Machine.execHearthGateOn p i s) :=
  .ite (.next h) (.ite (.next (.countLamps (h.each (fun _ _ h1 => h1.halfCycle)))) (.next (h.each (fun _ _ h2 => h2.setLamp))))
theorem State.Meets.execHearthGateOff {p} (h : s.Meets F) : ResultMeets F (Machine.execHearthGateOff p s) :=
  .ite (.next (h.each (fun _ _ h1 => h1.setLamp))) (.next h)

/-! ## Dram -/

theorem State.Meets.trainNint (h : s.Meets F) : PairMeets F s.trainNint := .ite h h.free
theorem State.Meets.execTrainGo (h : s.Meets F) : ResultMeets F (Machine.execTrainGo s) :=
  .ite (.next h.logAccess) (.ite (.next h.trainNint.setReg.setFld.pllRestart.setFld) (.next h.logRo))
theorem State.Meets.execFullRetrain (h : s.Meets F) : ResultMeets F (Machine.execFullRetrain s) :=
  .ite (.next h.logAccess) (.ite (.next h.setFld) (.next h.logRo))
theorem State.Meets.chanTemp {c} (h : s.Meets F) : PairMeets F (s.chanTemp c) := by
  unfold State.chanTemp
  dsimp only
  refine .ite (.ite h ?_) h
  split
  · exact h
  · exact .mk h.free
theorem State.Meets.tempField {x} (h : s.Meets F) : PairMeets F (s.tempField x) := by
  unfold State.tempField
  refine .ite h.free ?_
  split
  next e => exact .mk (h.divFree.at e)
theorem State.Meets.tempUpdate {c} (h : s.Meets F) : (s.tempUpdate c).Meets F :=
  have h3 := h.chanTemp.tempField.upd.setFld; meets_sharing (fun h5 => .ite h5.setFld.upd.setFld.recheckReady h5.setFld) (.ite h3.setFld
      h3.setFld.event)
theorem State.Meets.tempRef {c} (h : s.Meets F) : (s.tempRef c).Meets F := h.upd
theorem State.Meets.execMr4Poll {hotA hotB} (h : s.Meets F) : ResultMeets F (Machine.execMr4Poll hotA hotB s) :=
  .ite (.next (h.upd.each (fun _ _ h1 => h1.tempUpdate))) (.next h)
theorem State.Meets.execThSample {n x rs} (h : s.Meets F) : ResultMeets F (Machine.execThSample n x rs s) :=
  .ite (.next h) (.next (h.sample.thTrips.each (fun _ _ h3 => h3.tempUpdate)))
theorem State.Meets.slice {c} (h : s.Meets F) : (s.slice c).Meets F := .ite (.ite h.tempRef.setFld.event h.upd) h
theorem State.Meets.execRetrainSlice {c} (h : s.Meets F) : ResultMeets F (Machine.execRetrainSlice c s) := .ite (.next h.slice) (.next h)
theorem State.Meets.execRetrainSliceForced {c} (h : s.Meets F) : ResultMeets F (Machine.execRetrainSliceForced c s) :=
  .ite (.next h.slice) (.next h)
theorem State.Meets.wordBad {hh off} (h : s.Meets F) : (s.wordBad hh off).Meets F := .ite h.poisonWord.raise h
theorem State.Meets.evictHolders {j} (h : s.Meets F) : (s.evictHolders j).Meets F := by
  unfold State.evictHolders
  dsimp only
  refine h.each fun _ _ h1 => ?_
  split
  · exact .ite h1.abandonPage h1
  · exact h1
theorem State.Meets.evictObjects {l} (h : s.Meets F) : (s.evictObjects l).Meets F :=
  .ite h (.pageSettle (.raise (h.each (fun _ _ h1 => .ite h1.evictHolders.evictIndex h1))))
theorem State.Meets.freshRank {q} (h : s.Meets F) : (s.freshRank q).Meets F := h.upd.setFld
theorem State.Meets.migrationEnd {c} (h : s.Meets F) : (s.migrationEnd c).Meets F :=
  h.setRankState.setRankState.freshRank.setFld.setFld.setFld.event
theorem State.Meets.migrationStart {q spare} (h : s.Meets F) : (s.migrationStart q spare).Meets F :=
  have h2 := h.setRankState.setRankState.setFld.setFld.setFld; .ite h2.setFld.migrationEnd h2.setFld.setMoves
theorem State.Meets.migrationStop {c} (h : s.Meets F) : (s.migrationStop c).Meets F :=
  h.setRankState.setRankState.evictObjects.setFld.setFld
theorem State.Meets.retireRank {q} (h : s.Meets F) : (s.retireRank q).Meets F := h.setRankState.evictObjects
theorem State.Meets.rankOut {q} (h : s.Meets F) : (s.rankOut q).Meets F := by
  unfold State.rankOut
  dsimp only
  refine .ite ?_ (.ite h.setRankState.setFld.raise (.ite h.migrationStop.raise h))
  split
  · exact .ite h.retireRank h.migrationStart
  · exact h.retireRank
theorem State.Meets.errLog {kind q sub device} (h : s.Meets F) : (s.errLog kind q sub device).Meets F :=
  .ite h h.setFld.setFld.setFld.setFld.setFld
theorem State.Meets.corrected {q time} (h : s.Meets F) : (s.corrected q time).Meets F :=
  .ite (.ite h.bump.upd.event.rankOut h.bump.upd.event) h.bump.upd
theorem State.Meets.uncorrectable {kind q sub device hh off} (h : s.Meets F) : (s.uncorrectable kind q sub device hh off).Meets F :=
  h.errLog.bump.raise.wordBad.rankOut
theorem State.Meets.portLevel {p level} (h : s.Meets F) : (s.portLevel p level).Meets F :=
  .ite (.ite h.setFld h) (.ite h.setFld.bump.event h)
theorem State.Meets.dramServed {u port} (h : s.Meets F) : (s.dramServed u port).Meets F := .ite h (.ite h.upd h.upd)
theorem State.Meets.ecc {nibbles} (h : s.Meets F) : TripleMeets F (s.ecc nibbles) := by
  unfold State.ecc
  split
  · exact h
  · exact .ite h h
  · exact .mk h.choose
theorem State.Meets.execDramRead {port ready level handle offset q sub bank row nibbles time} (h : s.Meets F) : ResultMeets F
    (Machine.execDramRead port ready level handle offset q sub bank row nibbles time s) := by
  unfold Machine.execDramRead
  dsimp only
  refine .ite (.next h) (.ite (.next (.ite h.portLevel h)) ?_)
  split
  · next e3 =>
      exact .next (TripleMeets.at (.ecc (.bankAccess (.dramServed (.ite h.portLevel h)))) e3).corrected
  · next e3 =>
      exact .next (TripleMeets.at (.ecc (.bankAccess (.dramServed (.ite h.portLevel h)))) e3).uncorrectable
  · next e3 =>
      exact .next (TripleMeets.at (.ecc (.bankAccess (.dramServed (.ite h.portLevel h)))) e3).corrected
  · next e3 =>
      exact .next (TripleMeets.at (.ecc (.bankAccess (.dramServed (.ite h.portLevel h)))) e3)
theorem State.Meets.scrubbed {q g} (h : s.Meets F) : (s.scrubbed q g).Meets F := h.upd
theorem State.Meets.scrambleWord {hh off} (h : s.Meets F) : (s.scrambleWord hh off).Meets F := by
  unfold State.scrambleWord
  dsimp only
  split
  · exact h.setObject.upd
  · exact h
theorem State.Meets.execPatrolScrubRead {handle offset q granule sub bank row nibbles time} (h : s.Meets F) : ResultMeets F
    (Machine.execPatrolScrubRead handle offset q granule sub bank row nibbles time s) := by
  unfold Machine.execPatrolScrubRead
  dsimp only
  refine .ite (.next h) ?_
  split
  · next e2 =>
      exact .next (h.scrubbed.bankAccess.ecc.at e2).corrected
  · next e2 =>
      exact .next (h.scrubbed.bankAccess.ecc.at e2).uncorrectable
  · next e2 =>
      exact .next (h.scrubbed.bankAccess.ecc.at e2).scrambleWord.corrected
  · next e2 =>
      exact .next (h.scrubbed.bankAccess.ecc.at e2)
theorem State.Meets.caError {q sub forced} (h : s.Meets F) : (s.caError q sub forced).Meets F := h.errLog.raise.rankOut
theorem State.Meets.execDdrAlert {q sub again} (h : s.Meets F) : ResultMeets F (Machine.execDdrAlert q sub again s) :=
  .ite (.next h) (.ite (.next h.caError) (.next h))
theorem State.Meets.copyAccess {q r} (h : s.Meets F) : (s.copyAccess q r).Meets F := h.free.bankAccess.bankAccess
theorem State.Meets.execMigrationCopy {c} (h : s.Meets F) : ResultMeets F (Machine.execMigrationCopy c s) := by
  unfold Machine.execMigrationCopy
  dsimp only
  refine .ite (.next h) ?_
  split
  · exact .next h.migrationEnd
  · exact have h2 := h.migLess.copyAccess; .ite (.next h2.upd) (.next (.ite h2.mapObject.setMoves.migrationEnd
      h2.mapObject.setMoves))
theorem State.Meets.closeSet {i} (h : s.Meets F) : (s.closeSet i).Meets F := h.upd
theorem State.Meets.manageSet {i busy} (h : s.Meets F) : (s.manageSet i busy).Meets F := h.upd
theorem State.Meets.idleRank {u busy} (h : s.Meets F) : (s.idleRank u busy).Meets F := h.upd
theorem State.Meets.execRefreshInterval {c busy} (h : s.Meets F) : ResultMeets F (Machine.execRefreshInterval c busy s) :=
  .ite (.next h) (.next (.each (h.each (fun _ _ h1 => h1.idleRank)) (fun _ _ h3 => .ite h3.manageSet.upd.closeSet
      h3.manageSet.upd)))
theorem State.Meets.execTrainComplete {failed} (h : s.Meets F) : ResultMeets F (Machine.execTrainComplete failed s) :=
  .ite (.next h) (meets_sharing (fun h9 => .ite (have h10 := h9.setFld.event; .next (.ite h10.event h10)) (.next h9.setFld.raise)) (.each
      (.upd (.each (.each (h.each (fun _ _ h1 => h1.migrationStop)) (fun _ _ h3 => h3.evictObjects)) (fun _ _ h5 =>
      h5.setRankState.setFld))) (fun _ _ h8 => h8.tempUpdate.tempRef.setFld)))

/-! ## Hv -/

theorem State.Meets.acDuty {n i} (h : s.Meets F) : PairMeets F (s.acDuty n i) :=
  .ite (.ite (.mk h.divFree) (.mk h.divFree)) (.ite h (.ite (.ite (.mk h.divFree) (.mk h.divFree)) h))
theorem State.Meets.hvPeriod {n} (h : s.Meets F) : (s.hvPeriod n).Meets F := .setHvc (PairMeets.snd (.ite h.acDuty h))
theorem State.Meets.acRestart (h : s.Meets F) : s.acRestart.Meets F := h.each fun _ _ h1 => h1.setHvc
theorem State.Meets.hvFault {n bitNo forced} (h : s.Meets F) : (s.hvFault n bitNo forced).Meets F :=
  h.setFld.setFbit.setHvc.hvFollow.raise.recheckReady
theorem State.Meets.hvLoop {n mean} (h : s.Meets F) : (s.hvLoop n mean).Meets F := by
  unfold State.hvLoop
  extract_lets e integ raw
  split
  next e => exact (h.divFree.at e).setHvc.setFld
theorem State.Meets.hvSettle {n mean} (h : s.Meets F) : (s.hvSettle n mean).Meets F := have h1 := h.setHvc.setFld; .ite h1.event h1
theorem State.Meets.execHvWindow {n sum spikes} (h : s.Meets F) : ResultMeets F (Machine.execHvWindow n sum spikes s) := by
  unfold Machine.execHvWindow
  refine .ite (.next h) ?_
  extract_lets pulses
  split
  next e =>
    extract_lets mean s2 l src s3 s4 s5 s6 s7 s8
    have h3 : s3.Meets F := (h.divFree.at e).setFld.bump.setHvc
    clear_value s3
    have h4 : s4.Meets F := h3.foldl fun _ _ h => h.hvPeriod
    clear_value s4
    have h6 : s6.Meets F := .hvSettle (.ite h4.hvLoop h4)
    have h7 : s7.Meets F := .ite h6.hvFault h6
    have h8 : s8.Meets F := .ite h7.hvFault h7
    exact .next h8.recheckReady
theorem State.Meets.execHvEnable {n v} (h : s.Meets F) : ResultMeets F (Machine.execHvEnable n v s) :=
  .ite (.next h.hvWrite.recheckReady) (.next h)

/-! ## PageAdmit -/

theorem State.Meets.setServing {q l} (h : s.Meets F) : (s.setServing q l).Meets F := h.upd
theorem State.Meets.flushServing {q k} (h : s.Meets F) : (s.flushServing q k).Meets F := by
  induction k generalizing s with
  | zero => exact h
  | succ k ih =>
    unfold State.flushServing
    split
    · exact h
    · split
      · exact h
      · exact .ite (ih h.setServing.setDq) h
theorem State.Meets.serve {q r page result} (h : s.Meets F) : (s.serve q r page result).Meets F := h.setServing.flushServing
theorem State.Meets.refuse {q r} (h : s.Meets F) : (s.refuse q r).Meets F := h.free.serve
theorem State.Meets.done {q r} (h : s.Meets F) : (s.done q r).Meets F := h.serve
theorem State.Meets.takeRecord {q want} (h : s.Meets F) : OptMeets F (s.takeRecord q want) := by
  unfold State.takeRecord
  refine .ite .none ?_
  split
  · exact .ite (.some h.setDq) .none
  · exact .none
theorem State.Meets.execSqNop {q} (h : s.Meets F) : ResultMeets F (Machine.execSqNop q s) := by
  unfold Machine.execSqNop
  split
  · exact .next h
  · next e1 =>
      exact .next (.ite (h.takeRecord.at e1).done (h.takeRecord.at e1).refuse)
theorem State.Meets.execRequest {q} (h : s.Meets F) : ResultMeets F (Machine.execRequest q s) := by
  unfold Machine.execRequest
  split
  · exact .next h
  · next e1 =>
      exact .next (.ite (h.takeRecord.at e1).refuse (h.takeRecord.at e1).request.done)
theorem State.Meets.execConfigure {q} (h : s.Meets F) : ResultMeets F (Machine.execConfigure q s) := by
  unfold Machine.execConfigure
  dsimp only
  split
  · exact .next h
  · next e1 =>
      refine .ite (.next (.done (.upd (.hold (.hold ?_))))) (.next (h.takeRecord.at e1).refuse)
      split
      · exact (h.takeRecord.at e1).drop.drop
      · exact (h.takeRecord.at e1)
theorem State.Meets.execPage {q} (h : s.Meets F) : ResultMeets F (Machine.execPage q s) := by
  unfold Machine.execPage
  dsimp only
  split
  · exact .next h
  · next e1 =>
      refine .ite (.next (.serve (PairMeets.snd (.ite (.mk (h.takeRecord.at e1)) (h.takeRecord.at e1).free)))) (.ite (.next (.serve
          (PairMeets.snd (.ite (.mk (h.takeRecord.at e1)) (h.takeRecord.at e1).free)))) ?_)
      split
      · exact .next (.serve (PairMeets.snd (.ite (.mk (h.takeRecord.at e1)) (h.takeRecord.at e1).free)))
      · split
        · exact .next (.serve (PairMeets.snd (.ite (.mk (h.takeRecord.at e1)) (h.takeRecord.at e1).free)))
        · refine .next (.serve (.upd ?_))
          split
          · exact (h.takeRecord.at e1).setPg.holdPage.mapPg
          · exact (h.takeRecord.at e1).setPg.holdPage
theorem State.Meets.lineTime {c} (h : s.Meets F) : PairMeets F (s.lineTime c) := .ite h.free h
theorem State.Meets.planFinish {l} (h : s.Meets F) : (s.planFinish l).Meets F := by
  unfold State.planFinish
  dsimp only
  refine h.foldl fun _ _ h1 => ?_
  split
  · exact h1.upd
  · exact h1
theorem State.Meets.dropExpansion {i obj} (h : s.Meets F) : (s.dropExpansion i obj).Meets F := h.mapPg.drop.freeOrDefer
theorem State.Meets.jobFailed {i e} (h : s.Meets F) : (s.jobFailed i e).Meets F := have h1 := h.dropExpansion; .ite h1.mapPg.endPage h1
theorem State.Meets.startJob {k i e} (h : s.Meets F) : (s.startJob k i e).Meets F := by
  unfold State.startJob
  dsimp only
  split
  · exact have h5 := h.setFld.setFld.setFld.setFld.setFld.setFld.setFld.setFld.setFld.setFld.setFld.encGo; .ite h5.upd h5.jobFailed
  · exact h
theorem State.Meets.startJobs (h : s.Meets F) : s.startJobs.Meets F := by
  unfold State.startJobs
  refine h.each fun _ _ h1 => .ite ?_ h1
  split
  · exact h1.startJob
  · exact h1
theorem State.Meets.makeExpansion {i station st first last kind reprint l} (h : s.Meets F) : PairMeets F (s.makeExpansion i station st
    first last kind reprint l) :=
  .ite h (.mk (.ite h.createData.mapPg.hold h.createData.mapPg))
theorem State.Meets.planPage {c i x now tau start} (h : s.Meets F) : PairMeets F (s.planPage c i x now tau start) := by
  unfold State.planPage
  split
  · exact h
  · refine .ite h (.foldl h fun q y hq => ?_)
    split
    · dsimp only
      split
      · exact hq
      · split
        · exact hq
        · exact hq.makeExpansion
    · exact hq
theorem State.Meets.planSheet {c i x now tau} (h : s.Meets F) : PairMeets F (s.planSheet c i x now tau) := by
  unfold State.planSheet
  dsimp only
  split
  · split
    · exact .mk h.planPage.planPage.startJobs
    · exact .mk h.planPage.startJobs
  · exact .mk h.planPage.startJobs
theorem State.Meets.reprint {i} (h : s.Meets F) : (s.reprint i).Meets F := by
  unfold State.reprint
  split
  · exact h
  · refine .ite h.setPg.countPage (meets_sharing (fun h2 => .ite h2.startJobs h2.mapPg.endPage) (PairMeets.foldl h.setPg.countPage fun q
      y hq => ?_))
    split
    · exact hq.makeExpansion
    · exact hq
theorem State.Meets.reprints (h : s.Meets F) : s.reprints.Meets F := h.each fun _ _ h1 => h1.reprint
theorem State.Meets.execPagePlan {now} (h : s.Meets F) : ResultMeets F (Machine.execPagePlan now s) := by
  unfold Machine.execPagePlan
  dsimp only
  split
  · exact .next h
  · split
    · exact .next h.reprints.lineTime.planSheet
    · exact .next h.reprints
theorem State.Meets.pushSheet {c i x l} (h : s.Meets F) : PairMeets F (s.pushSheet c i x l) := by
  unfold State.pushSheet
  split
  · exact h
  · refine meets_sharing (fun h2 => .ite h2 (h2.each fun _ _ h3 => h3.pullPage)) (PairMeets.foldl h fun q y hq => ?_)
    refine .ite hq (.ite hq (.ite ?_ hq.pushPage))
    exact State.Meets.foldl hq.pushPage fun _ _ h => h.pushRun
theorem State.Meets.admitPage {i x isReturn l} (h : s.Meets F) : (s.admitPage i x isReturn l).Meets F := by
  unfold State.admitPage
  dsimp only
  split
  · exact h
  · exact meets_sharing (fun h4 => .ite h4.countPage.markPage h4) (h.setPg.countPage.each (fun _ _ h3 => h3.upd))
theorem State.Meets.skip {reason} (h : s.Meets F) : (s.skip reason).Meets F := h.upd.countPage
theorem State.Meets.deadline {c x now} (h : s.Meets F) : (s.deadline c x now).Meets F := by
  unfold State.deadline
  dsimp only
  split
  · exact h.skip
  · split
    · exact h.skip
    · split
      · exact h.skip
      · refine .ite h.lineTime.planSheet.skip (.ite h.lineTime.pushSheet.skip (meets_sharing (fun h9 => .ite h9.enter h9) ?_))
        split
        · exact h.lineTime.pushSheet.admitPage.planFinish.admitPage
        · exact h.lineTime.pushSheet.admitPage.planFinish
theorem State.Meets.returnDeadline {c x i now} (h : s.Meets F) : (s.returnDeadline c x i now).Meets F := by
  unfold State.returnDeadline
  dsimp only
  split
  · exact h
  · exact .ite h.skip (.ite (have h3 := h.lineTime.pushSheet; .ite h3.planFinish h3.abandonPage) h)
theorem State.Meets.writeStatus {c x} (h : s.Meets F) : (s.writeStatus c x).Meets F := .ite h.objWrite h
theorem State.Meets.execAdmissionDeadline {now} (h : s.Meets F) : ResultMeets F (Machine.execAdmissionDeadline now s) := by
  unfold Machine.execAdmissionDeadline
  dsimp only
  split
  · exact .next h
  · refine .next (.pageSettle (.writeStatus ?_))
    split
    · exact h.reprints.upd.deadline
    · exact .ite h.reprints.upd.returnDeadline h.reprints.upd
theorem State.Meets.execWithdraw {q} (h : s.Meets F) : ResultMeets F (Machine.execWithdraw q s) := by
  unfold Machine.execWithdraw
  dsimp only
  split
  · exact .next h
  · next e1 =>
      exact .ite (.next (h.takeRecord.at e1).abandonPage.pageSettle.done) (.next (h.takeRecord.at e1).refuse)

/-! ## PagePath -/

theorem State.Meets.toPath {c payload} (h : s.Meets F) : (s.toPath c payload).Meets F := h.deliver
theorem State.Meets.commitSheet {c g x} (h : s.Meets F) : (s.commitSheet c g x).Meets F := h.setReg.setFld.setReg.setPair.vgCommit
theorem State.Meets.armPost {g pos} (h : s.Meets F) : (s.armPost g pos).Meets F := by
  unfold State.armPost
  dsimp only
  refine .ite h ?_
  split
  · exact h
  · split
    · exact h.free.takeEntry.acceptEntry
    · exact h.free.takeEntry
theorem State.Meets.execSheetStart {x} (h : s.Meets F) : ResultMeets F (Machine.execSheetStart x s) := by
  unfold Machine.execSheetStart
  dsimp only
  split
  · split
    · exact .ite (.next (.toPath (h.commitSheet.setPg.upd.foldl (fun _ _ h6 => h6.armPost)))) (.next h)
    · exact .next h
  · exact .next h
theorem State.Meets.execTransferPost {g} (h : s.Meets F) : ResultMeets F (Machine.execTransferPost g s) := by
  unfold Machine.execTransferPost
  split
  · exact .next h
  · exact .next h.mapPg.pageSettle
theorem State.Meets.execFuserPost {g} (h : s.Meets F) : ResultMeets F (Machine.execFuserPost g s) := by
  unfold Machine.execFuserPost
  split
  · exact .next h
  · exact .next h.mapPg.pageSettle
theorem State.Meets.note {g j b} (h : s.Meets F) : (s.note g j b).Meets F := h.upd
theorem State.Meets.jam {c kind j z} (h : s.Meets F) : (s.jam c kind j z).Meets F :=
  meets_sharing (fun h12 => .pageSettle (.ite h12.upd h12)) (.each (.each (.upd (.each (.toPath (.free (h.upd.each (fun _ _ h2 =>
      h2.abandonPage)))) (fun _ _ h6 => h6.axisEnable))) (fun _ _ h9 => h9.spoilNow)) (fun _ _ h11 => h11.spoilNow))
theorem State.Meets.leaves {i} (h : s.Meets F) : (s.leaves i).Meets F := h.dropSheets.finishPage
theorem State.Meets.exits {sh} (h : s.Meets F) : (s.exits sh).Meets F := by
  unfold State.exits
  dsimp only
  refine .leaves ?_
  split
  · exact .ite h.leaves h
  · exact h
theorem State.Meets.handoff {sh} (h : s.Meets F) : (s.handoff sh).Meets F := h.freeSheets.mapPg
theorem State.Meets.execSensorEdgeCapture {j rising} (h : s.Meets F) : ResultMeets F (Machine.execSensorEdgeCapture j rising s) := by
  unfold Machine.execSensorEdgeCapture
  dsimp only
  split
  · exact .next h
  · split
    · exact .next h
    · refine .ite ?_ ?_
      · split
        · exact .next (.ite h.upd h.upd.jam)
        · exact .ite (.next (.ite h.upd h.upd.jam)) (.next h.upd.note)
      · split
        · exact .next (.ite h.upd h.upd.jam)
        · exact .ite (.ite (.next h.upd.note.exits.pageSettle) (.ite (.next h.upd.note.handoff) (.next h.upd.note))) (.next
            h.upd.note)
theorem State.Meets.execJamWindowClose {g j leading} (h : s.Meets F) : ResultMeets F (Machine.execJamWindowClose g j leading s) := by
  unfold Machine.execJamWindowClose
  dsimp only
  split
  · split
    · exact .next h
    · exact .ite (.next h) (.ite (.next (.ite h.note h.note.jam)) (.next (.ite h.note h.note.jam)))
  · exact .next h
theorem State.Meets.takeReport {kind} (h : s.Meets F) : OptMeets F (s.takeReport kind) := by
  unfold State.takeReport
  split
  · exact .ite (.some h.setDq) .none
  · exact .none
theorem State.Meets.unfed {i} (h : s.Meets F) : (s.unfed i).Meets F := have h1 := h.freeSheets.mapPg; .ite h1.spoilNow h1.abandonPage
theorem State.Meets.execFeedFail (h : s.Meets F) : ResultMeets F (Machine.execFeedFail s) := by
  unfold Machine.execFeedFail
  dsimp only
  split
  · exact .next h
  · next e1 =>
      split
      · exact .next (h.takeReport.at e1)
      · refine .next (.pageSettle ?_)
        split
        · refine .ite ?_ (.skip (.upd ?_))
          · split
            · exact .ite (h.takeReport.at e1).unfed (h.takeReport.at e1).unfed.unfed
            · exact (h.takeReport.at e1).unfed
          · split
            · exact .ite (h.takeReport.at e1).unfed (h.takeReport.at e1).unfed.unfed
            · exact (h.takeReport.at e1).unfed
        · split
          · exact .ite (h.takeReport.at e1).unfed (h.takeReport.at e1).unfed.unfed
          · exact (h.takeReport.at e1).unfed
theorem State.Meets.execPathFault (h : s.Meets F) : ResultMeets F (Machine.execPathFault s) := by
  unfold Machine.execPathFault
  split
  · exact .next h
  · next e1 =>
      split
      · exact .next (h.takeReport.at e1).free.jam
      · exact .next (h.takeReport.at e1)
theorem State.Meets.execPurge {q} (h : s.Meets F) : ResultMeets F (Machine.execPurge q s) := by
  unfold Machine.execPurge
  dsimp only
  split
  · exact .next h
  · next e1 =>
      split
      · exact .ite (.next (h.takeRecord.at e1).free.toPath.upd.done) (.next (h.takeRecord.at e1).refuse)
      · exact .next (h.takeRecord.at e1).refuse
theorem State.Meets.execPurgeDone (h : s.Meets F) : ResultMeets F (Machine.execPurgeDone s) := by
  unfold Machine.execPurgeDone
  dsimp only
  split
  · exact .next h
  · next e1 =>
      split
      · refine .ite ?_ (.next (h.takeReport.at e1))
        split
        · exact .next (.upd (.freeSheets (.upd ((h.takeReport.at e1).each (fun _ _ h3 => h3.dropSheets)))))
        · exact .next (.reprints (.upd (.freeSheets (.upd ((h.takeReport.at e1).each (fun _ _ h3 => h3.dropSheets))))))
      · exact .next (h.takeReport.at e1)
theorem State.Meets.jobDone {i e} (h : s.Meets F) : (s.jobDone i e).Meets F := by
  unfold State.jobDone
  dsimp only
  refine .ite ?_ h.mapPg
  split
  · exact h.mapPg
  · exact .setPg (.ite h.mapPg.hold.drop h.mapPg)
theorem State.Meets.jobEnd {k} (h : s.Meets F) : (s.jobEnd k).Meets F := by
  unfold State.jobEnd
  dsimp only
  split
  · exact h.startJobs
  · split
    · exact h.upd.startJobs
    · exact .startJobs (.ite h.upd.jobDone h.upd.jobFailed)
theorem State.Meets.execEncoderJobEnd {k streams} (h : s.Meets F) : ResultMeets F (Machine.execEncoderJobEnd k streams s) :=
  .ite (.next h) (.next h.encEnd.jobEnd)
theorem State.Meets.execPageReport (h : s.Meets F) : ResultMeets F (Machine.execPageReport s) := by
  unfold Machine.execPageReport
  dsimp only
  split
  · exact .next h.reprints
  · split
    · exact .next h.reprints.upd
    · exact .ite (.next h.reprints.setServing.upd.flushServing) (.next h.reprints)

/-! ## Placer -/

theorem State.Meets.plateSettle (h : s.Meets F) : s.plateSettle.Meets F := h.each fun _ _ h1 => .ite h1.stationOn h1
theorem State.Meets.plateCancel {k} (h : s.Meets F) : (s.plateCancel k).Meets F := h.setMoves
theorem State.Meets.plateEmpty {k} (h : s.Meets F) : (s.plateEmpty k).Meets F := h.setMoves
theorem State.Meets.moveDone {m rest} (h : s.Meets F) : (s.moveDone m rest).Meets F := by
  unfold State.moveDone
  dsimp only
  split
  · exact h
  · refine .ite h.setObject.setMoves (.ite h ?_)
    split
    · exact h.plateCancel.putStation
    · exact h.setObject.upd.setMoves.plateSettle
theorem State.Meets.freeObject {hh} (h : s.Meets F) : PairMeets F (s.freeObject hh) := by
  unfold State.freeObject
  dsimp only
  refine .ite h (.ite h ?_)
  split
  · exact h
  · exact .ite (.ite h (.mk h.release)) (.ite h (.ite (.mk h.setObject) (.mk h.release.plateSettle)))
theorem State.Meets.memberInfo {level w} (h : s.Meets F) : PairMeets F (s.memberInfo level w) :=
  .ite h (.ite h (.ite h (.ite h (.mk h.choose.free.free))))
theorem State.Meets.membersInfo {level l} (h : s.Meets F) : PairMeets F (s.membersInfo level l) := by
  induction l generalizing s with
  | nil => exact h
  | cons w l ih =>
    unfold State.membersInfo
    split
    · next e => exact h.memberInfo.at e
    · next e =>
      split
      · next e2 => exact (ih (h.memberInfo.at e)).at e2
      · next e2 => exact (ih (h.memberInfo.at e)).at e2
theorem State.Meets.makeGroup {arg0 arg1 arg2} (h : s.Meets F) : TripleMeets F (s.makeGroup arg0 arg1 arg2) := by
  unfold State.makeGroup
  dsimp only
  refine .ite h ?_
  split
  · exact h
  · split
    · next e2 =>
        exact .mk (h.membersInfo.at e2)
    · next e2 =>
        refine .ite (.mk (h.membersInfo.at e2)) ?_
        split
        · exact .mk (h.membersInfo.at e2)
        · next e3 =>
            exact .mk ((h.membersInfo.at e2).takeIndex.at e3).setObject
theorem State.Meets.loadProgram {rd n base p} (h : s.Meets F) : (s.loadProgram rd n base p).Meets F :=
  have h3 := h.setCore.reinitCore.setCore.setFld.setFld.setFld; .ite h3.runCore h3
theorem State.Meets.report {j device core id} (h : s.Meets F) : (s.report j device core id).Meets F := h.setReg
theorem State.Meets.placeFrom {rd hh j base l} (h : s.Meets F) : PairMeets F (s.placeFrom rd hh j base l) := by
  induction l generalizing s j base with
  | nil => exact h
  | cons p l ih =>
    unfold State.placeFrom
    extract_lets d
    split
    next e =>
      have h1 := PairMeets.of_eq e (.ite h (.mk h.choose.free))
      split
      · exact h1
      · exact ih (.report (.hold (.upd (.ite h1.loadProgram h1))))
theorem State.Meets.placeProgram {hh} (h : s.Meets F) : TripleMeets F (s.placeProgram hh) := by
  unfold State.placeProgram
  dsimp only
  split
  · exact h.each fun _ _ h1 => h1.setReg
  · refine .ite (h.each (fun _ _ h1 => h1.setReg)) ?_
    split
    · exact h.each fun _ _ h1 => h1.setReg
    · split
      · next e5 =>
          exact .mk (PairMeets.at (.placeFrom (h.each (fun _ _ h1 => h1.setReg))) e5)
      · next e5 =>
          exact .mk (PairMeets.at (.placeFrom (h.each (fun _ _ h1 => h1.setReg))) e5)
theorem State.Meets.removeProgram {id} (h : s.Meets F) : PairMeets F (s.removeProgram id) := by
  unfold State.removeProgram
  dsimp only
  split
  · exact h
  · exact .ite (.mk (.ite h h.haltRequest)) (.mk (.drop (.upd (.ite h.reinitCore.setCore h))))
theorem State.Meets.bindAffinity {g w} (h : s.Meets F) : PairMeets F (s.bindAffinity g w) := .ite h (.mk h.upd)
theorem State.Meets.setPlcPort {p x} (h : s.Meets F) : (s.setPlcPort p x).Meets F := h.upd
theorem State.Meets.setResult {port code value} (h : s.Meets F) : (s.setResult port code value).Meets F :=
  .ite (have h1 := h.setFld.setFld; .ite h1 h1.event) h.setPlcPort
theorem State.Meets.plcDo {c} (h : s.Meets F) : PairMeets F (s.plcDo c) := by
  unfold State.plcDo
  split
  · refine .ite (.ite (.mk h.createData) ?_) (.mk h.createData)
    split
    · exact .mk h.createData.setMoves
    · exact .mk h.createData
  · exact .mk h.freeObject
  · exact .mk h.makeGroup
  · exact .mk h.placeProgram
  · exact .mk h.removeProgram
  · exact .mk h.bindAffinity
  · exact h
theorem State.Meets.plcRun {k} (h : s.Meets F) : (s.plcRun k).Meets F := by
  induction k generalizing s with
  | zero => exact h
  | succ k ih =>
    unfold State.plcRun
    split
    · exact h
    · split
      · next e => exact h.plcDo.at e
      · next e => exact ih (.setResult (.upd (h.plcDo.at e)))
theorem State.Meets.execPlacerMoveDone (h : s.Meets F) : ResultMeets F (Machine.execPlacerMoveDone s) := by
  unfold Machine.execPlacerMoveDone
  refine .ite (.next h) ?_
  split
  · exact .next h.plcRun
  · exact .next h.moveDone.plcRun
theorem State.Meets.execDeferredFreeDone {index} (h : s.Meets F) : ResultMeets F (Machine.execDeferredFreeDone index s) := by
  unfold Machine.execDeferredFreeDone
  split
  · exact .next h
  · exact .next (.ite h.release.plateSettle.event.plcRun h)
theorem State.Meets.plcIssue {port cmd} (h : s.Meets F) : (s.plcIssue port cmd).Meets F := .ite h h.setResult.upd.plcRun
theorem State.Meets.execCreate {port} (h : s.Meets F) : ResultMeets F (Machine.execCreate port s) := .next h.plcIssue
theorem State.Meets.execFree {port} (h : s.Meets F) : ResultMeets F (Machine.execFree port s) := .next h.plcIssue
theorem State.Meets.execGroup {port} (h : s.Meets F) : ResultMeets F (Machine.execGroup port s) := .next h.plcIssue
theorem State.Meets.execPlaceProgram {port} (h : s.Meets F) : ResultMeets F (Machine.execPlaceProgram port s) := .next h.plcIssue
theorem State.Meets.execRemoveProgram {port} (h : s.Meets F) : ResultMeets F (Machine.execRemoveProgram port s) := .next h.plcIssue
theorem State.Meets.execBindAffinity {port} (h : s.Meets F) : ResultMeets F (Machine.execBindAffinity port s) := .next h.plcIssue
theorem State.Meets.haltDone {n reason} (h : s.Meets F) : (s.haltDone n reason).Meets F := h.haltCore.plcRun
theorem State.Meets.execHaltComplete {core} (h : s.Meets F) : ResultMeets F (Machine.execHaltComplete core s) := .next (.ite h.haltDone h)
theorem State.Meets.execEvictLogRead (h : s.Meets F) : ResultMeets F (Machine.execEvictLogRead s) := by
  unfold Machine.execEvictLogRead
  dsimp only
  refine .ite (.next h) ?_
  split
  · exact .next h.answer
  · exact .next h.upd.answer
theorem State.Meets.poisonLogRead (h : s.Meets F) : s.poisonLogRead.Meets F := h.upd.setReg.answer
theorem State.Meets.execPoisonOffsetRead (h : s.Meets F) : ResultMeets F (Machine.execPoisonOffsetRead s) :=
  .ite (.next h) (.ite (.next h.upd.setReg.answer) (.next h.answer))

/-! ## Thaiq -/

theorem State.Meets.laneLock {lane b} (h : s.Meets F) : (s.laneLock lane b).Meets F := .ite h h.setFld.event
theorem State.Meets.thaiqSet {b} (h : s.Meets F) : (s.thaiqSet b).Meets F :=
  .ite h (have h1 := h.setFld.setFld; .ite h1.upd.setFld h1.upd.setFld.setFld.setFld)
theorem State.Meets.execThaiqEnable (h : s.Meets F) : ResultMeets F (Machine.execThaiqEnable s) := .next (.ite h.thaiqSet h)
theorem State.Meets.hopDown {forced} (h : s.Meets F) : (s.hopDown forced).Meets F := h.raise
theorem State.Meets.execLinkTrained {pos devices lat} (h : s.Meets F) : ResultMeets F (Machine.execLinkTrained pos devices lat s) :=
  .ite (.next h) (have h1 := h.laneLock.laneLock; .ite (.next h1.upd.setFld.setFld) (.next h1.setFld.hopDown))
theorem State.Meets.execHopDown {lane} (h : s.Meets F) : ResultMeets F (Machine.execHopDown lane s) := .next (.ite h.laneLock.setFld.hopDown h)
theorem State.Meets.execReceiveLaneLock {lane} (h : s.Meets F) : ResultMeets F (Machine.execReceiveLaneLock lane s) :=
  .ite (.next (.ite h.laneLock.setFld h.laneLock)) (.next h)
theorem State.Meets.remoteFault {pos cls bitNo block forced} (h : s.Meets F) : (s.remoteFault pos cls bitNo block forced).Meets F :=
  meets_sharing (fun h2 => .ite h2.upd.safetyFault h2.upd.engineFault) (.ite h h.setFld.setFld.setFld.setFld.raiseAs)
theorem State.Meets.execBroadcastArrival {pos cls bitNo block} (h : s.Meets F) : ResultMeets F (Machine.execBroadcastArrival pos cls bitNo
    block s) :=
  .ite (.next h) (.next h.send.remoteFault)

/-! ## Faults -/

theorem State.Meets.afterClear {code b} (h : s.Meets F) : (s.afterClear code b).Meets F :=
  .ite (.ite h.laserEval h) (.ite (h.each (fun _ _ h1 => h1.setFld)) (.ite (.ite (h.each (fun _ _ h2 => h2.setFld.setFbit)) h)
      (.ite h.laserEval (.ite (h.setFld.each (fun _ _ h4 => h4.regen)) h))))
theorem State.Meets.clearBit {code b} (h : s.Meets F) : (s.clearBit code b).Meets F := .ite h h.setReg.upd.afterClear
theorem State.Meets.faultWrite {code mask} (h : s.Meets F) : (s.faultWrite code mask).Meets F :=
  .irqAgain (h.each (fun _ _ h1 => h1.clearBit))
theorem State.Meets.execFaultClear {code mask} (h : s.Meets F) : ResultMeets F (Machine.execFaultClear code mask s) :=
  .next (.ite h.faultWrite h)
theorem State.Meets.markCommitted {k m} (h : s.Meets F) : (s.markCommitted k m).Meets F := h.markAll
theorem State.Meets.forceGraver {k b} (h : s.Meets F) : (s.forceGraver k b).Meets F :=
  .ite h.raise.laserEval (.ite h.setGv (.ite h.raise.laserEval (.ite (.markCommitted (.raise (.ite h h.setFld.event))) (.ite
      h.event.raise.markCommitted (.ite h.raise.markCommitted (.ite h.raise.markCommitted (.ite h.upd.laserAll.raise (.ite h.raise
      h))))))))
theorem State.Meets.forceCoast {k} (h : s.Meets F) : (s.forceCoast k).Meets F := h.coastExpire
theorem State.Meets.forceGauge {b} (h : s.Meets F) : (s.forceGauge b).Meets F := .ite (.ite h.raise h) (.ite h.gaugeFault h)
theorem State.Meets.forceDouble (h : s.Meets F) : s.forceDouble.Meets F := .ite h (.raise (.ite h h.haltDone))
theorem State.Meets.forceMover {b} (h : s.Meets F) : (s.forceMover b).Meets F := .ite h.busErrorFree (.ite h.descFault h)
theorem State.Meets.forceCodec {b} (h : s.Meets F) : (s.forceCodec b).Meets F :=
  .ite h.setDecoder (.ite (.ite h.encFault.jobEnd h.raise) h)
theorem State.Meets.forceDram {b} (h : s.Meets F) : (s.forceDram b).Meets F := .ite h.free.errLog.raise.rankOut (.ite h.raise h)
theorem State.Meets.forceInputLost (h : s.Meets F) : s.forceInputLost.Meets F := h.inputLost
theorem State.Meets.forceBit {code b} (h : s.Meets F) : (s.forceBit code b).Meets F :=
  .ite (.ite h.failRail (.ite h.forceInputLost (.ite h.raise h))) (.ite (.ite h.raise.pllLossEffects (.ite h.raise.gateGclk (.ite
      h.forceCoast h))) (.ite (.ite h.forceGauge h) (.ite (.ite h.raise h) (.ite (.ite h.forceDouble h) (.ite (.ite
      h.free.logPoison.raise (.ite h.logEvict.raise h)) (.ite (.ite h.sqFail (.ite h.raise h)) (.ite h.forceMover (.ite
      h.forceCodec (.ite h.forceDram (.ite (.ite h.setGv h) (.ite (.ite h.hopDown (.ite h.free.free.remoteFault h)) (.ite (.ite
      h.free.free.free.thermalTrip (.ite h.raise h)) (.ite (.ite h.hvFault h) (.ite (.ite h.raise h) (.ite h.forceGraver (.ite
      (.ite h.axisFault (.ite h.chopFail.axisSettle (.ite h.busTrip h))) (.ite (.ite h.axisFault (.ite h.stall h))
      h)))))))))))))))))
theorem State.Meets.forceWrite {code mask} (h : s.Meets F) : (s.forceWrite code mask).Meets F :=
  .ite (h.each (fun _ _ h1 => h1.forceBit)) h
theorem State.Meets.execFaultForce {code mask} (h : s.Meets F) : ResultMeets F (Machine.execFaultForce code mask s) :=
  .next (.ite h.forceWrite h)

/-! ## MemPos -/

theorem State.Meets.execLb {n rd rs1 imm} (h : s.Meets F) : ResultMeets F (Machine.execLb n rd rs1 imm s) :=
  h.instr fun _ h1 => h1.toG.checked
theorem State.Meets.execLbu {n rd rs1 imm} (h : s.Meets F) : ResultMeets F (Machine.execLbu n rd rs1 imm s) :=
  h.instr fun _ h1 => h1.toG.checked
theorem State.Meets.execLh {n rd rs1 imm} (h : s.Meets F) : ResultMeets F (Machine.execLh n rd rs1 imm s) :=
  h.instr fun _ h1 => h1.toG.checked
theorem State.Meets.execLhu {n rd rs1 imm} (h : s.Meets F) : ResultMeets F (Machine.execLhu n rd rs1 imm s) :=
  h.instr fun _ h1 => h1.toG.checked
theorem State.Meets.execLw {n rd rs1 imm} (h : s.Meets F) : ResultMeets F (Machine.execLw n rd rs1 imm s) :=
  h.instr fun _ h1 => h1.toG.checked
theorem State.Meets.execPld {n pd rs1 imm} (h : s.Meets F) : ResultMeets F (Machine.execPld n pd rs1 imm s) :=
  h.instr fun _ h1 => h1.toP.checked
theorem State.Meets.execSb {n rt rs1 imm} (h : s.Meets F) : ResultMeets F (Machine.execSb n rt rs1 imm s) :=
  h.instr (fun _ h1 => .checked (.done h1.setCore))
theorem State.Meets.execSh {n rt rs1 imm} (h : s.Meets F) : ResultMeets F (Machine.execSh n rt rs1 imm s) :=
  h.instr (fun _ h1 => .checked (.done h1.setCore))
theorem State.Meets.execSw {n rt rs1 imm} (h : s.Meets F) : ResultMeets F (Machine.execSw n rt rs1 imm s) :=
  h.instr (fun _ h1 => .checked (.done h1.setCore))
theorem State.Meets.execPst {n ps rs1 imm} (h : s.Meets F) : ResultMeets F (Machine.execPst n ps rs1 imm s) :=
  h.instr (fun _ h1 => .checked (.done h1.setCore))
theorem State.Meets.branch {n imm taken} (h : s.Meets F) : (Machine.branch s n imm taken).Meets F := .ite (.jump h) (.done h)
theorem State.Meets.execBeq {n rt rs1 imm} (h : s.Meets F) : ResultMeets F (Machine.execBeq n rt rs1 imm s) := h.instr fun _ h1 => h1.branch
theorem State.Meets.execBne {n rt rs1 imm} (h : s.Meets F) : ResultMeets F (Machine.execBne n rt rs1 imm s) := h.instr fun _ h1 => h1.branch
theorem State.Meets.execBlt {n rt rs1 imm} (h : s.Meets F) : ResultMeets F (Machine.execBlt n rt rs1 imm s) := h.instr fun _ h1 => h1.branch
theorem State.Meets.execBge {n rt rs1 imm} (h : s.Meets F) : ResultMeets F (Machine.execBge n rt rs1 imm s) := h.instr fun _ h1 => h1.branch
theorem State.Meets.execBltu {n rt rs1 imm} (h : s.Meets F) : ResultMeets F (Machine.execBltu n rt rs1 imm s) :=
  h.instr fun _ h1 => h1.branch
theorem State.Meets.execBgeu {n rt rs1 imm} (h : s.Meets F) : ResultMeets F (Machine.execBgeu n rt rs1 imm s) :=
  h.instr fun _ h1 => h1.branch
theorem State.Meets.execJal {n rd imm} (h : s.Meets F) : ResultMeets F (Machine.execJal n rd imm s) := h.instr fun _ h1 => .jump h1.setG
theorem State.Meets.execJalr {n rd rs1 imm} (h : s.Meets F) : ResultMeets F (Machine.execJalr n rd rs1 imm s) :=
  h.instr (fun _ h1 => .ite .trap (.jump h1.setG))
theorem State.Meets.execPadd {n pd pa pb} (h : s.Meets F) : ResultMeets F (Machine.execPadd n pd pa pb s) := h.instr fun _ h1 => h1.toP
theorem State.Meets.execPsub {n pd pa pb} (h : s.Meets F) : ResultMeets F (Machine.execPsub n pd pa pb s) := h.instr fun _ h1 => h1.toP
theorem State.Meets.execPaddc {n pd pa gb} (h : s.Meets F) : ResultMeets F (Machine.execPaddc n pd pa gb s) := h.instr fun _ h1 => h1.toP
theorem State.Meets.execPaddf {n pd pa gb} (h : s.Meets F) : ResultMeets F (Machine.execPaddf n pd pa gb s) := h.instr fun _ h1 => h1.toP
theorem State.Meets.execPmov {n pd pa} (h : s.Meets F) : ResultMeets F (Machine.execPmov n pd pa s) := h.instr fun _ h1 => h1.toP
theorem State.Meets.execPsetc {n pd ga} (h : s.Meets F) : ResultMeets F (Machine.execPsetc n pd ga s) := h.instr fun _ h1 => h1.toP
theorem State.Meets.execPlo {n gd pa} (h : s.Meets F) : ResultMeets F (Machine.execPlo n gd pa s) := h.instr fun _ h1 => h1.toG
theorem State.Meets.execPhi {n gd pa} (h : s.Meets F) : ResultMeets F (Machine.execPhi n gd pa s) := h.instr fun _ h1 => h1.toG
theorem State.Meets.execPsetlo {n pd ga} (h : s.Meets F) : ResultMeets F (Machine.execPsetlo n pd ga s) := h.instr fun _ h1 => h1.toP
theorem State.Meets.execPsethi {n pd ga} (h : s.Meets F) : ResultMeets F (Machine.execPsethi n pd ga s) := h.instr fun _ h1 => h1.toP
theorem State.Meets.execPcmp {n gd pa pb} (h : s.Meets F) : ResultMeets F (Machine.execPcmp n gd pa pb s) := h.instr fun _ h1 => h1.toG
theorem State.Meets.execPmulc {n pd pa gb} (h : s.Meets F) : ResultMeets F (Machine.execPmulc n pd pa gb s) := h.instr fun _ h1 => h1.toP

/-! ## Objects -/

theorem State.Meets.engReported (h : s.Meets F) : PairMeets F s.engReported := .ite (.mk h.free) h
theorem State.Meets.engineRead {f who} (h : s.Meets F) : PairMeets F (s.engineRead f who) := by
  unfold State.engineRead
  dsimp only
  split
  · exact h.engReported
  · exact h
  · exact h
  · exact h
  · exact h
  · exact h
  · exact .ite h h.free
  · exact .ite h h.free
  · exact .ite h h.free
  · exact h
  · exact .ite h h.free
  · exact h
theorem State.Meets.emitterRead {k e f} (h : s.Meets F) : PairMeets F (s.emitterRead k e f) := by
  unfold State.emitterRead
  split
  · exact h
  · exact h
  · exact h
  · exact h.divFree
  · exact h
theorem State.Meets.powerRead {c f} (h : s.Meets F) : PairMeets F (s.powerRead c f) := by
  unfold State.powerRead
  split
  · exact h
  · exact h
  · exact h.free
  · exact h.free
  · exact h
  · exact h
  · exact h
  · exact h
  · exact h
  · exact h
  · exact h
  · exact h
  · exact h
  · exact h
  · exact h
  · exact h
  · exact h
  · exact h
theorem State.Meets.readOne {hh c f who} (h : s.Meets F) : PairMeets F (s.readOne hh c f who) := by
  unfold State.readOne
  split
  · exact h
  · exact h
  · exact h
  · exact h
  · exact h
  · exact h
  · exact h
  · split
    · exact h.engineRead
    · exact h
    · exact h
    · exact h.emitterRead
    · exact h
    · exact h
    · exact h
    · exact h
    · exact h.powerRead
theorem State.Meets.stationWrite {k v} (h : s.Meets F) : (s.stationWrite k v).Meets F :=
  .ite (.ite h.putStation (.ite h.stationOn.recheckReady (.ite h h.putStation.plateEmpty))) (.ite h.plateCancel.putStation (.ite
      h.putStation h.stationOff.recheckReady))
theorem State.Meets.hvClear {n v} (h : s.Meets F) : (s.hvClear n v).Meets F :=
  meets_sharing (fun h1 => meets_sharing (fun h2 => meets_sharing (fun h4 => .irqAgain (.ite h4.clearBit h4)) (.ite h2.setFbit.clearBit h2.setFbit))
      (.ite h1.setFld h1)) (.ite h.setFld h)
theorem State.Meets.enableWrite {hh c v} (h : s.Meets F) : (s.enableWrite hh c v).Meets F := by
  unfold State.enableWrite
  dsimp only
  split
  · exact h.upd
  · exact h.stationWrite
  · exact h.axisEnable.axisSettle
  · exact h.zoneWrite
  · exact h.hvWrite.recheckReady
  · exact h.hvWrite.recheckReady
  · exact h.setRefused
  · exact h.setRefused
  · exact h
  · exact h.mapObject
  · exact h.mapObject
  · exact h.upd
theorem State.Meets.faultField {c v} (h : s.Meets F) : (s.faultField c v).Meets F := by
  unfold State.faultField
  split
  · exact h.faultWrite
  · exact h.faultWrite
  · exact h.faultWrite
  · exact h.faultWrite
  · exact h.hvClear
  · exact h.hvClear
  · exact h
theorem State.Meets.engineSet {e} (h : s.Meets F) : (s.engineSet e).Meets F := .ite h.upd h.upd
theorem State.Meets.gpioSet {v} (h : s.Meets F) : (s.gpioSet v).Meets F := h.upd
theorem State.Meets.gpioClr {v} (h : s.Meets F) : (s.gpioClr v).Meets F := h.upd
theorem State.Meets.engineWrite {f v who} (h : s.Meets F) : (s.engineWrite f v who).Meets F := by
  unfold State.engineWrite
  dsimp only
  split
  · exact h.request
  · exact h.engineSet
  · exact h.engineSet
  · exact h.upd
  · exact h.upd
  · exact h.gpioSet
  · exact h.gpioClr
  · exact h.setPlcPort
  · exact h.setPlcPort
  · exact h.setPlcPort
  · exact h.plcIssue
  · exact h
theorem State.Meets.stationField {k f v} (h : s.Meets F) : (s.stationField k f v).Meets F :=
  .ite h.setStation (.ite h.setStation h.setStation)
theorem State.Meets.arrayWrite {k f v} (h : s.Meets F) : (s.arrayWrite k f v).Meets F := by
  unfold State.arrayWrite
  dsimp only
  split
  · exact h.bankNext
  · exact h.setReg
  · exact h.setFld.laserEval
  · exact h.setCalPort
  · exact h.setCalPort
  · exact h.calCmd
  · exact h.setCalPort
  · exact h
theorem State.Meets.emitterWrite {k e f v} (h : s.Meets F) : (s.emitterWrite k e f v).Meets F := .ite h.setFld (.ite h.logRo h.setFld)
theorem State.Meets.axisWrite {a f v} (h : s.Meets F) : (s.axisWrite a f v).Meets F := by
  unfold State.axisWrite
  dsimp only
  split
  · exact h.setReg
  · exact h.setPair
  · exact .ite h.startAxis.axisSettle h
  · exact .ite h.stopAxis.axisSettle h
  · exact h.setReg
  · exact h.setReg
  · exact h.setPair
  · exact h.setPair
  · exact h
theorem State.Meets.powerWrite {c f v} (h : s.Meets F) : (s.powerWrite c f v).Meets F := by
  unfold State.powerWrite
  dsimp only
  split
  · exact h.setFld.brakeEval
  · exact h.setFld.zonesFollow.recheckReady
  · exact h.setFld.zonesFollow.recheckReady
  · exact h.setZone.zonesFollow
  · exact h.setFld
  · exact h.setFld
  · exact h.setFld
  · exact h.setReg
  · exact h
theorem State.Meets.writeOne {hh c f v who} (h : s.Meets F) : (s.writeOne hh c f v who).Meets F := by
  unfold State.writeOne
  split
  · exact h.enableWrite
  · exact h.faultField
  · split
    · exact h.engineWrite
    · exact h.stationField
    · exact h.arrayWrite
    · exact h.emitterWrite
    · exact h.axisWrite
    · exact .ite h.mapPg h
    · exact h
    · exact h
    · exact h.powerWrite
theorem State.Meets.readMember {w f width who} (h : s.Meets F) : PairMeets F (s.readMember w f width who) := by
  unfold State.readMember
  dsimp only
  refine .ite ?_ (.ite h (.mk h.choose.free))
  split
  · exact .ite h.readOne (.mk h.free)
  · exact h
theorem State.Meets.readMembers {f width who l} (h : s.Meets F) : PairMeets F (s.readMembers f width who l) := by
  induction l generalizing s with
  | nil => exact h
  | cons w l ih =>
    unfold State.readMembers
    split
    · next e => exact h.readMember.at e
    · next e =>
      split
      · next e2 => exact (ih (h.readMember.at e)).at e2
      · next e2 => exact (ih (h.readMember.at e)).at e2
theorem State.Meets.readField {hh c f width who} (h : s.Meets F) : PairMeets F (s.readField hh c f width who) := by
  unfold State.readField
  dsimp only
  refine .ite h.readOne ?_
  split
  · exact h
  · exact h
  · exact h.readMembers
  · exact h.readMembers
  · exact h.readMembers
  · exact h
  · exact h
  · split
    · exact h
    · exact h.readMember
theorem State.Meets.writeMember {w f v who} (h : s.Meets F) : PairMeets F (s.writeMember w f v who) := by
  unfold State.writeMember
  refine .ite ?_ (.ite h (.mk h.choose.send))
  split
  · exact .ite (.mk h.writeOne) h
  · exact h
theorem State.Meets.writeField {hh c f v who} (h : s.Meets F) : PairMeets F (s.writeField hh c f v who) :=
  .ite (.foldl h fun _ _ hq => hq.writeMember) h.writeOne
theorem State.Meets.fieldWrite {handle field value} (h : s.Meets F) : PairMeets F (s.fieldWrite handle field value) := by
  unfold State.fieldWrite
  split
  · exact h
  · split
    · exact h
    · exact .ite h (.mk h.writeField)
theorem State.Meets.startEvent (h : s.Meets F) : s.startEvent.Meets F := .ite h.send h
theorem State.Meets.driveOutput {o kind} (h : s.Meets F) : (s.driveOutput o kind).Meets F :=
  .ite h.upd (.ite h.hvWrite.recheckReady (.ite h.upd (.ite (.ite h h.calPhaseReset.acRestart) (.ite (.ite h h.startEvent) (.ite
      (.ite h h.startAxis.axisSettle) (.ite (.ite h h.startAxis.axisSettle) (.ite h.setFld h)))))))
theorem State.Meets.execStationEnable {k on} (h : s.Meets F) : ResultMeets F (Machine.execStationEnable k on s) :=
  .next (.ite h.stationWrite h)
theorem State.Meets.execGpioSet {value} (h : s.Meets F) : ResultMeets F (Machine.execGpioSet value s) := .next (.ite h.gpioSet h)
theorem State.Meets.execGpioClr {value} (h : s.Meets F) : ResultMeets F (Machine.execGpioClr value s) := .next (.ite h.gpioClr h)

/-! ## Calendar -/

theorem State.Meets.countLate (h : s.Meets F) : s.countLate.Meets F := h.bump.event
theorem State.Meets.dropAction (h : s.Meets F) : s.dropAction.Meets F := h.bump.raise
theorem State.Meets.calendarPost {n payload} (h : s.Meets F) : (s.calendarPost n payload).Meets F := .ite h.deliver h.deliver.dropAction
theorem State.Meets.tellOwner {e x} (h : s.Meets F) : (s.tellOwner e x).Meets F := .ite h.calendarPost h
theorem State.Meets.fireAction {e x} (h : s.Meets F) : (s.fireAction e x).Meets F := by
  unfold State.fireAction
  dsimp only
  refine .ite h ?_
  split
  · exact h.driveOutput
  · exact h.driveOutput
  · exact h.driveOutput
  · exact .ite h.fieldWrite h.fieldWrite.dropAction
  · exact .ite h.dropAction h.wakeCore
  · exact h.calendarPost
  · exact h
theorem State.Meets.fireEntry {e x} (h : s.Meets F) : (s.fireEntry e x).Meets F := by
  unfold State.fireEntry
  dsimp only
  split
  · exact .ite (.ite h.setEntry h.setEntry.setG.waitDone) h.setEntry.fireAction
  · exact h.setEntry.fireAction
theorem State.Meets.discardEntry {e x} (h : s.Meets F) : (s.discardEntry e x).Meets F := h.setEntry.countLate.tellOwner
theorem State.Meets.fireGauge {n} (h : s.Meets F) : (s.fireGauge n).Meets F := by
  unfold State.fireGauge
  dsimp only
  refine .ite h (h.foldl (fun _ _ h1 => ?_))
  split
  · exact .ite (.fireEntry (.ite h1.countLate h1)) h1
  · exact h1
theorem State.Meets.fireWith {n} (h : s.Meets F) : (s.fireWith n).Meets F := h.foldl fun _ _ h1 => h1.fireGauge
theorem State.Meets.execEntryCrossing {gauge value} (h : s.Meets F) : ResultMeets F (Machine.execEntryCrossing gauge value s) :=
  .next (.ite h.moveGauge.fireWith h)
theorem State.Meets.execCalendarFireDeferred {gauge} (h : s.Meets F) : ResultMeets F (Machine.execCalendarFireDeferred gauge s) :=
  .next (.ite h.fireWith h)
theorem State.Meets.hostDone {result ticket} (h : s.Meets F) : (s.hostDone result ticket).Meets F := h.setFld.setFld.event
theorem State.Meets.removeEntry {e} (h : s.Meets F) : (s.removeEntry e).Meets F := by
  unfold State.removeEntry
  dsimp only
  split
  · exact h
  · exact .ite h.dropEntry (.ite h.dropEntry.settle h.dropEntry.hostDone)
theorem State.Meets.disarmTicket {owner ticket} (h : s.Meets F) : PairMeets F (s.disarmTicket owner ticket) := by
  unfold State.disarmTicket
  dsimp only
  split
  · exact h
  · exact .ite h (.mk h.removeEntry)
theorem State.Meets.execCalendarAccept (h : s.Meets F) : ResultMeets F (Machine.execCalendarAccept s) := by
  unfold Machine.execCalendarAccept
  dsimp only
  split
  · exact .next h
  · refine .ite (.next h) ?_
    split
    · split
      · exact .next h.upd
      · refine .ite (.next h.upd.acceptEntry) ?_
        split
        · exact .ite (.next (.ite h.upd.setEntry.calDone.setCore h.upd.setEntry.calDone.setCore.setG.waitDone)) (.next
            h.upd.setEntry.calDone.setCore.settle)
        · exact .next h.upd.setEntry.calDone.setCore.settle
    · refine .ite (.next h.upd.hostDone) ?_
      split
      · exact .next h.upd.event.hostDone
      · split
        · exact .next h.upd.takeEntry.acceptEntry
        · exact .next h.upd.takeEntry
    · exact have h11 := h.upd.disarmTicket; .ite (.next h11.setCore.calDone.settle) (.next h11.hostDone)
theorem State.Meets.execCalendarInsertDone {entry} (h : s.Meets F) : ResultMeets F (Machine.execCalendarInsertDone entry s) := by
  unfold Machine.execCalendarInsertDone
  dsimp only
  split
  · exact .next h
  · exact .ite (.next h) (meets_sharing (fun h3 => .next (.ite h3 (.ite h3.discardEntry h3.countLate.fireEntry))) (.ite h.setEntry (.ite
      h.setEntry.calDone.settle h.setEntry.hostDone)))
theorem State.Meets.execHaltEntryRemoval {core} (h : s.Meets F) : ResultMeets F (Machine.execHaltEntryRemoval core s) := .next h.upd
theorem State.Meets.execArmGoArm (h : s.Meets F) : ResultMeets F (Machine.execArmGoArm s) :=
  .ite (.next h) (.ite (.next h.logRo) (.next h.setFld.upd))
theorem State.Meets.execArmGoDisarm (h : s.Meets F) : ResultMeets F (Machine.execArmGoDisarm s) :=
  .ite (.next h) (.ite (.next h.logRo) (.next h.setFld.upd))
theorem State.Meets.execEntrySel {entry} (h : s.Meets F) : ResultMeets F (Machine.execEntrySel entry s) :=
  .ite (.next h) (.next (h.setFld.each (fun _ _ h2 => h2.setReg)))
theorem State.Meets.refuseGauge (h : s.Meets F) : s.refuseGauge.Meets F := h.setFld
theorem State.Meets.execResume {gauge} (h : s.Meets F) : ResultMeets F (Machine.execResume gauge s) :=
  .ite (.next h) (.ite (.next h.refuseGauge) (.ite (.next h) (.next (.fireWith (h.setFld.upd.foldl (fun _ _ h3 =>
      h3.discardEntry))))))
theorem State.Meets.execFlush {gauge} (h : s.Meets F) : ResultMeets F (Machine.execFlush gauge s) :=
  .ite (.next h) (.ite (.next h.refuseGauge) (.next (.setFld (h.foldl (fun _ _ h1 => h1.removeEntry)))))

/-! ## Intake -/

theorem State.Meets.ringSizeWrite {en size v} (h : s.Meets F) : (s.ringSizeWrite en size v).Meets F := .ite h.setFld (.ite h h.logRo)
theorem State.Meets.sqCfgWrite {n v} (h : s.Meets F) : (s.sqCfgWrite n v).Meets F :=
  have h2 := h.ringSizeWrite.setFld.setFld; .ite h2.setFld.setFld.setFld h2
theorem State.Meets.cqCfgWrite {n v} (h : s.Meets F) : (s.cqCfgWrite n v).Meets F :=
  have h2 := h.ringSizeWrite.setFld.setFld; .irqEval (.ite h2.setFld.setFld.setFld h2)
theorem State.Meets.execRingEnable {cq n value} (h : s.Meets F) : ResultMeets F (Machine.execRingEnable cq n value s) :=
  .next (.ite (.ite h.cqCfgWrite h.sqCfgWrite) h)
theorem State.Meets.sqDoorbell {n v} (h : s.Meets F) : (s.sqDoorbell n v).Meets F := .ite h.event h.setFld
theorem State.Meets.execSqDoorbell {n value} (h : s.Meets F) : ResultMeets F (Machine.execSqDoorbell n value s) := .next (.ite h.sqDoorbell h)
theorem State.Meets.execCqHeadDoorbell {n value} (h : s.Meets F) : ResultMeets F (Machine.execCqHeadDoorbell n value s) :=
  .next (.ite h.setFld.irqAgain h)
theorem State.Meets.execIntakeFetch {n data ok} (h : s.Meets F) : ResultMeets F (Machine.execIntakeFetch n data ok s) :=
  .ite (.next h) (.ite (.next h) (.ite (.next h.upd.send.sqFail) (have h2 := h.upd.send.setFld.setFld; .ite (.next h2.setDq) (.next
      h2.upd.setFld.chainStart))))
theorem State.Meets.execIntakeCompletionWrite {n} (h : s.Meets F) : ResultMeets F (Machine.execIntakeCompletionWrite n s) := by
  unfold Machine.execIntakeCompletionWrite
  dsimp only
  split
  · exact .next h
  · exact .ite (.next h) (.ite (.next h.setDq.raise.flushServing) (have h4 := h.setDq.send.setFld.setFld; .next (.flushServing
      (.irqEval (.ite h4.setFld h4)))))
theorem State.Meets.unmask {v} (h : s.Meets F) : (s.unmask v).Meets F := h.setFld.msixRelease
theorem State.Meets.execMsixUnmask {v} (h : s.Meets F) : ResultMeets F (Machine.execMsixUnmask v s) :=
  .next (.ite h.unmask (.ite (h.upd.each (fun _ _ h1 => h1.msixRelease)) h))
theorem State.Meets.apertureLog {f} (h : s.Meets F) : (s.apertureLog f).Meets F := h.setFld.event
theorem State.Meets.execWindowRead {x len} (h : s.Meets F) : ResultMeets F (Machine.execWindowRead x len s) := by
  unfold Machine.execWindowRead
  dsimp only
  refine .ite (.next h) (.ite (.next h.apertureLog.answer) ?_)
  split
  · exact .next h
  · exact .next (.answer (.ite h.apertureLog h))
theorem State.Meets.execWindowWrite {x data} (h : s.Meets F) : ResultMeets F (Machine.execWindowWrite x data s) :=
  .ite (.next h) (.ite (.next h.apertureLog) (.next h.objWrite))

/-! ## Ports -/

theorem State.Meets.mramCmd {v} (h : s.Meets F) : (s.mramCmd v).Meets F := .ite h (.ite h.setFld h.updTinder.setFld)
theorem State.Meets.execMramWordWrite {v} (h : s.Meets F) : ResultMeets F (Machine.execMramWordWrite v s) := .next h.mramCmd
theorem State.Meets.execMramWriteDone {ok} (h : s.Meets F) : ResultMeets F (Machine.execMramWriteDone ok s) := by
  unfold Machine.execMramWriteDone
  dsimp only
  split
  · exact .next h
  · exact .next h.free.setMram.updTinder.setFld.setFld.event
theorem State.Meets.setFlashByte {a v} (h : s.Meets F) : (s.setFlashByte a v).Meets F := h.updTinder
theorem State.Meets.flashErase {a0} (h : s.Meets F) : (s.flashErase a0).Meets F := h.updTinder
theorem State.Meets.flashProgram {a l} (h : s.Meets F) : (s.flashProgram a l).Meets F := by
  induction l generalizing s a with
  | nil => exact h
  | cons b l ih => exact ih (.ite h.setFlashByte h.free.setFlashByte)
theorem State.Meets.flashSpoil {a k} (h : s.Meets F) : (s.flashSpoil a k).Meets F := by
  induction k generalizing s a with
  | zero => exact h
  | succ k ih => exact ih h.free.setFlashByte
theorem State.Meets.setBuf {i l} (h : s.Meets F) : (s.setBuf i l).Meets F := by
  induction l generalizing s i with
  | nil => exact h
  | cons b l ih => exact ih h.setFld
theorem State.Meets.flashRefuse (h : s.Meets F) : s.flashRefuse.Meets F := h.setFld
theorem State.Meets.flashCmd {v} (h : s.Meets F) : (s.flashCmd v).Meets F :=
  have h1 := h.setFld.setFld; .ite h1 (.ite h1.flashRefuse h1.updTinder.setFld)
theorem State.Meets.execFlashRead {len} (h : s.Meets F) : ResultMeets F (Machine.execFlashRead len s) := .next h.flashCmd
theorem State.Meets.execFlashErase {key} (h : s.Meets F) : ResultMeets F (Machine.execFlashErase key s) := .next h.flashCmd
theorem State.Meets.execFlashProgram {key len} (h : s.Meets F) : ResultMeets F (Machine.execFlashProgram key len s) := .next h.flashCmd
theorem State.Meets.flashIdle (h : s.Meets F) : s.flashIdle.Meets F := h.updTinder.setFld
theorem State.Meets.execFlashOpDone (h : s.Meets F) : ResultMeets F (Machine.execFlashOpDone s) := by
  unfold Machine.execFlashOpDone
  dsimp only
  split
  · exact .next h
  · exact .next (.setFld (.flashIdle (.ite h.setBuf (.ite h.flashErase h.flashProgram))))
theorem State.Meets.execFlashOpTimeout (h : s.Meets F) : ResultMeets F (Machine.execFlashOpTimeout s) := by
  unfold Machine.execFlashOpTimeout
  split
  · exact .next h
  · exact .next (.setFld (.flashIdle (.ite (.setBuf (PairMeets.foldl h fun _ _ hq => hq.free)) h.flashSpoil)))

/-! ## Service -/

theorem State.Meets.noteUndelivered {n hh} (h : s.Meets F) : (s.noteUndelivered n hh).Meets F := h.setCore
theorem State.Meets.deliverWrite {n} (h : s.Meets F) : (s.deliverWrite n).Meets F := by
  unfold State.deliverWrite
  dsimp only
  split
  · exact h
  · refine .settle ?_
    split
    · exact h.setCore.noteUndelivered
    · split
      · exact h.setCore.noteUndelivered
      · exact .ite h.setCore.writeField h.setCore.writeField.noteUndelivered
theorem State.Meets.drainTo {n i k} (h : s.Meets F) : (s.drainTo n i k).Meets F := by
  induction k generalizing s with
  | zero => exact h
  | succ k ih => exact .ite (ih h.deliverWrite) h
theorem State.Meets.postWrite {n hh f v} (h : s.Meets F) : (s.postWrite n hh f v).Meets F :=
  .ite (.done h.setCore) (.done h.setCore.deliverWrite.setCore.spendAtLeast)
theorem State.Meets.objectRead {n rs1 field wide} {put : State → Nat → State} (h : s.Meets F) (hf : ∀ t v, t.Meets F → (put t v).Meets F)
    :
    (s.objectRead n rs1 field wide put).Meets F := by
  unfold State.objectRead
  dsimp only
  refine .ite .trap ?_
  split
  · exact .trapAfter h.drainTo
  · split
    · next e => exact .trapAfter (h.drainTo.readField.at e)
    · next e => exact .done (.spendAtLeast (hf _ _ (h.drainTo.readField.at e)))
theorem State.Meets.objectWrite {n rs1 field v wide} (h : s.Meets F) : (s.objectWrite n rs1 field v wide).Meets F :=
  .ite .trap h.postWrite
theorem State.Meets.effObjrd {n rd rs1 field} (h : s.Meets F) : (Machine.effObjrd n rd rs1 field s).Meets F :=
  h.objectRead fun _ _ h1 => h1.setG
theorem State.Meets.execObjrd {n rd rs1 field} (h : s.Meets F) : ResultMeets F (Machine.execObjrd n rd rs1 field s) :=
  h.instr fun _ h1 => h1.effObjrd
theorem State.Meets.effObjrdp {n pd rs1 field} (h : s.Meets F) : (Machine.effObjrdp n pd rs1 field s).Meets F :=
  h.objectRead fun _ _ h1 => h1.setP
theorem State.Meets.execObjrdp {n pd rs1 field} (h : s.Meets F) : ResultMeets F (Machine.execObjrdp n pd rs1 field s) :=
  h.instr fun _ h1 => h1.effObjrdp
theorem State.Meets.execObjwr {n rt rs1 field} (h : s.Meets F) : ResultMeets F (Machine.execObjwr n rt rs1 field s) :=
  h.instr fun _ h1 => h1.objectWrite
theorem State.Meets.execObjwrp {n pt rs1 field} (h : s.Meets F) : ResultMeets F (Machine.execObjwrp n pt rs1 field s) :=
  h.instr fun _ h1 => h1.objectWrite
theorem State.Meets.execObjectWriteDelivery {core} (h : s.Meets F) : ResultMeets F (Machine.execObjectWriteDelivery core s) :=
  .next (.ite h.deliverWrite h)
theorem State.Meets.loadResult {n rd size v} (h : s.Meets F) : (s.loadResult n rd size v).Meets F :=
  .ite h.setP (.ite h.setG (.ite h.setG h.setG))
theorem State.Meets.dramLate {hh} (h : s.Meets F) : PairMeets F (s.dramLate hh) := .ite h.choose h
theorem State.Meets.effObjld {n rd ga gb size} (h : s.Meets F) : (Machine.effObjld n rd ga gb size s).Meets F :=
  .ite .illegal (.serviceOnly (.ite .trap (.ite .trap (.ite (.trapAfter h.dramLate) (.done h.dramLate.loadResult)))))
theorem State.Meets.execObjld {n rd ga gb size} (h : s.Meets F) : ResultMeets F (Machine.execObjld n rd ga gb size s) :=
  h.instr fun _ h1 => h1.effObjld
theorem State.Meets.effObjst {n rt ga gb size} (h : s.Meets F) : (Machine.effObjst n rt ga gb size s).Meets F :=
  .ite .illegal (.serviceOnly (.ite .trap (.ite .trap (.ite .trap (.ite (.trapAfter h.dramLate) (.done h.dramLate.objWrite))))))
theorem State.Meets.execObjst {n rt ga gb size} (h : s.Meets F) : ResultMeets F (Machine.execObjst n rt ga gb size s) :=
  h.instr fun _ h1 => h1.effObjst
theorem State.Meets.effQpop {n rd ga q} (h : s.Meets F) : (Machine.effQpop n rd ga q s).Meets F := by
  unfold Machine.effQpop
  dsimp only
  refine .ite .illegal (.serviceOnly (.checked (.ite .trap ?_)))
  split
  · exact h.toG
  · exact h.setDq.setCore.toG
theorem State.Meets.execQpop {n rd ga q} (h : s.Meets F) : ResultMeets F (Machine.execQpop n rd ga q s) := h.instr fun _ h1 => h1.effQpop
theorem State.Meets.effQpush {n rd ga q} (h : s.Meets F) : (Machine.effQpush n rd ga q s).Meets F :=
  .ite .illegal (.serviceOnly (.checked (.ite .trap (.ite h.toG h.setDq.toG))))
theorem State.Meets.execQpush {n rd ga q} (h : s.Meets F) : ResultMeets F (Machine.execQpush n rd ga q s) := h.instr fun _ h1 => h1.effQpush
theorem State.Meets.drainWrites {n k} (h : s.Meets F) : (s.drainWrites n k).Meets F := by
  induction k generalizing s with
  | zero => exact h
  | succ k ih => exact ih h.deliverWrite
theorem State.Meets.reinitNow {n} (h : s.Meets F) : (s.reinitNow n).Meets F := .ite h.drainWrites.reinitCore h
theorem State.Meets.execCoreReinit {core} (h : s.Meets F) : ResultMeets F (Machine.execCoreReinit core s) := .next h.reinitNow

/-! ## System -/

theorem State.Meets.crUpdate {n rd cr f clear} (h : s.Meets F) : (s.crUpdate n rd cr f clear).Meets F := by
  unfold State.crUpdate
  dsimp only
  split
  · exact .illegal
  · exact .ite .illegal (.done h.crLatch.crPut.setG)
theorem State.Meets.effCrr {n rd cr} (h : s.Meets F) : (Machine.effCrr n rd cr s).Meets F := by
  unfold Machine.effCrr
  split
  · exact .illegal
  · exact .done h.crLatch.setG
theorem State.Meets.execCrr {n rd cr} (h : s.Meets F) : ResultMeets F (Machine.execCrr n rd cr s) := h.instr fun _ h1 => h1.effCrr
theorem State.Meets.execCrw {n rd cr rs1} (h : s.Meets F) : ResultMeets F (Machine.execCrw n rd cr rs1 s) := h.instr fun _ h1 => h1.crUpdate
theorem State.Meets.execCrs {n rd cr rs1} (h : s.Meets F) : ResultMeets F (Machine.execCrs n rd cr rs1 s) := h.instr fun _ h1 => h1.crUpdate
theorem State.Meets.execCrc {n rd cr rs1} (h : s.Meets F) : ResultMeets F (Machine.execCrc n rd cr rs1 s) := h.instr fun _ h1 => h1.crUpdate
theorem State.Meets.execNop {n} (h : s.Meets F) : ResultMeets F (Machine.execNop n s) := h.instr fun _ h1 => .done h1
theorem State.Meets.execEret {n} (h : s.Meets F) : ResultMeets F (Machine.execEret n s) :=
  h.instr (fun _ h1 => .ite .illegal (.jump h1.setCore))
theorem State.Meets.execBrk {n code} (h : s.Meets F) : ResultMeets F (Machine.execBrk n code s) := h.instr (fun _ h1 => .ite (.stop h1) .trap)
theorem State.Meets.execHalt {n} (h : s.Meets F) : ResultMeets F (Machine.execHalt n s) := h.instr fun _ h1 => .stop h1
theorem State.Meets.execIsync {n} (h : s.Meets F) : ResultMeets F (Machine.execIsync n s) := h.instr fun _ h1 => .done h1.setCore

/-! ## Timed -/

theorem State.Meets.coreArm {n action arg gauge dir pos discard} (h : s.Meets F) : TripleMeets F (s.coreArm n action arg gauge dir pos
    discard) := by
  unfold State.coreArm
  dsimp only
  refine .ite h (.ite h ?_)
  split
  · exact .mk h.event
  · exact .mk h.takeEntry.setCore.upd
theorem State.Meets.execArm {n rd pa gb gauge dir ld} (h : s.Meets F) : ResultMeets F (Machine.execArm n rd pa gb gauge dir ld s) :=
  h.instr fun _ h1 => .done h1.coreArm.setG
theorem State.Meets.effDisarm {n rd ga} (h : s.Meets F) : (Machine.effDisarm n rd ga s).Meets F := .ite h.toG (.done h.setCore.upd.setG)
theorem State.Meets.execDisarm {n rd ga} (h : s.Meets F) : ResultMeets F (Machine.execDisarm n rd ga s) := h.instr fun _ h1 => h1.effDisarm
theorem State.Meets.effWaitp {n rd pa gauge dir we} (h : s.Meets F) : (Machine.effWaitp n rd pa gauge dir we s).Meets F :=
  .ite (.done h.setCore.setG) (.ite (.trapAfter h.coreArm) (.hold h.coreArm.setCore))
theorem State.Meets.execWaitp {n rd pa gauge dir we} (h : s.Meets F) : ResultMeets F (Machine.execWaitp n rd pa gauge dir we s) :=
  h.instr fun _ h1 => h1.effWaitp
theorem State.Meets.effWaitev {n rd mask} (h : s.Meets F) : (Machine.effWaitev n rd mask s).Meets F :=
  .ite .illegal (.ite (.done h.takeConditions) (.hold h.setCore))
theorem State.Meets.execWaitev {n rd mask} (h : s.Meets F) : ResultMeets F (Machine.execWaitev n rd mask s) :=
  h.instr fun _ h1 => h1.effWaitev
theorem Effect.Meets.virtualOnly {g} {e : Effect} (h : e.Meets F) : (Machine.virtualOnly g e).Meets F := .ite h .illegal
theorem State.Meets.execGrd {n pd gauge} (h : s.Meets F) : ResultMeets F (Machine.execGrd n pd gauge s) := h.instr fun _ h1 => h1.toP
theorem State.Meets.execGst {n gd gauge} (h : s.Meets F) : ResultMeets F (Machine.execGst n gd gauge s) := h.instr fun _ h1 => h1.toG
theorem State.Meets.execGsrc {n gauge ga} (h : s.Meets F) : ResultMeets F (Machine.execGsrc n gauge ga s) :=
  h.instr (fun _ h1 => .virtualOnly (.done h1.setReg))
theorem State.Meets.execGc1 {n gauge ga} (h : s.Meets F) : ResultMeets F (Machine.execGc1 n gauge ga s) :=
  h.instr (fun _ h1 => .virtualOnly (.done h1.setReg))
theorem State.Meets.execGc2 {n gauge ga} (h : s.Meets F) : ResultMeets F (Machine.execGc2 n gauge ga s) :=
  h.instr (fun _ h1 => .virtualOnly (.done h1.setReg))
theorem State.Meets.execGoff {n gauge pa} (h : s.Meets F) : ResultMeets F (Machine.execGoff n gauge pa s) :=
  h.instr (fun _ h1 => .virtualOnly (.done h1.setPair))
theorem State.Meets.effGcommit {n gd gauge} (h : s.Meets F) : (Machine.effGcommit n gd gauge s).Meets F :=
  .virtualOnly (.done h.vgCommit.setG)
theorem State.Meets.execGcommit {n gd gauge} (h : s.Meets F) : ResultMeets F (Machine.execGcommit n gd gauge s) :=
  h.instr fun _ h1 => h1.effGcommit
theorem State.Meets.effSend {n rd ga pb} (h : s.Meets F) : (Machine.effSend n rd ga pb s).Meets F :=
  .ite .trap (.ite (.ite (.done h.deliver.setG) h.toG) (.ite h.choose.toG (.done h.choose.send.setG)))
theorem State.Meets.execSend {n rd ga pb} (h : s.Meets F) : ResultMeets F (Machine.execSend n rd ga pb s) := h.instr fun _ h1 => h1.effSend
theorem State.Meets.effRecv {n rd pa nw} (h : s.Meets F) : (Machine.effRecv n rd pa nw s).Meets F :=
  .ite (.done h.takeMail) (.ite h.toG (.hold h.setCore))
theorem State.Meets.execRecv {n rd pa nw} (h : s.Meets F) : ResultMeets F (Machine.execRecv n rd pa nw s) := h.instr fun _ h1 => h1.effRecv
theorem State.Meets.effSlotw {n gt ga pb} (h : s.Meets F) : (Machine.effSlotw n gt ga pb s).Meets F :=
  .done h.setReg.setReg.setReg.setReg
theorem State.Meets.execSlotw {n gt ga pb} (h : s.Meets F) : ResultMeets F (Machine.execSlotw n gt ga pb s) :=
  h.instr fun _ h1 => h1.effSlotw
theorem State.Meets.execRemoteMessageArrival {core payload source} (h : s.Meets F) : ResultMeets F (Machine.execRemoteMessageArrival core
    payload source s) :=
  .next (.ite h.deliver h)

/-! ## Stepping -/

theorem State.Meets.effOf {i n} (h : s.Meets F) : (Machine.effOf i n s).Meets F := by
  unfold Machine.effOf
  split
  · exact h.toG
  · exact h.toG
  · exact h.toG
  · exact h.toG
  · exact h.toG
  · exact h.toG
  · exact h.toG
  · exact h.toG
  · exact h.toG
  · exact h.toG
  · exact h.toG
  · exact h.toG
  · exact h.toG
  · exact h.toG
  · exact h.toG
  · exact h.toG
  · exact h.toG
  · exact h.toG
  · exact h.toG
  · exact h.toG
  · exact h.toG
  · exact h.toG
  · exact h.toG
  · exact h.toG
  · exact h.toG
  · exact h.toG
  · exact h.toG
  · exact h.toG
  · exact h.toG
  · exact h.toG
  · exact h.toG
  · exact h.toG
  · exact h.toG
  · exact h.toG
  · exact h.toG
  · exact h.toG.checked
  · exact h.toG.checked
  · exact h.toG.checked
  · exact h.toG.checked
  · exact h.toG.checked
  · exact h.toP.checked
  · exact .checked (.done h.setCore)
  · exact .checked (.done h.setCore)
  · exact .checked (.done h.setCore)
  · exact .checked (.done h.setCore)
  · exact h.branch
  · exact h.branch
  · exact h.branch
  · exact h.branch
  · exact h.branch
  · exact h.branch
  · exact .jump h.setG
  · exact .ite .trap (.jump h.setG)
  · exact h.toP
  · exact h.toP
  · exact h.toP
  · exact h.toP
  · exact h.toP
  · exact h.toP
  · exact h.toG
  · exact h.toG
  · exact h.toP
  · exact h.toP
  · exact h.toG
  · exact h.toP
  · exact h.effCrr
  · exact h.crUpdate
  · exact h.crUpdate
  · exact h.crUpdate
  · exact .done h
  · exact .ite .illegal (.jump h.setCore)
  · exact .ite (.stop h) .trap
  · exact .stop h
  · exact .done h.setCore
  · exact .done h.coreArm.setG
  · exact h.effDisarm
  · exact h.effWaitp
  · exact h.effWaitev
  · exact h.toP
  · exact h.toG
  · exact .virtualOnly (.done h.setReg)
  · exact .virtualOnly (.done h.setReg)
  · exact .virtualOnly (.done h.setReg)
  · exact .virtualOnly (.done h.setPair)
  · exact h.effGcommit
  · exact h.effSend
  · exact h.effRecv
  · exact h.effSlotw
  · exact h.effObjrd
  · exact h.effObjrdp
  · exact h.objectWrite
  · exact h.objectWrite
  · exact h.effObjld
  · exact h.effObjst
  · exact h.effQpop
  · exact h.effQpush
  · exact .illegal
theorem State.Meets.fetch {n} (h : s.Meets F) : PairMeets F (s.fetch n) := by
  unfold State.fetch
  dsimp only
  split
  · exact h
  · exact .mk h.free
theorem State.Meets.runOne {n} (h : s.Meets F) : (s.runOne n).Meets F := by
  unfold State.runOne
  refine h.fetch.perform fun _ h2 => ?_
  split
  · exact h2.effOf
  · exact .illegal
theorem State.Meets.passedWait {n} (h : s.Meets F) : (s.passedWait n).Meets F := by
  unfold State.passedWait
  dsimp only
  split
  · split
    · exact .ite h.dropEntry.countLate.setG.waitDone h
    · exact h
  · exact h
theorem State.Meets.execCoreStep {core} (h : s.Meets F) : ResultMeets F (Machine.execCoreStep core s) :=
  .ite (meets_sharing (fun h2 => .next (.ite h2 h2.haltCore)) (.ite h.setCore.takeGaugeFault h.setCore.runOne.passedWait)) (.next h)

/-! ## Bus -/

theorem State.Meets.after {r} (hr : ResultMeets F r) : (s.after r).Meets F := by
  obtain ⟨t, rfl, ht⟩ := hr
  exact ht
theorem State.Meets.plain {a v} (h : s.Meets F) : (s.plain a v).Meets F := by
  unfold State.plain
  split
  · exact h
  · exact .ite h.logRo h.setReg
theorem State.Meets.locked {ok a v} (h : s.Meets F) : (s.locked ok a v).Meets F := .ite h.plain h.logRo
theorem State.Meets.wSys {r v} (h : s.Meets F) : (s.wSys r v).Meets F := .ite h.flashCmd (.ite h.logRo h.plain)
theorem State.Meets.railCfg {n v} (h : s.Meets F) : (s.railCfg n v).Meets F :=
  .ite h.logRo (.ite h.setReg.seqLevels (.seqLevels (.ite h.plain.riseRail h.plain)))
theorem State.Meets.seqCtrl {v} (h : s.Meets F) : (s.seqCtrl v).Meets F :=
  meets_sharing (fun h2 => meets_sharing (fun h3 => .ite (.after h3.execPowerDown) h3) (.ite (.after h2.execShutdownReq) h2)) (h.each (fun _ _
      h1 => .after h1.execRailRetry))
theorem State.Meets.wTinder {a r v} (h : s.Meets F) : (s.wTinder a r v).Meets F := by
  unfold State.wTinder
  split
  · exact h.railCfg
  · exact .ite h.seqCtrl (.ite h.mramCmd h.plain)
theorem State.Meets.synEnable {k on} (h : s.Meets F) : (s.synEnable k on).Meets F :=
  h.setFld.setSyn.setFld.setFld.setFld.setFld.setFld.syncLost.gaugeEvents
theorem State.Meets.synCtrl {k v} (h : s.Meets F) : (s.synCtrl k v).Meets F := have h1 := h.setFld.setFld.setFld; .ite h1 h1.synEnable
theorem State.Meets.gclkCtrl {k v} (h : s.Meets F) : (s.gclkCtrl k v).Meets F :=
  have h1 := h.setFld.setFld.setFld; .ite h1.gclkEnable.phaseReset h1.gclkEnable
theorem State.Meets.wClock {a r v} (h : s.Meets F) : (s.wClock a r v).Meets F := by
  unfold State.wClock
  split
  · exact .after h.execPllReacquire
  · exact .after h.execPllReacquire
  · exact h.synCtrl
  · split
    · exact .after h.execGclkDivWrite
    · exact h.gclkCtrl
    · exact .ite h.gclkUngate h
    · exact h.plain
theorem State.Meets.gaugeCfg {n v} (h : s.Meets F) : (s.gaugeCfg n v).Meets F :=
  .ite h (.gaugeEnable (.setFld (.ite h.setFld.setFld.setFld.dirExpect h)))
theorem State.Meets.gaugeCmd {v} (h : s.Meets F) : (s.gaugeCmd v).Meets F :=
  meets_sharing (fun h2 => meets_sharing (fun h3 => .ite (.after h3.execPreset) h3) (.ite (.after h2.execFlush) h2)) (.ite (.after
      h.setFld.execResume) h.setFld)
theorem State.Meets.rgSrc {k v} (h : s.Meets F) : (s.rgSrc k v).Meets F := .after h.free.free.execRgSrcWrite
theorem State.Meets.fidCtrl {k v} (h : s.Meets F) : (s.fidCtrl k v).Meets F :=
  meets_sharing (fun h2 => .ite (.after h2.execAssume) h2) (.ite (.after h.setFld.execRestart) h.setFld)
theorem State.Meets.wGauge {a r v} (h : s.Meets F) : (s.wGauge a r v).Meets F := by
  unfold State.wGauge
  split
  · exact h.gaugeCfg
  · exact .ite h.plain h
  · exact .ite h.plain h
  · exact .ite (.stillNow (.setFld (.ite h.setFld h))) h
  · split
    · exact .ite (.after h.execVgCommit) h
    · exact h.rgSrc
    · exact h.fidCtrl
    · exact h.markDest
    · exact .ite h.gaugeCmd h.plain
theorem State.Meets.wCalendar {a r v} (h : s.Meets F) : (s.wCalendar a r v).Meets F :=
  .ite (.ite h.logRo (.ite (.after h.execArmGoArm) (.ite (.after h.execArmGoDisarm) (.ite h.setFld h)))) (.ite (.after
      h.execEntrySel) h.plain)
theorem State.Meets.stCtl {v} (h : s.Meets F) : (s.stCtl v).Meets F :=
  .each (h.each (fun _ _ h1 => h1.runCore)) fun _ _ h3 => h3.haltRequest
theorem State.Meets.coreCtrl {n v} (h : s.Meets F) : (s.coreCtrl n v).Meets F :=
  have h1 := h.setFld.setFld.setFld; meets_sharing (fun h2 => meets_sharing (fun h3 => meets_sharing (fun h4 => .ite h4.runCore h4) (.ite (.after
      h3.execCoreStep) h3)) (.ite h2.reinitNow h2)) (.ite h1.haltRequest h1)
theorem State.Meets.wScriber {a r v} (h : s.Meets F) : (s.wScriber a r v).Meets F := by
  unfold State.wScriber
  dsimp only
  split
  · exact h.coreCtrl
  · exact .ite h.setCore h.logRo
  · exact .after h.execDebugRegisterWrite
  · split
    · exact h.locked
    · exact h.locked
    · exact .ite (h.each (fun _ _ h3 => h3.runCore)) (.ite (h.each (fun _ _ h4 => h4.haltRequest)) (.ite h.stCtl h.plain))
theorem State.Meets.vecCtrl {n v} (h : s.Meets F) : (s.vecCtrl n v).Meets F := .ite h.setFld h.unmask
theorem State.Meets.wIntake {a r v} (h : s.Meets F) : (s.wIntake a r v).Meets F := by
  unfold State.wIntake
  split
  · exact h.locked
  · exact h.locked
  · exact h.sqCfgWrite
  · exact h.sqDoorbell
  · split
    · exact h.locked
    · exact h.locked
    · exact h.cqCfgWrite
    · exact h.setFld.irqAgain
    · split
      · exact h.vecCtrl
      · exact h.plain.irqEval
      · exact h.plain
theorem State.Meets.decCtrl {k v} (h : s.Meets F) : (s.decCtrl k v).Meets F := .ite h.decEnable.decFlush h.decEnable
theorem State.Meets.wCodec {a r v} (h : s.Meets F) : (s.wCodec a r v).Meets F := by
  unfold State.wCodec
  split
  · exact h.decCtrl
  · exact h.locked
  · exact .ite (.after h.execRunPush) h
  · exact .ite h.encGo h
  · exact .ite h.plain.codecGate.startJobs h.plain
theorem State.Meets.wDramc {a r v} (h : s.Meets F) : (s.wDramc a r v).Meets F :=
  .ite h.locked (.ite (meets_sharing (fun h1 => .ite (.after h1.execFullRetrain) h1) (.ite (.after h.execTrainGo) h)) (.ite (h.plain.each
      (fun _ _ h3 => h3.tempUpdate)) h.plain))
theorem State.Meets.wPlate {a r v} (h : s.Meets F) : (s.wPlate a r v).Meets F := .ite h.plain.setFld h.plain
theorem State.Meets.wThaiq {a r v} (h : s.Meets F) : (s.wThaiq a r v).Meets F := .ite h.setFld.thaiqSet (.ite h.locked h.plain)
theorem State.Meets.zoneCfg {z v} (h : s.Meets F) : (s.zoneCfg z v).Meets F := h.setReg.zonesFollow.zoneWrite
theorem State.Meets.wHearth {a r v} (h : s.Meets F) : (s.wHearth a r v).Meets F := by
  unfold State.wHearth
  split
  · exact h.zoneCfg
  · exact h.plain.zonesFollow.recheckReady
  · exact h.plain.zonesFollow.recheckReady
  · exact .ite h.tripAck h.plain
theorem State.Meets.hvCfg {n v} (h : s.Meets F) : (s.hvCfg n v).Meets F := h.setReg.hvWrite.recheckReady
theorem State.Meets.wHv {a r v} (h : s.Meets F) : (s.wHv a r v).Meets F := by
  unfold State.wHv
  split
  · exact h.hvCfg
  · exact .ite h.plain.setFld.hvAll.recheckReady h.plain
theorem State.Meets.pageqCmd {k v} (h : s.Meets F) : (s.pageqCmd k v).Meets F :=
  meets_sharing (fun h1 => .ite (.after h1.execPageqWithdraw) h1) (.ite (.after h.execPageqPush) h)
theorem State.Meets.wGraver {k a r v} (h : s.Meets F) : (s.wGraver k a r v).Meets F := by
  unfold State.wGraver
  dsimp only
  refine .ite h.locked ?_
  split
  · exact h.setFld.stationWrite
  · exact h.locked
  · exact h.locked
  · exact h.locked
  · exact h.locked
  · exact h.bankNext
  · exact h.plain.ctrlIdle
  · exact .ite (.after h.execCtrlPush) h
  · exact .ite (.after h.plain.execCtrlDmaGo) h.plain
  · exact h.pageqCmd
  · exact .ite (.after h.plain.execLutBuildGo) h.plain
  · exact h.plain.laserEval
  · exact h.plain
theorem State.Meets.axisCmd {x v} (h : s.Meets F) : (s.axisCmd x v).Meets F :=
  meets_sharing (fun h1 => .ite (.after h1.execAxisStop) h1) (.ite (.after h.execAxisStart) h)
theorem State.Meets.wAxis {x a r v fb cmd} (h : s.Meets F) : (s.wAxis x a r v fb cmd).Meets F :=
  .ite h.setFld.axisEnable.axisSettle (.ite h.locked (.ite h.axisCmd h.plain))
theorem State.Meets.wFoc {u a r v} (h : s.Meets F) : (s.wFoc u a r v).Meets F :=
  .ite h.plain.brakeEval (.ite (h.plain.each (fun _ _ h2 => h2.regen)) h.wAxis)
theorem State.Meets.wOwn {c u a r v} (h : s.Meets F) : (s.wOwn c u a r v).Meets F := by
  unfold State.wOwn
  split
  · exact h.wSys
  · exact h.wTinder
  · exact h.wClock
  · exact h.wGauge
  · exact h.wCalendar
  · exact h.wScriber
  · exact .ite h.plcIssue h.plain
  · exact h.wIntake
  · split
    · exact h.chCtrlWrite
    · exact h.plain
  · exact h.wCodec
  · exact h.wDramc
  · exact h.wPlate
  · exact h.wThaiq
  · exact h.wHearth
  · exact h.wHv
  · exact h.wGraver
  · exact h.wFoc
  · exact h.wAxis
  · exact h.plain
theorem State.Meets.wBlock {c u a r v} (h : s.Meets F) : (s.wBlock c u a r v).Meets F :=
  .ite h.faultWrite (.ite h.forceWrite (.ite h.plain.irqEval (.ite h.wOwn.irqAgain h.wOwn)))
theorem State.Meets.wWindow {a v be} (h : s.Meets F) : (s.wWindow a v be).Meets F := by
  unfold State.wWindow
  split
  · exact .ite h.logAccess (.ite (h.each (fun _ _ h2 => h2.setCore)) h.logRo)
  · exact .ite (.ite h.logRo h.logAccess) h.logAccess
theorem State.Meets.busWrite {a v be} (h : s.Meets F) : (s.busWrite a v be).Meets F := by
  unfold State.busWrite
  split
  · exact h.wWindow
  · exact .ite h.logAccess (.ite h.logAccess (.ite h.logAccess h.wBlock))
theorem State.Meets.busWrites {a v be} (h : s.Meets F) : (s.busWrites a v be).Meets F := .ite h.busWrite h.busWrite.busWrite
theorem State.Meets.execRegisterWrite {addr value how} (h : s.Meets F) : ResultMeets F (Machine.execRegisterWrite addr value how s) :=
  .next (.ite h.configWrite (.ite h.busWrites h))
theorem State.Meets.execW1cClear {addr value} (h : s.Meets F) : ResultMeets F (Machine.execW1cClear addr value s) := .next h.busWrite
theorem State.Meets.execIntStatClear {code mask} (h : s.Meets F) : ResultMeets F (Machine.execIntStatClear code mask s) :=
  .next (.ite h.busWrite h)
theorem State.Meets.latchRead {v hi} (h : s.Meets F) : (s.latchRead v hi).Meets F := h.setReg.answer
theorem State.Meets.latchPair {lo hi} (h : s.Meets F) : (s.latchPair lo hi).Meets F := h.upd.answer
theorem State.Meets.latchedAt {a} (h : s.Meets F) : (s.latchedAt a).Meets F := h.answer
theorem State.Meets.rTinder {a r} (h : s.Meets F) : (s.rTinder a r).Meets F := by
  unfold State.rTinder
  dsimp only
  split
  · exact h.answer
  · exact .ite h.choose.choose.answer (.ite h.answer (.ite h.answer (.ite h.answer h.answer)))
theorem State.Meets.refOk {p} (h : s.Meets F) : PairMeets F (s.refOk p) := .ite h (.ite h.choose h)
theorem State.Meets.rClock {a r} (h : s.Meets F) : (s.rClock a r).Meets F := by
  unfold State.rClock
  split
  · exact h.latchRead
  · exact h.refOk.answer
  · exact h.answer
theorem State.Meets.rGauge {a r} (h : s.Meets F) : (s.rGauge a r).Meets F := by
  unfold State.rGauge
  dsimp only
  split
  · exact h.answer
  · exact h.latchRead
  · exact h.latchRead
  · exact .after h.execCapPosHiRead
  · split
    · exact h.answer
    · exact h.answer
    · exact h.answer
    · exact h.gaugeRate.answer
    · exact .ite h.answer (.ite h.answer h.answer)
theorem State.Meets.rCalendar {a r} (h : s.Meets F) : (s.rCalendar a r).Meets F := by
  unfold State.rCalendar
  dsimp only
  split
  · exact h.answer
  · exact .ite h.answer h.answer
theorem State.Meets.rScriber {a r} (h : s.Meets F) : (s.rScriber a r).Meets F := by
  unfold State.rScriber
  dsimp only
  split
  · exact h.answer
  · exact h.answer
  · exact .after h.execDebugRegisterRead
  · exact h.answer
  · exact .ite h.answer (.ite h.answer h.answer)
theorem State.Meets.rPlacer {a r} (h : s.Meets F) : (s.rPlacer a r).Meets F := by
  unfold State.rPlacer
  split
  · exact h.answer
  · exact h.latchRead
  · exact h.answer
  · exact h.answer
  · exact h.poisonLogRead
  · exact .after h.execPoisonOffsetRead
  · exact .after h.execEvictLogRead
  · exact h.answer
theorem State.Meets.rIntake {a r} (h : s.Meets F) : (s.rIntake a r).Meets F := by
  unfold State.rIntake
  split
  · exact h.answer
  · exact .ite h.answer (.ite h.answer (.ite h.answer (.ite h.choose.answer h.answer)))
theorem State.Meets.rBlock {c u a r} (h : s.Meets F) : (s.rBlock c u a r).Meets F := by
  unfold State.rBlock
  dsimp only
  refine .ite h.answer ?_
  split
  · exact .ite h.engReported.answer h.answer
  · exact h.rTinder
  · exact h.rClock
  · exact h.rGauge
  · exact h.rCalendar
  · exact h.rScriber
  · exact h.rPlacer
  · exact h.rIntake
  · exact .ite h.answer h.answer
  · split
    · exact h.latchPair
    · exact h.latchedAt
    · exact h.answer
  · exact .ite h.latchPair (.ite h.latchedAt h.answer)
  · exact .ite h.latchPair (.ite h.latchedAt h.answer)
  · exact .ite h.latchPair (.ite h.latchedAt h.answer)
  · exact h.answer
theorem State.Meets.busRead {a} (h : s.Meets F) : (s.busRead a).Meets F := by
  unfold State.busRead
  split
  · exact .ite h.logAccess.answer (.ite h.logAccess.answer h.rBlock)
  · split
    · exact .ite h.logAccess.answer h.answer
    · exact .ite (.ite h.logAccess.answer h.answer) h.logAccess.answer
theorem State.Meets.busReads {a len} (h : s.Meets F) : (s.busReads a len).Meets F := by
  unfold State.busReads
  dsimp only
  split
  · exact h.answer
  · exact .ite h.busRead.busRead.answer (.ite h.busRead.answer h.busRead)
theorem State.Meets.execLoReadLatch {x} (h : s.Meets F) : ResultMeets F (Machine.execLoReadLatch x s) := by
  unfold Machine.execLoReadLatch
  refine .next ?_
  split
  · exact h.configRead
  · exact h.answer
  · exact .ite h.busReads h.answer
  · exact .ite h.busReads h.answer

/-! ## Boot -/

theorem State.Meets.setStage {v} (h : s.Meets F) : (s.setStage v).Meets F := h.setFld
theorem State.Meets.bootError {c} (h : s.Meets F) : (s.bootError c).Meets F := .ite h.setFld h
theorem State.Meets.bootFail {c} (h : s.Meets F) : (s.bootFail c).Meets F := h.bootError.setStage
theorem State.Meets.loadTable (h : s.Meets F) : s.loadTable.Meets F := h.each fun _ _ h1 => h1.setReg.setReg.setReg
theorem State.Meets.startBoard (h : s.Meets F) : s.startBoard.Meets F := h.each fun _ _ h1 => h1.riseRail
theorem State.Meets.bootConfig (h : s.Meets F) : s.bootConfig.Meets F :=
  meets_sharing (fun h1 => .ite h1.setTinder.bootError.seqProgress (have h3 := h1.setTinder.setTinder.setReg; .ite
      h3.loadTable.startBoard.seqProgress h3.bootError.seqProgress)) (.ite h.setTinder h)
theorem State.Meets.scriptFrom {off k} (h : s.Meets F) : (s.scriptFrom off k).Meets F := by
  induction k generalizing s off with
  | zero => exact h
  | succ k ih => exact .ite (ih h.busWrite) h.bootError
theorem State.Meets.script (h : s.Meets F) : s.script.Meets F := .setStage (.ite h.scriptFrom h)
theorem State.Meets.releaseLatch (h : s.Meets F) : s.releaseLatch.Meets F :=
  h.setFld.setReg.setFld.setFld.setFld.setFld.setTinder.latchInit.laserAll
theorem State.Meets.bootSteps (h : s.Meets F) : s.bootSteps.Meets F :=
  .ite h.setTinder.seqProgress (.ite h.bootConfig.setStage (.ite h.bootConfig.script h.bootConfig))
theorem State.Meets.foundFlash {part} (h : s.Meets canonicalForm) : (s.foundFlash part).Meets canonicalForm := h
theorem State.Meets.execDomainRelease {d} (h : s.Meets F) : ResultMeets F (Machine.execDomainRelease d s) :=
  .ite (.next h) (have h1 := h.setTinder.setFld; .ite (have h2 := h1.releaseLatch; .next (.ite h2 h2.bootSteps)) (.next (.ite
      h1.trainOn h1)))
theorem State.Meets.execClockHold {x} (h : s.Meets canonicalForm) : ResultMeets canonicalForm (Machine.execClockHold x s) :=
  .ite (.next h) (.next (.ite h.setFld.foundFlash.bootFail h.setFld))
theorem State.Meets.execImageLoaded {part} (h : s.Meets canonicalForm) : ResultMeets canonicalForm (Machine.execImageLoaded part s) := by
  unfold Machine.execImageLoaded
  dsimp only
  refine .ite (.next h) (.ite (.next h.foundFlash.bootFail) ?_)
  split
  · exact .next h.foundFlash.loadProgram.loadProgram.runCore.runCore.script
  · exact .next h.foundFlash.bootFail
theorem State.Meets.execBootReady {part} (h : s.Meets canonicalForm) : ResultMeets canonicalForm (Machine.execBootReady part s) :=
  meets_sharing (fun h1 => .ite (.next h) (.ite (.ite (.next h1.setStage.bootError) (.next h)) (.ite (.ite (.next h1.setStage.bootError)
      (.next h)) (.ite (.next (.ite h1.setStage.enterSafe h1.setStage.enterBanked)) (.next h))))) (.ite h.foundFlash h)
theorem State.Meets.uart {cmd status data} (h : s.Meets F) : (s.uart cmd status data).Meets F := h.answer
theorem State.Meets.execUartIdent (h : s.Meets F) : ResultMeets F (Machine.execUartIdent s) := .ite (.next h.uart) (.next h)
theorem State.Meets.execUartMramRead {part offset len} (h : s.Meets F) : ResultMeets F (Machine.execUartMramRead part offset len s) :=
  .ite (.next h) (.ite (.next h.uart) (.next h.uart))
theorem State.Meets.execUartMramWrite {part offset data ok} (h : s.Meets F) : ResultMeets F (Machine.execUartMramWrite part offset data ok s)
    :=
  .ite (.next h) (.ite (.next h.uart) (.ite (.next h.setMram.uart) (.next h.freeBytes.setMram.uart)))
theorem State.Meets.execUartFlashRead {offset len ok} (h : s.Meets F) : ResultMeets F (Machine.execUartFlashRead offset len ok s) :=
  .ite (.next h) (.ite (.next h.uart) (.ite (.next h.uart) (.next h.uart)))
theorem State.Meets.execUartFlashErase {offset ok} (h : s.Meets F) : ResultMeets F (Machine.execUartFlashErase offset ok s) :=
  .ite (.next h) (.ite (.next h.uart) (.ite (.next h.uart) (.ite (.next h.flashErase.uart) (.next h.flashSpoil.uart))))
theorem State.Meets.execUartFlashWrite {offset data ok} (h : s.Meets F) : ResultMeets F (Machine.execUartFlashWrite offset data ok s) :=
  .ite (.next h) (.ite (.next h.uart) (.ite (.next h.uart) (.ite (.next h.flashProgram.uart) (.next h.flashSpoil.uart))))
theorem State.Meets.execUartFrameRefused {frame} (h : s.Meets F) : ResultMeets F (Machine.execUartFrameRefused frame s) :=
  .ite (.next h) (.next (.ite h.setTinder h.setTinder.answer))
theorem State.Meets.execUartFrameGap (h : s.Meets F) : ResultMeets F (Machine.execUartFrameGap s) := .next h.setTinder

/-! ## Cord -/

theorem State.Meets.decide' {p} (h : s.Meets F) : (s.decide' p).Meets F :=
  meets_sharing (fun h7 => meets_sharing (fun h12 => meets_sharing (fun h13 => .ite h13.raise h13) (.ite h12.event h12)) (.setFld (.setFld (.each
      (.setFld (.setFld (.ite h7 h7.event))) (fun _ _ h10 => h10.setFld))))) (.each (.each (h.each (fun _ _ h1 => h1.setLamp)) (fun
      _ _ h3 => h3.setLamp)) (fun _ _ h5 => .ite h5.setFld.bump h5.setFld))
theorem State.Meets.execCordDecision {p} (h : s.Meets F) : ResultMeets F (Machine.execCordDecision p s) := .ite (.next h.decide') (.next h)
theorem State.Meets.execAccelerationEnd {a measured} (h : s.Meets F) : ResultMeets F (Machine.execAccelerationEnd a measured s) := by
  unfold Machine.execAccelerationEnd
  dsimp only
  split
  · exact .next h
  · exact meets_sharing (fun h4 => .next (.ite h4.setAxis.event h4.setAxis)) (.setFld (.setFld (.upd (PairMeets.snd (.ite h.free h)))))

/-! ## Every command -/

theorem State.Meets.exec (h : s.Meets canonicalForm) : ∀ c : Instr, ResultMeets canonicalForm (Machine.exec c s)
  | .vstbyRise .. => h.execVstbyRise
  | .powerOnReset .. => h.execPowerOnReset
  | .vstbyLost .. => h.execVstbyLost
  | .porEnd .. => h.execPorEnd
  | .xtalMissing .. => h.execXtalMissing
  | .sequenceStart .. => h.execSequenceStart
  | .railOnDelayExpiry .. => h.execRailOnDelayExpiry
  | .railGood .. => h.execRailGood
  | .railTimeout .. => h.execRailTimeout
  | .railMonitorSample .. => h.execRailMonitorSample
  | .railFail .. => h.execRailFail
  | .inputReturnRestart .. => h.execInputReturnRestart
  | .railDischargeTimeout .. => h.execRailDischargeTimeout
  | .holdOffEnd .. => h.execHoldOffEnd
  | .railRetry .. => h.execRailRetry
  | .pbShortPress .. => h.execPbShortPress
  | .pbLongPress .. => h.execPbLongPress
  | .pbWake .. => h.execPbWake
  | .shutdownReq .. => h.execShutdownReq
  | .powerDown .. => h.execPowerDown
  | .shutdownTimeout .. => h.execShutdownTimeout
  | .resetNAssert .. => h.execResetNAssert
  | .domainRelease .. => h.execDomainRelease
  | .clockHold .. => h.execClockHold
  | .imageLoaded .. => h.execImageLoaded
  | .bootReady .. => h.execBootReady
  | .uartIdent .. => h.execUartIdent
  | .uartMramRead .. => h.execUartMramRead
  | .uartMramWrite .. => h.execUartMramWrite
  | .uartFlashRead .. => h.execUartFlashRead
  | .uartFlashErase .. => h.execUartFlashErase
  | .uartFlashWrite .. => h.execUartFlashWrite
  | .uartFrameRefused .. => h.execUartFrameRefused
  | .uartFrameGap .. => h.execUartFrameGap
  | .mramWordWrite .. => h.execMramWordWrite
  | .mramWriteDone .. => h.execMramWriteDone
  | .flashRead .. => h.execFlashRead
  | .flashErase .. => h.execFlashErase
  | .flashProgram .. => h.execFlashProgram
  | .flashOpDone .. => h.execFlashOpDone
  | .flashOpTimeout .. => h.execFlashOpTimeout
  | .run .. => h.execRun
  | .bank .. => h.execBank
  | .stop .. => h.execStop
  | .clear .. => h.execClear
  | .engineReady .. => h.execEngineReady
  | .orderlyShutdownFinish .. => h.execOrderlyShutdownFinish
  | .faultClear .. => h.execFaultClear
  | .faultForce .. => h.execFaultForce
  | .intStatClear .. => h.execIntStatClear
  | .w1cClear .. => h.execW1cClear
  | .registerWrite .. => h.execRegisterWrite
  | .loReadLatch .. => h.execLoReadLatch
  | .capPosHiRead .. => h.execCapPosHiRead
  | .evictLogRead .. => h.execEvictLogRead
  | .poisonOffsetRead .. => h.execPoisonOffsetRead
  | .pllReacquire .. => h.execPllReacquire
  | .pllLock .. => h.execPllLock
  | .pllUnlock .. => h.execPllUnlock
  | .xtalLost .. => h.execXtalLost
  | .bdEdge .. => h.execBdEdge
  | .bdWindowMissed .. => h.execBdWindowMissed
  | .predictedSyncEvent .. => h.execPredictedSyncEvent
  | .gclkDivWrite .. => h.execGclkDivWrite
  | .syncInEdge .. => h.execSyncInEdge
  | .phaseReset .. => h.execPhaseReset
  | .gclkEnable .. => h.execGclkEnable
  | .gclkGatedClear .. => h.execGclkGatedClear
  | .encoderEdge .. => h.execEncoderEdge
  | .indexEdge .. => h.execIndexEdge
  | .auxEdge .. => h.execAuxEdge
  | .zcEdge .. => h.execZcEdge
  | .gaugeCoastStart .. => h.execGaugeCoastStart
  | .signalLost .. => h.execSignalLost
  | .remoteStamp .. => h.execRemoteStamp
  | .remoteLost .. => h.execRemoteLost
  | .resume .. => h.execResume
  | .flush .. => h.execFlush
  | .preset .. => h.execPreset
  | .vgCommit .. => h.execVgCommit
  | .rgSrcWrite .. => h.execRgSrcWrite
  | .captureEdge .. => h.execCaptureEdge
  | .facetIdRunEnd .. => h.execFacetIdRunEnd
  | .assume .. => h.execAssume
  | .restart .. => h.execRestart
  | .armGoArm .. => h.execArmGoArm
  | .armGoDisarm .. => h.execArmGoDisarm
  | .calendarAccept .. => h.execCalendarAccept
  | .calendarInsertDone .. => h.execCalendarInsertDone
  | .entryCrossing .. => h.execEntryCrossing
  | .calendarFireDeferred .. => h.execCalendarFireDeferred
  | .haltEntryRemoval .. => h.execHaltEntryRemoval
  | .entrySel .. => h.execEntrySel
  | .add .. => h.execAdd
  | .sub .. => h.execSub
  | .and .. => h.execAnd
  | .or .. => h.execOr
  | .xor .. => h.execXor
  | .andn .. => h.execAndn
  | .sll .. => h.execSll
  | .srl .. => h.execSrl
  | .sra .. => h.execSra
  | .lts .. => h.execLts
  | .ltu .. => h.execLtu
  | .min .. => h.execMin
  | .max .. => h.execMax
  | .minu .. => h.execMinu
  | .maxu .. => h.execMaxu
  | .clz .. => h.execClz
  | .popc .. => h.execPopc
  | .slli .. => h.execSlli
  | .srli .. => h.execSrli
  | .srai .. => h.execSrai
  | .mullo .. => h.execMullo
  | .mulhs .. => h.execMulhs
  | .mulhu .. => h.execMulhu
  | .mulhm .. => h.execMulhm
  | .divs .. => h.execDivs
  | .divu .. => h.execDivu
  | .mods .. => h.execMods
  | .modu .. => h.execModu
  | .addi .. => h.execAddi
  | .andi .. => h.execAndi
  | .ori .. => h.execOri
  | .xori .. => h.execXori
  | .ltsi .. => h.execLtsi
  | .ltui .. => h.execLtui
  | .lui .. => h.execLui
  | .lb .. => h.execLb
  | .lbu .. => h.execLbu
  | .lh .. => h.execLh
  | .lhu .. => h.execLhu
  | .lw .. => h.execLw
  | .pld .. => h.execPld
  | .sb .. => h.execSb
  | .sh .. => h.execSh
  | .sw .. => h.execSw
  | .pst .. => h.execPst
  | .beq .. => h.execBeq
  | .bne .. => h.execBne
  | .blt .. => h.execBlt
  | .bge .. => h.execBge
  | .bltu .. => h.execBltu
  | .bgeu .. => h.execBgeu
  | .jal .. => h.execJal
  | .jalr .. => h.execJalr
  | .padd .. => h.execPadd
  | .psub .. => h.execPsub
  | .paddc .. => h.execPaddc
  | .paddf .. => h.execPaddf
  | .pmov .. => h.execPmov
  | .psetc .. => h.execPsetc
  | .plo .. => h.execPlo
  | .phi .. => h.execPhi
  | .psetlo .. => h.execPsetlo
  | .psethi .. => h.execPsethi
  | .pcmp .. => h.execPcmp
  | .pmulc .. => h.execPmulc
  | .crr .. => h.execCrr
  | .crw .. => h.execCrw
  | .crs .. => h.execCrs
  | .crc .. => h.execCrc
  | .nop .. => h.execNop
  | .eret .. => h.execEret
  | .brk .. => h.execBrk
  | .halt .. => h.execHalt
  | .isync .. => h.execIsync
  | .gaugeFaultException .. => h.execGaugeFaultException
  | .breakpointHit .. => h.execBreakpointHit
  | .coreRun .. => h.execCoreRun
  | .coreHaltReq .. => h.execCoreHaltReq
  | .haltComplete .. => h.execHaltComplete
  | .coreStep .. => h.execCoreStep
  | .coreReinit .. => h.execCoreReinit
  | .debugRegisterWrite .. => h.execDebugRegisterWrite
  | .debugRegisterRead .. => h.execDebugRegisterRead
  | .arm .. => h.execArm
  | .disarm .. => h.execDisarm
  | .waitp .. => h.execWaitp
  | .waitev .. => h.execWaitev
  | .grd .. => h.execGrd
  | .gst .. => h.execGst
  | .gsrc .. => h.execGsrc
  | .gc1 .. => h.execGc1
  | .gc2 .. => h.execGc2
  | .goff .. => h.execGoff
  | .gcommit .. => h.execGcommit
  | .objrd .. => h.execObjrd
  | .objrdp .. => h.execObjrdp
  | .objwr .. => h.execObjwr
  | .objwrp .. => h.execObjwrp
  | .objectWriteDelivery .. => h.execObjectWriteDelivery
  | .send .. => h.execSend
  | .remoteMessageArrival .. => h.execRemoteMessageArrival
  | .recv .. => h.execRecv
  | .slotw .. => h.execSlotw
  | .objld .. => h.execObjld
  | .objst .. => h.execObjst
  | .qpop .. => h.execQpop
  | .qpush .. => h.execQpush
  | .create .. => h.execCreate
  | .free .. => h.execFree
  | .group .. => h.execGroup
  | .placeProgram .. => h.execPlaceProgram
  | .removeProgram .. => h.execRemoveProgram
  | .bindAffinity .. => h.execBindAffinity
  | .placerMoveDone .. => h.execPlacerMoveDone
  | .deferredFreeDone .. => h.execDeferredFreeDone
  | .stationEnable .. => h.execStationEnable
  | .gpioSet .. => h.execGpioSet
  | .gpioClr .. => h.execGpioClr
  | .endpointReset .. => h.execEndpointReset
  | .busMasterEnable .. => h.execBusMasterEnable
  | .windowRead .. => h.execWindowRead
  | .windowWrite .. => h.execWindowWrite
  | .ringEnable .. => h.execRingEnable
  | .sqDoorbell .. => h.execSqDoorbell
  | .intakeFetch .. => h.execIntakeFetch
  | .cqHeadDoorbell .. => h.execCqHeadDoorbell
  | .intakeCompletionWrite .. => h.execIntakeCompletionWrite
  | .msixUnmask .. => h.execMsixUnmask
  | .sqNop .. => h.execSqNop
  | .page .. => h.execPage
  | .configure .. => h.execConfigure
  | .withdraw .. => h.execWithdraw
  | .request .. => h.execRequest
  | .purge .. => h.execPurge
  | .moverStart .. => h.execMoverStart
  | .channelResume .. => h.execChannelResume
  | .channelDisable .. => h.execChannelDisable
  | .drainComplete .. => h.execDrainComplete
  | .descriptorRead .. => h.execDescriptorRead
  | .readCompletion .. => h.execReadCompletion
  | .busError .. => h.execBusError
  | .runPush .. => h.execRunPush
  | .decodeBlockStart .. => h.execDecodeBlockStart
  | .decodeBlockEnd .. => h.execDecodeBlockEnd
  | .decoderDisable .. => h.execDecoderDisable
  | .decoderFlush .. => h.execDecoderFlush
  | .encoderGo .. => h.execEncoderGo
  | .encoderJobEnd .. => h.execEncoderJobEnd
  | .trainGo .. => h.execTrainGo
  | .trainComplete .. => h.execTrainComplete
  | .fullRetrain .. => h.execFullRetrain
  | .refreshInterval .. => h.execRefreshInterval
  | .mr4Poll .. => h.execMr4Poll
  | .retrainSlice .. => h.execRetrainSlice
  | .retrainSliceForced .. => h.execRetrainSliceForced
  | .dramRead .. => h.execDramRead
  | .patrolScrubRead .. => h.execPatrolScrubRead
  | .ddrAlert .. => h.execDdrAlert
  | .migrationCopy .. => h.execMigrationCopy
  | .scanStart .. => h.execScanStart
  | .bdGateOpen .. => h.execBdGateOpen
  | .frameSendStart .. => h.execFrameSendStart
  | .frameComplete .. => h.execFrameComplete
  | .alignBlocks .. => h.execAlignBlocks
  | .drvStatusWord .. => h.execDrvStatusWord
  | .ctrlPush .. => h.execCtrlPush
  | .ctrlDmaGo .. => h.execCtrlDmaGo
  | .ctrlDmaDone .. => h.execCtrlDmaDone
  | .bankNext .. => h.execBankNext
  | .pageqPush .. => h.execPageqPush
  | .pageqWithdraw .. => h.execPageqWithdraw
  | .lutBuildGo .. => h.execLutBuildGo
  | .lutBuildDone .. => h.execLutBuildDone
  | .interlockAssert .. => h.execInterlockAssert
  | .interlockQualified .. => h.execInterlockQualified
  | .markSample .. => h.execMarkSample
  | .markDestEnable .. => h.execMarkDestEnable
  | .calWordWrite .. => h.execCalWordWrite
  | .calWriteDone .. => h.execCalWriteDone
  | .pagePlan .. => h.execPagePlan
  | .admissionDeadline .. => h.execAdmissionDeadline
  | .sheetStart .. => h.execSheetStart
  | .transferPost .. => h.execTransferPost
  | .fuserPost .. => h.execFuserPost
  | .sensorEdgeCapture .. => h.execSensorEdgeCapture
  | .jamWindowClose .. => h.execJamWindowClose
  | .feedFail .. => h.execFeedFail
  | .pathFault .. => h.execPathFault
  | .purgeDone .. => h.execPurgeDone
  | .pageReport .. => h.execPageReport
  | .axisStart .. => h.execAxisStart
  | .startNEdge .. => h.execStartNEdge
  | .axisStop .. => h.execAxisStop
  | .axisDisable .. => h.execAxisDisable
  | .axisEnable .. => h.execAxisEnable
  | .focCurrentUpdate .. => h.execFocCurrentUpdate
  | .overcurrent .. => h.execOvercurrent
  | .alignPulseEnd .. => h.execAlignPulseEnd
  | .probePulseEnd .. => h.execProbePulseEnd
  | .probeRepeat .. => h.execProbeRepeat
  | .startTimeout .. => h.execStartTimeout
  | .atSpeed .. => h.execAtSpeed
  | .busVoltageSample .. => h.execBusVoltageSample
  | .stepperFullStep .. => h.execStepperFullStep
  | .accelerationEnd .. => h.execAccelerationEnd
  | .hearthGateOn .. => h.execHearthGateOn
  | .zonePidUpdate .. => h.execZonePidUpdate
  | .cordDecision .. => h.execCordDecision
  | .hearthGateOff .. => h.execHearthGateOff
  | .thSample .. => h.execThSample
  | .rateWindow .. => h.execRateWindow
  | .zoneEnable .. => h.execZoneEnable
  | .journalEntryWritten .. => h.execJournalEntryWritten
  | .tripAck .. => h.execTripAck
  | .dieSample .. => h.execDieSample
  | .hvWindow .. => h.execHvWindow
  | .hvEnable .. => h.execHvEnable
  | .thaiqEnable .. => h.execThaiqEnable
  | .linkTrained .. => h.execLinkTrained
  | .hopDown .. => h.execHopDown
  | .broadcastArrival .. => h.execBroadcastArrival
  | .mramRewrite .. => h.execMramRewrite
  | .vbatLoss .. => h.execVbatLoss
  | .resetNRelease .. => h.execResetNRelease
  | .pcieLinkUp .. => h.execPcieLinkUp
  | .receiveLaneLock .. => h.execReceiveLaneLock

/-! ## Step -/

theorem State.Meets.step (h : s.Meets canonicalForm) : ResultMeets canonicalForm (Machine.step s) := by
  unfold Machine.step
  split
  · exact .next h.gclkTick
  · exact h.upd.exec _
end Operations

end Sys2Proof.Machine

namespace Sys2Proof.Statements

/-- Settles O59: a canonical state is answered by every command and by every step, arm by arm of the dispatch. -/
theorem stepKeepsCanonicalForm : Obligations.StepKeepsCanonicalForm := by
  intro s hr hm
  have h : s.Meets canonicalForm := ⟨hr, hm⟩
  exact ⟨h.exec, h.step⟩

end Sys2Proof.Statements
end

section
/-!
PROOFS. The general clock outputs (family 02): what a phase reset does, what it leaves of the other outputs, and one output-PLL cycle.
-/

open Sys2Proof Sys2Proof.Machine
open Sys2Proof.Statements (OnlyRegs Answers)

namespace Sys2Proof.Machine

variable {s t u : State} {k : Nat}

/-! ## Updates of single places, made in turn -/

/-- An update per number that shows at its own place only leaves every place without a number. -/
theorem State.each_view_of_notMem {α : Type} {view : State → Nat → α} {f : State → Nat → State}
    (hf : ∀ t i j, i ≠ j → view (f t i) j = view t j) {l : List Nat} {j : Nat} (hj : j ∉ l) (s : State) :
    view (s.each l f) j = view s j := by
  unfold State.each
  induction l generalizing s with
  | nil => rfl
  | cons i l ih =>
    obtain ⟨hi, hl⟩ : j ≠ i ∧ j ∉ l := by simpa using hj
    exact (ih hl (f s i)).trans (hf s i j hi.symm)

/-- Each place is updated once, from a state that shows what the first one showed there. -/
theorem State.each_view_of_mem {α : Type} {view : State → Nat → α} {f : State → Nat → State}
    (hf : ∀ t i j, i ≠ j → view (f t i) j = view t j) {l : List Nat} {j : Nat} (hn : l.Nodup) (hj : j ∈ l) (s : State) :
    ∃ t, view t j = view s j ∧ view (s.each l f) j = view (f t j) j := by
  induction l generalizing s with
  | nil => simp at hj
  | cons i l ih =>
    obtain ⟨hi, hl⟩ := List.nodup_cons.mp hn
    rcases List.mem_cons.mp hj with rfl | hj
    · exact ⟨s, rfl, State.each_view_of_notMem hf hi (f s j)⟩
    · obtain ⟨t, ht, he⟩ := ih hl hj (f s i)
      have hij : i ≠ j := fun h => hi (h ▸ hj)
      exact ⟨t, ht.trans (hf s i j hij), he⟩

theorem pick_nodup (n : Nat) (p : Nat → Bool) : (pick n p).Nodup := List.nodup_range.filter p

theorem mem_pick {n j : Nat} {p : Nat → Bool} : j ∈ pick n p ↔ j < n ∧ p j = true := by
  simp [pick]

/-! ## The outputs -/

theorem State.gclk_setFld (s : State) (f : Fld) (v j : Nat) : (s.setFld f v).gclk j = s.gclk j := rfl

theorem State.on_setFld_zero (s : State) {f : Fld} (hl : f.lo + f.width ≤ 32) : (s.setFld f 0).on f = false := by
  rw [State.on, State.fld_setFld s f 0 hl, Nat.zero_mod]; rfl

theorem State.on_congr {f : Fld} (h : t.reg f.off = s.reg f.off) : t.on f = s.on f := by
  rw [State.on, State.on, State.fld, State.fld, h]

theorem State.on_setFld_apart (s : State) (f g : Fld) (v : Nat) (hg : g.lo + g.width ≤ 32)
    (h : f.off ≠ g.off ∨ g.lo + g.width ≤ f.lo ∨ f.lo + f.width ≤ g.lo) : (s.setFld f v).on g = s.on g := by
  rw [State.on, State.fld_setFld_apart s f g v hg h]; rfl

theorem gclkStatus_ne_ctrl (i j : Nat) : CLOCK.GCLK_STATUS i ≠ CLOCK.GCLK_CTRL j := by
  unfold CLOCK.GCLK_STATUS CLOCK.GCLK_CTRL; omega

theorem gclkStatus_inj {i j : Nat} (h : i ≠ j) : CLOCK.GCLK_STATUS i ≠ CLOCK.GCLK_STATUS j := by
  unfold CLOCK.GCLK_STATUS; omega

theorem gclkDiv_ne_status (i j : Nat) : CLOCK.GCLK_DIV i ≠ CLOCK.GCLK_STATUS j := by
  unfold CLOCK.GCLK_STATUS CLOCK.GCLK_DIV; omega

/-- Output `k` is enabled and not gated: it takes a phase reset (R140). -/
def State.takesReset (s : State) (k : Nat) : Prop := s.on (CLOCK.GCLK_CTRL_ENABLE k) = true ∧ s.on (CLOCK.GCLK_STATUS_GATED k) = false

/-- Output `k` after a phase reset with latency `n` at `s`, with the DIV of its first period (R140, R555). -/
def State.resetOutput (s : State) (k n : Nat) (x : Option Nat) : Gclk :=
  { high := false, left := n + s.fld (CLOCK.GCLK_CTRL_DELAY k), low := 0, acc := 0, ending := false, firstDiv := x, resets := (s.gclk k).resets + 1 }

/-- `t` holds output `k` as a phase reset at `s` leaves it, running. -/
def State.ResetsTo (s t : State) (k n : Nat) (x : Option Nat) : Prop :=
  t.gclk k = s.resetOutput k n x ∧ t.on (CLOCK.GCLK_STATUS_RUNNING k) = true

/-- Output `j` and its status are as before. -/
def State.KeepsOutput (s t : State) (j : Nat) : Prop := t.gclk j = s.gclk j ∧ t.reg (CLOCK.GCLK_STATUS j) = s.reg (CLOCK.GCLK_STATUS j)

/-- Of the outputs and the registers only output `k` and its three registers have changed. -/
def State.OnlyOutput (s t : State) (k : Nat) : Prop :=
  (∀ j, j ≠ k → s.KeepsOutput t j) ∧ OnlyRegs s t [CLOCK.GCLK_DIV k, CLOCK.GCLK_CTRL k, CLOCK.GCLK_STATUS k]

theorem State.OnlyOutput.refl (s : State) (k : Nat) : s.OnlyOutput s k := ⟨fun _ _ => ⟨rfl, rfl⟩, fun _ _ => rfl⟩

theorem State.OnlyOutput.trans (h : s.OnlyOutput t k) (h' : t.OnlyOutput u k) : s.OnlyOutput u k :=
  ⟨fun j hj => ⟨(h'.1 j hj).1.trans (h.1 j hj).1, (h'.1 j hj).2.trans (h.1 j hj).2⟩, fun a ha => (h'.2 a ha).trans (h.2 a ha)⟩

theorem State.setGclk_onlyOutput (s : State) (k : Nat) (x : Gclk) : s.OnlyOutput (s.setGclk k x) k :=
  ⟨fun j hj => ⟨by rw [State.gclk_setGclk, if_neg hj.symm], rfl⟩, fun _ _ => rfl⟩

/-- A write to one of the output's own registers. -/
theorem State.setReg_onlyOutput (s : State) {a : Nat} (w : Word) (ha : a ∈ [CLOCK.GCLK_DIV k, CLOCK.GCLK_CTRL k, CLOCK.GCLK_STATUS k]) :
    s.OnlyOutput (s.setReg a w) k := by
  refine ⟨fun j hj => ⟨rfl, ?_⟩, fun b hb => ?_⟩
  · have hne : a ≠ CLOCK.GCLK_STATUS j := by
      simp only [List.mem_cons, List.not_mem_nil, or_false] at ha
      unfold CLOCK.GCLK_DIV CLOCK.GCLK_CTRL CLOCK.GCLK_STATUS at ha
      unfold CLOCK.GCLK_STATUS
      omega
    rw [State.reg_setReg, if_neg hne]
  · have hne : a ≠ b := fun h => hb (h ▸ ha)
    rw [State.reg_setReg, if_neg hne]

theorem State.setFld_onlyOutput (s : State) {f : Fld} (v : Nat) (hf : f.off ∈ [CLOCK.GCLK_DIV k, CLOCK.GCLK_CTRL k, CLOCK.GCLK_STATUS k]) :
    s.OnlyOutput (s.setFld f v) k := State.setReg_onlyOutput s _ hf

/-! ## Phase resets (R140, R141) -/

theorem State.phaseResetAt_eq_self (n : Nat) (h : ¬ s.takesReset k) : s.phaseResetAt k n = s := by
  have : ¬ ((s.on (CLOCK.GCLK_CTRL_ENABLE k) && !s.on (CLOCK.GCLK_STATUS_GATED k)) = true) := by
    simpa [State.takesReset] using h
  rw [State.phaseResetAt, if_neg this]

theorem State.phaseResetAt_eq (n : Nat) (h : s.takesReset k) :
    s.phaseResetAt k n = (s.setGclk k (s.resetOutput k n none)).setFld (CLOCK.GCLK_STATUS_RUNNING k) 1 := by
  rw [State.phaseResetAt, if_pos (by simp [h.1, h.2])]; rfl

theorem State.phaseResetAt_resetsTo (n : Nat) (h : s.takesReset k) : s.ResetsTo (s.phaseResetAt k n) k n none := by
  rw [State.phaseResetAt_eq n h]
  exact ⟨State.gclk_setGclk_same .., State.on_setFld_one _ rfl (show 0 < 32 by omega)⟩

theorem State.phaseResetAt_onlyOutput (s : State) (k n : Nat) : s.OnlyOutput (s.phaseResetAt k n) k := by
  by_cases h : s.takesReset k
  · rw [State.phaseResetAt_eq n h]
    exact (State.setGclk_onlyOutput s k _).trans (State.setFld_onlyOutput _ 1 (by simp [CLOCK.GCLK_STATUS_RUNNING]))
  · rw [State.phaseResetAt_eq_self n h]; exact .refl s k

/-- A phase reset never touches the control registers. -/
theorem State.reg_ctrl_phaseResetAt (s : State) (k n j : Nat) : (s.phaseResetAt k n).reg (CLOCK.GCLK_CTRL j) = s.reg (CLOCK.GCLK_CTRL j) := by
  by_cases h : s.takesReset k
  · rw [State.phaseResetAt_eq n h]
    exact State.reg_setFld_other _ _ _ _ (gclkStatus_ne_ctrl k j)
  · rw [State.phaseResetAt_eq_self n h]

/-- A phase reset writes the status register of its output at most in RUNNING. -/
theorem State.on_gated_phaseResetAt (s : State) (k n : Nat) :
    (s.phaseResetAt k n).on (CLOCK.GCLK_STATUS_GATED k) = s.on (CLOCK.GCLK_STATUS_GATED k) := by
  by_cases h : s.takesReset k
  · rw [State.phaseResetAt_eq n h]
    exact State.on_setFld_apart _ (CLOCK.GCLK_STATUS_RUNNING k) (CLOCK.GCLK_STATUS_GATED k) 1 (show 1 + 1 ≤ 32 by omega) (.inr (.inr (show 0 + 1 ≤ 1 by omega)))
  · rw [State.phaseResetAt_eq_self n h]

/-- The state with one more free value taken. -/
def State.tookFree (s : State) : State := { s with freeCtr := s.freeCtr + 1 }

theorem State.phaseReset_eq (s : State) (k : Nat) : ∃ n, s.phaseReset k = s.tookFree.phaseResetAt k n := ⟨_, rfl⟩

theorem State.syncReset_eq (s : State) (k : Nat) : ∃ n, 39 ≤ n ∧ n ≤ 41 ∧ s.syncReset k = s.tookFree.phaseResetAt k n :=
  ⟨39 + s.free.1 % 3, by omega, by omega, rfl⟩

theorem State.phaseReset_resetsTo (h : s.takesReset k) : ∃ n, s.ResetsTo (s.phaseReset k) k n none := by
  obtain ⟨n, hn⟩ := State.phaseReset_eq s k
  exact ⟨n, hn ▸ State.phaseResetAt_resetsTo (s := s.tookFree) n h⟩

theorem State.phaseReset_onlyOutput (s : State) (k : Nat) : s.OnlyOutput (s.phaseReset k) k := State.phaseResetAt_onlyOutput s.tookFree k _

theorem State.phaseReset_eq_tookFree (h : ¬ s.takesReset k) : s.phaseReset k = s.tookFree :=
  State.phaseResetAt_eq_self (s := s.tookFree) _ h

theorem State.reg_ctrl_phaseReset (s : State) (k j : Nat) : (s.phaseReset k).reg (CLOCK.GCLK_CTRL j) = s.reg (CLOCK.GCLK_CTRL j) :=
  State.reg_ctrl_phaseResetAt s.tookFree k _ j

/-! ## The writes -/

/-- A DIV write with a phase reset in the same cycle: the first period of the output takes the DIV before it (R555). -/
def State.firstPeriod (s : State) (k : Nat) : State :=
  (s.phaseReset k).setGclk k { (s.phaseReset k).gclk k with firstDiv := some (s.gclkDivActs k) }

theorem exec_gclkDivWrite (div : Nat) (both : Bool) (hk : k < 24) (hf : s.fabric = true) :
    exec (.gclkDivWrite k div both) s = .next ((if both then s.firstPeriod k else s).setReg (CLOCK.GCLK_DIV k) (BitVec.ofNat 32 div)) := by
  show execGclkDivWrite k div both s = _
  cases both <;> simp [execGclkDivWrite, State.ifFabric, show ¬ 24 ≤ k by omega, hf, State.firstPeriod]

theorem State.firstPeriod_onlyOutput (s : State) (k : Nat) : s.OnlyOutput (s.firstPeriod k) k :=
  (State.phaseReset_onlyOutput s k).trans (State.setGclk_onlyOutput _ k _)

theorem State.firstPeriod_resetsTo (h : s.takesReset k) : ∃ n, s.ResetsTo (s.firstPeriod k) k n (some (s.gclkDivActs k)) := by
  obtain ⟨n, hg, hr⟩ := State.phaseReset_resetsTo h
  refine ⟨n, ?_, hr⟩
  rw [State.firstPeriod, State.gclk_setGclk_same, hg]; rfl

theorem State.setDiv_resetsTo {n : Nat} {x : Option Nat} (w : Word) (h : s.ResetsTo t k n x) : s.ResetsTo (t.setReg (CLOCK.GCLK_DIV k) w) k n x := by
  obtain ⟨hg, hr⟩ := h
  refine ⟨hg, ?_⟩
  exact (State.on_congr ((State.reg_setReg ..).trans (if_neg (gclkDiv_ne_status k k)))).trans hr

/-- Each of the four writes while the fabric is held is logged and does nothing else (R38). -/
theorem State.answers_held {c : Instr} {a : Nat} (h : exec c s = .next (s.logAccess SYS.ACCESS_LOG_HELD_BLOCK a)) :
    Answers c s (fun t => t.on SYS.ACCESS_LOG_HELD_BLOCK = true ∧ t = { s with regs := t.regs } ∧ OnlyRegs s t [SYS.ACCESS_LOG, SYS.ACCESS_ADDR]) := by
  obtain ⟨hon, hregs, -, -, hframe⟩ := State.logAccess_logs s (f := SYS.ACCESS_LOG_HELD_BLOCK) a rfl rfl (by decide)
  exact ⟨_, h, hon, hframe, hregs⟩

theorem exec_gclkDivWrite_held (div : Nat) (both : Bool) (hk : k < 24) (hf : s.fabric = false) :
    exec (.gclkDivWrite k div both) s = .next (s.logAccess SYS.ACCESS_LOG_HELD_BLOCK (CLOCK.GCLK_DIV k)) := by
  show execGclkDivWrite k div both s = _
  simp [execGclkDivWrite, State.ifFabric, show ¬ 24 ≤ k by omega, hf]

theorem exec_phaseReset (hk : k < 24) : exec (.phaseReset k) s = .next (s.ifFabric (CLOCK.GCLK_CTRL k) (s.phaseReset k)) := by
  show execPhaseReset k s = _
  rw [execPhaseReset, if_pos hk]

theorem exec_gclkEnable (on : Bool) (hk : k < 24) : exec (.gclkEnable k on) s = .next (s.ifFabric (CLOCK.GCLK_CTRL k) (s.gclkEnable k on)) := by
  show execGclkEnable k on s = _
  rw [execGclkEnable, if_pos hk]

theorem exec_gclkGatedClear (hk : k < 24) :
    exec (.gclkGatedClear k) s = .next (s.ifFabric (CLOCK.GCLK_STATUS k) ((s.gclkUngate k).irqAgain 18)) := by
  show execGclkGatedClear k s = _
  rw [execGclkGatedClear, if_pos hk]

theorem State.ifFabric_of_up {a : Nat} (hf : s.fabric = true) : s.ifFabric a t = t := if_pos hf

theorem State.ifFabric_of_held {a : Nat} (hf : s.fabric = false) : s.ifFabric a t = s.logAccess SYS.ACCESS_LOG_HELD_BLOCK a :=
  if_neg (by simp [hf])

/-! ## ENABLE and GATED (R140, R142) -/

section
variable (s : State) (k v : Nat)

theorem State.fld_delay_setEnable : (s.setFld (CLOCK.GCLK_CTRL_ENABLE k) v).fld (CLOCK.GCLK_CTRL_DELAY k) = s.fld (CLOCK.GCLK_CTRL_DELAY k) :=
  State.fld_setFld_apart s _ _ v (show 16 + 16 ≤ 32 by omega) (.inr (.inr (show 0 + 1 ≤ 16 by omega)))

theorem State.on_gated_setEnable : (s.setFld (CLOCK.GCLK_CTRL_ENABLE k) v).on (CLOCK.GCLK_STATUS_GATED k) = s.on (CLOCK.GCLK_STATUS_GATED k) :=
  State.on_setFld_apart s _ _ v (show 1 + 1 ≤ 32 by omega) (.inl (gclkStatus_ne_ctrl k k).symm)

theorem State.resetOutput_setEnable (n : Nat) (x : Option Nat) :
    (s.setFld (CLOCK.GCLK_CTRL_ENABLE k) v).resetOutput k n x = s.resetOutput k n x := by
  rw [State.resetOutput, State.fld_delay_setEnable]; rfl

theorem State.on_enable_setGated (f : Fld) (hf : f.off = CLOCK.GCLK_STATUS k) :
    (s.setFld f v).on (CLOCK.GCLK_CTRL_ENABLE k) = s.on (CLOCK.GCLK_CTRL_ENABLE k) :=
  State.on_setFld_apart s _ _ v (show 0 + 1 ≤ 32 by omega) (.inl (hf ▸ gclkStatus_ne_ctrl k k))

theorem State.resetOutput_setGated (n : Nat) (x : Option Nat) :
    (s.setFld (CLOCK.GCLK_STATUS_GATED k) v).resetOutput k n x = s.resetOutput k n x := by
  have : (s.setFld (CLOCK.GCLK_STATUS_GATED k) v).fld (CLOCK.GCLK_CTRL_DELAY k) = s.fld (CLOCK.GCLK_CTRL_DELAY k) :=
    State.fld_setFld_apart s _ _ v (show 16 + 16 ≤ 32 by omega) (.inl (gclkStatus_ne_ctrl k k))
  rw [State.resetOutput, this]; rfl

end

/-- ENABLE from 0 to 1 of an output that is not gated. -/
theorem State.gclkEnable_true (he : s.on (CLOCK.GCLK_CTRL_ENABLE k) = false) (hg : s.on (CLOCK.GCLK_STATUS_GATED k) = false) :
    (s.gclkEnable k true).on (CLOCK.GCLK_CTRL_ENABLE k) = true ∧ (∃ n, s.ResetsTo (s.gclkEnable k true) k n none) ∧
    s.OnlyOutput (s.gclkEnable k true) k := by
  have hset : s.gclkEnable k true = (s.setFld (CLOCK.GCLK_CTRL_ENABLE k) 1).phaseReset k := by simp [State.gclkEnable, he, bit]
  have hon : (s.setFld (CLOCK.GCLK_CTRL_ENABLE k) 1).on (CLOCK.GCLK_CTRL_ENABLE k) = true := State.on_setFld_one s rfl (show 0 < 32 by omega)
  have hfree : (s.setFld (CLOCK.GCLK_CTRL_ENABLE k) 1).takesReset k := ⟨hon, (State.on_gated_setEnable s k 1).trans hg⟩
  rw [hset]
  refine ⟨(State.on_congr (State.reg_ctrl_phaseReset _ k k)).trans hon, ?_, ?_⟩
  · obtain ⟨n, ho, hr⟩ := State.phaseReset_resetsTo hfree
    exact ⟨n, ho.trans (State.resetOutput_setEnable s k 1 n none), hr⟩
  · exact (State.setFld_onlyOutput s 1 (by simp [CLOCK.GCLK_CTRL_ENABLE])).trans (State.phaseReset_onlyOutput _ k)

/-- ENABLE 0 drives the output low and stops it. -/
theorem State.gclkEnable_false (s : State) (k : Nat) :
    (s.gclkEnable k false).on (CLOCK.GCLK_CTRL_ENABLE k) = false ∧ (s.gclkEnable k false).on (CLOCK.GCLK_STATUS_RUNNING k) = false ∧
    (s.gclkEnable k false).gclk k = { Gclk.reset with resets := (s.gclk k).resets } ∧ s.OnlyOutput (s.gclkEnable k false) k := by
  have hset : s.gclkEnable k false = ((s.setFld (CLOCK.GCLK_CTRL_ENABLE k) 0).setGclk k { Gclk.reset with resets := (s.gclk k).resets }).setFld
      (CLOCK.GCLK_STATUS_RUNNING k) 0 := by simp [State.gclkEnable, bit]
  rw [hset]
  refine ⟨?_, State.on_setFld_zero _ (show 0 + 1 ≤ 32 by omega), ?_, ?_⟩
  · rw [State.on_enable_setGated _ k 0 _ rfl]
    exact State.on_setFld_zero s (show 0 + 1 ≤ 32 by omega)
  · rw [State.gclk_setFld, State.gclk_setGclk_same]
  · exact ((State.setFld_onlyOutput s 0 (by simp [CLOCK.GCLK_CTRL_ENABLE])).trans (State.setGclk_onlyOutput _ k _)).trans
      (State.setFld_onlyOutput _ 0 (by simp [CLOCK.GCLK_STATUS_RUNNING]))

/-- Re-evaluating a message changes nothing of the outputs. -/
theorem State.gclk_irqAgain (s : State) (i j : Nat) : (s.irqAgain i).gclk j = s.gclk j := by rw [State.irqAgain_frame]; rfl

theorem State.reg_irqAgain (s : State) (i a : Nat) : (s.irqAgain i).reg a = s.reg a := by rw [State.irqAgain_frame]; rfl

theorem State.irqAgain_onlyOutput (s : State) (i k : Nat) : s.OnlyOutput (s.irqAgain i) k :=
  ⟨fun j _ => ⟨State.gclk_irqAgain s i j, State.reg_irqAgain s i _⟩, fun a _ => State.reg_irqAgain s i a⟩

/-- A gated output that is ungated: with a phase reset where it is enabled, else as it was. -/
theorem State.gclkUngate_gated (hg : s.on (CLOCK.GCLK_STATUS_GATED k) = true) :
    (s.gclkUngate k).on (CLOCK.GCLK_STATUS_GATED k) = false ∧ s.OnlyOutput (s.gclkUngate k) k ∧
    (s.on (CLOCK.GCLK_CTRL_ENABLE k) = true → ∃ n, s.ResetsTo (s.gclkUngate k) k n none) ∧
    (s.on (CLOCK.GCLK_CTRL_ENABLE k) = false → (s.gclkUngate k).gclk k = s.gclk k) := by
  have hset : s.gclkUngate k = (s.setFld (CLOCK.GCLK_STATUS_GATED k) 0).phaseReset k := if_pos hg
  have hoff : (s.setFld (CLOCK.GCLK_STATUS_GATED k) 0).on (CLOCK.GCLK_STATUS_GATED k) = false := State.on_setFld_zero s (show 1 + 1 ≤ 32 by omega)
  have hen := State.on_enable_setGated s k 0 (CLOCK.GCLK_STATUS_GATED k) rfl
  rw [hset]
  refine ⟨(State.on_gated_phaseResetAt _ k _).trans hoff, ?_, fun he => ?_, fun he => ?_⟩
  · exact (State.setFld_onlyOutput s 0 (by simp [CLOCK.GCLK_STATUS_GATED])).trans (State.phaseReset_onlyOutput _ k)
  · obtain ⟨n, ho, hr⟩ := State.phaseReset_resetsTo (s := s.setFld (CLOCK.GCLK_STATUS_GATED k) 0) ⟨hen.trans he, hoff⟩
    exact ⟨n, ho.trans (State.resetOutput_setGated s k 0 n none), hr⟩
  · have hnot : ¬ (s.setFld (CLOCK.GCLK_STATUS_GATED k) 0).takesReset k := by
      rintro ⟨h1, -⟩
      rw [hen, he] at h1
      cases h1
    rw [State.phaseReset_eq_tookFree hnot]; rfl

/-! ## SYNC_IN (R140) -/

/-- All that a phase reset of output `j` reads and writes. -/
def State.outputView (s : State) (j : Nat) : Gclk × Word × Word := (s.gclk j, s.reg (CLOCK.GCLK_STATUS j), s.reg (CLOCK.GCLK_CTRL j))

theorem State.outputView_syncReset (t : State) (i j : Nat) (h : i ≠ j) : (t.syncReset i).outputView j = t.outputView j := by
  obtain ⟨hk, -⟩ := State.phaseResetAt_onlyOutput t.tookFree i (39 + t.free.1 % 3)
  obtain ⟨hg, hs⟩ := hk j h.symm
  exact Prod.ext hg (Prod.ext hs (State.reg_ctrl_phaseResetAt t.tookFree i _ j))

theorem State.takesReset_of_view {j : Nat} (h : t.outputView j = s.outputView j) : t.takesReset j ↔ s.takesReset j := by
  simp only [State.outputView, Prod.mk.injEq] at h
  obtain ⟨-, hs, hc⟩ := h
  rw [State.takesReset, State.takesReset, State.on_congr (t := t) (s := s) hc, State.on_congr (t := t) (s := s) hs]

theorem State.resetOutput_of_view {j : Nat} (h : t.outputView j = s.outputView j) (n : Nat) (x : Option Nat) :
    t.resetOutput j n x = s.resetOutput j n x := by
  simp only [State.outputView, Prod.mk.injEq] at h
  obtain ⟨hg, -, hc⟩ := h
  have hd : t.fld (CLOCK.GCLK_CTRL_DELAY j) = s.fld (CLOCK.GCLK_CTRL_DELAY j) := by
    rw [State.fld, State.fld, show t.reg (CLOCK.GCLK_CTRL_DELAY j).off = _ from hc]; rfl
  rw [State.resetOutput, State.resetOutput, hg, hd]

theorem State.keepsOutput_of_view {j : Nat} (h : t.outputView j = s.outputView j) : s.KeepsOutput t j := by
  simp only [State.outputView, Prod.mk.injEq] at h
  exact ⟨h.1, h.2.1⟩

/-- The state after an edge of SYNC_IN. -/
def State.syncIn (s : State) : State := s.each (pick 24 (fun k => s.on (CLOCK.GCLK_CTRL_SYNC_EN k))) State.syncReset

/-- Every output with SYNC_EN that takes a reset has had one. -/
theorem State.syncIn_resetsTo {j : Nat} (hj : j < 24) (he : s.on (CLOCK.GCLK_CTRL_SYNC_EN j) = true) (hf : s.takesReset j) :
    ∃ n, 39 ≤ n ∧ n ≤ 41 ∧ s.ResetsTo s.syncIn j n none := by
  obtain ⟨t, ht, hv⟩ := State.each_view_of_mem State.outputView_syncReset (pick_nodup 24 _)
    (mem_pick (p := fun k => s.on (CLOCK.GCLK_CTRL_SYNC_EN k)).mpr ⟨hj, he⟩) s
  obtain ⟨n, hlo, hhi, hn⟩ := State.syncReset_eq t j
  obtain ⟨hg, hr⟩ := State.phaseResetAt_resetsTo (s := t.tookFree) n ((State.takesReset_of_view ht).mpr hf)
  rw [hn] at hv
  obtain ⟨hg', hs'⟩ := State.keepsOutput_of_view hv
  refine ⟨n, hlo, hhi, hg'.trans (hg.trans (State.resetOutput_of_view ht n none)), ?_⟩
  exact (State.on_congr hs').trans hr

/-- Every other output is as before. -/
theorem State.syncIn_keepsOutput {j : Nat} (h : 24 ≤ j ∨ s.on (CLOCK.GCLK_CTRL_SYNC_EN j) = false ∨ ¬ s.takesReset j) :
    s.KeepsOutput s.syncIn j := by
  apply State.keepsOutput_of_view
  by_cases hj : j ∈ pick 24 (fun k => s.on (CLOCK.GCLK_CTRL_SYNC_EN k))
  · obtain ⟨hlt, hen⟩ := mem_pick.mp hj
    have hnot : ¬ s.takesReset j := by
      rcases h with h | h | h
      · omega
      · rw [hen] at h; cases h
      · exact h
    obtain ⟨t, ht, hv⟩ := State.each_view_of_mem State.outputView_syncReset (pick_nodup 24 _) hj s
    obtain ⟨n, -, -, hn⟩ := State.syncReset_eq t j
    rw [hn, State.phaseResetAt_eq_self (s := t.tookFree) n (fun h' => hnot ((State.takesReset_of_view ht).mp h'))] at hv
    exact hv.trans ht
  · exact State.each_view_of_notMem State.outputView_syncReset hj s

/-! ## One output-PLL cycle (R138, R139) -/

/-- Output `j` and the DIV it acts on. -/
def State.tickView (s : State) (j : Nat) : Gclk × Nat := (s.gclk j, s.gclkDivActs j)

theorem State.gclk_gclkTick (hk : k < 24) (hd : s.domain 4 = true) (hr : s.on (CLOCK.GCLK_STATUS_RUNNING k) = true) :
    s.gclkTick.gclk k = (s.gclk k).tick (s.gclkDivActs k) := by
  have hview : ∀ (t : State) (i j : Nat), i ≠ j → (t.setGclk i ((t.gclk i).tick (t.gclkDivActs i))).tickView j = t.tickView j := fun t i j h =>
    Prod.ext (by simp [State.tickView, State.gclk_setGclk, h]) rfl
  have hmem : k ∈ pick 24 (fun k => s.on (CLOCK.GCLK_STATUS_RUNNING k) || (s.gclk k).ending) := mem_pick.mpr ⟨hk, by simp [hr]⟩
  obtain ⟨t, ht, hv⟩ := State.each_view_of_mem hview (pick_nodup 24 _) hmem s
  simp only [State.tickView, Prod.mk.injEq] at ht hv
  rw [State.gclkTick, if_pos hd, hv.1, State.gclk_setGclk_same, ht.1, ht.2]

/-- The half period in progress counts down. -/
theorem Gclk.tick_counts {g : Gclk} (d : Nat) (h : 1 < g.left) : g.tick d = { g with left := g.left - 1 } := if_pos h

/-- The high half is followed by the low one. -/
theorem Gclk.tick_falls {g : Gclk} (d : Nat) (h : g.left ≤ 1) (he : g.ending = false) (hh : g.high = true) :
    g.tick d = { g with high := false, left := g.low } := by
  simp [Gclk.tick, show ¬ 1 < g.left by omega, he, hh]

/-- A rising edge begins a period of a whole number of cycles, and the accumulator keeps the fraction. -/
theorem Gclk.tick_rises {g : Gclk} (d : Nat) (h : g.left ≤ 1) (he : g.ending = false) (hh : g.high = false) (hf : g.firstDiv = none) :
    g.tick d = { g with high := true, left := (d / 256 + (g.acc + d % 256) / 256) / 2, low := (d / 256 + (g.acc + d % 256) / 256) -
      (d / 256 + (g.acc + d % 256) / 256) / 2, acc := (g.acc + d % 256) % 256 } := by
  simp [Gclk.tick, show ¬ 1 < g.left by omega, he, hh, hf]

end Sys2Proof.Machine

namespace Sys2Proof.Statements

/-- Settles O32: each write and each SYNC_IN edge by what a phase reset does to its own output and leaves of the others; the cycle by the
branches of `Gclk.tick`. -/
theorem generalClocks : Obligations.GeneralClocks := by
  unfold Obligations.GeneralClocks
  intro s k div both hk
  refine ⟨fun hf => ?_, ?_, fun hf hfree => ?_, fun hf hnot => ?_, fun hf he hg => ?_, fun hf => ?_, fun hf hg => ?_, fun hf => ?_,
    fun hp hd hr he => ?_⟩
  · have hdiv : ∀ t : State, t.OnlyOutput (t.setReg (CLOCK.GCLK_DIV k) (BitVec.ofNat 32 div)) k := fun t =>
      State.setReg_onlyOutput t _ (by simp)
    refine ⟨_, exec_gclkDivWrite div both hk hf, State.reg_setReg_same .., ?_, fun hb hfree => ?_, fun hb => ?_⟩
    · cases both with
      | true => exact (State.firstPeriod_onlyOutput s k).trans (hdiv _)
      | false => exact hdiv s
    · obtain ⟨n, hn⟩ := State.firstPeriod_resetsTo (s := s) (k := k) hfree
      subst hb
      exact ⟨n, State.setDiv_resetsTo _ hn⟩
    · subst hb
      exact ⟨rfl, by rw [State.reg_setReg, if_neg (gclkDiv_ne_status k k)]; rfl⟩
  · exact ⟨s.syncIn, rfl, fun j hj he hfree => State.syncIn_resetsTo hj he hfree, fun j h => State.syncIn_keepsOutput h⟩
  · refine ⟨_, (exec_phaseReset hk).trans (by rw [State.ifFabric_of_up hf]), State.phaseReset_resetsTo hfree, State.phaseReset_onlyOutput s k⟩
  · refine ⟨s.tookFree, (exec_phaseReset hk).trans ?_, rfl⟩
    rw [State.ifFabric_of_up hf, State.phaseReset_eq_tookFree hnot]
  · exact ⟨_, (exec_gclkEnable true hk).trans (by rw [State.ifFabric_of_up hf]), State.gclkEnable_true he hg⟩
  · obtain ⟨hen, hrun, ho, honly⟩ := State.gclkEnable_false s k
    refine ⟨_, (exec_gclkEnable false hk).trans (by rw [State.ifFabric_of_up hf]), hen, hrun, ?_, ?_, honly⟩ <;> rw [ho] <;> rfl
  · obtain ⟨hoff, honly, hreset, hkeep⟩ := State.gclkUngate_gated hg
    have hsame := State.reg_irqAgain (s.gclkUngate k) 18
    refine ⟨_, (exec_gclkGatedClear hk).trans (by rw [State.ifFabric_of_up hf]), (State.on_congr (hsame _)).trans hoff,
      honly.trans (State.irqAgain_onlyOutput _ 18 k), fun he => ?_, fun he => (State.gclk_irqAgain _ 18 k).trans (hkeep he)⟩
    obtain ⟨n, ho, hr⟩ := hreset he
    exact ⟨n, (State.gclk_irqAgain _ 18 k).trans ho, (State.on_congr (hsame _)).trans hr⟩
  · exact ⟨State.answers_held (exec_gclkDivWrite_held div both hk hf),
      State.answers_held ((exec_phaseReset hk).trans (by rw [State.ifFabric_of_held hf])),
      State.answers_held ((exec_gclkEnable both hk).trans (by rw [State.ifFabric_of_held hf])),
      State.answers_held ((exec_gclkGatedClear hk).trans (by rw [State.ifFabric_of_held hf]))⟩
  · have htick := State.gclk_gclkTick hk hd hr
    refine ⟨s.gclkTick, by rw [step, hp], fun h => ?_, fun h hh => ?_, fun h hh hfd => ?_⟩
    · rw [htick]; exact Gclk.tick_counts _ h
    · rw [htick]; exact Gclk.tick_falls _ h he hh
    · rw [htick]; exact Gclk.tick_rises _ h he hh hfd

end Sys2Proof.Statements
end

section
/-!
PROOFS. FAULT and INT_STAT bits (family 02): clearing one, forcing one of CALENDAR and INTAKE, and writing 1s to INT_STAT.
-/

open Sys2Proof Sys2Proof.Machine
open Sys2Proof.Statements (OnlyRegs Answers)

namespace Sys2Proof.Machine

variable {s : State} {code b : Nat}

/-! ## A write of one bit -/

theorem pick_two_pow (hb : b < 32) : pick 32 (2 ^ b).testBit = [b] := by
  revert b
  decide

theorem State.each_two_pow (s : State) (hb : b < 32) (f : State → Nat → State) : s.each (pick 32 (2 ^ b).testBit) f = f s b := by
  rw [pick_two_pow hb]; rfl

/-- One bit of a word is changed, and no other. -/
theorem testBit_ofNat_withBit (w : Word) (hb : b < 32) (v : Bool) (j : Nat) :
    (BitVec.ofNat 32 (withBit w.toNat b v)).toNat.testBit j = if b = j then v else w.toNat.testBit j := by
  rw [BitVec.toNat_ofNat, Nat.testBit_mod_two_pow, testBit_withBit]
  by_cases hj : j < 32
  · simp [hj]
  · have hge : 2 ^ 32 ≤ 2 ^ j := Nat.pow_le_pow_right (by omega) (by omega)
    have hbit : w.toNat.testBit j = false := Nat.testBit_lt_two_pow (Nat.lt_of_lt_of_le w.isLt hge)
    simp [hj, hbit, show b ≠ j by omega]

/-! ## Clearing (R31) -/

/-- None of the blocks 4 to 11 has a source condition that stands. -/
theorem State.sourceHolds_eq_false (s : State) (h4 : 4 ≤ code) (h11 : code ≤ 11) (b : Nat) : s.sourceHolds code b = false := by
  simp [State.sourceHolds, show code ≠ 1 by omega, show code ≠ 12 by omega, show code ≠ 13 by omega, show code ≠ 15 by omega,
    show ¬ 16 ≤ code by omega]

/-- Nothing follows a fault bit of the blocks 4 to 11 that is cleared. -/
theorem State.afterClear_eq_self (s : State) (h4 : 4 ≤ code) (h11 : code ≤ 11) (b : Nat) : s.afterClear code b = s := by
  simp [State.afterClear, show code ≠ 2 by omega, show code ≠ 3 by omega, show code ≠ 14 by omega, show ¬ 16 ≤ code by omega,
    show ¬ 512 ≤ code by omega]

/-- The register word with bit `b` cleared, whatever it held. -/
theorem State.reg_clearBit (s : State) (h4 : 4 ≤ code) (h11 : code ≤ 11) (a : Nat) :
    (s.clearBit code b).reg a = if faultReg code = a ∧ s.faultBit code b = true then BitVec.ofNat 32 (withBit (s.reg a).toNat b false) else s.reg a := by
  cases hb : s.faultBit code b with
  | false => simp [State.clearBit, hb]
  | true =>
    have hc : s.clearBit code b = { s.setReg (faultReg code) (BitVec.ofNat 32 (withBit (s.reg (faultReg code)).toNat b false)) with
        classes := Tbl.put (fun _ => FaultClass.none) s.classes (32 * code + b) .none } := by
      simp only [State.clearBit, hb, State.sourceHolds_eq_false s h4 h11, State.afterClear_eq_self _ h4 h11]; rfl
    rw [hc]
    show (s.setReg _ _).reg a = _
    rw [State.reg_setReg]
    by_cases ha : faultReg code = a
    · simp [ha]
    · simp [ha]

theorem State.faultBit_clearBit (s : State) (h4 : 4 ≤ code) (h11 : code ≤ 11) (hb : b < 32) (j : Nat) :
    (s.clearBit code b).faultBit code j = if b = j then false else s.faultBit code j := by
  rw [State.faultBit, State.reg_clearBit s h4 h11]
  cases hf : s.faultBit code b with
  | true => rw [if_pos ⟨rfl, rfl⟩, testBit_ofNat_withBit _ hb]; rfl
  | false =>
    simp only [Bool.false_eq_true, and_false, if_false]
    split
    · next h => rw [← h]; exact hf
    · rfl

theorem State.clearBit_onlyRegs (s : State) (h4 : 4 ≤ code) (h11 : code ≤ 11) : OnlyRegs s (s.clearBit code b) [faultReg code] := by
  intro a ha
  have hne : ¬ faultReg code = a := fun h => ha (by simp [h])
  rw [State.reg_clearBit s h4 h11, if_neg (fun h => hne h.1)]

theorem mem_faultCodes (h4 : 4 ≤ code) (h11 : code ≤ 11) : code ∈ faultCodes := by
  obtain rfl | rfl | rfl | rfl | rfl | rfl | rfl | rfl : code = 4 ∨ code = 5 ∨ code = 6 ∨ code = 7 ∨ code = 8 ∨ code = 9 ∨ code = 10 ∨ code = 11 := by
    omega
  all_goals decide

theorem exec_faultClear (mask : Nat) (hc : code ∈ faultCodes) (hf : s.fabric = true) :
    exec (.faultClear code mask) s = .next (s.faultWrite code mask) := by
  show execFaultClear code mask s = _
  simp [execFaultClear, hc, hf]

theorem exec_faultForce (mask : Nat) (hc : code ∈ faultCodes) (hf : s.fabric = true) :
    exec (.faultForce code mask) s = .next (s.forceWrite code mask) := by
  show execFaultForce code mask s = _
  simp [execFaultForce, hc, hf]

theorem State.faultWrite_two_pow (s : State) (hb : b < 32) : s.faultWrite code (2 ^ b) = (s.clearBit code b).irqAgain (sourceOf code) := by
  rw [State.faultWrite, State.each_two_pow s hb]

/-! ## The journal's registers (R517, R547) -/

/-- The registers that the journal's writer changes. -/
def journalRegs : List Nat := [HEARTH.JNL_STATUS, HEARTH.FAULT, HEARTH.INT_STAT]

section
variable {a : Nat}

theorem State.reg_journalPump (s : State) (ha : a ∉ journalRegs) : s.journalPump.reg a = s.reg a := by
  obtain ⟨hs, -, -⟩ : a ≠ HEARTH.JNL_STATUS ∧ a ≠ HEARTH.FAULT ∧ a ≠ HEARTH.INT_STAT := by simpa [journalRegs] using ha
  unfold State.journalPump
  extract_lets j j1 j2 s1
  exact (State.reg_setFld_other _ _ _ _ hs.symm).trans (State.reg_setFld_other _ _ _ _ hs.symm)

theorem State.reg_journalLose (s : State) (ha : a ∉ journalRegs) : s.journalLose.reg a = s.reg a := by
  obtain ⟨hs, hf, hi⟩ : a ≠ HEARTH.JNL_STATUS ∧ a ≠ HEARTH.FAULT ∧ a ≠ HEARTH.INT_STAT := by simpa [journalRegs] using ha
  unfold State.journalLose
  extract_lets lose s1
  have hlose : ∀ t : State, (lose t).reg a = t.reg a := fun t => State.reg_setFld_other _ _ _ _ hs.symm
  split
  · exact hlose s
  · calc _ = (lose (s1.setFld HEARTH.FAULT_JOURNAL 1)).reg a := State.reg_event_other _ _ _ hi.symm
      _ = s1.reg a := (hlose _).trans (State.reg_setFld_other _ _ _ _ hf.symm)
      _ = s.reg a := hlose s

theorem State.reg_journalEntry (s : State) (kind code bitNo : Nat) (forced : Bool) (d16 d : Nat) (ha : a ∉ journalRegs) :
    (s.journalEntry kind code bitNo forced d16 d).reg a = s.reg a := by
  unfold State.journalEntry State.free
  dsimp only
  split
  · exact State.reg_journalPump _ ha
  · split
    · split
      · exact (State.reg_journalPump _ ha).trans (State.reg_journalLose _ ha)
      · rfl
    · exact State.reg_journalLose _ ha

end

/-! ## A raise of class none (R31, R33, R539) -/

/-- The bit and its class set and the entry written: a raise without reaction before its event. -/
def State.rawRaise (s : State) (code bit idx : Nat) (forced : Bool) : State :=
  let s2 : State := { s.setFaultBit code bit with classes := Tbl.put (fun _ => FaultClass.none) s.classes (32 * code + bit) .none }
  s2.journalEntry 1 code bit forced idx (s2.reg (faultReg code)).toNat

theorem State.raise_of_none {idx : Nat} (forced : Bool) (hc : s.faultClass code b idx = .none) (hb : s.faultBit code b = false) :
    s.raise code b idx forced = (s.rawRaise code b idx forced).event ⟨intReg code, 0, 1⟩ := by
  rw [State.raise, hc]
  simp only [State.raiseAs, hb]
  rfl

section
variable {a idx : Nat} {forced : Bool}

theorem State.reg_rawRaise (ha : a ∉ journalRegs) : (s.rawRaise code b idx forced).reg a = (s.setFaultBit code b).reg a :=
  State.reg_journalEntry _ _ _ _ _ _ _ ha

/-- The bit, and FAULT_EV. -/
theorem State.faultBit_raise (hc : s.faultClass code b idx = .none) (hf : s.faultBit code b = false) (hb : b < 32)
    (hj : faultReg code ∉ journalRegs) : (s.raise code b idx forced).faultBit code b = true := by
  have hne : intReg code ≠ faultReg code := by unfold intReg; omega
  rw [State.raise_of_none forced hc hf, State.faultBit, State.reg_event_other _ _ _ hne, State.reg_rawRaise hj, State.setFaultBit,
    State.reg_setReg_same, testBit_ofNat_withBit _ hb, if_pos rfl]

theorem State.faultEv_raise (hc : s.faultClass code b idx = .none) (hf : s.faultBit code b = false) :
    ((s.raise code b idx forced).reg (intReg code)).toNat.testBit 0 = true := by
  rw [State.raise_of_none forced hc hf]
  have h := State.on_event (s.rawRaise code b idx forced) (f := ⟨intReg code, 0, 1⟩) rfl (show 0 < 32 by omega)
  have h1 : bits (((s.rawRaise code b idx forced).event ⟨intReg code, 0, 1⟩).reg (intReg code)).toNat 0 1 = 1 := of_decide_eq_true h
  calc _ = (bits (((s.rawRaise code b idx forced).event ⟨intReg code, 0, 1⟩).reg (intReg code)).toNat 0 1).testBit 0 := by rw [testBit_bits]; rfl
    _ = true := by rw [h1]; rfl

/-- A register apart from FAULT, INT_STAT and the journal's. -/
theorem State.reg_raise_other (hc : s.faultClass code b idx = .none) (hf : s.faultBit code b = false) (ha : a ∉ journalRegs)
    (h1 : faultReg code ≠ a) (h2 : intReg code ≠ a) : (s.raise code b idx forced).reg a = s.reg a := by
  rw [State.raise_of_none forced hc hf, State.reg_event_other _ _ _ h2, State.reg_rawRaise ha, State.setFaultBit, State.reg_setReg, if_neg h1]

end

theorem State.forceBit_calendar (s : State) : s.forceBit 4 0 = s.raise 4 0 0 true := by simp [State.forceBit]

theorem State.forceBit_intake_zero (s : State) : s.forceBit 7 0 = s.sqFail 0 true := by simp [State.forceBit]

theorem State.forceBit_intake_one (s : State) : s.forceBit 7 1 = s.raise 7 1 0 true := by simp [State.forceBit]

/-- A forced SQ_READ disables ring 0 with ERR, and raises its bit (R32, R287). -/
theorem State.sqFail_forced (hf : s.faultBit 7 0 = false) :
    (s.sqFail 0 true).faultBit 7 0 = true ∧ ((s.sqFail 0 true).reg (intReg 7)).toNat.testBit 0 = true ∧
    (s.sqFail 0 true).on (INTAKE.SQ_CFG_ERR 0) = true ∧ (s.sqFail 0 true).on (INTAKE.SQ_CFG_EN 0) = false := by
  let t := (s.setFld (INTAKE.SQ_CFG_ERR 0) 1).setFld (INTAKE.SQ_CFG_EN 0) 0
  have hne : INTAKE.SQ_CFG 0 ≠ faultReg 7 := by decide
  have hft : t.faultBit 7 0 = false := by
    rw [State.faultBit, State.reg_setFld_other _ _ _ _ hne, State.reg_setFld_other _ _ _ _ hne]; exact hf
  have hreg : (t.raise 7 0 0 true).reg (INTAKE.SQ_CFG 0) = t.reg (INTAKE.SQ_CFG 0) :=
    State.reg_raise_other rfl hft (by decide) (by decide) (by decide)
  have herr : t.on (INTAKE.SQ_CFG_ERR 0) = true :=
    (State.on_setFld_apart _ (INTAKE.SQ_CFG_EN 0) (INTAKE.SQ_CFG_ERR 0) 0 (by decide) (by decide)).trans (State.on_setFld_one s rfl (by decide))
  exact ⟨State.faultBit_raise rfl hft (by omega) (by decide), State.faultEv_raise rfl hft, (State.on_congr hreg).trans herr,
    (State.on_congr hreg).trans (State.on_setFld_zero _ (by decide))⟩

/-! ## INT_STAT (R33, R294) -/

/-- INT_STAT of a block of `faultCodes` has W1C bits alone, and lies at 0x1C of its unit. -/
def plainIntStat (code : Nat) : Bool :=
  match blockOf (intReg code), regRow (intReg code) with
  | some (b, u, r), some w => decide (b.code ≠ 0x7840) && decide (r = 0x1C) && known b.code u (intReg code) 0x1C && decide (w.rw = 0) && decide (w.w1c ≠ 0)
  | _, _ => false

theorem plainIntStat_of_mem (h : code ∈ faultCodes) : plainIntStat code = true := by
  have hall : ∀ c ∈ faultCodes, plainIntStat c = true := by decide
  exact hall code h

/-- No block but SYS gives a write of INT_STAT an effect of its own. -/
theorem State.wOwn_intStat (s : State) {c : Nat} (u a v : Nat) (hc : c ≠ 0x7840) : s.wOwn c u a 0x1C v = s.plain a v := by
  unfold State.wOwn
  split
  case h_1 => exact absurd rfl hc
  all_goals rfl

theorem State.wBlock_intStat (s : State) {c : Nat} (u a v : Nat) (hc : c ≠ 0x7840) (h : hasW1c a = true) :
    s.wBlock c u a 0x1C v = (s.plain a v).irqAgain (sourceOf (c + u)) := by
  simp [State.wBlock, State.wOwn_intStat s u a v hc, h, hc]

/-- The word of a register that has W1C bits alone. -/
theorem RegRow.merge_of_rw_zero {w : RegRow} (h : w.rw = 0) (old v : Word) : w.merge old v = old &&& ~~~(v &&& BitVec.ofNat 32 w.w1c) := by
  have hz : BitVec.ofNat 32 w.rw = 0#32 := by rw [h]
  have hn : ~~~(0#32) = BitVec.allOnes 32 := by decide
  simp only [RegRow.merge, hz, hn, BitVec.and_allOnes, BitVec.and_zero, BitVec.or_zero]

theorem State.busWrite_intStat {w : RegRow} (hc : code ∈ faultCodes) (hf : s.fabric = true) (hw : regRow (intReg code) = some w) (v : Nat) :
    s.Writes (intReg code) (s.reg (intReg code) &&& ~~~(BitVec.ofNat 32 v &&& BitVec.ofNat 32 w.w1c)) (s.busWrite (intReg code) v 15) := by
  have hp := plainIntStat_of_mem hc
  unfold plainIntStat at hp
  rw [hw] at hp
  split at hp
  · next b u r w' hb hw' =>
    cases hw'
    simp only [Bool.and_eq_true, decide_eq_true_eq] at hp
    obtain ⟨⟨⟨⟨hsys, rfl⟩, hknown⟩, hrw⟩, hw1c⟩ := hp
    have hal : intReg code % 4 = 0 := by
      have hall : ∀ c ∈ faultCodes, intReg c % 4 = 0 := by decide
      exact hall code hc
    have hhas : hasW1c (intReg code) = true := by simp [hasW1c, hw, hw1c]
    rw [busWrite_known hb hal rfl (by simp [State.running, hf]) hknown, State.wBlock_intStat s _ _ _ hsys hhas,
      plain_writable _ hw (fun h => hw1c h.2.1), ofNat_mod_word, RegRow.merge_of_rw_zero hrw]
    exact (State.setReg_writes s _ _).irqAgain _
  · cases hp

theorem exec_intStatClear (mask : Nat) (hc : code ∈ faultCodes) :
    exec (.intStatClear code mask) s = .next (s.busWrite (intReg code) mask 15) := by
  show execIntStatClear code mask s = _
  simp [execIntStatClear, hc]

end Sys2Proof.Machine

namespace Sys2Proof.Statements

/-- Settles O27: the blocks 4 to 11 have no source condition and nothing that follows a clear; the forced faults are of class none, so
that a raise is its bit, its journal entry and FAULT_EV; INT_STAT is a register with W1C bits alone. -/
theorem faultAndInterruptBits : Obligations.FaultAndInterruptBits := by
  unfold Obligations.FaultAndInterruptBits
  intro s code b mask hf hb
  refine ⟨fun h4 h11 => ?_, fun hcode harm hbit => ?_, fun hc harm => ?_, fun w hc hw => ?_⟩
  · have hbits : ∀ j, (s.faultWrite code (2 ^ b)).faultBit code j = if b = j then false else s.faultBit code j := fun j => by
      rw [State.faultWrite_two_pow s hb, State.faultBit, State.reg_irqAgain]
      exact State.faultBit_clearBit s h4 h11 hb j
    refine ⟨_, exec_faultClear _ (mem_faultCodes h4 h11) hf, ?_, fun j hj => ?_, fun a ha => ?_⟩
    · rw [hbits, if_pos rfl, State.sourceHolds_eq_false s h4 h11, Bool.and_false]
    · rw [hbits, if_neg hj.symm]
    · rw [State.faultWrite_two_pow s hb, State.reg_irqAgain]
      exact State.clearBit_onlyRegs s h4 h11 a ha
  · have hforce : exec (.faultForce code (2 ^ b)) s = .next (s.forceBit code b) := by
      rw [exec_faultForce _ (mem_faultCodes (by omega) (by omega)) hf, State.forceWrite, if_pos harm, State.each_two_pow s hb]
    obtain ⟨rfl, rfl⟩ | ⟨rfl, hlt⟩ := hcode
    · refine ⟨_, hforce, ?_⟩
      rw [State.forceBit_calendar]
      exact ⟨State.faultBit_raise rfl hbit hb (by decide), State.faultEv_raise rfl hbit, fun h => absurd h (by decide)⟩
    · obtain rfl | rfl : b = 0 ∨ b = 1 := by omega
      · refine ⟨_, hforce, ?_⟩
        rw [State.forceBit_intake_zero]
        obtain ⟨h1, h2, h3, h4⟩ := State.sqFail_forced hbit
        exact ⟨h1, h2, fun _ _ => ⟨h3, h4⟩⟩
      · refine ⟨_, hforce, ?_⟩
        rw [State.forceBit_intake_one]
        exact ⟨State.faultBit_raise rfl hbit hb (by decide), State.faultEv_raise rfl hbit, fun _ h => absurd h (by decide)⟩
  · rw [exec_faultForce _ hc hf, State.forceWrite, harm]; rfl
  · exact ⟨_, exec_intStatClear mask hc, State.busWrite_intStat hc hf hw mask⟩

end Sys2Proof.Statements
end

section
/-!
PROOFS. REINIT and the debug registers of a halted core (family 02).
-/

open Sys2Proof Sys2Proof.Machine
open Sys2Proof.Statements (Answers)

namespace Sys2Proof.Machine

variable {s : State} {n : Nat}

/-! ## REINIT (R210, R214) -/

/-- What a table answers is listed in it, or is the default. -/
theorem Tbl.get_mem {α : Type} (d : Nat → α) (t : Tbl α) (k : Nat) : (k, Tbl.get d t k) ∈ t ∨ Tbl.get d t k = d k := by
  induction t with
  | nil => exact .inr rfl
  | cons p t ih =>
    obtain ⟨a, v⟩ := p
    rw [Tbl.get]
    split
    · next h => exact .inl (by simp [h])
    · exact ih.imp_left (List.mem_cons_of_mem _)

/-- No entry of the core is left after its calendar is cleared. -/
theorem State.owner_clearCalendar {e : Nat} {x : Entry} (h : (s.clearCalendar n).entry e = some x) : x.owner ≠ n := by
  rcases Tbl.get_mem (fun _ => none) (s.clearCalendar n).gc.entries e with hm | hd
  · rw [show Tbl.get _ _ e = some x from h] at hm
    simpa using (List.mem_filter.mp hm).2
  · rw [show Tbl.get _ _ e = some x from h] at hd
    cases hd

/-- The core that REINIT leaves: reset but for its range, its memory, its halt reason and its posted writes. -/
def Core.reinit (c : Core) : Core :=
  { Core.reset with calBase := c.calBase, calCount := c.calCount, haltReason := c.haltReason, mem := c.mem, stale := c.stale, writes := c.writes }

section
variable (hn : n < 34) (hf : s.fabric = true) (hh : (s.core n).halted = true)
include hn hf hh

theorem State.reinitCore_eq : s.reinitCore n = (((s.clearCalendar n).setCore n (s.core n).reinit).setFld (SCRIBER.CORE_CTRL_DISARM_ON_HALT n) 0).setFld
    (SCRIBER.CORE_CTRL_BREAK_HALT n) 0 := by
  rw [State.reinitCore, if_pos ⟨hn, hf, hh⟩]; rfl

theorem State.core_reinitCore (m : Nat) : (s.reinitCore n).core m = if n = m then (s.core n).reinit else s.core m := by
  rw [State.reinitCore_eq hn hf hh, State.core_setFld, State.core_setFld, State.core_setCore]; rfl

theorem State.entry_reinitCore (e : Nat) : (s.reinitCore n).entry e = (s.clearCalendar n).entry e := by
  rw [State.reinitCore_eq hn hf hh, State.entry_setFld, State.entry_setFld, State.entry_setCore]

/-- With no posted write left REINIT begins at once. -/
theorem exec_coreReinit (hw : (s.core n).writes = []) : exec (.coreReinit n) s = .next (s.reinitCore n) := by
  have hstep : s.deliverWrite n = s := by rw [State.deliverWrite, hw]
  have hdrain : ∀ fuel, s.drainWrites n fuel = s := fun fuel => by
    induction fuel with
    | zero => rfl
    | succ fuel ih => rw [State.drainWrites, hstep, ih]
  show execCoreReinit n s = _
  rw [execCoreReinit, State.reinitNow, if_pos ⟨hn, hf, hh⟩, hdrain]

end

/-! ## The debug registers (R215, R216) -/

section
variable {v : Nat}

/-- The register number that DBG_SEL of core `n` holds. -/
def State.dbgSel (s : State) (n : Nat) : Nat := s.fld (SCRIBER.CORE_DBG_SEL_REG n)

theorem exec_debugRegisterWrite_running (hn : n < 34) (hf : s.fabric = true) (hh : (s.core n).halted = false) :
    exec (.debugRegisterWrite n v) s = .next (s.logRo (SCRIBER.CORE_DBG_LO n)) := by
  show execDebugRegisterWrite n v s = _
  simp [execDebugRegisterWrite, show ¬ 34 ≤ n by omega, hf, hh]

theorem exec_debugRegisterRead_running (hn : n < 34) (hf : s.fabric = true) (hh : (s.core n).halted = false) :
    exec (.debugRegisterRead n) s = .next (s.answer [0]) := by
  show execDebugRegisterRead n s = _
  simp [execDebugRegisterRead, show ¬ 34 ≤ n by omega, hf, hh]

variable (hn : n < 34) (hf : s.fabric = true) (hh : (s.core n).halted = true)
include hn hf hh

theorem exec_debugRegisterWrite_general (h0 : 0 < s.dbgSel n) (h : s.dbgSel n < 0x20) :
    exec (.debugRegisterWrite n v) s = .next (s.setG n (s.dbgSel n) (BitVec.ofNat 32 v)) := by
  show execDebugRegisterWrite n v s = _
  unfold State.dbgSel at *
  simp [execDebugRegisterWrite, show ¬ 34 ≤ n by omega, hf, hh, h0, h]

theorem exec_debugRegisterWrite_position (h : 0x20 ≤ s.dbgSel n) (h' : s.dbgSel n < 0x28) :
    exec (.debugRegisterWrite n v) s = .next (s.setP n (s.dbgSel n - 0x20)
      (BitVec.ofNat 64 (v % 2 ^ 32 + (s.reg (SCRIBER.CORE_DBG_HI n)).toNat * 2 ^ 32))) := by
  show execDebugRegisterWrite n v s = _
  have hno : ¬ (0 < s.dbgSel n ∧ s.dbgSel n < 0x20) := by omega
  unfold State.dbgSel at *
  simp only [execDebugRegisterWrite, show ¬ 34 ≤ n by omega, hf, hh, if_neg hno, if_pos (And.intro h h')]
  rfl

theorem exec_debugRegisterWrite_zero (h : s.dbgSel n = 0) : exec (.debugRegisterWrite n v) s = .next (s.logRo (SCRIBER.CORE_DBG_LO n)) := by
  show execDebugRegisterWrite n v s = _
  unfold State.dbgSel at h
  simp [execDebugRegisterWrite, show ¬ 34 ≤ n by omega, hf, hh, h]

theorem exec_debugRegisterRead_halted : exec (.debugRegisterRead n) s =
    .next ((s.setReg (SCRIBER.CORE_DBG_HI n) (BitVec.ofNat 32 (s.debugValue n / 2 ^ 32))).answer [s.debugValue n % 2 ^ 32]) := by
  show execDebugRegisterRead n s = _
  simp [execDebugRegisterRead, show ¬ 34 ≤ n by omega, hf, hh]

/-- A read answers the low half of the selected register, latches the high half and leaves the cores. -/
theorem answers_debugRegisterRead : Answers (.debugRegisterRead n) s (fun t => t.reply = [s.debugValue n % 2 ^ 32] ∧
    t.reg (SCRIBER.CORE_DBG_HI n) = BitVec.ofNat 32 (s.debugValue n / 2 ^ 32) ∧ t.cores = s.cores) :=
  ⟨_, exec_debugRegisterRead_halted hn hf hh, rfl, State.reg_setReg_same .., rfl⟩

end

theorem State.debugValue_general (h : s.dbgSel n < 0x20) : s.debugValue n = ((s.core n).gr (s.dbgSel n)).toNat := if_pos h

theorem State.debugValue_position (h : 0x20 ≤ s.dbgSel n) (h' : s.dbgSel n < 0x28) :
    s.debugValue n = ((s.core n).pr (s.dbgSel n - 0x20)).toNat :=
  (if_neg (Nat.not_lt.mpr h)).trans (if_pos h')

/-- A discarded access is logged and leaves the cores. -/
theorem answers_logRo {c : Instr} {a : Nat} (h : exec c s = .next (s.logRo a)) :
    Answers c s (fun t => t.on SYS.ACCESS_LOG_RO_WRITE = true ∧ t.cores = s.cores) := by
  obtain ⟨hon, -, -, -, hframe⟩ := State.logAccess_logs s (f := SYS.ACCESS_LOG_RO_WRITE) a rfl rfl (by decide)
  have hcores : (s.logRo a).cores = s.cores := (congrArg State.cores hframe :)
  exact ⟨_, h, hon, hcores⟩

end Sys2Proof.Machine

namespace Sys2Proof.Statements

/-- Settles O15: REINIT with an empty list of posted writes is `State.reinitCore`; the debug registers by the number in DBG_SEL. -/
theorem coreReinitAndDebug : Obligations.CoreReinitAndDebug := by
  unfold Obligations.CoreReinitAndDebug
  intro s n v hn hf
  refine ⟨fun hh hw => ?_, fun hh h0 h => ?_, fun hh h h' => ?_, fun hh h => ?_, fun hh => ?_⟩
  · refine ⟨_, exec_coreReinit hn hf hh hw, ?_, fun e x he => ?_, fun m hm => ?_⟩
    · rw [State.core_reinitCore hn hf hh, if_pos rfl, Core.reinit, hw]; rfl
    · rw [State.entry_reinitCore hn hf hh] at he
      exact State.owner_clearCalendar he
    · rw [State.core_reinitCore hn hf hh, if_neg hm.symm]
  · refine ⟨exec_debugRegisterWrite_general hn hf hh h0 h, ?_⟩
    obtain ⟨t, ht, hreply, hhi, hcores⟩ := answers_debugRegisterRead hn hf hh
    have hlt := ((s.core n).gr (s.dbgSel n)).isLt
    rw [State.debugValue_general h] at hreply hhi
    rw [Nat.mod_eq_of_lt hlt] at hreply
    rw [Nat.div_eq_of_lt hlt] at hhi
    exact ⟨t, ht, hreply, hhi, hcores⟩
  · refine ⟨exec_debugRegisterWrite_position hn hf hh h h', ?_⟩
    have hread := answers_debugRegisterRead hn hf hh
    rw [State.debugValue_position h h'] at hread
    exact hread
  · exact answers_logRo (exec_debugRegisterWrite_zero hn hf hh h)
  · exact ⟨exec_debugRegisterRead_running hn hf hh, answers_logRo (exec_debugRegisterWrite_running hn hf hh)⟩

end Sys2Proof.Statements
end

section
/-!
PROOFS. Release from reset and boot (family 02): domains, the image, and ready.
-/

open Sys2Proof Sys2Proof.Machine
open Sys2Proof.Statements (Answers OnlyRegs)

namespace Sys2Proof.Machine

variable {s t b : State}

/-! ## Operations of the upper blocks leave SYS and TINDER (R26) -/

/-- The registers of SYS and TINDER, and Tinder's own state, are those of `b`. -/
def State.LowAs (s b : State) : Prop := (∀ a, a < 0x20000 → s.reg a = b.reg a) ∧ s.tinder = b.tinder

theorem State.LowAs.refl (s : State) : s.LowAs s := ⟨fun _ _ => rfl, rfl⟩

theorem State.LowAs.on {f : Fld} (h : s.LowAs b) (hf : f.off < 0x20000) : s.on f = b.on f := State.on_congr (h.1 _ hf)

theorem State.LowAs.fld {f : Fld} (h : s.LowAs b) (hf : f.off < 0x20000) : s.fld f = b.fld f := by
  rw [State.fld, State.fld, h.1 _ hf]

/-- A place of an array that begins above TINDER. -/
theorem upper {n k : Nat} (h : 0x20000 ≤ n := by decide) : 0x20000 ≤ n + k := Nat.le_add_right_of_le h

/-- The offset of an axis' field is that of its FOC or STEP field. -/
theorem axf_upper {f g : Nat → Fld} {a : Nat} (hf : ∀ u, 0x20000 ≤ (f u).off) (hg : ∀ u, 0x20000 ≤ (g u).off) : 0x20000 ≤ (axf f g a).off := by
  unfold axf; split
  · exact hf a
  · exact hg (a - 12)

theorem State.LowAs.ite {p : Prop} [Decidable p] {x y : State} (hx : x.LowAs b) (hy : y.LowAs b) : (if p then x else y).LowAs b := by
  split
  · exact hx
  · exact hy

/-- A write of a low field keeps two states alike. -/
theorem State.LowAs.setBoth {f : Fld} {v : Nat} (h : s.LowAs b) (hf : f.off < 0x20000) : (s.setFld f v).LowAs (b.setFld f v) := by
  refine ⟨fun a ha => ?_, h.2⟩
  unfold State.setFld
  rw [State.reg_setReg, State.reg_setReg, h.1 _ hf, h.1 _ ha]

section
variable (h : s.LowAs b)
include h

theorem State.LowAs.setReg {a : Nat} {w : Word} (ha : 0x20000 ≤ a) : (s.setReg a w).LowAs b :=
  ⟨fun x hx => by rw [State.reg_setReg, if_neg (by omega)]; exact h.1 x hx, h.2⟩

theorem State.LowAs.setFld {f : Fld} {v : Nat} (hf : 0x20000 ≤ f.off) : (s.setFld f v).LowAs b := h.setReg hf

theorem State.LowAs.event {f : Fld} (hf : 0x20000 ≤ f.off) : (s.event f).LowAs b :=
  ⟨fun a ha => by rw [State.reg_event_other _ _ _ (by omega)]; exact h.1 a ha, by rw [State.tinder_event]; exact h.2⟩

theorem State.LowAs.each {l : List Nat} {f : State → Nat → State} (hf : ∀ t i, t.LowAs b → (f t i).LowAs b) : (s.each l f).LowAs b :=
  State.each_keeps hf l h

theorem State.LowAs.setEngine {e : Engine} : State.LowAs { s with engine := e } b := h
theorem State.LowAs.setAxis {a : Nat} {x : Axis} : (s.setAxis a x).LowAs b := h
theorem State.LowAs.setHvc {n : Nat} {x : HvChan} : (s.setHvc n x).LowAs b := h
theorem State.LowAs.setLamp {n : Nat} {x : Lamp} : (s.setLamp n x).LowAs b := h
theorem State.LowAs.setGv {k : Nat} {g : Grav} : (s.setGv k g).LowAs b := h

theorem State.LowAs.laserEval {k : Nat} : (s.laserEval k).LowAs b :=
  have h1 := (h.setFld (f := GRAVER.LASER_CTRL_TERMS k) upper).setFld
    (f := GRAVER.LASER_CTRL_LEVEL k) upper
  .ite h1 (h1.event (f := GRAVER.INT_STAT_GATE_EV k) upper)

theorem State.LowAs.laserAll : s.laserAll.LowAs b := h.each fun _ _ h1 => h1.laserEval

theorem State.LowAs.latchInit : s.latchInit.LowAs b := (h.setFld (by decide)).setFld (by decide)

theorem State.LowAs.countLamps {p : Nat} : (s.countLamps p).LowAs b :=
  .ite (h.setFld (f := CORD.P_OVER_LAMPS_ON p) upper) h

theorem State.LowAs.htrLow {n : Nat} : (s.htrLow n).LowAs b :=
  have h1 := h.setLamp.setFld (f := HEARTH.H_STATUS_SOFT n) upper
  .ite (h1.setFld (f := HEARTH.H_STATUS_ON n) upper).countLamps h1

theorem State.LowAs.hvFollow {n : Nat} : (s.hvFollow n).LowAs b :=
  .ite h ((h.setHvc.setFld (f := HV.V_STATUS_OUTPUT n) upper).setFld
    (f := HV.V_STATUS_AT_SP n) upper)

theorem State.LowAs.hvAll : s.hvAll.LowAs b := h.each fun _ _ h1 => h1.hvFollow

theorem State.LowAs.hvSafe : s.hvSafe.LowAs b :=
  .hvAll (h.each fun _ n h1 => (h1.setFld (f := HV.V_CFG_ENABLE n) upper).setHvc)

theorem State.LowAs.setAtSpeed {a : Nat} {v : Bool} : (s.setAtSpeed a v).LowAs b :=
  h.setFld (axf_upper (fun _ => upper) (fun _ => upper))

theorem State.LowAs.setAxPhase {a v : Nat} : (s.setAxPhase a v).LowAs b :=
  h.setFld (axf_upper (fun _ => upper) (fun _ => upper))

theorem State.LowAs.axisOff {a : Nat} : (s.axisOff a).LowAs b :=
  (h.setAxPhase.setFld (axf_upper (fun _ => upper) (fun _ => upper))).setFld
    (axf_upper (fun _ => upper) (fun _ => upper))

theorem State.LowAs.bridgesOff {a : Nat} : (s.bridgesOff a).LowAs b :=
  have h1 (x : Axis) := (((h.setAxis (a := a) (x := x)).setAtSpeed (a := a) (v := false)).setFld (f := axf FOC.AXIS_STATUS_ZV_BRAKE STEP.AXIS_STATUS_ZV_BRAKE a) (v := 0)
    (axf_upper (fun _ => upper) (fun _ => upper))).setFld
    (f := axf FOC.AXIS_STATUS_DERATED STEP.AXIS_STATUS_DERATED a) (v := 0)
    (axf_upper (fun _ => upper) (fun _ => upper))
  have h2 (x : Axis) := State.LowAs.ite (p := a < 12) (h1 x) ((h1 x).setReg (a := STEP.SPEED (a - 12)) (w := 0) upper)
  .ite h (.ite (h2 _).setAxPhase (h2 _).axisOff)

theorem State.LowAs.stopAxis {a : Nat} : (s.stopAxis a).LowAs b :=
  .ite h.setAxis.setAtSpeed.setAxPhase (.ite
    (h.bridgesOff.event (axf_upper (fun _ => upper) (fun _ => upper))) h)

theorem State.LowAs.zoneLevels {z : Nat} : (s.zoneLevels z).LowAs b :=
  have h1 := ((h.setFld (f := HEARTH.Z_STATUS_TEMP z) upper).setFld (f := HEARTH.Z_STATUS_READY z)
    upper).setFld (f := HEARTH.Z_STATUS_PRIORITY z) upper
  .ite (h1.event (by decide)) h1

theorem State.LowAs.zonesFollow : s.zonesFollow.LowAs b := h.each fun _ _ h1 => h1.zoneLevels

theorem State.LowAs.stopScan {k : Nat} : (s.stopScan k).LowAs b :=
  h.setGv.setFld (f := GRAVER.STATUS_SCANNING k) upper

theorem State.LowAs.gatesOff : s.gatesOff.LowAs b := h.each fun _ _ h1 => h1.htrLow

theorem State.LowAs.stopRun : s.stopRun.LowAs b := h.each fun _ _ h1 => h1.stopAxis

theorem State.LowAs.setEng {e : Nat} : (s.setEng e).LowAs (b.setEng e) := h.setBoth (by decide)

/-- Entering a state changes SYS and TINDER in the engine state alone. -/
theorem State.LowAs.enter {e : Nat} : (s.enter e).LowAs (b.setEng e) := h.setEng.zonesFollow.hvAll.laserAll

theorem State.LowAs.enterBanked : s.enterBanked.LowAs (b.setEng engBanked) := h.stopRun.setEngine.enter

theorem State.LowAs.enterSafe : s.enterSafe.LowAs (b.setEng engSafe) :=
  .laserAll (.zonesFollow (.each (h.setEngine.setEng.gatesOff.hvSafe.each fun _ _ h1 => h1.bridgesOff) fun _ _ h1 => h1.stopScan))

end

/-! ## BOOT_STATUS (R41, R120) -/

/-- HOLD of domain `d`. -/
def bootHold (d : Nat) : Fld := ⟨SYS.BOOT_STATUS, 8 + d, 1⟩

theorem State.bootStage_setStage {v : Nat} (s : State) (hv : v < 16) : (s.setStage v).bootStage = v := by
  rw [State.bootStage, State.setStage, State.fld_setFld _ _ _ (by decide)]
  exact Nat.mod_eq_of_lt hv

/-- A field of BOOT_STATUS beside BOOT_STAGE. -/
theorem State.fld_setStage {f : Fld} (s : State) (v : Nat) (hf : f.lo + f.width ≤ 32) (h : f.lo + f.width ≤ 4 ∨ 8 ≤ f.lo) :
    (s.setStage v).fld f = s.fld f := State.fld_setFld_apart s SYS.BOOT_STATUS_BOOT_STAGE f v hf (.inr h)

/-- BOOT_ERROR after an error `c`: the first one in time. -/
theorem State.error_bootError {c : Nat} (s : State) (hc : c < 256) : (s.bootError c).fld SYS.BOOT_STATUS_BOOT_ERROR =
    if s.fld SYS.BOOT_STATUS_BOOT_ERROR = 0 then c else s.fld SYS.BOOT_STATUS_BOOT_ERROR := by
  unfold State.bootError
  split
  · rw [State.fld_setFld _ _ _ (by decide)]
    exact Nat.mod_eq_of_lt hc
  · rfl

/-- A field of BOOT_STATUS beside BOOT_ERROR. -/
theorem State.fld_bootError {f : Fld} {c : Nat} (s : State) (hf : f.lo + f.width ≤ 16) : (s.bootError c).fld f = s.fld f := by
  unfold State.bootError
  split
  · exact State.fld_setFld_apart s SYS.BOOT_STATUS_BOOT_ERROR f c (by omega) (.inr (.inl hf))
  · rfl

theorem State.tinder_bootError (s : State) (c : Nat) : (s.bootError c).tinder = s.tinder := by
  unfold State.bootError; split
  · exact State.setReg_tinder_field ..
  · rfl

theorem State.error_bootFail {c : Nat} (s : State) (hc : c < 256) : (s.bootFail c).fld SYS.BOOT_STATUS_BOOT_ERROR =
    if s.fld SYS.BOOT_STATUS_BOOT_ERROR = 0 then c else s.fld SYS.BOOT_STATUS_BOOT_ERROR :=
  (State.fld_setStage _ 0xF (by decide) (by decide)).trans (State.error_bootError s hc)

theorem State.bootStage_bootFail (s : State) (c : Nat) : (s.bootFail c).bootStage = 0xF := State.bootStage_setStage _ (by decide)

theorem State.tinder_bootFail (s : State) (c : Nat) : (s.bootFail c).tinder = s.tinder := State.tinder_bootError s c

section
variable {d : Nat}

theorem State.hold_setHold (s : State) {v : Nat} (hd : d < 5) (hv : v < 2) : (s.setFld (bootHold d) v).fld (bootHold d) = v := by
  rw [State.fld_setFld _ _ _ (show 8 + d + 1 ≤ 32 by omega)]
  exact Nat.mod_eq_of_lt hv

theorem State.fld_setHold (s : State) {f : Fld} (v : Nat) (hd : d < 5) (hf : f.lo + f.width ≤ 32) (h : f.lo + f.width ≤ 8 ∨ 13 ≤ f.lo) :
    (s.setFld (bootHold d) v).fld f = s.fld f := by
  refine State.fld_setFld_apart s (bootHold d) f v hf (.inr ?_)
  show f.lo + f.width ≤ 8 + d ∨ 8 + d + 1 ≤ f.lo
  omega

theorem State.setHold_onlyRegs (s : State) (v : Nat) : OnlyRegs s (s.setFld (bootHold d) v) [SYS.BOOT_STATUS] := by
  intro a ha
  exact State.reg_setFld_other _ _ _ _ (fun h => ha (by rw [← h]; exact List.mem_singleton.mpr rfl))

/-! ## Domains (R113, R114) -/

/-- Domain `d` is clocked, and its HOLD is 0. -/
def State.releasedDomain (s : State) (d : Nat) : State :=
  (s.setTinder { s.tinder with released := withBit s.tinder.released d true }).setFld (bootHold d) 0

theorem State.domain_releasedDomain (s : State) (d : Nat) : (s.releasedDomain d).domain d = true := by
  show (withBit s.tinder.released d true).testBit d = true
  rw [testBit_withBit, if_pos rfl]

theorem State.releasedDomain_onlyRegs (s : State) (d : Nat) : OnlyRegs s (s.releasedDomain d) [SYS.BOOT_STATUS] :=
  State.setHold_onlyRegs (s.setTinder _) 0

/-- A waiting training goes on: at most DRAMC.TRAIN changes. -/
theorem State.trainOn_cases (s : State) : s.trainOn = s ∨ s.trainOn = s.setFld DRAMC.TRAIN_STATE 2 := by
  unfold State.trainOn; split
  · exact .inr rfl
  · exact .inl rfl

theorem State.trainOn_onlyRegs (s : State) : OnlyRegs s s.trainOn [DRAMC.TRAIN] := by
  intro a ha
  have hne : DRAMC.TRAIN ≠ a := fun h => ha (by rw [← h]; exact List.mem_singleton.mpr rfl)
  rcases State.trainOn_cases s with h | h <;> rw [h]
  exact State.reg_setFld_other _ _ _ _ hne

theorem State.tinder_trainOn (s : State) : s.trainOn.tinder = s.tinder := by
  rcases State.trainOn_cases s with h | h <;> rw [h]; rfl

/-- The conditions of R113 under which domain `d` is released. -/
structure State.ReleaseDue (s : State) (d : Nat) : Prop where
  number : d < 5
  standby : s.tinder.vstby = true
  running : s.tinder.por = false
  sequenced : 1 ≤ s.phase
  up : s.phase ≤ 5
  own : s.ownGood = true
  locked : s.on (CLOCK.PLL_STATUS_LOCKED d) = true
  held : s.domain d = false

theorem exec_domainRelease (h : s.ReleaseDue d) : exec (.domainRelease d) s = .next (
    if d = 0 ∧ (s.releasedDomain d).tinder.inReset then
      if (s.releasedDomain d).releaseLatch.bootStage = 0xF then (s.releasedDomain d).releaseLatch else (s.releasedDomain d).releaseLatch.bootSteps
    else if d = 1 then (s.releasedDomain d).trainOn else s.releasedDomain d) := by
  have hdue : ¬ (5 ≤ d ∨ !s.tinder.vstby ∨ s.tinder.por ∨ s.phase < 1 ∨ 5 < s.phase ∨ !s.ownGood ∨ !s.on (CLOCK.PLL_STATUS_LOCKED d) ∨ s.domain d) := by
    have h0 := h.number
    have h1 := h.sequenced
    have h2 := h.up
    simp [h.standby, h.running, h.own, h.locked, h.held]
    omega
  show execDomainRelease d s = _
  rw [execDomainRelease, if_neg hdue]
  exact (apply_ite Host.Outcome.next _ _ _).symm

/-- A domain that is released while no reset stands. -/
theorem answers_domainRelease (h : s.ReleaseDue d) (hr : d ≠ 0 ∨ s.tinder.inReset = false) :
    Answers (.domainRelease d) s (fun t => t.domain d = true ∧ t.fld (bootHold d) = 0 ∧
      OnlyRegs s t (if d = 1 then [SYS.BOOT_STATUS, DRAMC.TRAIN] else [SYS.BOOT_STATUS])) := by
  have hnot : ¬ (d = 0 ∧ (s.releasedDomain d).tinder.inReset = true) := by
    rintro ⟨h0, h1⟩
    rcases hr with hr | hr
    · exact hr h0
    · rw [show (s.releasedDomain d).tinder.inReset = s.tinder.inReset from rfl, hr] at h1
      cases h1
  have hhold : (s.releasedDomain d).fld (bootHold d) = 0 := State.hold_setHold _ h.number (by decide)
  refine ⟨_, exec_domainRelease h, ?_⟩
  rw [if_neg hnot]
  by_cases hd : d = 1
  · rw [if_pos hd, if_pos hd]
    have hreg := State.trainOn_onlyRegs (s.releasedDomain d)
    refine ⟨?_, ?_, fun a ha => ?_⟩
    · rw [State.domain, State.tinder_trainOn]
      exact State.domain_releasedDomain s d
    · rw [State.fld, show (s.releasedDomain d).trainOn.reg (bootHold d).off = _ from hreg SYS.BOOT_STATUS (by decide)]
      exact hhold
    · simp only [List.mem_cons, List.not_mem_nil, or_false, not_or] at ha
      exact (hreg a (by simpa using ha.2)).trans (State.releasedDomain_onlyRegs s d a (by simpa using ha.1))
  · rw [if_neg hd, if_neg hd]
    exact ⟨State.domain_releasedDomain s d, hhold, State.releasedDomain_onlyRegs s d⟩

end

/-! ## The end of a reset (R41, R109, R113) -/

/-- BOOT_STATUS and RESET_COUNT take what the release latches. -/
def State.latchBoot (s : State) : State :=
  (s.setFld SYS.BOOT_STATUS_BOOT_PINS s.tinder.bootPins).setReg SYS.RESET_COUNT (BitVec.ofNat 32 s.tinder.count)

/-- RESET_CAUSE takes it. -/
def State.latchCause (s : State) : State :=
  ((s.setFld SYS.RESET_CAUSE_TRIP_MIRROR (bit s.tinder.trip)).setFld SYS.RESET_CAUSE_VBAT_LOST (bit s.tinder.vbatLost)).setFld
    SYS.RESET_CAUSE_CAUSE s.tinder.cause

/-- The whole latching, before what follows it in Hearth and in the Gravers. -/
def State.latchSys (s : State) : State :=
  let s3 := s.latchBoot.latchCause.setFld TINDER.SEQ_STATUS_WAKE s.tinder.wakeNext
  s3.setTinder { s3.tinder with vbatLost := false, inReset := false, outputsHeld := false }

theorem State.releaseLatch_eq (s : State) : s.releaseLatch = s.latchSys.latchInit.laserAll := rfl

theorem State.releaseLatch_lowAs (s : State) : s.releaseLatch.LowAs s.latchSys := by
  rw [State.releaseLatch_eq]
  exact (State.LowAs.refl s.latchSys).latchInit.laserAll

theorem State.on_setFld_bit (s : State) {f : Fld} (v : Bool) (hw : f.width = 1) (hl : f.lo < 32) : (s.setFld f (bit v)).on f = v := by
  cases v with
  | true => exact State.on_setFld_one s hw hl
  | false => exact State.on_setFld_zero s (by omega)

theorem State.reg_latchBoot_status (s : State) :
    s.latchBoot.reg SYS.BOOT_STATUS = (s.setFld SYS.BOOT_STATUS_BOOT_PINS s.tinder.bootPins).reg SYS.BOOT_STATUS := by
  rw [State.latchBoot, State.reg_setReg, if_neg (by decide)]

theorem State.reg_latchBoot_count (s : State) : s.latchBoot.reg SYS.RESET_COUNT = BitVec.ofNat 32 s.tinder.count :=
  State.reg_setReg_same ..

theorem State.reg_latchCause_other (s : State) {a : Nat} (h : SYS.RESET_CAUSE ≠ a) : s.latchCause.reg a = s.reg a := by
  rw [State.latchCause, State.reg_setFld_other _ _ _ _ h, State.reg_setFld_other _ _ _ _ h, State.reg_setFld_other _ _ _ _ h]

theorem State.cause_latchCause (s : State) : s.latchCause.fld SYS.RESET_CAUSE_CAUSE = s.tinder.cause % 4 :=
  State.fld_setFld _ SYS.RESET_CAUSE_CAUSE _ (by decide)

theorem State.vbatLost_latchCause (s : State) : s.latchCause.on SYS.RESET_CAUSE_VBAT_LOST = s.tinder.vbatLost := by
  rw [State.latchCause, State.on_setFld_apart _ _ _ _ (by decide) (by decide), State.on_setFld_bit _ _ rfl (by decide)]

theorem State.trip_latchCause (s : State) : s.latchCause.on SYS.RESET_CAUSE_TRIP_MIRROR = s.tinder.trip := by
  rw [State.latchCause, State.on_setFld_apart _ _ _ _ (by decide) (by decide), State.on_setFld_apart _ _ _ _ (by decide) (by decide),
    State.on_setFld_bit _ _ rfl (by decide)]

/-- The latching stands in SYS to the end. -/
theorem State.reg_latchSys (s : State) {a : Nat} (h : TINDER.SEQ_STATUS ≠ a) : s.latchSys.reg a = s.latchBoot.latchCause.reg a := by
  rw [State.latchSys, State.reg_setTinder, State.reg_setFld_other _ _ _ _ h]

theorem State.fld_congr {f : Fld} (h : t.reg f.off = s.reg f.off) : t.fld f = s.fld f := by rw [State.fld, State.fld, h]

/-- What stands in SYS after the release. -/
theorem State.releaseLatch_sys (s : State) : s.releaseLatch.fld SYS.BOOT_STATUS_BOOT_PINS = s.tinder.bootPins % 4 ∧
    s.releaseLatch.bootStage = s.bootStage ∧ s.releaseLatch.reg SYS.RESET_COUNT = BitVec.ofNat 32 s.tinder.count ∧
    s.releaseLatch.fld SYS.RESET_CAUSE_CAUSE = s.tinder.cause % 4 ∧ s.releaseLatch.on SYS.RESET_CAUSE_VBAT_LOST = s.tinder.vbatLost ∧
    s.releaseLatch.on SYS.RESET_CAUSE_TRIP_MIRROR = s.tinder.trip := by
  have hreg : ∀ a, a < 0x20000 → TINDER.SEQ_STATUS ≠ a → s.releaseLatch.reg a = s.latchBoot.latchCause.reg a := fun a ha h =>
    ((State.releaseLatch_lowAs s).1 a ha).trans (State.reg_latchSys s h)
  have hstatus : s.releaseLatch.reg SYS.BOOT_STATUS = (s.setFld SYS.BOOT_STATUS_BOOT_PINS s.tinder.bootPins).reg SYS.BOOT_STATUS := by
    rw [hreg _ (by decide) (by decide), State.reg_latchCause_other _ (by decide), State.reg_latchBoot_status]
  have hcause : s.releaseLatch.reg SYS.RESET_CAUSE = s.latchBoot.latchCause.reg SYS.RESET_CAUSE := hreg _ (by decide) (by decide)
  refine ⟨?_, ?_, ?_, ?_, ?_, ?_⟩
  · rw [State.fld_congr (f := SYS.BOOT_STATUS_BOOT_PINS) hstatus]
    exact State.fld_setFld s _ _ (by decide)
  · rw [State.bootStage, State.fld_congr (f := SYS.BOOT_STATUS_BOOT_STAGE) hstatus]
    exact State.fld_setFld_apart s _ _ _ (by decide) (by decide)
  · rw [hreg _ (by decide) (by decide), State.reg_latchCause_other _ (by decide), State.reg_latchBoot_count]
  · rw [State.fld_congr (f := SYS.RESET_CAUSE_CAUSE) hcause, State.cause_latchCause]; rfl
  · rw [State.on_congr (f := SYS.RESET_CAUSE_VBAT_LOST) hcause, State.vbatLost_latchCause]; rfl
  · rw [State.on_congr (f := SYS.RESET_CAUSE_TRIP_MIRROR) hcause, State.trip_latchCause]; rfl

/-- The release of the fabric ends the reset, in a boot that has failed without the later steps. -/
theorem answers_domainRelease_fabric (h : s.ReleaseDue 0) (hr : s.tinder.inReset = true) (hb : s.bootStage = 0xF) :
    Answers (.domainRelease 0) s (fun t => t.fabric = true ∧ t.tinder.inReset = false ∧
      t.tinder.outputsHeld = false ∧ t.fld SYS.BOOT_STATUS_BOOT_PINS = s.tinder.bootPins % 4 ∧ t.reg SYS.RESET_COUNT = BitVec.ofNat 32 s.tinder.count ∧
      t.fld SYS.RESET_CAUSE_CAUSE = s.tinder.cause % 4 ∧ t.on SYS.RESET_CAUSE_VBAT_LOST = s.tinder.vbatLost ∧
      t.on SYS.RESET_CAUSE_TRIP_MIRROR = s.tinder.trip) := by
  obtain ⟨hpins, hstage, hcount, hcause, hvbat, htrip⟩ := State.releaseLatch_sys (s.releasedDomain 0)
  obtain ⟨-, htinder⟩ := State.releaseLatch_lowAs (s.releasedDomain 0)
  have hF : (s.releasedDomain 0).releaseLatch.bootStage = 0xF :=
    hstage.trans ((State.fld_setHold _ 0 (by decide) (by decide) (by decide)).trans hb)
  refine ⟨_, exec_domainRelease h, ?_⟩
  rw [if_pos ⟨rfl, hr⟩, if_pos hF]
  refine ⟨?_, by rw [htinder]; rfl, by rw [htinder]; rfl, hpins, hcount, hcause, hvbat, htrip⟩
  rw [State.fabric, State.domain, htinder]
  exact State.domain_releasedDomain s 0

/-! ## A domain held back (R114, R120, R125) -/

section
variable {d : Nat} {part : Option FlashPart}

/-- The boot fails with the flash that the boot ROM found. -/
def State.failWith (s : State) (part : Option FlashPart) (c : Nat) : State := (s.foundFlash part).bootFail c

theorem State.failWith_error {c : Nat} (s : State) (part : Option FlashPart) (hc : c < 256) :
    (s.failWith part c).bootStage = 0xF ∧ (s.failWith part c).tinder.flashPart = part ∧ (s.failWith part c).fld SYS.BOOT_STATUS_BOOT_ERROR =
      if s.fld SYS.BOOT_STATUS_BOOT_ERROR = 0 then c else s.fld SYS.BOOT_STATUS_BOOT_ERROR :=
  ⟨State.bootStage_bootFail _ c, by rw [State.failWith, State.tinder_bootFail]; rfl, State.error_bootFail (s.foundFlash part) hc⟩

theorem State.hold_failWith (s : State) (c : Nat) (hd : d < 5) : (s.failWith part c).fld (bootHold d) = s.fld (bootHold d) :=
  (State.fld_setStage _ 0xF (show 8 + d + 1 ≤ 32 by omega) (.inr (show 8 ≤ 8 + d by omega))).trans
    (State.fld_bootError (s.foundFlash part) (show 8 + d + 1 ≤ 16 by omega))

theorem exec_clockHold (part : Option FlashPart) (hd : d < 5) (ho : s.ownGood = true) (hh : s.domain d = false) :
    exec (.clockHold ⟨d, part⟩) s = .next (if d = 0 ∨ d = 3 ∧ s.bootSource = bootHost then (s.setFld (bootHold d) 1).failWith part 7
      else s.setFld (bootHold d) 1) := by
  have hdue : ¬ (5 ≤ d ∨ !s.ownGood ∨ s.domain d) := by simp [ho, hh]; omega
  show execClockHold ⟨d, part⟩ s = _
  rw [execClockHold, if_neg hdue]; rfl

theorem State.hold_held (s : State) (hd : d < 5) : (s.setFld (bootHold d) 1).fld (bootHold d) = 1 := State.hold_setHold s hd (by decide)

/-- Where the domain stops the boot, it fails with error 7. -/
theorem answers_clockHold_fails (hd : d < 5) (ho : s.ownGood = true) (hh : s.domain d = false) (hc : d = 0 ∨ d = 3 ∧ s.bootSource = bootHost) :
    Answers (.clockHold ⟨d, part⟩) s (fun t => t.fld (bootHold d) = 1 ∧ t.bootStage = 0xF ∧ t.fld SYS.BOOT_STATUS_BOOT_ERROR =
      (if s.fld SYS.BOOT_STATUS_BOOT_ERROR = 0 then 7 else s.fld SYS.BOOT_STATUS_BOOT_ERROR) ∧ t.tinder.flashPart = part) := by
  obtain ⟨hstage, hpart, herr⟩ := State.failWith_error (s.setFld (bootHold d) 1) part (c := 7) (by decide)
  rw [State.fld_setHold s (f := SYS.BOOT_STATUS_BOOT_ERROR) 1 hd (by decide) (by decide)] at herr
  refine ⟨_, exec_clockHold part hd ho hh, ?_⟩
  rw [if_pos hc]
  exact ⟨(State.hold_failWith _ 7 hd).trans (State.hold_held s hd), hstage, herr, hpart⟩

/-- Any other sets its HOLD alone. -/
theorem answers_clockHold_waits (hd : d < 5) (ho : s.ownGood = true) (hh : s.domain d = false) (hc : ¬ (d = 0 ∨ d = 3 ∧ s.bootSource = bootHost)) :
    Answers (.clockHold ⟨d, part⟩) s (fun t => t.fld (bootHold d) = 1 ∧ t.bootStage = s.bootStage ∧ OnlyRegs s t [SYS.BOOT_STATUS]) := by
  refine ⟨_, exec_clockHold part hd ho hh, ?_⟩
  rw [if_neg hc]
  exact ⟨State.hold_held s hd, State.fld_setHold s 1 hd (by decide) (by decide), State.setHold_onlyRegs s 1⟩

end

/-! ## Ready (R19, R117, R118) -/

section
variable {part : Option FlashPart}

/-- A boot that ends at stage 3 with an error. -/
def State.readyWith (s : State) (c : Nat) : State := (s.setStage 3).bootError c

theorem State.readyWith_error {c : Nat} (s : State) (hc : c < 256) : (s.readyWith c).bootStage = 3 ∧ (s.readyWith c).fld SYS.BOOT_STATUS_BOOT_ERROR =
    if s.fld SYS.BOOT_STATUS_BOOT_ERROR = 0 then c else s.fld SYS.BOOT_STATUS_BOOT_ERROR := by
  have herr := State.error_bootError (s.setStage 3) hc
  rw [State.fld_setStage s (f := SYS.BOOT_STATUS_BOOT_ERROR) 3 (by decide) (by decide)] at herr
  exact ⟨(State.fld_bootError _ (by decide)).trans (State.bootStage_setStage s (by decide)), herr⟩

theorem exec_bootReady_test (hr : s.tinder.inReset = false) (h0 : s.bootStage = 0) (hb : s.bootSource = bootTest) :
    exec (.bootReady part) s = .next (s.readyWith 9) := by
  show execBootReady part s = _
  simp [execBootReady, hr, h0, hb, bootTest, bootHost, bootUart, State.readyWith]

theorem exec_bootReady_uart (hr : s.tinder.inReset = false) (h0 : s.bootStage = 0) (hb : s.bootSource = bootUart) :
    exec (.bootReady part) s = .next ((s.foundFlash part).readyWith 8) := by
  show execBootReady part s = _
  simp [execBootReady, hr, h0, hb, bootTest, bootHost, bootUart, State.readyWith]

/-- The state in which the engine leaves the boot, with the flash found in HOST boot. -/
def State.atStage3 (s : State) (part : Option FlashPart) : State := (if s.bootSource = bootHost then s.foundFlash part else s).setStage 3

theorem exec_bootReady_ready (hr : s.tinder.inReset = false) (h2 : s.bootStage = 2) (hb : s.bootSource = bootFlash ∨ s.bootSource = bootHost) :
    exec (.bootReady part) s = .next (if (s.atStage3 part).safeOutstanding then (s.atStage3 part).enterSafe else (s.atStage3 part).enterBanked) := by
  show execBootReady part s = _
  rcases hb with hb | hb <;> simp [execBootReady, hr, h2, hb, bootTest, bootHost, bootUart, bootFlash, State.atStage3]

theorem State.reg_atStage3 (s : State) (part : Option FlashPart) {a : Nat} (h : SYS.BOOT_STATUS ≠ a) : (s.atStage3 part).reg a = s.reg a := by
  unfold State.atStage3 State.setStage
  rw [State.reg_setFld_other _ _ _ _ h]
  split <;> rfl

theorem State.classes_atStage3 (s : State) (part : Option FlashPart) : (s.atStage3 part).classes = s.classes := by
  show State.classes (ite _ _ _) = _
  split <;> rfl

/-- The faults that lead to SAFE, from the FAULT registers and the classes. -/
theorem State.safeOutstanding_congr (hr : ∀ code ∈ faultCodes, t.reg (faultReg code) = s.reg (faultReg code)) (hc : t.classes = s.classes) :
    t.safeOutstanding = s.safeOutstanding := by
  have hbit : ∀ code ∈ faultCodes, ∀ bit, t.faultBit code bit = s.faultBit code bit := fun code h bit => by
    rw [State.faultBit, State.faultBit, hr code h]
  unfold State.safeOutstanding
  rw [hc, Bool.eq_iff_iff, List.any_eq_true, List.any_eq_true]
  refine exists_congr fun code => and_congr_right fun h => ?_
  simp only [hr code h, hbit code h]

theorem State.safeOutstanding_atStage3 (s : State) (part : Option FlashPart) : (s.atStage3 part).safeOutstanding = s.safeOutstanding := by
  have hne : ∀ code ∈ faultCodes, SYS.BOOT_STATUS ≠ faultReg code := by decide
  exact State.safeOutstanding_congr (fun code h => State.reg_atStage3 s part (hne code h)) (State.classes_atStage3 s part)

theorem State.eng_setEng {e : Nat} (s : State) (he : e < 16) : (s.setEng e).eng = e := by
  rw [State.eng, State.setEng, State.fld_setFld _ _ _ (by decide)]
  exact Nat.mod_eq_of_lt he

/-- A state entered from stage 3 keeps the stage and shows the engine state. -/
theorem State.LowAs.entered {e : Nat} (h : t.LowAs ((s.atStage3 part).setEng e)) (he : e < 16) : t.bootStage = 3 ∧ t.eng = e := by
  refine ⟨?_, (h.fld (by decide)).trans (State.eng_setEng _ he)⟩
  have hstage : ((s.atStage3 part).setEng e).bootStage = (s.atStage3 part).bootStage :=
    State.fld_setFld_apart _ SYS.ENGINE_STATE_STATE SYS.BOOT_STATUS_BOOT_STAGE e (by decide) (by decide)
  exact (h.fld (by decide)).trans (hstage.trans (State.bootStage_setStage _ (by decide)))

theorem answers_bootReady_ready (hr : s.tinder.inReset = false) (h2 : s.bootStage = 2) (hb : s.bootSource = bootFlash ∨ s.bootSource = bootHost) :
    Answers (.bootReady part) s (fun t => t.bootStage = 3 ∧ t.eng = if s.safeOutstanding then engSafe else engBanked) := by
  refine ⟨_, exec_bootReady_ready hr h2 hb, ?_⟩
  rw [State.safeOutstanding_atStage3]
  split
  · exact (State.LowAs.refl (s.atStage3 part)).enterSafe.entered (by decide)
  · exact (State.LowAs.refl (s.atStage3 part)).enterBanked.entered (by decide)

end

/-! ## The image (R115, R116, R245) -/

theorem exec_imageLoaded_none (h1 : s.bootStage = 1) (hb : s.bootSource = bootFlash) : exec (.imageLoaded none) s = .next (s.failWith none 5) := by
  show execImageLoaded none s = _
  simp [execImageLoaded, h1, hb, State.failWith]

/-- The state with both Steward programs of an image loaded and started. -/
def State.stewardsRun (s : State) (p q : IcxProgram) : State :=
  (((s.loadProgram s.flashByte 32 (s.calRun.1 + s.calRun.2 - p.cal - q.cal) p).loadProgram s.flashByte 33
    (s.calRun.1 + s.calRun.2 - q.cal) q).runCore 32).runCore 33

theorem exec_imageLoaded_some {f : FlashPart} {p q : IcxProgram} (h1 : s.bootStage = 1) (hb : s.bootSource = bootFlash) (hp : p.target = 32)
    (hq : q.target = 33) (hi : icxImage (s.foundFlash (some f)).flashByte (2 ^ 32) (s.foundFlash (some f)).calRun.2 = some [p, q]) :
    exec (.imageLoaded (some f)) s = .next ((s.foundFlash (some f)).stewardsRun p q).script := by
  show execImageLoaded (some f) s = _
  have hp32 : [p, q].filter (fun (p : IcxProgram) => decide (p.target = 32)) = [p] := by simp [hp, hq]
  have hq33 : [p, q].filter (fun (p : IcxProgram) => decide (p.target = 33)) = [q] := by simp [hp, hq]
  unfold execImageLoaded
  rw [if_neg (by simp [h1, hb]), if_neg (by simp)]
  dsimp only
  rw [hi]
  dsimp only
  rw [hp32, hq33]
  rfl

theorem Core.poke_eq (c : Core) (a : Nat) (l : List Nat) : c.poke a l = { c with mem := (c.poke a l).mem, stale := (c.poke a l).stale } := by
  induction l generalizing c a with
  | nil => rfl
  | cons b l ih => rw [Core.poke, ih]

/-- Loading sections changes memory alone. -/
theorem Core.halted_pokes (l : List IcxSection) (rd : Nat → Nat) (c : Core) : (l.foldl (fun c x => c.poke x.load (x.content rd)) c).halted = c.halted := by
  induction l generalizing c with
  | nil => rfl
  | cons x l ih => rw [List.foldl_cons, ih, Core.poke_eq]

/-- The core holds the program's start: its entry, its vector base and its calendar count, with every general register zero. -/
structure Core.Starts (c : Core) (x : IcxProgram) : Prop where
  pc : c.pc = BitVec.ofNat 32 x.entry
  vbase : c.vbase = BitVec.ofNat 32 x.vbase
  calCount : c.calCount = x.cal
  g : c.g = []

section
variable {n m : Nat} {x : IcxProgram}

theorem State.core_runCore_other (h : m ≠ n) : (s.runCore n).core m = s.core m := by
  unfold State.runCore; split
  · rw [State.core_setCore, if_neg h.symm]
  · rfl

theorem State.tinder_runCore (s : State) (n : Nat) : (s.runCore n).tinder = s.tinder := by
  unfold State.runCore; split
  · exact State.setCore_tinder_field ..
  · rfl

/-- A RUN request leaves a core running, whatever it was. -/
theorem State.halted_runCore_same (hn : n < 34) (hf : s.fabric = true) : ((s.runCore n).core n).halted = false := by
  unfold State.runCore; split
  · rw [State.core_setCore, if_pos rfl]
  · next h =>
    cases hh : (s.core n).halted with
    | false => rfl
    | true => exact absurd ⟨hn, hf, hh⟩ h

theorem State.starts_runCore (h : (s.core m).Starts x) : ((s.runCore n).core m).Starts x := by
  by_cases hm : m = n
  · subst hm
    unfold State.runCore; split
    · rw [State.core_setCore, if_pos rfl]
      exact ⟨h.pc, h.vbase, h.calCount, h.g⟩
    · exact h
  · rw [State.core_runCore_other hm]; exact h

/-- The core with the sections in its memory and its calendar range. -/
def Core.fill (c : Core) (rd : Nat → Nat) (base : Nat) (x : IcxProgram) : Core :=
  { x.sections.foldl (fun c y => c.poke y.load (y.content rd)) c with calBase := base, calCount := x.cal }

/-- The program is loaded and its start set; the flags follow. -/
def State.placeStart (s : State) (rd : Nat → Nat) (n base : Nat) (x : IcxProgram) : State :=
  let s1 := (s.setCore n ((s.core n).fill rd base x)).reinitCore n
  s1.setCore n { s1.core n with pc := BitVec.ofNat 32 x.entry, vbase := BitVec.ofNat 32 x.vbase }

/-- The three control bits of the program, and RUN where its flags ask for it. -/
def State.applyFlags (s : State) (n : Nat) (x : IcxProgram) : State :=
  let s3 := ((s.setFld (SCRIBER.CORE_CTRL_CRITICAL n) (bits x.flags 0 1)).setFld (SCRIBER.CORE_CTRL_DISARM_ON_HALT n) (bits x.flags 1 1)).setFld
    (SCRIBER.CORE_CTRL_BREAK_HALT n) (bits x.flags 2 1)
  if x.flags.testBit 3 then s3.runCore n else s3

theorem State.loadProgram_eq (s : State) (rd : Nat → Nat) (n base : Nat) (x : IcxProgram) :
    s.loadProgram rd n base x = (s.placeStart rd n base x).applyFlags n x := rfl

theorem State.tinder_reinitCore (s : State) (n : Nat) : (s.reinitCore n).tinder = s.tinder := by
  unfold State.reinitCore; split <;> rfl

theorem State.core_reinitCore_other (h : m ≠ n) : (s.reinitCore n).core m = s.core m := by
  by_cases hc : n < 34 ∧ s.fabric = true ∧ (s.core n).halted = true
  · rw [State.core_reinitCore hc.1 hc.2.1 hc.2.2, if_neg h.symm]
  · rw [State.reinitCore, if_neg hc]

theorem State.core_applyFlags_other (h : m ≠ n) : (s.applyFlags n x).core m = s.core m := by
  unfold State.applyFlags
  dsimp only
  split
  · exact State.core_runCore_other h
  · rfl

theorem State.starts_applyFlags {y : IcxProgram} (h : (s.core m).Starts y) : ((s.applyFlags n x).core m).Starts y := by
  unfold State.applyFlags
  dsimp only
  split
  · exact State.starts_runCore h
  · exact h

theorem State.tinder_applyFlags (s : State) (n : Nat) (x : IcxProgram) : (s.applyFlags n x).tinder = s.tinder := by
  unfold State.applyFlags
  dsimp only
  split
  · exact State.tinder_runCore ..
  · rfl

section
variable {rd : Nat → Nat} {base : Nat}

theorem State.core_placeStart_other (h : m ≠ n) : (s.placeStart rd n base x).core m = s.core m := by
  rw [State.placeStart, State.core_setCore, if_neg h.symm, State.core_reinitCore_other h, State.core_setCore, if_neg h.symm]

theorem State.starts_placeStart (hn : n < 34) (hf : s.fabric = true) (hh : (s.core n).halted = true) :
    ((s.placeStart rd n base x).core n).Starts x := by
  have hfill : ((s.setCore n ((s.core n).fill rd base x)).core n).halted = true := by
    rw [State.core_setCore, if_pos rfl]
    exact (Core.halted_pokes x.sections rd (s.core n)).trans hh
  have hcore := State.core_reinitCore (s := s.setCore n ((s.core n).fill rd base x)) hn hf hfill n
  rw [if_pos rfl, State.core_setCore, if_pos rfl] at hcore
  rw [State.placeStart, State.core_setCore, if_pos rfl, hcore]
  exact ⟨rfl, rfl, rfl, rfl⟩

theorem State.tinder_loadProgram : (s.loadProgram rd n base x).tinder = s.tinder := by
  rw [State.loadProgram_eq, State.tinder_applyFlags, State.placeStart, State.setCore_tinder_field, State.tinder_reinitCore,
    State.setCore_tinder_field]

theorem State.core_loadProgram_other (h : m ≠ n) : (s.loadProgram rd n base x).core m = s.core m := by
  rw [State.loadProgram_eq, State.core_applyFlags_other h, State.core_placeStart_other h]

theorem State.starts_loadProgram (hn : n < 34) (hf : s.fabric = true) (hh : (s.core n).halted = true) :
    ((s.loadProgram rd n base x).core n).Starts x := by
  rw [State.loadProgram_eq]
  exact State.starts_applyFlags (State.starts_placeStart hn hf hh)

end
end

section
variable (p q : IcxProgram)

theorem State.tinder_stewardsRun : (s.stewardsRun p q).tinder = s.tinder := by
  rw [State.stewardsRun, State.tinder_runCore, State.tinder_runCore, State.tinder_loadProgram, State.tinder_loadProgram]

/-- Both Stewards run their programs from their entries. -/
theorem State.stewardsRun_starts (hf : s.fabric = true) (h32 : (s.core 32).halted = true) (h33 : (s.core 33).halted = true) :
    (((s.stewardsRun p q).core 32).halted = false ∧ ((s.stewardsRun p q).core 32).Starts p) ∧
    ((s.stewardsRun p q).core 33).halted = false ∧ ((s.stewardsRun p q).core 33).Starts q := by
  unfold State.stewardsRun
  generalize hb : s.calRun.1 + s.calRun.2 - p.cal - q.cal = b
  generalize hb' : s.calRun.1 + s.calRun.2 - q.cal = b'
  generalize hs2 : s.loadProgram s.flashByte 32 b p = s2
  generalize hs3 : s2.loadProgram s.flashByte 33 b' q = s3
  have hf2 : s2.fabric = true := by rw [State.fabric, State.domain, ← hs2, State.tinder_loadProgram]; exact hf
  have hf3 : s3.fabric = true := by rw [State.fabric, State.domain, ← hs3, State.tinder_loadProgram]; exact hf2
  have hp : (s3.core 32).Starts p := by
    rw [← hs3, State.core_loadProgram_other (by decide), ← hs2]
    exact State.starts_loadProgram (by decide) hf h32
  have hq : (s3.core 33).Starts q := by
    have hh : (s2.core 33).halted = true := by rw [← hs2, State.core_loadProgram_other (by decide)]; exact h33
    rw [← hs3]
    exact State.starts_loadProgram (by decide) hf2 hh
  have hf4 : (s3.runCore 32).fabric = true := by rw [State.fabric, State.domain, State.tinder_runCore]; exact hf3
  refine ⟨⟨?_, State.starts_runCore (State.starts_runCore hp)⟩, State.halted_runCore_same (by decide) hf4,
    State.starts_runCore (State.starts_runCore hq)⟩
  rw [State.core_runCore_other (by decide)]
  exact State.halted_runCore_same (by decide) hf3

end

theorem State.bootStage_script (s : State) : s.script.bootStage = 2 := State.bootStage_setStage _ (by decide)

/-- Without a boot configuration there is no script. -/
theorem State.script_eq (h : s.tinder.cfgValid = false) : s.script = s.setStage 2 := by simp [State.script, h]

/-- No write of the script changes the flash part that was found. -/
theorem State.flashPart_script (s : State) : s.script.tinder.flashPart = s.tinder.flashPart :=
  State.Meets.script (F := flashPartForm s.tinder.flashPart) (s := s) rfl

/-- A good image is loaded, and the script is run. -/
theorem answers_imageLoaded_some {f : FlashPart} {p q : IcxProgram} (h1 : s.bootStage = 1) (hb : s.bootSource = bootFlash) (hp : p.target = 32)
    (hq : q.target = 33) (hi : icxImage (s.foundFlash (some f)).flashByte (2 ^ 32) (s.foundFlash (some f)).calRun.2 = some [p, q]) :
    Answers (.imageLoaded (some f)) s (fun t => t.bootStage = 2 ∧ t.tinder.flashPart = some f ∧
      (s.tinder.cfgValid = false → s.fabric = true → (s.core 32).halted = true → (s.core 33).halted = true →
        ((t.core 32).halted = false ∧ (t.core 32).Starts p) ∧ (t.core 33).halted = false ∧ (t.core 33).Starts q)) := by
  have htinder := State.tinder_stewardsRun (s := s.foundFlash (some f)) p q
  refine ⟨_, exec_imageLoaded_some h1 hb hp hq hi, State.bootStage_script _, ?_, fun hc hf h32 h33 => ?_⟩
  · rw [State.flashPart_script, htinder]; rfl
  · rw [State.script_eq (by rw [htinder]; exact hc)]
    exact State.stewardsRun_starts (s := s.foundFlash (some f)) p q hf h32 h33

end Sys2Proof.Machine

namespace Sys2Proof.Statements

/-- Settles O25: each command by the branch it takes; that entering SAFE or BANKED leaves BOOT_STATUS is `State.LowAs`, and that the script
leaves the flash part is a form that every register write keeps. -/
theorem bootSteps : Obligations.BootSteps := by
  unfold Obligations.BootSteps
  intro s d part
  refine ⟨fun hd hv hp h1 h5 ho hl hh hr => ?_, fun hv hp h1 h5 ho hl hh hr hb => ?_, fun hd ho hh hc => ?_, fun hd ho hh hc => ?_,
    fun h1 hb => ?_, fun f p q h1 hb hp hq hi => ?_, fun hr h0 hb => ?_, fun hr h0 hb => ?_, fun hr h2 hb => ?_⟩
  · exact answers_domainRelease ⟨hd, hv, hp, h1, h5, ho, hl, hh⟩ hr
  · exact answers_domainRelease_fabric ⟨by omega, hv, hp, h1, h5, ho, hl, hh⟩ hr hb
  · exact answers_clockHold_fails hd ho hh hc
  · exact answers_clockHold_waits hd ho hh hc
  · obtain ⟨hstage, -, herr⟩ := State.failWith_error s none (c := 5) (by decide)
    exact ⟨_, exec_imageLoaded_none h1 hb, hstage, herr⟩
  · obtain ⟨t, ht, hstage, hpart, hrun⟩ := answers_imageLoaded_some h1 hb hp hq hi
    refine ⟨t, ht, hstage, hpart, fun hc hf h32 h33 => ?_⟩
    obtain ⟨⟨hr32, hs32⟩, hr33, hs33⟩ := hrun hc hf h32 h33
    exact ⟨⟨hr32, hs32.pc, hs32.vbase, hs32.calCount, hs32.g⟩, hr33, hs33.pc, hs33.vbase, hs33.calCount, hs33.g⟩
  · obtain ⟨hstage, herr⟩ := State.readyWith_error s (c := 9) (by decide)
    exact ⟨_, exec_bootReady_test hr h0 hb, hstage, herr⟩
  · obtain ⟨hstage, herr⟩ := State.readyWith_error (s.foundFlash part) (c := 8) (by decide)
    have hpart : ((s.foundFlash part).readyWith 8).tinder.flashPart = part := by
      rw [State.readyWith, State.tinder_bootError]; rfl
    exact ⟨_, exec_bootReady_uart hr h0 hb, hstage, hpart, herr⟩
  · exact answers_bootReady_ready hr h2 hb

end Sys2Proof.Statements
end

section
/-!
PROOFS. Frames for the clocks (family 06): updates made in turn, the laser enables, a raise without a reaction, and the operations that leave
the CLOCK block alone.
-/

open Sys2Proof Sys2Proof.Machine

namespace Sys2Proof.Machine

variable {s t b : State} {k a : Nat}

/-! ## Updates made in turn -/

/-- What every update of a listed number keeps, the updates of the list keep. -/
theorem State.each_keeps_of_mem {P : State → Prop} {f : State → Nat → State} {l : List Nat} (h : ∀ t, ∀ i ∈ l, P t → P (f t i)) (hs : P s) :
    P (s.each l f) := by
  unfold State.each
  induction l generalizing s with
  | nil => exact hs
  | cons i l ih =>
    exact ih (fun t j hj => h t j (List.mem_cons_of_mem i hj)) (h s i (List.mem_cons_self ..) hs)

/-- What the update of a listed number establishes and every update keeps. -/
theorem State.each_establishes {P : State → Prop} {f : State → Nat → State} {l : List Nat} {j : Nat} (hj : j ∈ l) (hest : ∀ t, P (f t j))
    (hkeep : ∀ t i, P t → P (f t i)) (s : State) : P (s.each l f) := by
  unfold State.each
  induction l generalizing s with
  | nil => cases hj
  | cons i l ih =>
    rcases List.mem_cons.mp hj with rfl | hj
    · exact State.each_keeps (f := f) hkeep l (hest s)
    · exact ih hj (f s i)

/-! ## One-bit fields -/

/-- A one-bit field of a register after a write of one. -/
theorem State.on_setFld_oneBit (s : State) (a : Nat) {i j v : Nat} (hi : i < 32) (hj : j < 32) :
    (s.setFld ⟨a, i, 1⟩ v).on ⟨a, j, 1⟩ = if i = j then decide (v % 2 = 1) else s.on ⟨a, j, 1⟩ := by
  split
  · next h =>
    subst h
    rw [State.on, State.fld_setFld _ _ _ (show i + 1 ≤ 32 by omega)]; rfl
  · exact State.on_setFld_apart s ⟨a, i, 1⟩ ⟨a, j, 1⟩ v (show j + 1 ≤ 32 by omega) (.inr (show j + 1 ≤ i ∨ i + 1 ≤ j by omega))

/-! ## What changes registers alone -/

/-- The state is that of `b` but for the registers, the fault classes, the host link, the journal and the counter of free values. -/
def State.BodyAs (s b : State) : Prop :=
  ∃ r x h j n, s = { b with regs := r, classes := x, host := h, journal := j, freeCtr := n }

theorem State.BodyAs.refl (s : State) : s.BodyAs s := ⟨_, _, _, _, _, rfl⟩

section
variable (h : s.BodyAs b)
include h

theorem State.BodyAs.setReg {w : Word} : (s.setReg a w).BodyAs b := by
  obtain ⟨r, x, y, j, n, rfl⟩ := h; exact ⟨_, _, _, _, _, rfl⟩
theorem State.BodyAs.setFld {f : Fld} {v : Nat} : (s.setFld f v).BodyAs b := h.setReg
theorem State.BodyAs.event {f : Fld} : (s.event f).BodyAs b := by
  obtain ⟨r, x, y, j, n, rfl⟩ := h; exact ⟨_, _, _, _, _, State.event_frame ..⟩
theorem State.BodyAs.setClasses {x : Tbl FaultClass} : State.BodyAs { s with classes := x } b := by
  obtain ⟨r, x, y, j, n, rfl⟩ := h; exact ⟨_, _, _, _, _, rfl⟩
theorem State.BodyAs.setJournal {j : Journal} {n : Nat} : State.BodyAs { s with journal := j, freeCtr := n } b := by
  obtain ⟨r, x, y, j, n, rfl⟩ := h; exact ⟨_, _, _, _, _, rfl⟩
theorem State.BodyAs.ite {p : Prop} [Decidable p] (h' : t.BodyAs b) : (if p then s else t).BodyAs b := by
  split
  · exact h
  · exact h'
theorem State.BodyAs.tinder : s.tinder = b.tinder := by obtain ⟨r, x, y, j, n, rfl⟩ := h; rfl
theorem State.BodyAs.engine : s.engine = b.engine := by obtain ⟨r, x, y, j, n, rfl⟩ := h; rfl
theorem State.BodyAs.clock : s.clock = b.clock := by obtain ⟨r, x, y, j, n, rfl⟩ := h; rfl
theorem State.BodyAs.gc : s.gc = b.gc := by obtain ⟨r, x, y, j, n, rfl⟩ := h; rfl
theorem State.BodyAs.cores : s.cores = b.cores := by obtain ⟨r, x, y, j, n, rfl⟩ := h; rfl
theorem State.BodyAs.obj : s.obj = b.obj := by obtain ⟨r, x, y, j, n, rfl⟩ := h; rfl
theorem State.BodyAs.grav : s.grav = b.grav := by obtain ⟨r, x, y, j, n, rfl⟩ := h; rfl

theorem State.BodyAs.laserEval : (s.laserEval k).BodyAs b := .ite h.setFld.setFld h.setFld.setFld.event

theorem State.BodyAs.each {l : List Nat} {f : State → Nat → State} (hf : ∀ t i, t.BodyAs b → (f t i).BodyAs b) : (s.each l f).BodyAs b :=
  State.each_keeps (P := fun t => t.BodyAs b) hf l h

theorem State.BodyAs.laserAll : s.laserAll.BodyAs b := h.each fun _ _ h1 => h1.laserEval

theorem State.BodyAs.journalPump : s.journalPump.BodyAs b :=
  State.BodyAs.setFld (State.BodyAs.setFld (State.BodyAs.setJournal (n := s.freeCtr) h))

theorem State.BodyAs.journalLose : s.journalLose.BodyAs b := by
  have lose : ∀ t : State, t.BodyAs b → (State.bump { t with journal := { t.journal with lost := t.journal.lost + 1 } } HEARTH.JNL_STATUS_LOST 1).BodyAs b :=
    fun t h1 => State.BodyAs.setFld (State.BodyAs.setJournal (n := t.freeCtr) h1)
  exact .ite (lose s h) (lose _ (lose s h).setFld).event

theorem State.BodyAs.journalEntry {kind code bitNo : Nat} {forced : Bool} {d16 d : Nat} : (s.journalEntry kind code bitNo forced d16 d).BodyAs b := by
  unfold State.journalEntry State.free
  dsimp only
  split
  · exact h.setJournal.journalPump
  · split
    · split
      · exact h.setJournal.journalLose.journalPump
      · exact h.setJournal
    · exact (State.BodyAs.setJournal (j := s.journal) h).journalLose

end

/-! ## The laser enables (R428) -/

/-- The two fields that the evaluation of a station stores, before its event. -/
def State.laserSet (s : State) (k : Nat) : State :=
  (s.setFld (GRAVER.LASER_CTRL_TERMS k) (s.laserTerms k)).setFld (GRAVER.LASER_CTRL_LEVEL k) (bit (decide (s.laserTerms k = 255)))

theorem State.laserEval_cases (s : State) (k : Nat) :
    s.laserEval k = s.laserSet k ∨ s.laserEval k = (s.laserSet k).event (GRAVER.INT_STAT_GATE_EV k) := by
  unfold State.laserEval
  dsimp only
  split
  · exact .inl rfl
  · exact .inr rfl

theorem State.reg_laserSet (s : State) (k : Nat) (h : a ≠ GRAVER.LASER_CTRL k) : (s.laserSet k).reg a = s.reg a := by
  rw [State.laserSet, State.reg_setFld_other _ _ _ _ h.symm, State.reg_setFld_other _ _ _ _ h.symm]

theorem State.reg_laserEval (s : State) (k : Nat) (h1 : a ≠ GRAVER.LASER_CTRL k) (h2 : a ≠ GRAVER.INT_STAT k) : (s.laserEval k).reg a = s.reg a := by
  obtain h | h := s.laserEval_cases k <;> rw [h]
  · exact State.reg_laserSet s k h1
  · rw [State.reg_event_other _ _ _ h2.symm, State.reg_laserSet s k h1]

theorem State.reg_laserEval_low (s : State) (k : Nat) (ha : a < 0x100000) : (s.laserEval k).reg a = s.reg a :=
  State.reg_laserEval s k (by unfold GRAVER.LASER_CTRL; omega) (by unfold GRAVER.INT_STAT; omega)

theorem laserCtrl_ne_intStat (i j : Nat) : GRAVER.LASER_CTRL i ≠ GRAVER.INT_STAT j := by
  unfold GRAVER.LASER_CTRL GRAVER.INT_STAT; omega

theorem laserCtrl_ne_fault (i j : Nat) : GRAVER.FAULT j ≠ GRAVER.LASER_CTRL i ∧ GRAVER.FAULT j ≠ GRAVER.INT_STAT i := by
  unfold GRAVER.LASER_CTRL GRAVER.INT_STAT GRAVER.FAULT; omega

theorem State.on_laserReq_laserEval (s : State) (i k : Nat) :
    (s.laserEval i).on (GRAVER.LASER_CTRL_LASER_REQ k) = s.on (GRAVER.LASER_CTRL_LASER_REQ k) := by
  have hset : (s.laserSet i).on (GRAVER.LASER_CTRL_LASER_REQ k) = s.on (GRAVER.LASER_CTRL_LASER_REQ k) :=
    (State.on_setFld_apart _ _ _ _ (show 0 + 1 ≤ 32 by omega) (.inr (.inl (show 0 + 1 ≤ 1 by omega)))).trans
      (State.on_setFld_apart _ _ _ _ (show 0 + 1 ≤ 32 by omega) (.inr (.inl (show 0 + 1 ≤ 8 by omega))))
  obtain h | h := s.laserEval_cases i <;> rw [h]
  · exact hset
  · exact (State.on_congr (State.reg_event_other _ _ _ (laserCtrl_ne_intStat k i).symm)).trans hset

/-- The eight conditions do not depend on what the evaluation of a station writes. -/
theorem State.laserTerms_laserEval (s : State) (i k : Nat) : (s.laserEval i).laserTerms k = s.laserTerms k := by
  have hfault : (s.laserEval i).reg (GRAVER.FAULT k) = s.reg (GRAVER.FAULT k) := State.reg_laserEval s i (laserCtrl_ne_fault i k).1 (laserCtrl_ne_fault i k).2
  have hlow : ∀ f : Fld, f.off < 0x100000 → (s.laserEval i).fld f = s.fld f := fun f hf => State.fld_congr (State.reg_laserEval_low s i hf)
  have hclk : (s.laserEval i).fbit CLOCK.FAULT_COAST_EXPIRED k = s.fbit CLOCK.FAULT_COAST_EXPIRED k := by
    rw [State.fbit, hlow _ (by decide)]; rfl
  have heng : (s.laserEval i).eng = s.eng := hlow _ (by decide)
  have hlock : (s.laserEval i).on (CLOCK.PLL_STATUS_LOCKED 2) = s.on (CLOCK.PLL_STATUS_LOCKED 2) := by
    rw [State.on, hlow _ (by decide)]; rfl
  have hbody : (s.laserEval i).BodyAs s := (State.BodyAs.refl s).laserEval
  have hstation : (s.laserEval i).station k = s.station k := by rw [State.station, hbody.obj]; rfl
  unfold State.laserTerms
  rw [hclk, heng, hlock, hbody.tinder, hbody.engine, hstation, State.on_laserReq_laserEval, State.on_congr (f := GRAVER.FAULT_T_TRIP k) hfault,
    State.on_congr (f := GRAVER.FAULT_DRV_TRIP k) hfault, State.on_congr (f := GRAVER.FAULT_DRV_STAT_LOST k) hfault]

/-- LASER_EN of the station takes the level that its conditions give. -/
theorem State.on_level_laserEval (s : State) (k : Nat) : (s.laserEval k).on (GRAVER.LASER_CTRL_LEVEL k) = decide (s.laserTerms k = 255) := by
  have hset : (s.laserSet k).on (GRAVER.LASER_CTRL_LEVEL k) = decide (s.laserTerms k = 255) :=
    State.on_setFld_bit _ _ rfl (show 1 < 32 by omega)
  obtain h | h := s.laserEval_cases k <;> rw [h]
  · exact hset
  · exact (State.on_congr (State.reg_event_other _ _ _ (laserCtrl_ne_intStat k k).symm)).trans hset

/-- All that LASER_EN of station `k` and its conditions show. -/
def State.laserView (s : State) (k : Nat) : Nat × Bool := (s.laserTerms k, s.on (GRAVER.LASER_CTRL_LEVEL k))

theorem State.laserView_laserEval (t : State) (i j : Nat) (h : i ≠ j) : (t.laserEval i).laserView j = t.laserView j := by
  have hne : GRAVER.LASER_CTRL j ≠ GRAVER.LASER_CTRL i := by unfold GRAVER.LASER_CTRL; omega
  exact Prod.ext (State.laserTerms_laserEval t i j)
    (State.on_congr (f := GRAVER.LASER_CTRL_LEVEL j) (State.reg_laserEval t i hne (laserCtrl_ne_intStat j i)))

theorem State.on_level_laserAll (s : State) (hk : k < 6) : s.laserAll.on (GRAVER.LASER_CTRL_LEVEL k) = decide (s.laserAll.laserTerms k = 255) := by
  obtain ⟨t, ht, hv⟩ := State.each_view_of_mem State.laserView_laserEval List.nodup_range (List.mem_range.mpr hk) s
  simp only [State.laserView, Prod.mk.injEq] at hv
  obtain ⟨hterms, hlevel⟩ := hv
  rw [State.laserAll, hlevel, hterms, State.on_level_laserEval, State.laserTerms_laserEval]

theorem State.reg_laserAll_low (s : State) (ha : a < 0x100000) : s.laserAll.reg a = s.reg a :=
  State.each_keeps (P := fun t => t.reg a = s.reg a) (fun t i h => (State.reg_laserEval_low t i ha).trans h) _ rfl

/-! ## A raise without a reaction (R22, R31, R33, R539) -/

/-- The registers that tell whether the engine reacts. -/
def reactRegs : List Nat := [SYS.ENGINE_STATE, THAIQ.CTRL, THAIQ.LINK_STATUS]

/-- A fault of class `c` brings no reaction: of the classes that have none, or in TINDER without a ring. -/
def State.Calm (s : State) (c : FaultClass) : Prop := (c = .none ∨ c = .mark ∨ c = .spoil) ∨ s.eng = engTinder ∧ s.linkUp = false

theorem State.Calm.congr {c : FaultClass} (h : s.Calm c) (hr : ∀ a ∈ reactRegs, t.reg a = s.reg a) : t.Calm c := by
  refine h.imp_right fun ⟨he, hl⟩ => ⟨(State.fld_congr (f := SYS.ENGINE_STATE_STATE) (hr _ (by decide))).trans he, ?_⟩
  rw [State.linkUp, State.on_congr (t := t) (s := s) (f := THAIQ.CTRL_ENABLE) (hr _ (by decide)),
    State.on_congr (t := t) (s := s) (f := THAIQ.LINK_STATUS_LINK_UP) (hr _ (by decide))]
  exact hl

theorem State.engineFault_of_tinder (he : s.eng = engTinder) (safe : Bool) : s.engineFault safe = s := by
  simp [State.engineFault, State.warm, he, engTinder, engKindling, engReady, engRunning, engRunOut, engBanked]

theorem State.safetyFault_of_tinder (he : s.eng = engTinder) : s.safetyFault = s := by
  simp [State.safetyFault, State.warm, he, engTinder, engKindling, engReady, engRunning, engRunOut, engBanked]

theorem State.broadcastFault_of_noLink (hl : s.linkUp = false) (cls bit code : Nat) : s.broadcastFault cls bit code = s := by
  simp [State.broadcastFault, hl]

theorem State.Calm.react {c : FaultClass} (h : s.Calm c) (bit code : Nat) : s.react c bit code = s := by
  rcases h with (rfl | rfl | rfl) | ⟨he, hl⟩
  · rfl
  · rfl
  · rfl
  · cases c with
    | none | mark | spoil => rfl
    | engine | engineSafe => rw [State.react, State.engineFault_of_tinder he, State.broadcastFault_of_noLink hl]
    | safety => rw [State.react, State.safetyFault_of_tinder he, State.broadcastFault_of_noLink hl]

section
variable {code bit idx : Nat} {forced : Bool} {c : FaultClass}

/-- A raise of class `c` before its reaction and its event: the bit, its class and the journal entry. -/
def State.noted (s : State) (c : FaultClass) (code bit idx : Nat) (forced : Bool) : State :=
  let s2 : State := { s.setFaultBit code bit with classes := Tbl.put (fun _ => FaultClass.none) s.classes (32 * code + bit) c }
  s2.journalEntry 1 code bit forced idx (s2.reg (faultReg code)).toNat

theorem faultReg_mod (code : Nat) : faultReg code % 0x1000 = 0xC := by
  unfold faultReg
  split
  · omega
  · split
    · omega
    · split <;> omega

theorem reactRegs_ne_faultReg (code : Nat) : ∀ x ∈ reactRegs, faultReg code ≠ x := by
  have hmod : ∀ x ∈ reactRegs, x % 0x1000 ≠ 0xC := by decide
  exact fun x hx h => hmod x hx (h ▸ faultReg_mod code)

theorem State.reg_noted (ha : a ∉ journalRegs) : (s.noted c code bit idx forced).reg a = (s.setFaultBit code bit).reg a :=
  State.reg_journalEntry _ _ _ _ _ _ _ ha

theorem State.noted_bodyAs : (s.noted c code bit idx forced).BodyAs s :=
  (State.BodyAs.refl s).setReg.setClasses.journalEntry

section
variable (hc : s.Calm (s.faultClass code bit idx))
include hc

theorem State.raise_calm (hb : s.faultBit code bit = false) :
    s.raise code bit idx forced = (s.noted (s.faultClass code bit idx) code bit idx forced).event ⟨intReg code, 0, 1⟩ := by
  have hnone : ∀ x ∈ reactRegs, x ∉ journalRegs := by decide
  have hcalm : (s.noted (s.faultClass code bit idx) code bit idx forced).Calm (s.faultClass code bit idx) := hc.congr fun x hx => by
    rw [State.reg_noted (hnone x hx), State.setFaultBit, State.reg_setReg, if_neg (reactRegs_ne_faultReg code x hx)]
  rw [State.raise, State.raiseAs, if_neg (by simp [hb])]
  exact congrArg (fun t : State => t.event ⟨intReg code, 0, 1⟩) (hcalm.react bit code)

/-- A register apart from FAULT, INT_STAT and the journal's. -/
theorem State.reg_raise_calm (ha : a ∉ journalRegs) (h1 : faultReg code ≠ a) (h2 : intReg code ≠ a) :
    (s.raise code bit idx forced).reg a = s.reg a := by
  cases hb : s.faultBit code bit with
  | true => rw [State.raise, State.raiseAs, if_pos hb]
  | false => rw [State.raise_calm hc hb, State.reg_event_other _ _ _ h2, State.reg_noted ha, State.setFaultBit, State.reg_setReg, if_neg h1]

theorem State.raise_calm_bodyAs : (s.raise code bit idx forced).BodyAs s := by
  cases hb : s.faultBit code bit with
  | true => rw [State.raise, State.raiseAs, if_pos hb]; exact .refl s
  | false => rw [State.raise_calm hc hb]; exact State.noted_bodyAs.event

theorem State.faultBit_raise_calm (hb : bit < 32) (hj : faultReg code ∉ journalRegs) : (s.raise code bit idx forced).faultBit code bit = true := by
  cases hf : s.faultBit code bit with
  | true => rw [State.raise, State.raiseAs, if_pos hf, hf]
  | false =>
    have hne : intReg code ≠ faultReg code := by unfold intReg; omega
    rw [State.raise_calm hc hf, State.faultBit, State.reg_event_other _ _ _ hne, State.reg_noted hj, State.setFaultBit, State.reg_setReg_same,
      testBit_ofNat_withBit _ hb, if_pos rfl]

end
end

end Sys2Proof.Machine
end

section
/-!
PROOFS. The operations that leave the CLOCK block, the clocks and the scan of each Graver alone (family 06): entering a state, the loss of
PLL 1 and of the host link, and the window decision of a sync event.
-/

open Sys2Proof Sys2Proof.Machine

namespace Sys2Proof.Machine

variable {s t b : State} {k a : Nat}

/-- The CLOCK registers, the clocks and the number of each Graver's scan, with whether it was coasted, are those of `b`. -/
def State.ClockAs (s b : State) : Prop :=
  (∀ a, 0x20000 ≤ a → a < 0x30000 → s.reg a = b.reg a) ∧ s.clock = b.clock ∧
  ∀ k, (s.gv k).scan = (b.gv k).scan ∧ (s.gv k).coasted = (b.gv k).coasted

theorem State.ClockAs.refl (s : State) : s.ClockAs s := ⟨fun _ _ _ => rfl, rfl, fun _ => ⟨rfl, rfl⟩⟩

theorem State.ClockAs.reg (h : s.ClockAs b) (h1 : 0x20000 ≤ a) (h2 : a < 0x30000) : s.reg a = b.reg a := h.1 a h1 h2

theorem State.ClockAs.syn (h : s.ClockAs b) (k : Nat) : s.syn k = b.syn k := by rw [State.syn, h.2.1]; rfl

theorem State.ClockAs.gv (h : s.ClockAs b) (k : Nat) : (s.gv k).scan = (b.gv k).scan ∧ (s.gv k).coasted = (b.gv k).coasted := h.2.2 k

/-- A place of an array that begins above CLOCK. -/
theorem above {n k : Nat} (h : 0x30000 ≤ n := by decide) : 0x30000 ≤ n + k := Nat.le_add_right_of_le h

theorem endpointRegs_above : ∀ a ∈ endpointRegs, 0x30000 ≤ a := by
  intro a ha
  simp only [endpointRegs, List.mem_append, List.mem_flatMap, List.mem_cons, List.not_mem_nil, or_false] at ha
  obtain (⟨u, -, hu⟩ | ⟨u, -, hu⟩) | ⟨u, -, hu⟩ := ha
  · rcases hu with rfl | rfl <;> exact above
  · rcases hu with rfl | rfl | rfl | rfl | rfl | rfl | rfl | rfl | rfl | rfl <;> exact above
  · rcases hu with rfl | rfl | rfl | rfl <;> exact above

theorem State.ClockAs.ite {p : Prop} [Decidable p] {x y : State} (hx : x.ClockAs b) (hy : y.ClockAs b) : (if p then x else y).ClockAs b := by
  split
  · exact hx
  · exact hy

section
variable (h : s.ClockAs b)
include h

/-! ## Updates -/

theorem State.ClockAs.setReg {w : Word} (ha : 0x30000 ≤ a) : (s.setReg a w).ClockAs b :=
  ⟨fun x h1 h2 => by rw [State.reg_setReg, if_neg (by omega)]; exact h.reg h1 h2, h.2⟩

theorem State.ClockAs.setFld {f : Fld} {v : Nat} (hf : 0x30000 ≤ f.off) : (s.setFld f v).ClockAs b := h.setReg hf

theorem State.ClockAs.setEng {e : Nat} : (s.setEng e).ClockAs b :=
  ⟨fun x h1 h2 => by
    rw [State.setEng, State.reg_setFld_other _ _ _ _ (by rw [show SYS.ENGINE_STATE_STATE.off = 0x2C from rfl]; omega)]
    exact h.reg h1 h2, h.2⟩

theorem State.ClockAs.event {f : Fld} (hf : 0x30000 ≤ f.off) : (s.event f).ClockAs b :=
  ⟨fun a h1 h2 => by rw [State.reg_event_other _ _ _ (by omega)]; exact h.reg h1 h2, by rw [State.clock_event]; exact h.2.1,
    fun k => by rw [State.gv_event]; exact h.gv k⟩

theorem State.ClockAs.bump {f : Fld} {n : Nat} (hf : 0x30000 ≤ f.off) : (s.bump f n).ClockAs b := h.setFld hf

theorem State.ClockAs.setPair {lo hi v : Nat} (h1 : 0x30000 ≤ lo) (h2 : 0x30000 ≤ hi) : (s.setPair lo hi v).ClockAs b := (h.setReg h1).setReg h2

theorem State.ClockAs.each {l : List Nat} {f : State → Nat → State} (hf : ∀ t i, t.ClockAs b → (f t i).ClockAs b) : (s.each l f).ClockAs b :=
  State.each_keeps (P := fun t => t.ClockAs b) hf l h

theorem State.ClockAs.setGv {g : Grav} (h1 : g.scan = (s.gv k).scan := by rfl) (h2 : g.coasted = (s.gv k).coasted := by rfl) : (s.setGv k g).ClockAs b := by
  refine ⟨h.1, h.2.1, fun j => ?_⟩
  rw [State.gv_setGv]
  split
  · next e => subst e; exact ⟨h1.trans (h.gv k).1, h2.trans (h.gv k).2⟩
  · exact h.gv j

theorem State.ClockAs.setHost {x : HostLink} : State.ClockAs { s with host := x } b := h
theorem State.ClockAs.setFree {n : Nat} : State.ClockAs { s with freeCtr := n } b := h
theorem State.ClockAs.setZone {z : Nat} {x : Zone} : (s.setZone z x).ClockAs b := h
theorem State.ClockAs.setHvc {n : Nat} {x : HvChan} : (s.setHvc n x).ClockAs b := h
theorem State.ClockAs.setFid {x : FacetId} : (s.setFid k x).ClockAs b := h
theorem State.ClockAs.setGauge {n : Nat} {g : Gauge} : (s.setGauge n g).ClockAs b := h
theorem State.ClockAs.markCrossed {n v0 v1 : Nat} : (s.markCrossed n v0 v1).ClockAs b := h
theorem State.ClockAs.setPg {i : Nat} {p : Option Page} : (s.setPg i p).ClockAs b := h
theorem State.ClockAs.setChan {c : Nat} {x : Chan} : (s.setChan c x).ClockAs b := h
theorem State.ClockAs.setObject {i : Nat} {o : Option Obj} : (s.setObject i o).ClockAs b := h

/-! ## Entering a state, and a raise without a reaction (R18–R23, R31) -/

theorem State.ClockAs.laserEval : (s.laserEval k).ClockAs b :=
  have h1 := (h.setFld (f := GRAVER.LASER_CTRL_TERMS k) above).setFld (f := GRAVER.LASER_CTRL_LEVEL k) above
  .ite h1 (h1.event (f := GRAVER.INT_STAT_GATE_EV k) above)

theorem State.ClockAs.laserAll : s.laserAll.ClockAs b := h.each fun _ _ h1 => h1.laserEval

theorem State.ClockAs.zoneLevels {z : Nat} : (s.zoneLevels z).ClockAs b :=
  have h1 := ((h.setFld (f := HEARTH.Z_STATUS_TEMP z) above).setFld (f := HEARTH.Z_STATUS_READY z) above).setFld (f := HEARTH.Z_STATUS_PRIORITY z) above
  .ite (h1.event (by decide)) h1

theorem State.ClockAs.zonesFollow : s.zonesFollow.ClockAs b := h.each fun _ _ h1 => h1.zoneLevels

theorem State.ClockAs.hvFollow {n : Nat} : (s.hvFollow n).ClockAs b :=
  .ite h ((h.setHvc.setFld (f := HV.V_STATUS_OUTPUT n) above).setFld (f := HV.V_STATUS_AT_SP n) above)

theorem State.ClockAs.hvAll : s.hvAll.ClockAs b := h.each fun _ _ h1 => h1.hvFollow

theorem State.ClockAs.enter {e : Nat} : (s.enter e).ClockAs b := h.setEng.zonesFollow.hvAll.laserAll

theorem State.ClockAs.recheckReady : s.recheckReady.ClockAs b := .ite h.enter h

/-- The state may differ in all that a form of registers and body leaves open. -/
theorem State.ClockAs.ofBody (hb : t.BodyAs s) (hr : ∀ a, 0x20000 ≤ a → a < 0x30000 → t.reg a = s.reg a) : t.ClockAs b :=
  ⟨fun a h1 h2 => (hr a h1 h2).trans (h.reg h1 h2), hb.clock.trans h.2.1, fun k => by
    rw [State.gv, hb.grav]; exact h.gv k⟩

theorem State.ClockAs.raise {code bit idx : Nat} {forced : Bool} (hc : s.Calm (s.faultClass code bit idx)) (hcode : 0x30000 ≤ faultReg code) :
    (s.raise code bit idx forced).ClockAs b := by
  refine h.ofBody (State.raise_calm_bodyAs hc) fun a h1 h2 => State.reg_raise_calm hc (fun hm => ?_) (by omega) (by unfold intReg; omega)
  have hj : ∀ x ∈ journalRegs, 0x30000 ≤ x := by decide
  exact absurd (hj a hm) (by omega)

/-! ## The losses of PLL 1 and of the host link (R131, R283, R301) -/

theorem State.ClockAs.mapPg {i : Nat} {f : Page → Page} : (s.mapPg i f).ClockAs b := by
  unfold State.mapPg
  split
  · exact h.setPg
  · exact h

theorem State.ClockAs.spoilPage {i code station detail : Nat} : (s.spoilPage i code station detail).ClockAs b := h.mapPg

theorem State.ClockAs.setDecoder {d : Dec} : (s.setDecoder k d).ClockAs b :=
  State.ClockAs.setFld (s := { s with dec := _ }) (f := CODEC.DEC_STATUS_QUEUED k) h above

theorem State.ClockAs.decodersLost : s.decodersLost.ClockAs b := by
  unfold State.decodersLost
  dsimp only
  refine h.each fun t i h1 => ?_
  split
  · exact h1.spoilPage.setDecoder.setFld (f := CODEC.DEC_STATUS_STATE i) above
  · exact h1

theorem State.ClockAs.bankAccess {i row : Nat} : (s.bankAccess i row).ClockAs b :=
  .ite (State.ClockAs.bump (s := { s with dram := _ }) (f := DRAMC.RANK_STATUS_LEARNED (i / 64 / 4) (i / 64 % 4)) h (above (h := above))) h

theorem State.ClockAs.writeAccess {o : Obj} : (s.writeAccess o).ClockAs b := by
  unfold State.writeAccess
  split
  · exact h
  · exact State.ClockAs.bankAccess h.setFree.setFree

theorem State.ClockAs.objWrite {hh off : Nat} {l : List Nat} : (s.objWrite hh off l).ClockAs b := by
  unfold State.objWrite
  split
  · exact h.setObject.writeAccess
  · exact h

theorem State.ClockAs.spoilDest {d : Desc} : (s.spoilDest d).ClockAs b := .ite h h.objWrite.setFree

theorem State.ClockAs.busStop {c : Nat} : (s.busStop c).ClockAs b := by
  have stopped : ∀ t : State, t.ClockAs b → ((t.setChState c chStoppedBus).chEvent (MOVER.CH_STATUS_STOP_EV c)).ClockAs b := fun t h1 =>
    ((h1.setFld (f := MOVER.CH_STATUS_STATE c) above).setFld (f := MOVER.CH_STATUS_STOP_EV c) above).event (f := MOVER.INT_STAT_CH_EV) (by decide)
  unfold State.busStop
  dsimp only
  refine stopped _ (State.ClockAs.setChan ?_)
  split
  · exact h.spoilDest
  · exact h

theorem State.ClockAs.passRecord {n r : Nat} : (s.passRecord n r).ClockAs b := by
  unfold State.passRecord
  split
  · exact h
  · exact h

theorem State.ClockAs.busError {kind c a : Nat} {forced : Bool} : (s.busError kind c a forced).ClockAs b := by
  have h1 := ((h.setFld (f := MOVER.ERR_INFO_KIND) (v := kind) (by decide)).setFld (f := MOVER.ERR_INFO_CHANNEL) (v := c) (by decide)).setPair
    (lo := MOVER.ERR_ADDR_LO) (hi := MOVER.ERR_ADDR_HI) (v := a) (by decide) (by decide)
  exact ((h1.each fun _ _ h2 => h2.busStop).raise (code := 8) (bit := 0) (.inl (.inl rfl)) (by decide)).each fun _ _ h3 => h3.passRecord

theorem State.ClockAs.endpointReset : s.endpointReset.ClockAs b := by
  have h1 : State.ClockAs (if (pick 32 s.chActive) = [] then s else s.busErrorFree 5 false) b := .ite h h.setFree.busError
  have h2 := State.each_keeps_of_mem (P := fun t => t.ClockAs b) (f := fun t a => t.setReg a (resetWord a))
    (fun t a ha ht => ht.setReg (endpointRegs_above a ha)) h1
  exact ((h2.setFld (f := INTAKE.EP_STATUS_BME) (by decide)).setHost.bump (f := INTAKE.EP_STATUS_RESETS) (by decide)).event (f := INTAKE.INT_STAT_LINK_EV)
    (by decide)

theorem State.ClockAs.linkLost : s.linkLost.ClockAs b :=
  (((h.setFld (f := INTAKE.EP_STATUS_LINK_UP) (by decide)).setFld (f := INTAKE.EP_STATUS_SPEED) (by decide)).setFld (f := INTAKE.EP_STATUS_WIDTH)
    (by decide)).endpointReset

/-! ## Gauges and facet identification (R162, R163, R165) -/

theorem State.ClockAs.moveOne {n v : Nat} : (s.moveOne n v).ClockAs b := h

theorem State.ClockAs.moveGauge {n v : Nat} : (s.moveGauge n v).ClockAs b := by
  unfold State.moveGauge
  dsimp only
  refine .ite h (h.moveOne.each fun _ _ h1 => ?_)
  split
  · exact h1.moveOne
  · exact h1

theorem State.ClockAs.syncGauge {n : Nat} : (s.syncGauge n).ClockAs b := .ite h h.setGauge.moveGauge

theorem State.ClockAs.gaugeEvents {was : State} : (s.gaugeEvents was).ClockAs b := by
  have event : ∀ {t : State} (f : Fld), f.off = GAUGE.INT_STAT → t.ClockAs b → (t.event f).ClockAs b := fun f hf ht =>
    ht.event (by rw [hf]; decide)
  have ev : ∀ {t : State} {c : Bool} (f : Fld), f.off = GAUGE.INT_STAT → t.ClockAs b → State.ClockAs (if c then t.event f else t) b := fun f hf ht =>
    .ite (event f hf ht) ht
  exact ev _ rfl (ev _ rfl (ev _ rfl h))

theorem State.ClockAs.fidInterval {n dt : Nat} : (s.fidInterval k n dt).ClockAs b := .ite h (.ite h (.ite h.setFid h.setFid))

theorem State.ClockAs.fidBreak : (s.fidBreak k).ClockAs b := h.setFid

theorem State.ClockAs.fidRestart : (s.fidRestart k).ClockAs b :=
  (h.setFid.setFld (f := GAUGE.FID_STATUS_FACET_VALID k) above).setFld (f := GAUGE.FID_STATUS_RUNS k) above

/-! ## The window decision (R380–R387, R410) -/

theorem State.ClockAs.stopScan : (s.stopScan k).ClockAs b := (h.setGv).setFld (f := GRAVER.STATUS_SCANNING k) above

theorem State.ClockAs.syncLost : (s.syncLost k).ClockAs b := h.fidRestart.stopScan.recheckReady

theorem State.ClockAs.setFrames {l : List Frame} : (s.setFrames k l).ClockAs b := h.setGv

theorem State.ClockAs.markPage {i m station : Nat} : (s.markPage i m station).ClockAs b := by
  unfold State.markPage
  split
  · exact h
  · exact .ite h.setPg.spoilPage h.setPg

theorem State.ClockAs.markAll {l : List Nat} {m : Nat} : (s.markAll k l m).ClockAs b := h.each fun _ _ h1 => h1.markPage

theorem State.ClockAs.divFree {x y : Nat} : (s.divFree x y).2.ClockAs b := by
  unfold State.divFree
  split
  · exact h.setFree
  · split
    · exact h
    · exact h.setFree

theorem State.ClockAs.divFreeInt {x : Int} {y : Nat} : (s.divFreeInt x y).2.ClockAs b := by
  unfold State.divFreeInt
  split
  · exact h
  · split
    · exact h
    · exact h.setFree

theorem State.ClockAs.switchBank : (s.switchBank k).ClockAs b :=
  have h1 := ((h.setFld (f := GRAVER.BANK_ACTIVE k) above).setFld (f := GRAVER.BANK_PENDING k) above).event (f := GRAVER.INT_STAT_BANK_EV k) above
  .ite h (.ite (h1.setGv) h1)

theorem State.ClockAs.blankFrame : (s.blankFrame k).ClockAs b :=
  (((h.setGv).setFld (f := GRAVER.STATUS_SCANNING k) above).setFld (f := GRAVER.SCAN_STATUS_FACET k) above).setFld
    (f := GRAVER.SCAN_COUNT_SCAN_NO k) above

theorem State.ClockAs.setNext {n : Int} : (s.setNext k n).ClockAs b := (h.setGv).setPair (lo := GRAVER.NEXT_LO k) (hi := GRAVER.NEXT_HI k) above above

theorem State.ClockAs.windowStats {w : Nat} : (s.windowStats k w).ClockAs b := by
  unfold State.windowStats
  extract_lets l r
  have hd : (s.divFree (256 * r.foldl (· + ·) 0) r.length).2.ClockAs b := h.divFree
  split
  next m u e =>
    rw [e] at hd
    exact ((hd.setGv.setFld (f := GRAVER.WSTAT_W_MAX k) above).setFld (f := GRAVER.WSTAT_W_MIN k) above).setFld (f := GRAVER.WSTAT_W_ERR k) above

section
variable (hk : k < 6)
include hk

/-- The Graver's own faults of a window decision mark pages and bring no reaction (R539). -/
theorem State.ClockAs.raiseMark {bit : Nat} (hb : bit = 3 ∨ bit = 12) : (s.raise (0x10 + k) bit k false).ClockAs b := by
  have hclass : s.faultClass (0x10 + k) bit k = .mark := by
    have hcode : 0x10 ≤ 0x10 + k ∧ 0x10 + k < 0x16 := by omega
    have hlow : ∀ c < 0x10, 0x10 + k ≠ c := fun c hc => by omega
    rcases hb with rfl | rfl <;> simp [State.faultClass, hlow, hcode]
  refine h.raise (.inl (.inr (.inl hclass))) ?_
  unfold faultReg
  rw [if_neg (by omega), if_pos (by omega)]
  omega

theorem State.ClockAs.lineSlip {l : List Nat} : (s.lineSlip k l).ClockAs b :=
  ((h.bump (f := GRAVER.SLIP_COUNT_COUNT k) above).raiseMark hk (.inl rfl)).markAll

theorem State.ClockAs.checkSubs {x : Int} : (s.checkSubs k x).ClockAs b := by
  unfold State.checkSubs
  dsimp only
  split
  · exact h.setGv
  · exact .ite (h.setGv) ((h.setGv).raiseMark hk (.inr rfl)).markAll

theorem State.ClockAs.decideWindow {x t : Nat} : (s.decideWindow k x t).ClockAs b := by
  unfold State.decideWindow
  refine .ite (.ite h.stopScan h) (.ite h.switchBank.blankFrame ?_)
  extract_lets s1 g n y drum now dt pred r e w starting s2 a s3 next w0 wUsed first f newNext g3 s4 s5 s6 s7 s8
  have h1 : s1.ClockAs b := h.switchBank
  have h2 : s2.ClockAs b := by
    unfold s2
    split
    · next p _ =>
      have hd : (s1.divFreeInt (now - p) 256000000).2.ClockAs b := h1.divFreeInt
      split
      next v u hu =>
      rw [hu] at hd
      have herr := hd.setFld (f := GRAVER.PRED_ERR_ERR k) (v := wrap 32 v) above
      refine .ite ?_ herr
      split
      · exact herr.lineSlip hk
      · exact herr.lineSlip hk
    · exact h1
  have h3 : s3.ClockAs b := .ite (h2.setFld (f := GRAVER.STATUS_SCANNING k) above) (h2.checkSubs hk)
  have h5 : s5.ClockAs b := h3.setGv.setNext
  have h6 : s6.ClockAs b := .ite (h5.lineSlip hk) h5
  have h7 : s7.ClockAs b := ((h6.setFld (f := GRAVER.SCAN_STATUS_WSTART k) above).setFld (f := GRAVER.SCAN_STATUS_FACET k) above).setFld
    (f := GRAVER.SCAN_COUNT_SCAN_NO k) above
  exact (State.ClockAs.ite h7 (h7.setFld (f := GRAVER.SCAN_STATUS_ADVANCE k) above)).windowStats

end
end

end Sys2Proof.Machine
end

section
/-!
PROOFS. The level-2 PLLs and the crystal (family 06): a restart, a lock, the loss of a lock and of the crystal.
-/

open Sys2Proof Sys2Proof.Machine
open Sys2Proof.Statements (OnlyRegs Answers)

namespace Sys2Proof.Machine

variable {s t b : State} {p q a : Nat}

/-! ## Registers that a PLL leaves alone -/

theorem pllStatus_low (hp : p < 5) : 0x20000 ≤ CLOCK.PLL_STATUS p ∧ CLOCK.PLL_STATUS p < 0x20200 := by
  unfold CLOCK.PLL_STATUS; omega

theorem pllStatus_ne_flags (p : Nat) : CLOCK.PLL_STATUS p ≠ CLOCK.INT_STAT ∧ CLOCK.PLL_STATUS p ≠ CLOCK.FAULT := by
  unfold CLOCK.PLL_STATUS CLOCK.INT_STAT CLOCK.FAULT; omega

theorem reactRegs_ne_pllStatus (p : Nat) : ∀ x ∈ reactRegs, x < 0x100000 ∧ x ≠ CLOCK.PLL_STATUS p := by
  have hmod : ∀ x ∈ reactRegs, x < 0x100000 ∧ x % 16 ≠ 8 := by decide
  intro x hx
  obtain ⟨hlow, hx⟩ := hmod x hx
  exact ⟨hlow, fun h => hx (by rw [h]; unfold CLOCK.PLL_STATUS; omega)⟩

/-- A field's write depends on no other register. -/
theorem State.reg_setFld_congr {f : Fld} {v : Nat} (h : t.reg f.off = s.reg f.off) : (t.setFld f v).reg f.off = (s.setFld f v).reg f.off := by
  rw [State.setFld, State.setFld, State.reg_setReg_same, State.reg_setReg_same, h]

theorem State.laserClock_of_ne (s : State) (hp : p ≠ 2) : s.laserClock p = s := if_neg hp

theorem State.laserClock_two (s : State) : s.laserClock 2 = s.laserAll := if_pos rfl

theorem State.reg_laserClock_low (s : State) (p : Nat) (ha : a < 0x100000) : (s.laserClock p).reg a = s.reg a := by
  unfold State.laserClock; split
  · exact State.reg_laserAll_low s ha
  · rfl

theorem State.BodyAs.laserClock (h : s.BodyAs b) : (s.laserClock p).BodyAs b := .ite h.laserAll h

theorem State.domain_setDomain (s : State) (p : Nat) (v : Bool) (q : Nat) : (s.setDomain p v).domain q = if p = q then v else s.domain q :=
  testBit_withBit _ _ _ _

/-! ## A restart (R128, R129) -/

/-- The dither generator's start value that SEED gives. -/
def State.ditherSeed (s : State) (p : Nat) : Nat := if s.fld (CLOCK.PLL_DITHER_SEED p) = 0 then 0xACE1 else s.fld (CLOCK.PLL_DITHER_SEED p)

/-- The PLL begins to acquire, before what follows from it. -/
def State.acquire (s : State) (p : Nat) : State :=
  let s1 := { s with clock := { s.clock with dither := Tbl.put (fun _ => 0xACE1) s.clock.dither p (s.ditherSeed p) } }
  ((s1.setFld (CLOCK.PLL_STATUS_ACQUIRING p) 1).setFld (CLOCK.PLL_STATUS_LOCKED p) 0).setFld (CLOCK.PLL_STATUS_HOLDOVER p) 0

theorem State.reg_acquire (s : State) (h : a ≠ CLOCK.PLL_STATUS p) : (s.acquire p).reg a = s.reg a :=
  (State.reg_setFld_other _ _ _ _ h.symm).trans ((State.reg_setFld_other _ _ _ _ h.symm).trans (State.reg_setFld_other _ _ _ _ h.symm))

theorem State.acquire_status (s : State) (p : Nat) : (s.acquire p).on (CLOCK.PLL_STATUS_ACQUIRING p) = true ∧
    (s.acquire p).on (CLOCK.PLL_STATUS_LOCKED p) = false ∧ (s.acquire p).on (CLOCK.PLL_STATUS_HOLDOVER p) = false := by
  simp [State.acquire, CLOCK.PLL_STATUS_ACQUIRING, CLOCK.PLL_STATUS_LOCKED, CLOCK.PLL_STATUS_HOLDOVER, State.on_setFld_oneBit]

theorem State.pllRestart_cold (hw : s.warm = false) (he : s.eng ≠ engRunOut) :
    s.pllRestart p = ((s.acquire p).laserClock p).setDomain p false := by
  simp only [State.pllRestart, hw, he, decide_false, Bool.or_self]
  rfl

theorem State.domain_pllRestart (s : State) (p : Nat) : (s.pllRestart p).domain p = false :=
  (State.domain_setDomain _ p false p).trans (if_pos rfl)

/-- What a restart of PLL `p` leaves with the engine down. -/
structure State.Restarts (s t : State) (p : Nat) : Prop where
  acquiring : t.on (CLOCK.PLL_STATUS_ACQUIRING p) = true
  unlocked : t.on (CLOCK.PLL_STATUS_LOCKED p) = false
  noHoldover : t.on (CLOCK.PLL_STATUS_HOLDOVER p) = false
  dither : t.ditherStart p = t.ditherSeed p
  domains : ∀ q, t.domain q = if p = q then false else s.domain q
  cores : t.cores = s.cores
  gc : t.gc = s.gc
  low : ∀ a, a < 0x100000 → a ≠ CLOCK.PLL_STATUS p → t.reg a = s.reg a
  only : p ≠ 2 → OnlyRegs s t [CLOCK.PLL_STATUS p]

theorem State.pllRestart_restarts (hp : p < 5) (hw : s.warm = false) (he : s.eng ≠ engRunOut) : s.Restarts (s.pllRestart p) p := by
  have hbody : ((s.acquire p).laserClock p).BodyAs (s.acquire p) := (State.BodyAs.refl _).laserClock
  have hstatus : ((s.acquire p).laserClock p).reg (CLOCK.PLL_STATUS p) = (s.acquire p).reg (CLOCK.PLL_STATUS p) :=
    State.reg_laserClock_low _ p (by have := pllStatus_low hp; omega)
  have hlow : ∀ a, a < 0x100000 → a ≠ CLOCK.PLL_STATUS p → ((s.acquire p).laserClock p).reg a = s.reg a := fun a ha hne =>
    (State.reg_laserClock_low _ p ha).trans (State.reg_acquire s hne)
  obtain ⟨hacq, hlock, hhold⟩ := State.acquire_status s p
  rw [State.pllRestart_cold hw he]
  refine ⟨(State.on_congr (f := CLOCK.PLL_STATUS_ACQUIRING p) hstatus).trans hacq, (State.on_congr (f := CLOCK.PLL_STATUS_LOCKED p) hstatus).trans hlock,
    (State.on_congr (f := CLOCK.PLL_STATUS_HOLDOVER p) hstatus).trans hhold, ?_, fun q => ?_, hbody.cores, hbody.gc, hlow, fun h2 a ha => ?_⟩
  · have hclock : ((s.acquire p).laserClock p).ditherStart p = s.ditherSeed p := by
      rw [State.ditherStart, hbody.clock]
      exact Tbl.get_put_same _ _ _ _
    have hseed : ((s.acquire p).laserClock p).fld (CLOCK.PLL_DITHER_SEED p) = s.fld (CLOCK.PLL_DITHER_SEED p) := by
      refine State.fld_congr (hlow (CLOCK.PLL_DITHER p) ?_ ?_)
      · unfold CLOCK.PLL_DITHER; omega
      · unfold CLOCK.PLL_DITHER CLOCK.PLL_STATUS; omega
    have hsame : ((s.acquire p).laserClock p).ditherSeed p = s.ditherSeed p := by rw [State.ditherSeed, hseed]; rfl
    exact hclock.trans hsame.symm
  · rw [State.domain_setDomain, State.domain, hbody.tinder]; rfl
  · rw [State.laserClock_of_ne _ h2]
    exact State.reg_acquire s (by simpa using ha)

section
variable {d : Bool} {v : Nat}

/-- The register that the write of a PLL names. -/
def pllReg (p : Nat) (d : Bool) : Nat := if d then CLOCK.PLL_DITHER p else CLOCK.PLL_CFG p

/-- The word that it stores. -/
def pllWord (d : Bool) (v : Nat) : Word := BitVec.ofNat 32 (if d then v &&& 0x8000FFFF else v)

theorem pllReg_places (hp : p < 5) (d : Bool) : 0x20000 ≤ pllReg p d ∧ pllReg p d < 0x20200 ∧ pllReg p d ≠ CLOCK.PLL_STATUS p := by
  unfold pllReg CLOCK.PLL_DITHER CLOCK.PLL_CFG CLOCK.PLL_STATUS; split <;> omega

theorem exec_pllReacquire (hp : p < 5) (hf : s.fabric = true) (h3 : p ≠ 3) :
    exec (.pllReacquire p d v) s = .next ((s.setReg (pllReg p d) (pllWord d v)).pllRestart p) := by
  have hmask : BitVec.ofNat 32 (v &&& 0xFFFFFFFF) = BitVec.ofNat 32 v :=
    (congrArg (BitVec.ofNat 32) (Nat.and_two_pow_sub_one_eq_mod v 32)).trans (ofNat_mod_word v)
  show execPllReacquire p d v s = _
  cases d <;> simp [execPllReacquire, show ¬ 5 ≤ p by omega, hf, h3, pllReg, pllWord, hmask]

theorem exec_pllReacquire_three (hf : s.fabric = true) : exec (.pllReacquire 3 d v) s = .next (s.logRo (pllReg 3 d)) := by
  show execPllReacquire 3 d v s = _
  simp [execPllReacquire, hf, pllReg]

theorem exec_pllReacquire_held (hp : p < 5) (hf : s.fabric = false) :
    exec (.pllReacquire p d v) s = .next (s.logAccess SYS.ACCESS_LOG_HELD_BLOCK (pllReg p d)) := by
  show execPllReacquire p d v s = _
  simp [execPllReacquire, show ¬ 5 ≤ p by omega, hf, pllReg]

end

/-- A discarded write is logged and does nothing else (R40). -/
theorem State.answers_roWrite {c : Instr} {x : Nat} (h : exec c s = .next (s.logRo x)) :
    Answers c s (fun t => t.on SYS.ACCESS_LOG_RO_WRITE = true ∧ t = { s with regs := t.regs } ∧ OnlyRegs s t [SYS.ACCESS_LOG, SYS.ACCESS_ADDR]) := by
  obtain ⟨hon, hregs, -, -, hframe⟩ := State.logAccess_logs s (f := SYS.ACCESS_LOG_RO_WRITE) x rfl rfl (by decide)
  exact ⟨_, h, hon, hframe, hregs⟩

/-! ## A lock (R130, R340, R428) -/

/-- Lock is reported in PLL_STATUS. -/
def State.lockStatus (s : State) (p : Nat) : State :=
  (((s.setFld (CLOCK.PLL_STATUS_LOCKED p) 1).setFld (CLOCK.PLL_STATUS_ACQUIRING p) 0).setFld (CLOCK.PLL_STATUS_HOLDOVER p) 0).setFld
    (CLOCK.PLL_STATUS_REF_OK p) 1

/-- Lock is reported and noted, before what follows from it. -/
def State.lockNoted (s : State) (p : Nat) : State :=
  if p ≠ 3 then (s.lockStatus p).setTinder { (s.lockStatus p).tinder with crystal := true } else s.lockStatus p

theorem exec_pllLock (hp : p < 5) :
    exec (.pllLock p) s = .next (if p = 1 then ((s.lockNoted p).laserClock p).trainOn else (s.lockNoted p).laserClock p) := by
  show execPllLock p s = _
  rw [execPllLock, if_neg (by omega)]; rfl

theorem State.reg_lockNoted (s : State) (p a : Nat) : (s.lockNoted p).reg a = (s.lockStatus p).reg a := by
  unfold State.lockNoted; split <;> rfl

theorem State.domain_lockNoted (s : State) (p q : Nat) : (s.lockNoted p).domain q = s.domain q := by
  unfold State.lockNoted; split <;> rfl

theorem State.reg_lockStatus (s : State) (h : a ≠ CLOCK.PLL_STATUS p) : (s.lockStatus p).reg a = s.reg a :=
  (State.reg_setFld_other _ _ _ _ h.symm).trans ((State.reg_setFld_other _ _ _ _ h.symm).trans
    ((State.reg_setFld_other _ _ _ _ h.symm).trans (State.reg_setFld_other _ _ _ _ h.symm)))

/-- PLL `p` shows lock in `t`: locked, neither acquiring nor in holdover, its reference there. -/
def State.ShowsLock (t : State) (p : Nat) : Prop :=
  t.on (CLOCK.PLL_STATUS_LOCKED p) = true ∧ t.on (CLOCK.PLL_STATUS_ACQUIRING p) = false ∧ t.on (CLOCK.PLL_STATUS_HOLDOVER p) = false ∧
    t.on (CLOCK.PLL_STATUS_REF_OK p) = true

theorem State.lockStatus_showsLock (s : State) (p : Nat) : (s.lockStatus p).ShowsLock p := by
  simp [State.ShowsLock, State.lockStatus, CLOCK.PLL_STATUS_ACQUIRING, CLOCK.PLL_STATUS_LOCKED, CLOCK.PLL_STATUS_HOLDOVER, CLOCK.PLL_STATUS_REF_OK,
    State.on_setFld_oneBit]

theorem State.ShowsLock.congr (h : s.ShowsLock p) (hr : t.reg (CLOCK.PLL_STATUS p) = s.reg (CLOCK.PLL_STATUS p)) : t.ShowsLock p := by
  have hon : ∀ f : Fld, f.off = CLOCK.PLL_STATUS p → t.on f = s.on f := fun f hf => State.on_congr (by rw [hf]; exact hr)
  obtain ⟨h1, h2, h3, h4⟩ := h
  exact ⟨(hon _ rfl).trans h1, (hon _ rfl).trans h2, (hon _ rfl).trans h3, (hon _ rfl).trans h4⟩

theorem State.lockClocked_showsLock (s : State) (hp : p < 5) : ((s.lockNoted p).laserClock p).ShowsLock p :=
  (State.lockStatus_showsLock s p).congr
    ((State.reg_laserClock_low _ p (by have := pllStatus_low hp; omega)).trans (State.reg_lockNoted s p _))

/-- A training that waits for PLL 1 in a released DDR domain goes on. -/
theorem State.trainOn_waiting (h1 : s.fld DRAMC.TRAIN_STATE = 1) (h2 : s.on (CLOCK.PLL_STATUS_LOCKED 1) = true) (h3 : s.domain 1 = true) :
    s.trainOn.fld DRAMC.TRAIN_STATE = 2 := by
  rw [State.trainOn, if_pos ⟨h1, h2, h3⟩]
  exact State.fld_setFld s _ 2 (by decide)

theorem State.trainOn_lockNoted (hd : s.domain 1 = true) (ht : s.fld DRAMC.TRAIN_STATE = 1) :
    (s.lockNoted 1).trainOn.fld DRAMC.TRAIN_STATE = 2 := by
  have htrain : (s.lockNoted 1).reg DRAMC.TRAIN = s.reg DRAMC.TRAIN :=
    (State.reg_lockNoted s 1 _).trans (State.reg_lockStatus s (by decide))
  have hstate : (s.lockNoted 1).fld DRAMC.TRAIN_STATE = 1 := (State.fld_congr (f := DRAMC.TRAIN_STATE) htrain).trans ht
  have hlock : (s.lockNoted 1).on (CLOCK.PLL_STATUS_LOCKED 1) = true :=
    ((State.lockStatus_showsLock s 1).congr (State.reg_lockNoted s 1 _)).1
  exact State.trainOn_waiting hstate hlock ((State.domain_lockNoted s 1 1).trans hd)

/-! ## The loss of a lock (R130, R131) -/

/-- Holdover with the level of the reference as given. -/
def State.holdover (s : State) (p : Nat) (ok : Bool) : State := (s.pllHoldover p).setFld (CLOCK.PLL_STATUS_REF_OK p) (bit ok)

theorem State.reg_holdover (s : State) (ok : Bool) (ha : a < 0x100000) (h : a ≠ CLOCK.PLL_STATUS p) : (s.holdover p ok).reg a = s.reg a :=
  (State.reg_setFld_other _ _ _ _ h.symm).trans ((State.reg_laserClock_low _ p ha).trans
    ((State.reg_setFld_other _ _ _ _ h.symm).trans (State.reg_setFld_other _ _ _ _ h.symm)))

/-- PLL `p` shows the loss of its lock in `t`: not locked, in holdover, its reference at the given level. -/
def State.ShowsLoss (t : State) (p : Nat) (ok : Bool) : Prop :=
  (t.on (CLOCK.PLL_STATUS_LOCKED p) = false ∧ t.on (CLOCK.PLL_STATUS_HOLDOVER p) = true) ∧ t.on (CLOCK.PLL_STATUS_REF_OK p) = ok

theorem State.ShowsLoss.congr {ok : Bool} (h : s.ShowsLoss p ok) (hr : t.reg (CLOCK.PLL_STATUS p) = s.reg (CLOCK.PLL_STATUS p)) : t.ShowsLoss p ok := by
  have hon : ∀ f : Fld, f.off = CLOCK.PLL_STATUS p → t.on f = s.on f := fun f hf => State.on_congr (by rw [hf]; exact hr)
  obtain ⟨⟨h1, h2⟩, h3⟩ := h
  exact ⟨⟨(hon _ rfl).trans h1, (hon _ rfl).trans h2⟩, (hon _ rfl).trans h3⟩

theorem State.holdover_showsLoss (s : State) (hp : p < 5) (ok : Bool) : (s.holdover p ok).ShowsLoss p ok := by
  have hstatus : (s.pllHoldover p).reg (CLOCK.PLL_STATUS p) =
      ((s.setFld (CLOCK.PLL_STATUS_LOCKED p) 0).setFld (CLOCK.PLL_STATUS_HOLDOVER p) 1).reg (CLOCK.PLL_STATUS p) :=
    State.reg_laserClock_low _ p (by have := pllStatus_low hp; omega)
  have hset : (((s.setFld (CLOCK.PLL_STATUS_LOCKED p) 0).setFld (CLOCK.PLL_STATUS_HOLDOVER p) 1).setFld (CLOCK.PLL_STATUS_REF_OK p) (bit ok)).ShowsLoss p ok := by
    cases ok <;> simp [State.ShowsLoss, CLOCK.PLL_STATUS_LOCKED, CLOCK.PLL_STATUS_HOLDOVER, CLOCK.PLL_STATUS_REF_OK, State.on_setFld_oneBit, bit]
  exact hset.congr (State.reg_setFld_congr (f := CLOCK.PLL_STATUS_REF_OK p) hstatus)

theorem State.Calm.holdover {c : FaultClass} {ok : Bool} (h : s.Calm c) : (s.holdover p ok).Calm c :=
  h.congr fun x hx => State.reg_holdover s ok (reactRegs_ne_pllStatus p x hx).1 (reactRegs_ne_pllStatus p x hx).2

theorem State.holdover_tinder (s : State) (p : Nat) (ok : Bool) : (s.holdover p ok).tinder = s.tinder :=
  ((State.BodyAs.refl s).setFld.setFld.laserClock (p := p)).setFld.tinder

theorem exec_pllUnlock (hp : p < 5) (ok : Bool) (hl : s.on (CLOCK.PLL_STATUS_LOCKED p) = true) :
    exec (.pllUnlock p ok) s = .next (State.pllLossEffects ((s.holdover p ok).raise 2 p 0 false) p) := by
  show execPllUnlock p ok s = _
  rw [execPllUnlock, if_pos ⟨hp, hl⟩]; rfl

/-- A fault of the block CLOCK, raised without a reaction, leaves the low CLOCK registers but its own two. -/
theorem State.reg_raise_clock {bit : Nat} (hc : s.Calm (s.faultClass 2 bit 0)) (h : a < 0x20200) (h1 : a ≠ CLOCK.FAULT) (h2 : a ≠ CLOCK.INT_STAT) :
    (s.raise 2 bit 0 false).reg a = s.reg a := by
  have hj : ∀ x ∈ journalRegs, 0x20200 ≤ x := by decide
  exact State.reg_raise_calm hc (fun hm => absurd (hj a hm) (by omega)) h1.symm h2.symm

/-- Output `k` is gated: it completes its high phase (R142). -/
def State.gateOne (t : State) (k : Nat) : State :=
  ((t.setGclk k { t.gclk k with ending := (t.gclk k).high }).setFld (CLOCK.GCLK_STATUS_GATED k) 1).setFld (CLOCK.GCLK_STATUS_RUNNING k) 0

theorem State.gateGclk_cases (s : State) :
    ∃ l, s.gateGclk = s.each l State.gateOne ∨ s.gateGclk = (s.each l State.gateOne).event CLOCK.INT_STAT_GATED_EV := by
  refine ⟨pick 24 (fun k => s.on (CLOCK.GCLK_CTRL_ENABLE k) && !s.on (CLOCK.GCLK_STATUS_GATED k)), ?_⟩
  unfold State.gateGclk
  dsimp only
  split
  · exact .inl rfl
  · exact .inr rfl

/-- Gating the general outputs leaves the CLOCK registers below them, but INT_STAT. -/
theorem State.reg_gateGclk (s : State) (h : a < 0x20200) (h2 : a ≠ CLOCK.INT_STAT) : s.gateGclk.reg a = s.reg a := by
  have hne : ∀ i, CLOCK.GCLK_STATUS i ≠ a := fun i => by unfold CLOCK.GCLK_STATUS; omega
  have heach : ∀ l, (s.each l State.gateOne).reg a = s.reg a := fun l =>
    State.each_keeps (P := fun t => t.reg a = s.reg a) (f := State.gateOne)
      (fun t i ht => (State.reg_setFld_other _ _ _ _ (hne i)).trans ((State.reg_setFld_other _ _ _ _ (hne i)).trans ht)) l rfl
  obtain ⟨l, he | he⟩ := s.gateGclk_cases <;> rw [he]
  · exact heach l
  · exact (State.reg_event_other _ _ _ h2.symm).trans (heach l)

theorem State.tinder_gateGclk (s : State) : s.gateGclk.tinder = s.tinder := by
  have heach : ∀ l, (s.each l State.gateOne).tinder = s.tinder := fun l =>
    State.each_keeps (P := fun t => t.tinder = s.tinder) (f := State.gateOne) (fun t i ht => ht) l rfl
  obtain ⟨l, he | he⟩ := s.gateGclk_cases <;> rw [he]
  · exact heach l
  · exact (State.tinder_event _ _).trans (heach l)

/-- What follows the loss of a PLL leaves the PLLs' registers and FAULT. -/
theorem State.reg_pllLossEffects (s : State) (p : Nat) (h0 : 0x20000 ≤ a) (h : a < 0x20200) (h2 : a ≠ CLOCK.INT_STAT) :
    (s.pllLossEffects p).reg a = s.reg a := by
  unfold State.pllLossEffects
  split
  · exact State.reg_gateGclk s h h2
  · split
    · exact (State.ClockAs.refl s).decodersLost.reg h0 (by omega)
    · split
      · exact (State.ClockAs.refl s).linkLost.reg h0 (by omega)
      · rfl

/-- The loss of a lock in TINDER. -/
theorem State.lossOfLock (hp : p < 5) (ok : Bool) (he : s.eng = engTinder) (hl : s.linkUp = false) :
    (((s.holdover p ok).raise 2 p 0 false).pllLossEffects p).ShowsLoss p ok ∧
    (((s.holdover p ok).raise 2 p 0 false).pllLossEffects p).faultBit 2 p = true := by
  have hcalm : (s.holdover p ok).Calm ((s.holdover p ok).faultClass 2 p 0) := State.Calm.holdover (.inr ⟨he, hl⟩)
  obtain ⟨h0, hlow⟩ := pllStatus_low hp
  obtain ⟨hint, hfault⟩ := pllStatus_ne_flags p
  refine ⟨(State.holdover_showsLoss s hp ok).congr ?_, ?_⟩
  · rw [State.reg_pllLossEffects _ p h0 hlow hint, State.reg_raise_clock hcalm hlow hfault hint]
  · rw [State.faultBit, State.reg_pllLossEffects _ p (by decide) (by decide) (by decide)]
    exact State.faultBit_raise_calm hcalm (by omega) (by decide)

/-! ## The loss of the crystal (R130, R131) -/

/-- The crystal is lost and every crystal PLL holds over. -/
def State.crystalGone (s : State) : State := (s.setTinder { s.tinder with crystal := false }).each [0, 1, 2, 4] (fun t p => t.holdover p false)

theorem exec_xtalLost (hf : s.fabric = true) : exec .xtalLost s = .next ((s.crystalGone.raise 2 8 0 false).gateGclk) := by
  show execXtalLost s = _
  simp only [execXtalLost, hf]; rfl

theorem State.crystalGone_showsLoss (s : State) (hp : p < 5) (h3 : p ≠ 3) : s.crystalGone.ShowsLoss p false := by
  have hmem : p ∈ [0, 1, 2, 4] := by simp; omega
  unfold State.crystalGone
  refine State.each_establishes (P := fun t => t.ShowsLoss p false) (f := fun t p => t.holdover p false) hmem (fun t => State.holdover_showsLoss t hp false) (fun t i ht => ?_) _
  by_cases hi : i = p
  · subst hi; exact State.holdover_showsLoss t hp false
  · exact ht.congr (State.reg_holdover t false (by have := pllStatus_low hp; omega) (by unfold CLOCK.PLL_STATUS; omega))

/-- Every other low register is as before, PLL 3's with them. -/
theorem State.reg_crystalGone (s : State) (ha : a < 0x100000) (h : ∀ i ∈ [0, 1, 2, 4], a ≠ CLOCK.PLL_STATUS i) : s.crystalGone.reg a = s.reg a :=
  State.each_keeps_of_mem (P := fun t => t.reg a = s.reg a) (fun t i hi ht => (State.reg_holdover t false ha (h i hi)).trans ht) rfl

theorem State.tinder_crystalGone (s : State) : s.crystalGone.tinder = { s.tinder with crystal := false } :=
  State.each_keeps (P := fun t => t.tinder = { s.tinder with crystal := false }) (fun t i ht => (State.holdover_tinder t i false).trans ht) _ rfl

theorem State.Calm.crystalGone {c : FaultClass} (h : s.Calm c) : s.crystalGone.Calm c :=
  h.congr fun x hx => State.reg_crystalGone s (reactRegs_ne_pllStatus 0 x hx).1 fun i _ => (reactRegs_ne_pllStatus i x hx).2

theorem answers_xtalLost (hp : p < 5) (hf : s.fabric = true) (he : s.eng = engTinder) (hl : s.linkUp = false) :
    Answers .xtalLost s (fun t => t.faultBit 2 8 = true ∧ t.tinder.crystal = false ∧ (p ≠ 3 → t.ShowsLoss p false) ∧
      (p = 3 → t.reg (CLOCK.PLL_STATUS 3) = s.reg (CLOCK.PLL_STATUS 3))) := by
  have hcalm : s.crystalGone.Calm (s.crystalGone.faultClass 2 8 0) := State.Calm.crystalGone (.inr ⟨he, hl⟩)
  have hstatus : ((s.crystalGone.raise 2 8 0 false).gateGclk).reg (CLOCK.PLL_STATUS p) = s.crystalGone.reg (CLOCK.PLL_STATUS p) := by
    obtain ⟨hint, hfault⟩ := pllStatus_ne_flags p
    rw [State.reg_gateGclk _ (pllStatus_low hp).2 hint, State.reg_raise_clock hcalm (pllStatus_low hp).2 hfault hint]
  refine ⟨_, exec_xtalLost hf, ?_, ?_, fun h3 => (State.crystalGone_showsLoss s hp h3).congr hstatus, ?_⟩
  · rw [State.faultBit, State.reg_gateGclk _ (by decide) (by decide)]
    exact State.faultBit_raise_calm hcalm (by decide) (by decide)
  · rw [State.tinder_gateGclk, (State.raise_calm_bodyAs hcalm).tinder, State.tinder_crystalGone]
  · rintro rfl
    exact hstatus.trans (State.reg_crystalGone s (by decide) (by decide))

end Sys2Proof.Machine

namespace Sys2Proof.Statements

/-- Settles O31: a restart, a lock and a loss by what each leaves in PLL_STATUS; the laser enables by `State.on_level_laserAll`; in TINDER
a raise is its bit, since no class brings a reaction there. -/
theorem pllsAndCrystal : Obligations.PllsAndCrystal := by
  unfold Obligations.PllsAndCrystal
  intro s p v d ok hp
  refine ⟨fun hf h3 hw he => ?_, fun hf h3 _ => ⟨exec_pllReacquire hp hf h3, State.domain_pllRestart _ p⟩,
    fun hf => State.answers_roWrite (exec_pllReacquire_three hf), fun hf => State.answers_held (exec_pllReacquire_held hp hf), ?_,
    fun he hl hlock => ?_, fun hlock => exec_pllUnlock hp ok hlock, fun hf he hl => ?_⟩
  · obtain ⟨hlo, hhi, hne⟩ := pllReg_places hp d
    have heng : (s.setReg (pllReg p d) (pllWord d v)).eng = s.eng :=
      State.fld_congr (f := SYS.ENGINE_STATE_STATE) ((State.reg_setReg ..).trans (if_neg (by rw [show SYS.ENGINE_STATE_STATE.off = 0x2C from rfl]; omega)))
    have hr := State.pllRestart_restarts (s := s.setReg (pllReg p d) (pllWord d v)) hp (by rw [State.warm, heng]; exact hw) (by rw [heng]; exact he)
    refine ⟨_, exec_pllReacquire hp hf h3, (hr.low _ (by omega) hne).trans (State.reg_setReg_same ..), hr.acquiring, hr.unlocked, hr.noHoldover,
      hr.dither, (hr.domains p).trans (if_pos rfl), fun q hq => (hr.domains q).trans (if_neg hq.symm), hr.cores, hr.gc, fun h2 x hx => ?_⟩
    obtain ⟨h1, h2'⟩ : x ≠ pllReg p d ∧ x ≠ CLOCK.PLL_STATUS p := by simpa [pllReg] using hx
    exact (hr.only h2 x (by simpa using h2')).trans ((State.reg_setReg ..).trans (if_neg (Ne.symm h1)))
  · have hlock := State.lockClocked_showsLock s hp
    refine ⟨_, exec_pllLock hp, ?_⟩
    by_cases h1 : p = 1
    · subst h1
      rw [if_pos rfl]
      have hstatus := State.trainOn_onlyRegs ((s.lockNoted 1).laserClock 1) (CLOCK.PLL_STATUS 1) (by decide)
      obtain ⟨hon, hacq, hhold, href⟩ := hlock.congr hstatus
      refine ⟨hon, hacq, hhold, href, fun h => absurd h (by decide), fun _ hd ht => ?_, fun h => absurd rfl h⟩
      rw [State.laserClock_of_ne _ (by decide)]
      exact State.trainOn_lockNoted hd ht
    · rw [if_neg h1]
      obtain ⟨hon, hacq, hhold, href⟩ := hlock
      refine ⟨hon, hacq, hhold, href, ?_, fun h => absurd h h1, fun _ h2 a ha => ?_⟩
      · rintro rfl k hk
        rw [State.laserClock_two]
        exact State.on_level_laserAll _ hk
      · rw [State.laserClock_of_ne _ h2, State.reg_lockNoted, State.reg_lockStatus s (by simpa using ha)]
  · obtain ⟨⟨hlost, href⟩, hfault⟩ := State.lossOfLock hp ok he hl
    exact ⟨_, exec_pllUnlock hp ok hlock, hlost, hfault, href⟩
  · exact answers_xtalLost hp hf he hl

end Sys2Proof.Statements
end

section
/-!
PROOFS. The station synthesizers (family 06): edges, missed windows, predicted sync events and the detector gate.
-/

open Sys2Proof Sys2Proof.Machine
open Sys2Proof.Statements (OnlyRegs Answers)

namespace Sys2Proof.Machine

variable {s t u b : State} {k a x n : Nat}

/-! ## SYN_STATUS and the places around it (R147) -/

theorem synStatus_in_clock (hk : k < 6) : 0x20000 ≤ CLOCK.SYN_STATUS k ∧ CLOCK.SYN_STATUS k < 0x30000 := by
  unfold CLOCK.SYN_STATUS; omega

theorem synStatus_ne_flags (k : Nat) : CLOCK.SYN_STATUS k ≠ CLOCK.INT_STAT ∧ CLOCK.SYN_STATUS k ≠ CLOCK.FAULT := by
  unfold CLOCK.SYN_STATUS CLOCK.INT_STAT CLOCK.FAULT; omega

/-- A field of the register written, beside the one stored. -/
theorem State.fld_setFld_beside (s : State) (a : Nat) {lo w lo' w' v : Nat} (h : lo' + w' ≤ 32) (h' : lo' + w' ≤ lo ∨ lo + w ≤ lo') :
    (s.setFld ⟨a, lo, w⟩ v).fld ⟨a, lo', w'⟩ = s.fld ⟨a, lo', w'⟩ := State.fld_setFld_apart s _ _ v h (.inr h')

theorem State.syn_setFld (s : State) (f : Fld) (v j : Nat) : (s.setFld f v).syn j = s.syn j := rfl

theorem State.gv_setFld (s : State) (f : Fld) (v j : Nat) : (s.setFld f v).gv j = s.gv j := rfl

theorem State.syn_event (s : State) (f : Fld) (j : Nat) : (s.event f).syn j = s.syn j := by
  rw [State.syn, State.clock_event]; rfl

/-- A CLOCK event leaves SYN_STATUS. -/
theorem State.fld_event_synStatus (s : State) {f g : Fld} (hf : f.off = CLOCK.INT_STAT) (hg : g.off = CLOCK.SYN_STATUS k) : (s.event f).fld g = s.fld g :=
  State.fld_event_other s f g (by rw [hf, hg]; exact (synStatus_ne_flags k).1.symm)

/-! ## Acquiring again (R143) -/

/-- The synthesizer of station `k` acquires from its first edge. -/
def State.Cleared (s : State) (k : Nat) : Prop :=
  s.on (CLOCK.SYN_STATUS_LOCKED k) = false ∧ s.fld (CLOCK.SYN_STATUS_LOCK_COUNT k) = 0 ∧ (s.syn k).fcw = 0 ∧ s.on (CLOCK.SYN_STATUS_GATED k) = true ∧
    s.on (CLOCK.SYN_STATUS_COASTING k) = false

theorem State.Cleared.congr (h : s.Cleared k) (hr : t.reg (CLOCK.SYN_STATUS k) = s.reg (CLOCK.SYN_STATUS k)) (hy : t.syn k = s.syn k) : t.Cleared k := by
  obtain ⟨h1, h2, h3, h4, h5⟩ := h
  exact ⟨(State.on_congr (f := CLOCK.SYN_STATUS_LOCKED k) hr).trans h1, (State.fld_congr (f := CLOCK.SYN_STATUS_LOCK_COUNT k) hr).trans h2,
    hy ▸ h3, (State.on_congr (f := CLOCK.SYN_STATUS_GATED k) hr).trans h4, (State.on_congr (f := CLOCK.SYN_STATUS_COASTING k) hr).trans h5⟩

theorem State.Cleared.clockAs (h : s.Cleared k) (hk : k < 6) (hc : t.ClockAs s) : t.Cleared k :=
  h.congr (hc.reg (synStatus_in_clock hk).1 (synStatus_in_clock hk).2) (hc.syn k)

/-- What acquiring again stores, before its event. -/
def State.synCleared (s : State) (k : Nat) : State :=
  (((((s.setSyn k { Syn.reset with idle := true }).setFld (CLOCK.SYN_STATUS_LOCKED k) 0).setFld (CLOCK.SYN_STATUS_LOCK_COUNT k) 0).setFld
    (CLOCK.SYN_STATUS_COASTING k) 0).setFld (CLOCK.SYN_STATUS_COAST_COUNT k) 0).setFld (CLOCK.SYN_STATUS_GATED k) 1

theorem State.synReacquire_cases (s : State) (k : Nat) :
    s.synReacquire k = s.synCleared k ∨ s.synReacquire k = (s.synCleared k).event CLOCK.INT_STAT_GATED_EV := by
  unfold State.synReacquire
  dsimp only
  split
  · exact .inl rfl
  · exact .inr rfl

theorem State.syn_synCleared (s : State) (k : Nat) : (s.synCleared k).syn k = { Syn.reset with idle := true } := by
  rw [State.synCleared, State.syn_setFld, State.syn_setFld, State.syn_setFld, State.syn_setFld, State.syn_setFld, State.syn_setSyn_same]

theorem State.synCleared_cleared (s : State) (k : Nat) : (s.synCleared k).Cleared k := by
  have hsyn := State.syn_synCleared s k
  refine ⟨?_, ?_, by rw [hsyn]; rfl, ?_, ?_⟩ <;>
    simp [State.synCleared, State.on, State.fld_setFld, State.fld_setFld_beside, CLOCK.SYN_STATUS_LOCKED, CLOCK.SYN_STATUS_LOCK_COUNT,
      CLOCK.SYN_STATUS_COASTING, CLOCK.SYN_STATUS_COAST_COUNT, CLOCK.SYN_STATUS_GATED]

theorem State.reg_synCleared (s : State) (k : Nat) (h : a ≠ CLOCK.SYN_STATUS k) : (s.synCleared k).reg a = s.reg a := by
  unfold State.synCleared
  rw [State.reg_setFld_other _ _ _ _ h.symm, State.reg_setFld_other _ _ _ _ h.symm, State.reg_setFld_other _ _ _ _ h.symm,
    State.reg_setFld_other _ _ _ _ h.symm, State.reg_setFld_other _ _ _ _ h.symm, State.reg_setSyn]

theorem State.synReacquire_cleared (s : State) (k : Nat) : (s.synReacquire k).Cleared k := by
  obtain h | h := s.synReacquire_cases k <;> rw [h]
  · exact State.synCleared_cleared s k
  · refine (State.synCleared_cleared s k).congr (State.reg_event_other _ _ _ (synStatus_ne_flags k).1.symm) (State.syn_event ..)

theorem State.reg_synReacquire (s : State) (k : Nat) (h1 : a ≠ CLOCK.SYN_STATUS k) (h2 : a ≠ CLOCK.INT_STAT) : (s.synReacquire k).reg a = s.reg a := by
  obtain h | h := s.synReacquire_cases k <;> rw [h]
  · exact State.reg_synCleared s k h1
  · rw [State.reg_event_other _ _ _ h2.symm, State.reg_synCleared s k h1]

/-- No event that stands is cleared. -/
theorem State.on_synReacquire_event (s : State) (k : Nat) :
    ((s.event CLOCK.INT_STAT_SYN_UNLOCK_EV).synReacquire k).on CLOCK.INT_STAT_SYN_UNLOCK_EV = true := by
  have hset : ((s.event CLOCK.INT_STAT_SYN_UNLOCK_EV).synCleared k).on CLOCK.INT_STAT_SYN_UNLOCK_EV = true :=
    (State.on_congr (State.reg_synCleared _ k (synStatus_ne_flags k).1.symm)).trans (State.on_event s rfl (by decide))
  obtain h | h := State.synReacquire_cases (s.event CLOCK.INT_STAT_SYN_UNLOCK_EV) k <;> rw [h]
  · exact hset
  · rw [State.on, State.fld_event]
    exact (State.on_setFld_apart _ _ _ _ (by decide) (by decide)).trans hset

theorem State.LowAs.synReacquire (h : s.LowAs b) : (s.synReacquire k).LowAs b := by
  have hset : (s.synCleared k).LowAs b := by
    have h0 : (s.setSyn k { Syn.reset with idle := true }).LowAs b := h
    exact ((((h0.setFld (f := CLOCK.SYN_STATUS_LOCKED k) upper).setFld (f := CLOCK.SYN_STATUS_LOCK_COUNT k) upper).setFld
      (f := CLOCK.SYN_STATUS_COASTING k) upper).setFld (f := CLOCK.SYN_STATUS_COAST_COUNT k) upper).setFld (f := CLOCK.SYN_STATUS_GATED k) upper
  obtain he | he := s.synReacquire_cases k <;> rw [he]
  · exact hset
  · exact hset.event (by decide)

/-! ## Scanning stops (R143, R162) -/

/-- Identification starts again and scanning stops. -/
def State.scanLost (s : State) (k : Nat) : State := (s.fidRestart k).stopScan k

theorem State.reg_scanLost (s : State) (k : Nat) (h1 : a ≠ GAUGE.FID_STATUS k) (h2 : a ≠ GRAVER.STATUS k) : (s.scanLost k).reg a = s.reg a :=
  (State.reg_setFld_other _ _ _ _ h2.symm).trans ((State.reg_setFld_other _ _ _ _ h1.symm).trans (State.reg_setFld_other _ _ _ _ h1.symm))

theorem State.syncLost_of_not_ready (h : s.eng ≠ engReady) (k : Nat) : s.syncLost k = s.scanLost k := by
  have heng : (s.scanLost k).eng = s.eng := by
    refine State.fld_congr (f := SYS.ENGINE_STATE_STATE) (State.reg_scanLost s k (a := SYS.ENGINE_STATE) ?_ ?_)
    · unfold GAUGE.FID_STATUS SYS.ENGINE_STATE; omega
    · unfold GRAVER.STATUS SYS.ENGINE_STATE; omega
  exact if_neg (fun hr => h (heng.symm.trans hr.1))

theorem fidStatus_ne_graverStatus (k j : Nat) : GAUGE.FID_STATUS k ≠ GRAVER.STATUS j := by
  unfold GAUGE.FID_STATUS GRAVER.STATUS; omega

/-- A bit of the Graver's STATUS beside SCANNING. -/
theorem State.on_status_scanLost (s : State) (k : Nat) {i : Nat} (hi : i < 32) (h8 : i ≠ 8) :
    (s.scanLost k).on ⟨GRAVER.STATUS k, i, 1⟩ = s.on ⟨GRAVER.STATUS k, i, 1⟩ := by
  have hfid := fidStatus_ne_graverStatus k k
  have hset : (s.fidRestart k).reg (GRAVER.STATUS k) = s.reg (GRAVER.STATUS k) :=
    (State.reg_setFld_other _ _ _ _ hfid).trans (State.reg_setFld_other _ _ _ _ hfid)
  exact (State.on_setFld_oneBit _ _ (by decide) hi).trans ((if_neg h8.symm).trans (State.on_congr (f := ⟨GRAVER.STATUS k, i, 1⟩) hset))

theorem State.scanLost_stops (s : State) (k : Nat) : (s.scanLost k).on (GRAVER.STATUS_SCANNING k) = false ∧
    (s.scanLost k).on (GAUGE.FID_STATUS_FACET_VALID k) = false ∧ ((s.scanLost k).gv k).frames = [] := by
  have hgv : (s.scanLost k).gv k = { (s.fidRestart k).gv k with frames := [], fired := none, pred := none } :=
    (State.gv_setFld ..).trans (State.gv_setGv_same _ k _)
  refine ⟨State.on_setFld_zero _ (show 8 + 1 ≤ 32 by omega), ?_, by rw [hgv]⟩
  refine (State.on_congr (State.reg_setFld_other _ _ _ _ (fidStatus_ne_graverStatus k k).symm)).trans ?_
  exact (State.on_setFld_apart _ (GAUGE.FID_STATUS_RUNS k) (GAUGE.FID_STATUS_FACET_VALID k) 0 (show 0 + 1 ≤ 32 by omega)
    (.inr (.inl (show 0 + 1 ≤ 8 by omega)))).trans (State.on_setFld_zero _ (show 0 + 1 ≤ 32 by omega))

/-! ## Events of the beam-detect gauges (R180) -/

/-- The gauges' events change GAUGE.INT_STAT and the host link alone. -/
theorem State.gaugeEvents_frame (s was : State) : (s.gaugeEvents was).grav = s.grav ∧ ∀ a, a ≠ GAUGE.INT_STAT → (s.gaugeEvents was).reg a = s.reg a := by
  have ev : ∀ (t : State) (c : Bool) (f : Fld), f.off = GAUGE.INT_STAT → State.grav (if c then t.event f else t) = t.grav ∧
      ∀ a, a ≠ GAUGE.INT_STAT → State.reg (if c then t.event f else t) a = t.reg a := fun t c f hf => by
    split
    · exact ⟨by rw [State.event_frame], fun a ha => State.reg_event_other _ _ _ (hf ▸ ha.symm)⟩
    · exact ⟨rfl, fun _ _ => rfl⟩
  unfold State.gaugeEvents
  extract_lets up down coast s1 s2
  obtain ⟨hg1, hr1⟩ := ev s up GAUGE.INT_STAT_LOCK_EV rfl
  obtain ⟨hg2, hr2⟩ := ev s1 down GAUGE.INT_STAT_UNLOCK_EV rfl
  obtain ⟨hg3, hr3⟩ := ev s2 coast GAUGE.INT_STAT_COAST_EV rfl
  exact ⟨hg3.trans (hg2.trans hg1), fun a ha => (hr3 a ha).trans ((hr2 a ha).trans (hr1 a ha))⟩

/-! ## The edges of an acquisition (R134) -/

/-- The synthesizer after an edge at `t` of an acquisition. -/
def State.seedSyn (s : State) (k t : Nat) : Syn :=
  let y := s.syn k
  let n := y.edges + 1
  let first := if n = 1 then t else y.firstEdge
  { y.sync (s.facets k) t with
    edges := n, firstEdge := first, fcw := if n = 1 then 0 else seedFcw (s.period k) n first t, idle := decide (n = 1) }

/-- The state after it, before the edge is counted toward lock. -/
def State.seeded (s : State) (k t : Nat) : State :=
  let n := (s.syn k).edges + 1
  let s1 := s.setSyn k (s.seedSyn k t)
  let s2 := if n = 2 ∧ fcwInRange (s.seedSyn k t).fcw then s1.setFld (CLOCK.SYN_STATUS_GATED k) 0 else s1
  if 2 ≤ n then s2.synRange k else s2

theorem State.synEdge_acquiring {t : Nat} (hon : s.on (CLOCK.SYN_CTRL_ENABLE k) = true) (hc : s.on (CLOCK.SYN_STATUS_COASTING k) = false)
    (he : (s.syn k).edges < s.facets k) : s.synEdge k t = (.sync, (s.seeded k t).synCount k true) := by
  unfold State.synEdge
  dsimp only
  rw [if_neg (by simp [hon]), if_neg (by simp [hc]), if_pos he]
  rfl

/-- The synthesizer of station `k` and its lock count are those of `b` but for the range gate, and the Gravers are those of `b`. -/
structure State.SeedAs (s b : State) (k : Nat) : Prop where
  syn : ∃ g, s.syn k = { b.syn k with gatedRange := g }
  count : s.fld (CLOCK.SYN_STATUS_LOCK_COUNT k) = b.fld (CLOCK.SYN_STATUS_LOCK_COUNT k)
  gv : s.gv k = b.gv k

theorem State.SeedAs.refl (s : State) (k : Nat) : s.SeedAs s k := ⟨⟨_, rfl⟩, rfl, rfl⟩

theorem State.SeedAs.setGated (h : s.SeedAs b k) (v : Nat) : (s.setFld (CLOCK.SYN_STATUS_GATED k) v).SeedAs b k :=
  ⟨by rw [State.syn_setFld]; exact h.syn, (State.fld_setFld_beside s _ (lo := 18) (w := 1) (lo' := 0) (w' := 9) (by decide) (by decide)).trans h.count,
    (State.gv_setFld ..).trans h.gv⟩

theorem State.SeedAs.event {f : Fld} (h : s.SeedAs b k) (hf : f.off = CLOCK.INT_STAT) : (s.event f).SeedAs b k :=
  ⟨by rw [State.syn_event]; exact h.syn, (State.fld_event_synStatus s hf rfl).trans h.count, (State.gv_event s f k).trans h.gv⟩

theorem State.SeedAs.setRange (h : s.SeedAs b k) (g : Bool) : (s.setSyn k { s.syn k with gatedRange := g }).SeedAs b k := by
  obtain ⟨g', hg⟩ := h.syn
  exact ⟨⟨g, by rw [State.syn_setSyn_same, hg]⟩, (State.fld_setSyn ..).trans h.count, (State.gv_setSyn ..).trans h.gv⟩

theorem State.SeedAs.synRange (h : s.SeedAs b k) : (s.synRange k).SeedAs b k := by
  unfold State.synRange
  dsimp only
  split
  · split
    · exact (h.setRange false).setGated 0
    · exact h
  · split
    · exact h
    · split
      · exact (h.setRange true).setGated 1
      · exact ((h.setRange true).setGated 1).event rfl

theorem State.seeded_seedAs (s : State) (k t : Nat) : (s.seeded k t).SeedAs (s.setSyn k (s.seedSyn k t)) k := by
  have h1 := State.SeedAs.refl (s.setSyn k (s.seedSyn k t)) k
  unfold State.seeded
  dsimp only
  split <;> split
  · exact (h1.setGated 0).synRange
  · exact h1.synRange
  · exact h1.setGated 0
  · exact h1

/-- A good edge is counted toward lock; the synthesizer and the Gravers stay. -/
theorem State.synCount_true (s : State) (k : Nat) : (s.synCount k true).syn k = s.syn k ∧ (s.synCount k true).gv k = s.gv k ∧
    (s.synCount k true).fld (CLOCK.SYN_STATUS_LOCK_COUNT k) = min 256 (s.fld (CLOCK.SYN_STATUS_LOCK_COUNT k) + 1) := by
  have hcount : (s.setFld (CLOCK.SYN_STATUS_LOCK_COUNT k) (min 256 (s.fld (CLOCK.SYN_STATUS_LOCK_COUNT k) + 1))).fld (CLOCK.SYN_STATUS_LOCK_COUNT k) =
      min 256 (s.fld (CLOCK.SYN_STATUS_LOCK_COUNT k) + 1) :=
    (State.fld_setFld _ _ _ (show 0 + 9 ≤ 32 by omega)).trans (Nat.mod_eq_of_lt (show _ < 2 ^ 9 by omega))
  unfold State.synCount
  dsimp only
  rw [if_pos rfl]
  split
  · refine ⟨by rw [State.syn_event, State.syn_setFld, State.syn_setFld], by rw [State.gv_event, State.gv_setFld, State.gv_setFld], ?_⟩
    exact (State.fld_event_synStatus _ rfl rfl).trans
      ((State.fld_setFld_beside _ _ (lo := 16) (w := 1) (lo' := 0) (w' := 9) (by decide) (by decide)).trans hcount)
  · exact ⟨State.syn_setFld .., State.gv_setFld .., hcount⟩

/-- What an edge of an acquisition leaves. -/
theorem State.acquiringEdge (s : State) (k t : Nat) :
    (∃ g, ((s.seeded k t).synCount k true).syn k = { s.seedSyn k t with gatedRange := g }) ∧ ((s.seeded k t).synCount k true).gv k = s.gv k ∧
    ((s.seeded k t).synCount k true).fld (CLOCK.SYN_STATUS_LOCK_COUNT k) = min 256 (s.fld (CLOCK.SYN_STATUS_LOCK_COUNT k) + 1) := by
  obtain ⟨hsyn, hgv, hcount⟩ := State.synCount_true (s.seeded k t) k
  obtain ⟨⟨g, hg⟩, hcount', hgv'⟩ := State.seeded_seedAs s k t
  rw [State.syn_setSyn_same] at hg
  exact ⟨⟨g, hsyn.trans hg⟩, hgv.trans (hgv'.trans (State.gv_setSyn ..)), hcount.trans (by rw [hcount', State.fld_setSyn])⟩

/-! ## A sync event (R136, R137, R162, R383) -/

/-- What taking a sync event at `s` leaves of the synthesizer, its status and the Graver's count of scans. -/
structure State.TakesSync (s t : State) (k : Nat) (real : Bool) : Prop where
  syn : ∃ l n, t.syn k = { s.syn k with offsets := l, slot0 := n }
  status : ∀ lo w, lo + w ≤ 19 ∨ 20 ≤ lo ∧ lo + w ≤ 32 → t.fld ⟨CLOCK.SYN_STATUS k, lo, w⟩ = s.fld ⟨CLOCK.SYN_STATUS k, lo, w⟩
  scan : (t.gv k).scan = ((s.gv k).scan + 1) % 2 ^ 32
  coasted : (t.gv k).coasted = !real

theorem State.TakesSync.clockAs {real : Bool} (h : s.TakesSync t k real) (hk : k < 6) (hc : u.ClockAs t) : s.TakesSync u k real := by
  obtain ⟨hscan, hcoasted⟩ := hc.gv k
  have hreg := hc.reg (synStatus_in_clock hk).1 (synStatus_in_clock hk).2
  exact ⟨by rw [hc.syn k]; exact h.syn, fun lo w hw => (State.fld_congr hreg).trans (h.status lo w hw), hscan.trans h.scan, hcoasted.trans h.coasted⟩

/-- A scan's offsets change the synthesizer in them alone, and SYN_STATUS in STEP_CLAMP. -/
theorem State.feedForward_spec (s : State) (k b n : Nat) : (∃ l, (s.feedForward k b n).syn k = { s.syn k with offsets := l }) ∧
    (∀ lo w, lo + w ≤ 19 ∨ 20 ≤ lo ∧ lo + w ≤ 32 → (s.feedForward k b n).fld ⟨CLOCK.SYN_STATUS k, lo, w⟩ = s.fld ⟨CLOCK.SYN_STATUS k, lo, w⟩) ∧
    (s.feedForward k b n).gv k = s.gv k := by
  unfold State.feedForward
  extract_lets l y s1
  have hsyn : s1.syn k = { s.syn k with offsets := l.map (fun x => max (-10000) (min 10000 x)) } := State.syn_setSyn_same s k _
  split
  · refine ⟨⟨l.map (fun x => max (-10000) (min 10000 x)), ?_⟩, fun lo w hw => ?_, by rw [State.gv_event, State.gv_setFld, State.gv_setSyn]⟩
    · rw [State.syn_event, State.syn_setFld, hsyn]
    · exact (State.fld_event_synStatus _ rfl rfl).trans
        ((State.fld_setFld_beside s1 _ (lo := 19) (w := 1) (by omega) (by omega)).trans (State.fld_setSyn ..))
  · exact ⟨⟨_, hsyn⟩, fun _ _ _ => State.fld_setSyn .., State.gv_setSyn ..⟩

theorem State.takeSync_takesSync (s : State) (hk : k < 6) (t x : Nat) (real : Bool) : s.TakesSync (s.takeSync k t x real) k real := by
  unfold State.takeSync
  extract_lets g n prev s1 g1 s2 s3 s4 s5 b s6
  have h1 : s1.ClockAs s := .ite (.ite (State.ClockAs.refl s).fidInterval (State.ClockAs.refl s).fidBreak) (.refl s)
  have hgv2 : s2.gv k = { s1.gv k with scan := n, syncTime := t, coasted := !real } := State.gv_setGv_same s1 k _
  have h4 : s4.ClockAs s2 := (State.ClockAs.refl s2).syncGauge.setFld (f := GRAVER.STATUS_BD_GATE k) above
  have h5 : s5.ClockAs s2 := .ite h4.setFrames h4
  obtain ⟨⟨l, hl⟩, hstatus, hgv6⟩ := State.feedForward_spec s5 k b n
  have hsyn5 : s5.syn k = s.syn k := (h5.syn k).trans (h1.syn k)
  have hreg5 : s5.reg (CLOCK.SYN_STATUS k) = s.reg (CLOCK.SYN_STATUS k) :=
    (h5.reg (synStatus_in_clock hk).1 (synStatus_in_clock hk).2).trans (h1.reg (synStatus_in_clock hk).1 (synStatus_in_clock hk).2)
  obtain ⟨hscan5, hcoasted5⟩ := h5.gv k
  have hpre : s.TakesSync (s6.setSyn k { s6.syn k with slot0 := s6.slot0 k b n t }) k real := by
    refine ⟨⟨l, s6.slot0 k b n t, ?_⟩, fun lo w hw => (hstatus lo w hw).trans (State.fld_congr hreg5), ?_, ?_⟩
    · rw [State.syn_setSyn_same, show s6.syn k = _ from hl, hsyn5]
    · exact (congrArg Grav.scan hgv6).trans (hscan5.trans (congrArg Grav.scan hgv2))
    · exact (congrArg Grav.coasted hgv6).trans (hcoasted5.trans (congrArg Grav.coasted hgv2))
  exact hpre.clockAs hk ((State.ClockAs.refl _).decideWindow hk)

/-! ## What an edge answers (R133, R143) -/

/-- A station that does not coast, or coasts with its privilege, has no coast to end. -/
theorem State.coastEnds_eq (h : s.on (CLOCK.SYN_STATUS_COASTING k) = false ∨ s.privileged k = true) : s.coastEnds k = s :=
  if_neg (by obtain h | h := h <;> simp [h])

/-- A coast whose privilege is gone is acquired again. -/
theorem State.coastEnds_lapsed (hc : s.on (CLOCK.SYN_STATUS_COASTING k) = true) (hp : s.privileged k = false) :
    s.coastEnds k = (s.synReacquire k).syncLost k :=
  if_pos (by simp [hc, hp])

section
variable {t : Nat} (hk : k < 6) (hf : s.fabric = true) (hc : s.on (CLOCK.SYN_STATUS_COASTING k) = false ∨ s.privileged k = true)
include hk hf hc

theorem exec_bdEdge_sync (he : s.synEdge k t = (.sync, u)) :
    exec (.bdEdge k t x) s = .next (((u.takeSync k t x true).recheckReady).gaugeEvents s) := by
  show execBdEdge k t x s = _
  rw [execBdEdge, if_neg (by simp [hf]; omega), State.coastEnds_eq hc, he]

theorem exec_bdEdge_lost (he : s.synEdge k t = (.lost, u)) : exec (.bdEdge k t x) s = .next ((u.syncLost k).gaugeEvents s) := by
  show execBdEdge k t x s = _
  rw [execBdEdge, if_neg (by simp [hf]; omega), State.coastEnds_eq hc, he]

theorem exec_bdEdge_ignored (he : s.synEdge k t = (.ignored, u)) : exec (.bdEdge k t x) s = .next u := by
  show execBdEdge k t x s = _
  rw [execBdEdge, if_neg (by simp [hf]; omega), State.coastEnds_eq hc, he]

end

theorem State.synEdge_off {t : Nat} (h : s.on (CLOCK.SYN_CTRL_ENABLE k) = false) : s.synEdge k t = (.ignored, s) :=
  if_pos (by simp [h])

/-- An ignored edge changes nothing. -/
theorem State.eq_of_synEdge_ignored {t : Nat} (h : s.synEdge k t = (.ignored, u)) : u = s := by
  have hpair : ∀ {v w : State}, (EdgeUse.ignored, v) = (EdgeUse.ignored, w) → w = v := fun e => (congrArg Prod.snd e).symm
  have hsync : ∀ {v w : State}, (EdgeUse.sync, v) ≠ (EdgeUse.ignored, w) := fun e => EdgeUse.noConfusion (congrArg Prod.fst e)
  have hlost : ∀ {v w : State}, (EdgeUse.lost, v) ≠ (EdgeUse.ignored, w) := fun e => EdgeUse.noConfusion (congrArg Prod.fst e)
  unfold State.synEdge at h
  dsimp only at h
  split at h
  · exact hpair h
  split at h
  · split at h
    · exact hpair h
    · split at h <;> split at h <;> exact absurd h hsync
  split at h
  · exact absurd h hsync
  split at h
  · exact hpair h
  split at h
  · split at h
    · exact absurd h hsync
    · exact absurd h hlost
  · exact absurd h hsync

/-- Every enabled synthesizer has at least four facets (R147). -/
theorem State.four_le_facets (s : State) (k : Nat) : 4 ≤ s.facets k := by unfold State.facets; omega

/-- What an edge of an acquisition answers. -/
theorem State.answers_bdEdge_acquiring {t : Nat} (hk : k < 6) (hf : s.fabric = true) (hon : s.on (CLOCK.SYN_CTRL_ENABLE k) = true)
    (hc : s.on (CLOCK.SYN_STATUS_COASTING k) = false) (he : (s.syn k).edges < s.facets k) :
    Answers (.bdEdge k t x) s (fun u => (∃ g l n, u.syn k = { s.seedSyn k t with gatedRange := g, offsets := l, slot0 := n }) ∧
      (u.gv k).scan = ((s.gv k).scan + 1) % 2 ^ 32 ∧
      u.fld (CLOCK.SYN_STATUS_LOCK_COUNT k) = min 256 (s.fld (CLOCK.SYN_STATUS_LOCK_COUNT k) + 1)) := by
  refine ⟨_, exec_bdEdge_sync hk hf (.inl hc) (State.synEdge_acquiring hon hc he), ?_⟩
  obtain ⟨⟨g, hg⟩, hgv, hcount⟩ := State.acquiringEdge s k t
  have htake := (State.takeSync_takesSync ((s.seeded k t).synCount k true) hk t x true).clockAs hk ((State.ClockAs.refl _).recheckReady.gaugeEvents (was := s))
  obtain ⟨⟨l, n, hsyn⟩, hstatus, hscan, -⟩ := htake
  exact ⟨⟨g, l, n, by rw [hsyn, hg]⟩, by rw [hscan, hgv], (hstatus 0 9 (.inl (by decide))).trans hcount⟩

/-! ## A missed window (R135, R144) -/

theorem exec_bdWindowMissed {again : Bool} (hk : k < 6) (hf : s.fabric = true) (hc : s.on (CLOCK.SYN_STATUS_COASTING k) = false)
    (hm : s.synMissed k = (again, u)) : exec (.bdWindowMissed k) s = .next
      (State.gaugeEvents (if again then (u.setFld (GRAVER.STATUS_BD_GATE k) 0).syncLost k else (u.setFld (GRAVER.STATUS_BD_GATE k) 0).recheckReady) s) := by
  show execBdWindowMissed k s = _
  rw [execBdWindowMissed, if_neg (by simp [hf]; omega), State.coastEnds_eq (.inl hc), hm]

theorem State.synMissed_locked (hon : s.on (CLOCK.SYN_CTRL_ENABLE k) = true) (hc : s.on (CLOCK.SYN_STATUS_COASTING k) = false)
    (hl : s.on (CLOCK.SYN_STATUS_LOCKED k) = true) : s.synMissed k = (!s.privileged k, s.synUnlock k) := by
  unfold State.synMissed
  dsimp only
  rw [if_neg (by simp [hon]), if_neg (by simp [hc]), if_pos hl]

theorem State.synUnlock_unprivileged (hp : s.privileged k = false) : s.synUnlock k = (s.event CLOCK.INT_STAT_SYN_UNLOCK_EV).synReacquire k :=
  if_neg (by simp [hp])

/-- SYN_STATUS of a coast that starts. -/
def State.coastMarked (s : State) (k : Nat) : State :=
  (((s.event CLOCK.INT_STAT_SYN_UNLOCK_EV).setFld (CLOCK.SYN_STATUS_LOCKED k) 0).setFld (CLOCK.SYN_STATUS_COASTING k) 1).setFld
    (CLOCK.SYN_STATUS_COAST_COUNT k) 0

/-- The state of a coast that starts, before its event. -/
def State.coastStarted (s : State) (k : Nat) : State :=
  (s.coastMarked k).setSyn k { (s.coastMarked k).syn k with good := 0, expiring := false }

theorem State.synUnlock_privileged (hp : s.privileged k = true) : s.synUnlock k = (s.coastStarted k).event CLOCK.INT_STAT_COAST_START_EV :=
  if_pos hp

theorem State.coastMarked_status (s : State) (k : Nat) : (s.coastMarked k).on (CLOCK.SYN_STATUS_COASTING k) = true ∧
    (s.coastMarked k).on (CLOCK.SYN_STATUS_LOCKED k) = false ∧ (s.coastMarked k).fld (CLOCK.SYN_STATUS_COAST_COUNT k) = 0 := by
  simp [State.coastMarked, State.on, State.fld_setFld, State.fld_setFld_beside, CLOCK.SYN_STATUS_LOCKED, CLOCK.SYN_STATUS_COASTING,
    CLOCK.SYN_STATUS_COAST_COUNT]

theorem State.fcw_coastStarted (s : State) (k : Nat) : ((s.coastStarted k).syn k).fcw = (s.syn k).fcw := by
  have hmarked : (s.coastMarked k).syn k = s.syn k := by
    rw [State.coastMarked, State.syn_setFld, State.syn_setFld, State.syn_setFld, State.syn_event]
  rw [State.coastStarted, State.syn_setSyn_same, hmarked]

/-- A missed window of a locked synthesizer with privilege starts a coast. -/
theorem State.answers_missed_privileged (hk : k < 6) (hf : s.fabric = true) (hon : s.on (CLOCK.SYN_CTRL_ENABLE k) = true)
    (hc : s.on (CLOCK.SYN_STATUS_COASTING k) = false) (hl : s.on (CLOCK.SYN_STATUS_LOCKED k) = true) (hp : s.privileged k = true) :
    Answers (.bdWindowMissed k) s (fun u => u.on (CLOCK.SYN_STATUS_COASTING k) = true ∧ u.on (CLOCK.SYN_STATUS_LOCKED k) = false ∧
      (u.syn k).fcw = (s.syn k).fcw ∧ u.fld (CLOCK.SYN_STATUS_COAST_COUNT k) = 0 ∧ u.on CLOCK.INT_STAT_COAST_START_EV = true) := by
  have hm := State.synMissed_locked hon hc hl
  rw [hp, State.synUnlock_privileged hp] at hm
  refine ⟨_, exec_bdWindowMissed hk hf hc hm, ?_⟩
  rw [if_neg (by decide)]
  have hclock := ((State.ClockAs.refl ((s.coastStarted k).event CLOCK.INT_STAT_COAST_START_EV)).setFld (f := GRAVER.STATUS_BD_GATE k)
    (v := 0) above).recheckReady.gaugeEvents (was := s)
  have hstatus := (hclock.reg (synStatus_in_clock hk).1 (synStatus_in_clock hk).2).trans ((State.reg_event_other (s.coastStarted k) _ _ (synStatus_ne_flags k).1.symm).trans
    (State.reg_setSyn ..))
  obtain ⟨hcoast, hunlock, hcount⟩ := s.coastMarked_status k
  refine ⟨(State.on_congr (f := CLOCK.SYN_STATUS_COASTING k) hstatus).trans hcoast, (State.on_congr (f := CLOCK.SYN_STATUS_LOCKED k) hstatus).trans hunlock,
    by rw [hclock.syn k, State.syn_event, State.fcw_coastStarted], (State.fld_congr (f := CLOCK.SYN_STATUS_COAST_COUNT k) hstatus).trans hcount, ?_⟩
  exact (State.on_congr (f := CLOCK.INT_STAT_COAST_START_EV) (hclock.reg (by decide) (by decide))).trans (State.on_event _ rfl (by decide))

/-- What follows the loss of a synthesizer outside READY: scanning and identification stop, and the gauges' events. -/
theorem State.syncLost_stops (h : s.eng ≠ engReady) (was : State) :
    ((s.syncLost k).gaugeEvents was).on (GRAVER.STATUS_SCANNING k) = false ∧
    ((s.syncLost k).gaugeEvents was).on (GAUGE.FID_STATUS_FACET_VALID k) = false ∧ (((s.syncLost k).gaugeEvents was).gv k).frames = [] := by
  obtain ⟨hgrav, hreg⟩ := State.gaugeEvents_frame (s.syncLost k) was
  rw [State.syncLost_of_not_ready h] at hgrav hreg ⊢
  obtain ⟨hscan, hvalid, hframes⟩ := s.scanLost_stops k
  refine ⟨(State.on_congr (hreg _ ?_)).trans hscan, (State.on_congr (hreg _ ?_)).trans hvalid, by rw [State.gv, hgrav]; exact hframes⟩
  · show GRAVER.STATUS k ≠ GAUGE.INT_STAT; unfold GRAVER.STATUS GAUGE.INT_STAT; omega
  · show GAUGE.FID_STATUS k ≠ GAUGE.INT_STAT; unfold GAUGE.FID_STATUS GAUGE.INT_STAT; omega

/-- A bit of the Graver's STATUS beside SCANNING after it. -/
theorem State.on_status_syncLost (h : s.eng ≠ engReady) (was : State) {i : Nat} (hi : i < 32) (h8 : i ≠ 8) :
    ((s.syncLost k).gaugeEvents was).on ⟨GRAVER.STATUS k, i, 1⟩ = s.on ⟨GRAVER.STATUS k, i, 1⟩ := by
  have hreg := (State.gaugeEvents_frame (s.syncLost k) was).2 (GRAVER.STATUS k) (by unfold GRAVER.STATUS GAUGE.INT_STAT; omega)
  rw [State.syncLost_of_not_ready h] at hreg ⊢
  exact (State.on_congr (f := ⟨GRAVER.STATUS k, i, 1⟩) hreg).trans (s.on_status_scanLost k hi h8)

/-- A missed window of a locked synthesizer without privilege. -/
theorem State.answers_missed_unprivileged (hk : k < 6) (hf : s.fabric = true) (hon : s.on (CLOCK.SYN_CTRL_ENABLE k) = true)
    (hc : s.on (CLOCK.SYN_STATUS_COASTING k) = false) (hl : s.on (CLOCK.SYN_STATUS_LOCKED k) = true) (hp : s.privileged k = false)
    (he : s.eng ≠ engReady) : Answers (.bdWindowMissed k) s (fun u => u.Cleared k ∧ u.on CLOCK.INT_STAT_SYN_UNLOCK_EV = true ∧
      u.on (GRAVER.STATUS_BD_GATE k) = false ∧ u.on (GAUGE.FID_STATUS_FACET_VALID k) = false ∧ (u.gv k).frames = [] ∧
      u.on (GRAVER.STATUS_SCANNING k) = false) := by
  have hm := State.synMissed_locked hon hc hl
  rw [hp, State.synUnlock_unprivileged hp] at hm
  refine ⟨_, exec_bdWindowMissed hk hf hc hm, ?_⟩
  rw [if_pos (by decide)]
  have hlow : (((s.event CLOCK.INT_STAT_SYN_UNLOCK_EV).synReacquire k).setFld (GRAVER.STATUS_BD_GATE k) 0).LowAs s :=
    ((State.LowAs.refl s).event (by decide)).synReacquire.setFld (f := GRAVER.STATUS_BD_GATE k) upper
  have heng : (((s.event CLOCK.INT_STAT_SYN_UNLOCK_EV).synReacquire k).setFld (GRAVER.STATUS_BD_GATE k) 0).eng ≠ engReady := fun h =>
    he ((hlow.fld (f := SYS.ENGINE_STATE_STATE) (by decide)).symm.trans h)
  have hclock := ((State.ClockAs.refl ((s.event CLOCK.INT_STAT_SYN_UNLOCK_EV).synReacquire k)).setFld (f := GRAVER.STATUS_BD_GATE k)
    (v := 0) above).syncLost (k := k) |>.gaugeEvents (was := s)
  obtain ⟨hscan, hvalid, hframes⟩ := State.syncLost_stops (k := k) heng s
  refine ⟨((s.event CLOCK.INT_STAT_SYN_UNLOCK_EV).synReacquire_cleared k).clockAs hk hclock, ?_, ?_, hvalid, hframes, hscan⟩
  · exact (State.on_congr (f := CLOCK.INT_STAT_SYN_UNLOCK_EV) (hclock.reg (by decide) (by decide))).trans (s.on_synReacquire_event k)
  · exact (State.on_status_syncLost heng s (i := 12) (by decide) (by decide)).trans (State.on_setFld_zero _ (show 12 + 1 ≤ 32 by omega))

/-! ## Predicted sync events (R144, R145) -/

/-- The state a predicted sync event is taken at. -/
def State.predicted (s : State) (k : Nat) : State :=
  let n := s.fld (CLOCK.SYN_STATUS_COAST_COUNT k) + 1
  let y := (s.syn k).sync (s.facets k) ((s.syn k).predictSync (s.facets k))
  (s.setFld (CLOCK.SYN_STATUS_COAST_COUNT k) n).setSyn k { y with good := 0, expiring := decide (s.fld (CLOCK.SYN_CTRL_COAST_EDGES k) + 1 ≤ n) }

theorem State.synPredicted_eq (s : State) (k : Nat) :
    s.synPredicted k = if (s.syn k).expiring then (true, s) else (false, s.predicted k) := rfl

section
variable (hk : k < 6) (hc : s.on (CLOCK.SYN_STATUS_COASTING k) = true)
include hk hc

theorem exec_predictedSyncEvent_lapsed (hp : s.privileged k = false) : exec (.predictedSyncEvent k x) s = .next (s.coastEnds k) := by
  show execPredictedSyncEvent k x s = _
  rw [execPredictedSyncEvent, if_neg (by simp [hc]; omega), if_pos (by simp [hp])]

theorem exec_predictedSyncEvent_coasts (hp : s.privileged k = true) (he : (s.syn k).expiring = false) : exec (.predictedSyncEvent k x) s =
    .next ((s.predicted k).takeSync k (((s.predicted k).syn k).syncs.headD 0) x false) := by
  show execPredictedSyncEvent k x s = _
  rw [execPredictedSyncEvent, if_neg (by simp [hc]; omega), if_neg (by simp [hp]), State.synPredicted_eq, if_neg (by simp [he])]
  exact if_neg (by decide)

theorem exec_predictedSyncEvent_expires (hp : s.privileged k = true) (he : (s.syn k).expiring = true) :
    exec (.predictedSyncEvent k x) s = .next ((s.coastExpire k false).gaugeEvents s) := by
  show execPredictedSyncEvent k x s = _
  rw [execPredictedSyncEvent, if_neg (by simp [hc]; omega), if_neg (by simp [hp]), State.synPredicted_eq, if_pos he]
  exact if_pos rfl

end

theorem State.syn_predicted (s : State) (k : Nat) : ((s.predicted k).syn k).fcw = (s.syn k).fcw ∧
    ((s.predicted k).syn k).syncs.head? = some ((s.syn k).predictSync (s.facets k)) := by
  unfold State.predicted
  dsimp only
  rw [State.syn_setSyn_same]
  exact ⟨rfl, rfl⟩

theorem State.status_predicted (s : State) (k : Nat) :
    (s.predicted k).on (CLOCK.SYN_STATUS_COASTING k) = s.on (CLOCK.SYN_STATUS_COASTING k) ∧
    (s.predicted k).fld (CLOCK.SYN_STATUS_COAST_COUNT k) = (s.fld (CLOCK.SYN_STATUS_COAST_COUNT k) + 1) % 256 := by
  unfold State.predicted
  dsimp only
  rw [State.on, State.fld_setSyn, State.fld_setSyn, State.fld_setFld _ _ _ (show 24 + 8 ≤ 32 by omega), CLOCK.SYN_STATUS_COASTING, CLOCK.SYN_STATUS_COAST_COUNT,
    State.fld_setFld_beside s _ (by decide) (by decide)]
  exact ⟨rfl, rfl⟩

/-- A coast under way takes its prediction as the sync event. -/
theorem State.answers_predicted (hk : k < 6) (hc : s.on (CLOCK.SYN_STATUS_COASTING k) = true) (hp : s.privileged k = true)
    (he : (s.syn k).expiring = false) : Answers (.predictedSyncEvent k x) s (fun u => u.on (CLOCK.SYN_STATUS_COASTING k) = true ∧
      u.fld (CLOCK.SYN_STATUS_COAST_COUNT k) = (s.fld (CLOCK.SYN_STATUS_COAST_COUNT k) + 1) % 256 ∧ (u.syn k).fcw = (s.syn k).fcw ∧
      (u.syn k).syncs.head? = some ((s.syn k).predictSync (s.facets k)) ∧ (u.gv k).coasted = true) := by
  refine ⟨_, exec_predictedSyncEvent_coasts hk hc hp he, ?_⟩
  obtain ⟨⟨l, n, hsyn⟩, hstatus, -, hcoasted⟩ :=
    State.takeSync_takesSync (s.predicted k) hk (((s.predicted k).syn k).syncs.headD 0) x false
  obtain ⟨hfcw, hhead⟩ := s.syn_predicted k
  obtain ⟨hcoast, hcount⟩ := s.status_predicted k
  have hstay : ((s.predicted k).takeSync k (((s.predicted k).syn k).syncs.headD 0) x false).on (CLOCK.SYN_STATUS_COASTING k) =
      (s.predicted k).on (CLOCK.SYN_STATUS_COASTING k) := by
    rw [State.on, State.on]; exact congrArg (fun n => decide (n = 1)) (hstatus 17 1 (.inl (by decide)))
  exact ⟨hstay.trans (hcoast.trans hc), (hstatus 24 8 (.inr (by decide))).trans hcount, by rw [hsyn, ← hfcw], by rw [hsyn, ← hhead], hcoasted⟩

/-! ## The limit of a coast (R145) -/

/-- A coast's limit as it is raised, before the synthesizer acquires again. -/
def State.coastLapsed (s : State) (k : Nat) : State :=
  let s1 := (s.raise 2 (16 + k) k false).laserEval k
  (s1.setGv k { s1.gv k with lapsed := (s1.gv k).queue.any (·.committed) }).setFld (GRAVER.STATUS_PRIVILEGED k) 0

theorem State.coastExpire_eq (s : State) (k : Nat) : s.coastExpire k false = ((s.coastLapsed k).synReacquire k).syncLost k := rfl

theorem State.reg_coastLapsed (s : State) (k : Nat) (h : a ≠ GRAVER.STATUS k) :
    (s.coastLapsed k).reg a = ((s.raise 2 (16 + k) k false).laserEval k).reg a :=
  (State.reg_setFld_other _ _ _ _ h.symm).trans (State.reg_setGv ..)

theorem State.fbit_coastExpired (h : s.faultBit 2 (16 + k) = true) (hk : k < 6) : s.fbit CLOCK.FAULT_COAST_EXPIRED k = true := by
  rw [State.fbit, State.fld, bits, Nat.testBit_mod_two_pow, Nat.testBit_shiftRight, show CLOCK.FAULT_COAST_EXPIRED.width = 6 from rfl,
    decide_eq_true hk, Bool.true_and]
  exact h

/-- COAST_EXPIRED fails one of the laser enable's conditions. -/
theorem State.laserTerms_of_coastExpired (h : s.faultBit 2 (16 + k) = true) (hk : k < 6) : s.laserTerms k ≠ 255 := by
  have hle : ∀ c, bit c ≤ 1 := by decide
  have hzero : bit (!s.fbit CLOCK.FAULT_COAST_EXPIRED k) = 0 := by rw [State.fbit_coastExpired h hk]; rfl
  unfold State.laserTerms
  rw [hzero]
  have h0 := hle s.engine.interlockOk
  have h1 := hle (decide (s.eng ≠ engSafe) && !s.tinder.inReset && !s.tinder.outputsHeld)
  have h2 := hle (s.station k).enabled
  have h3 := hle (s.on (GRAVER.LASER_CTRL_LASER_REQ k))
  have h4 := hle (!s.on (GRAVER.FAULT_T_TRIP k) && !s.on (GRAVER.FAULT_DRV_TRIP k))
  have h5 := hle (!s.on (GRAVER.FAULT_DRV_STAT_LOST k))
  have h7 := hle (s.on (CLOCK.PLL_STATUS_LOCKED 2))
  omega

/-- What the limit of a coast leaves in TINDER: the fault, the laser enable low, the privilege gone, and the engine where it was. -/
theorem State.coastLapsed_spec (hk : k < 6) (he : s.eng = engTinder) (hl : s.linkUp = false) : (s.coastLapsed k).faultBit 2 (16 + k) = true ∧
    (s.coastLapsed k).on (GRAVER.LASER_CTRL_LEVEL k) = false ∧ (s.coastLapsed k).on (GRAVER.STATUS_PRIVILEGED k) = false ∧
    (s.coastLapsed k).eng = engTinder := by
  have hcalm : s.Calm (s.faultClass 2 (16 + k) k) := .inr ⟨he, hl⟩
  have hfault : (s.raise 2 (16 + k) k false).faultBit 2 (16 + k) = true := State.faultBit_raise_calm hcalm (by omega) (by decide)
  have hlow : ∀ a, a < 0x100000 → (s.coastLapsed k).reg a = (s.raise 2 (16 + k) k false).reg a := fun a ha =>
    (s.reg_coastLapsed k (by unfold GRAVER.STATUS; omega)).trans (State.reg_laserEval_low _ k ha)
  have hlevel : (s.coastLapsed k).reg (GRAVER.LASER_CTRL k) = ((s.raise 2 (16 + k) k false).laserEval k).reg (GRAVER.LASER_CTRL k) :=
    s.reg_coastLapsed k (by unfold GRAVER.STATUS GRAVER.LASER_CTRL; omega)
  refine ⟨by rw [State.faultBit, hlow _ (by decide)]; exact hfault, ?_, State.on_setFld_zero _ (show 11 + 1 ≤ 32 by omega), ?_⟩
  · rw [State.on_congr (f := GRAVER.LASER_CTRL_LEVEL k) hlevel, State.on_level_laserEval]
    exact decide_eq_false (State.laserTerms_of_coastExpired hfault hk)
  · refine (State.fld_congr (f := SYS.ENGINE_STATE_STATE) ((hlow _ (by decide)).trans ?_)).trans he
    exact State.reg_raise_calm hcalm (by decide) (by decide) (by decide)

/-- The limit of a coast in TINDER. -/
theorem State.answers_expires (hk : k < 6) (hc : s.on (CLOCK.SYN_STATUS_COASTING k) = true) (hp : s.privileged k = true)
    (hx : (s.syn k).expiring = true) (he : s.eng = engTinder) (hl : s.linkUp = false) : Answers (.predictedSyncEvent k x) s (fun u =>
      u.Cleared k ∧ u.faultBit 2 (16 + k) = true ∧ u.on (GRAVER.LASER_CTRL_LEVEL k) = false ∧ u.on (GRAVER.STATUS_PRIVILEGED k) = false) := by
  refine ⟨_, exec_predictedSyncEvent_expires hk hc hp hx, ?_⟩
  rw [State.coastExpire_eq]
  obtain ⟨hfault, hlevel, hpriv, heng⟩ := State.coastLapsed_spec hk he hl
  have hstay : ∀ a, a ≠ CLOCK.SYN_STATUS k → a ≠ CLOCK.INT_STAT → ((s.coastLapsed k).synReacquire k).reg a = (s.coastLapsed k).reg a :=
    fun a => State.reg_synReacquire _ k
  have hready : ((s.coastLapsed k).synReacquire k).eng ≠ engReady := by
    rw [show ((s.coastLapsed k).synReacquire k).eng = (s.coastLapsed k).eng from
      (State.LowAs.refl _).synReacquire.fld (f := SYS.ENGINE_STATE_STATE) (by decide), heng]
    decide
  have hclock := (State.ClockAs.refl ((s.coastLapsed k).synReacquire k)).syncLost (k := k) |>.gaugeEvents (was := s)
  refine ⟨((s.coastLapsed k).synReacquire_cleared k).clockAs hk hclock, ?_, ?_, ?_⟩
  · rw [State.faultBit, show faultReg 2 = CLOCK.FAULT from rfl, hclock.reg (by decide) (by decide),
      hstay _ (synStatus_ne_flags k).2.symm (by decide)]
    exact hfault
  · have hreg : ((((s.coastLapsed k).synReacquire k).syncLost k).gaugeEvents s).reg (GRAVER.LASER_CTRL k) = (s.coastLapsed k).reg (GRAVER.LASER_CTRL k) := by
      rw [(State.gaugeEvents_frame _ s).2 _ (by unfold GRAVER.LASER_CTRL GAUGE.INT_STAT; omega), State.syncLost_of_not_ready hready,
        State.reg_scanLost _ k (by unfold GRAVER.LASER_CTRL GAUGE.FID_STATUS; omega) (by unfold GRAVER.LASER_CTRL GRAVER.STATUS; omega),
        hstay _ (by unfold GRAVER.LASER_CTRL CLOCK.SYN_STATUS; omega) (by unfold GRAVER.LASER_CTRL CLOCK.INT_STAT; omega)]
    exact (State.on_congr (f := GRAVER.LASER_CTRL_LEVEL k) hreg).trans hlevel
  · refine (State.on_status_syncLost hready s (i := 11) (by decide) (by decide)).trans
      ((State.on_congr (f := GRAVER.STATUS_PRIVILEGED k) (hstay (GRAVER.STATUS k) ?_ ?_)).trans hpriv)
    · unfold GRAVER.STATUS CLOCK.SYN_STATUS; omega
    · unfold GRAVER.STATUS CLOCK.INT_STAT; omega

/-- A coast whose privilege is gone acquires again. -/
theorem State.answers_lapsed (hk : k < 6) (hc : s.on (CLOCK.SYN_STATUS_COASTING k) = true) (hp : s.privileged k = false) :
    Answers (.predictedSyncEvent k x) s (·.Cleared k) := by
  refine ⟨_, exec_predictedSyncEvent_lapsed hk hc hp, ?_⟩
  rw [State.coastEnds_lapsed hc hp]
  exact (s.synReacquire_cleared k).clockAs hk (State.ClockAs.refl _).syncLost

/-! ## The detector gate (R376) -/

theorem exec_bdGateOpen (hk : k < 6) (hon : s.on (CLOCK.SYN_CTRL_ENABLE k) = true) (hst : (s.station k).enabled = true)
    (h : (s.syn k).edges ≠ 0 ∨ s.on (GRAVER.LASER_CTRL_LEVEL k) = true) :
    exec (.bdGateOpen k) s = .next (s.setFld (GRAVER.STATUS_BD_GATE k) 1) :=
  if_pos ⟨hk, hon, hst, h⟩

end Sys2Proof.Machine

namespace Sys2Proof.Statements

/-- Settles O33: an edge of an acquisition by what it seeds and what taking a sync event keeps; a lost synthesizer by what acquiring again
clears, carried through the operations that leave the CLOCK block alone; the limit of a coast by the failed condition of its laser enable. -/
theorem syncEvents : Obligations.SyncEvents := by
  unfold Obligations.SyncEvents
  intro s k t x hk
  refine ⟨fun hf hoff hc => ?_, fun hf hon hc he => ?_, fun hf hon hc h1 he => ?_, fun u hf hc he => exec_bdEdge_sync hk hf hc he,
    fun u hf hc he => exec_bdEdge_lost hk hf (.inl hc) he, fun u hf hc he => ?_,
    fun hf hon hc hl hp he => State.answers_missed_unprivileged hk hf hon hc hl hp he,
    fun hf hon hc hl hp _ => State.answers_missed_privileged hk hf hon hc hl hp,
    fun hc hp he => State.answers_predicted hk hc hp he, fun hc hp hx he hl => State.answers_expires hk hc hp hx he hl,
    fun hc hp => State.answers_lapsed hk hc hp, fun hon hst h => ?_⟩
  · exact exec_bdEdge_ignored hk hf (.inl hc) (State.synEdge_off (Bool.not_eq_true _ ▸ hoff))
  · have h4 := s.four_le_facets k
    obtain ⟨u, hu, ⟨g, l, n, hsyn⟩, hscan, hcount⟩ := State.answers_bdEdge_acquiring (x := x) (t := t) hk hf hon hc (by omega)
    refine ⟨u, hu, ?_, ?_, ?_, ?_, hscan, hcount⟩ <;> rw [hsyn] <;> simp [State.seedSyn, he]
  · obtain ⟨u, hu, ⟨g, l, n, hsyn⟩, hscan, -⟩ := State.answers_bdEdge_acquiring (x := x) (t := t) hk hf hon hc he
    have hn : (s.syn k).edges ≠ 0 := by omega
    refine ⟨u, hu, by rw [hsyn]; rfl, ?_, hscan⟩
    rw [hsyn]
    simp [State.seedSyn, hn]
  · have hu := State.eq_of_synEdge_ignored he
    subst hu
    exact exec_bdEdge_ignored hk hf hc he
  · refine ⟨_, exec_bdGateOpen hk hon hst h, State.on_setFld_one _ rfl (show 12 < 32 by omega), fun a ha => ?_, State.setFld_frame ..⟩
    exact State.reg_setFld_other _ _ _ _ (fun e => ha (by simp [← e]; rfl))

end Sys2Proof.Statements
end
